-- ==== Sys2Proof/Word.lean ====
section
/-! DEFINITION. The word types of the part: a byte, the 32-bit fields of its formats, the 48-bit totalizers. -/

namespace Sys2Proof

/-- A byte of the store, of a frame, of a reader message. -/
abbrev Byte := BitVec 8

/-- A 32-bit field: permit, driver, tanker and note numbers, rack time, edge counters, capture times. -/
abbrev Word32 := BitVec 32

/-- An unsigned 48-bit count of mL: a lane totalizer, advanced modulo 2^48 (R108), or a compartment's volume (R91). -/
abbrev Word48 := BitVec 48

end Sys2Proof
end

