-- ==== Sys2Proof/Config.lean ====
section
/-! DEFINITION. The durations the rules fix, the sizes of the part's queues, and the free values: what the spec
leaves open is an opaque constant here, with no body. All durations are in microseconds of the capture timer (R75). -/

namespace Sys2Proof.Config

/-- R1, R26: the reply timer of a WRITE, 2 s. -/
def replyTime : Nat := 2000000
/-- R1: the longest time between two bytes of a reader message, 20 ms. -/
def readerGap : Nat := 20000
/-- R16: the claim window, 400 ms. -/
def claimTime : Nat := 400000
/-- R18: the authorization timer, 300 s. -/
def authTime : Nat := 300000000
/-- R23: the trip idle timer, 600 s. -/
def idleTime : Nat := 600000000
/-- R24: the stamp window, 120 s. -/
def stampTime : Nat := 120000000
/-- R27: the lifetime of a pending stamp, 600 s. -/
def lifetime : Nat := 600000000
/-- R38: the ACK hold, 2 s. -/
def holdTime : Nat := 2000000
/-- R28: the input filter of the interlock inputs and the keys, 50 ms. -/
def filterTime : Nat := 50000
/-- R114: the filter of the feedback inputs, 2 ms. -/
def feedbackTime : Nat := 2000
/-- 9.5: the filter of the printer's BUSY, 10 ms. -/
def busyFilterTime : Nat := 10000
/-- R146: one bit time of the rack line, 8 us (0.2, 8.1). -/
def bitTime : Nat := 8
/-- R146: the line is quiet after 10 bit times of recessive level. -/
def quietBits : Nat := 10
/-- R44, R45: the refusal pulse, each pattern pulse and the least time a lamp shows a state, 300 ms. -/
def lampTime : Nat := 300000
/-- R43: a blink phase, 500 ms. -/
def blinkTime : Nat := 500000
/-- R44: the dark end of the config fault pattern, 1,500 ms. -/
def patternGap : Nat := 1500000
/-- R46: the metering tick, 250 ms. -/
def tickTime : Nat := 250000
/-- R57: an open or close step, 100 ms. -/
def stepTime : Nat := 100000
/-- R53: the closing timer, 10 s. -/
def closingTime : Nat := 10000000
/-- R83: a pending A edge waits at most 1,000,000 us. -/
def edgeTime : Nat := 1000000
/-- R114: the feedback window closes 300 ms after the drive output turns off. -/
def windowTime : Nat := 300000
/-- R131: the share tick, 500 ms. -/
def shareTime : Nat := 500000
/-- R153: the STATUS period, 500 ms. -/
def periodTime : Nat := 500000
/-- R153: the spacing of change-triggered STATUS frames, 100 ms. -/
def spacingTime : Nat := 100000
/-- R157: the LISTEN window, 1,500 ms. -/
def listenTime : Nat := 1500000
/-- R159: the ALONE timer, 3 s. -/
def aloneTime : Nat := 3000000
/-- R160: a held line is 5 ms of dominant level, and ends with 20 ms of recessive level. -/
def heldLineTime : Nat := 5000
/-- R160: the recessive time that ends a held line, 20 ms. -/
def recessiveTime : Nat := 20000
/-- R163: ages at which a peer entry changes: 2 s. -/
def staleAge : Nat := 2000000
/-- R163: 6 s. -/
def silentAge : Nat := 6000000
/-- R163: 30 s. -/
def removalAge : Nat := 30000000
/-- R165: the second timer. -/
def secondTime : Nat := 1000000
/-- R181: the printer's BUSY timer, 30 s. -/
def busyTime : Nat := 30000000
/-- R188: a page write is complete 5 ms after it starts. -/
def writeTime : Nat := 5000

/-- R14: frames that Permit Control may hold. -/
def heldFrames : Nat := 24
/-- R21: TRIP-MARK requests that Permit Control may hold. -/
def heldMarks : Nat := 4
/-- R151: frames in the transmit FIFO. -/
def fifoSize : Nat := 6
/-- R189: waiting store requests. -/
def queueSize : Nat := 12
/-- R168: requests in the Note Builder's status list. -/
def statusListSize : Nat := 8
/-- R168: entries of the ask queue. -/
def askSize : Nat := 4
/-- R169: note slots in the ring. -/
def noteSlots : Nat := 240
/-- R169: the value of the next note number at which numbering is exhausted. -/
def noteTop : Nat := 4294967296
/-- R149: collisions at which a frame is discarded. -/
def collisionLimit : Nat := 8
/-- R158: join tries. -/
def joinLimit : Nat := 3

/-- Free value (log 4): the loaded bytes of a page whose write a reset cut short are undefined (R191). -/
opaque freeByte : Nat → Byte

/-- Free value (log 27): a compartment volume whose count passes its 48 bits; R91 gives the width and no rule says what
the count becomes. -/
opaque volumePast : Nat → Word48

/-- One line of the text rendering of a note (R182), with the numbers it shows already worked out. -/
inductive PrintLine where
  /-- `DELIVERY NOTE`, with COPY after it for a reprint. -/
  | heading (copy : Bool)
  | number (station note : Nat)
  | parties (permit driver tanker : Nat)
  /-- A rack time as the day, then hours, minutes and seconds. -/
  | time (isEnd : Bool) (day hours minutes seconds : Nat)
  /-- A trip flag that is set, by its bit in the note header. -/
  | tripFlag (bit : Nat)
  | order (compartment product lane preset : Nat)
  /-- End reason or refusal reason, by its code. -/
  | ended (reason : Nat)
  | gross (mL litres : Nat)
  | standard (mL litres : Nat)
  /-- Hundredths of a degree: whole degrees and two decimals, with a sign when negative. -/
  | temperature (negative : Bool) (degrees hundredths : Nat)
  /-- A compartment flag that is set, by its bit. -/
  | lineFlag (bit : Nat)
  | pulses (code count : Nat)
  | additive (injector ratio target delivered status : Nat)
  /-- The totals of a lane used; that the line shows the lane's number before them is the model's choice (log 9). -/
  | totals (lane gross standard : Nat)
  | blank
  | dashes
  deriving DecidableEq, Repr

/-- The kinds of printed line that carry words of their own beside what they show. -/
inductive LineKind where
  | number | parties | startTime | endTime | tripFlag | order | ended | gross | standard | temperature
  | lineFlag | pulses | additive | totals | dashes
  deriving DecidableEq, Repr

/-- Free value (log 9): the words and spaces before item `gap` of a printed line, and after its last; R182 gives what
each line shows and not how it is worded. -/
opaque lineWords : LineKind → (gap : Nat) → List Char

/-- Free value (log 9): what stands for a reason or pulse fault code that no table defines. -/
opaque codeText : Nat → List Char

/-- Free value (log 22): the stroke volume of an injector that a recovered checkpoint names and the present
image does not fit (R198 takes it from the configuration). -/
opaque unfittedStroke : Nat → Nat

end Sys2Proof.Config
end

