-- ==== Sys2Proof/Syntax.lean ====
section
/-! DEFINITION. The commands of the part: one constructor for each row of the table of operations and events,
with the operands that the event carries by its rule. -/

namespace Sys2Proof

/-- Lanes L1 to L4 are 0 to 3. -/
abbrev LaneNo := Fin 4

/-- Injectors 1 to 8 are 0 to 7. -/
abbrev InjNo := Fin 8

/-- The four inputs of the bay permissive set (Table 2-1). -/
inductive Permissive where
  | ground | overfill | vapour | estop
  deriving DecidableEq, Repr

/-- The two meter pulse channels of a lane (R76). -/
inductive Channel where
  | a | b
  deriving DecidableEq, Repr

/-- The four bay lamps (R43, R44). -/
inductive Lamp where
  | ready | flow | card | attend
  deriving DecidableEq, Repr

/-- One header entry of a STATUS frame (Table 12-4). -/
structure HeaderEntry where
  header : Nat
  demand : Nat
  draw   : Nat
  deriving DecidableEq, Repr

/-- The payload of a frame on the rack line (Tables 8-1 and 12-4). A STATUS carries its flags as they stand in
the flag byte: halt 0, time set 1, listen-only 2, trip active 3, config ok 4. -/
inductive Payload where
  | status (link : Byte) (flags : Byte) (time : Word32) (entries : List HeaderEntry)
  | claim (permit : Word32)
  | held (permit : Word32) (claimant : Nat)
  | release (permit : Word32)
  | noteReady (note permit : Word32)
  | noteAsk (target : Nat) (note : Word32)
  | notePart (requester : Nat) (note : Word32) (index count : Nat) (isPresent : Bool) (bytes : List Byte)
  deriving DecidableEq, Repr

/-- The commands, one constructor per row of spec/opcode_table.json. -/
inductive Instr where
  /-- RESET (R201): power-on or RESETN; carries the strap pins that the first step reads (R202). -/
  | reset (straps : BitVec 5) (listenOnly : Bool)
  | pageReadComplete
  | startUpCompletion
  /-- CARD (R1, R6): the bytes read from the card's permit block. -/
  | card (block : List Byte)
  /-- A reader message discarded at the port (R1): its bytes as received. -/
  | readerMessageDiscarded (raw : List Byte)
  | readerByteGapTimeout
  | writeDone
  | writeFail
  | replyTimerExpiry
  | claimWindowExpiry
  | authorizationTimeout
  | tripIdleTimerExpiry
  | stampWindowExpiry
  | stampLifetimeExpiry
  /-- A filtered change of a permissive input to good (true) or bad (R28, R30). -/
  | permissiveChange (input : Permissive) (good : Bool)
  | armConnect (lane : LaneNo)
  | armDrop (lane : LaneNo)
  /-- A filtered change of the rack stop to pressed (true) or released (R34). -/
  | rstopChange (pressed : Bool)
  | start
  | stop
  | ackPress
  | ackRelease
  | ackHoldEvent
  | refusalPulseEnd
  | lampStretchEnd (lamp : Lamp)
  | lampBlinkPhase (lamp : Lamp)
  | faultCodePatternPhase
  /-- A lane's tick with the raw count of its temperature input (R51, R96). -/
  | meteringTick (lane : LaneNo) (raw : BitVec 12)
  | valveStepEnd (lane : LaneNo)
  | closingTimerExpiry (lane : LaneNo)
  /-- A filtered rising edge with the capture timer's value (R77). -/
  | risingEdge (lane : LaneNo) (channel : Channel) (capture : Word32)
  | pendingAEdgeTimeout (lane : LaneNo)
  | driveTimeEnd (inj : InjNo)
  | spacingPeriodEnd (inj : InjNo)
  | feedbackPulse (inj : InjNo)
  | feedbackWindowClose (inj : InjNo)
  | shareTick
  | status (sender : Nat) (link flags : Byte) (time : Word32) (entries : List HeaderEntry)
  | claim (sender : Nat) (permit : Word32)
  | held (sender : Nat) (permit : Word32) (claimant : Nat)
  | release (sender : Nat) (permit : Word32)
  | noteReady (sender : Nat) (note permit : Word32)
  | noteAsk (sender target : Nat) (note : Word32)
  | notePart (sender requester : Nat) (note : Word32) (index count : Nat) (isPresent : Bool) (bytes : List Byte)
  | ownEcho
  | conflict
  /-- A frame that failed acceptance (R147): whether a framing error was marked, and its bytes. -/
  | frameDropped (framing : Bool) (raw : List Byte)
  /-- The line has been quiet for this many bit times (R148). -/
  | accessAttempt (quiet : Nat)
  | collision
  | statusPeriodExpiry
  | statusSpacingExpiry
  | aloneTimerExpiry
  | listenWindowExpiry
  | heldLineDetected
  | heldLineEnd
  | freshToStale (station : Nat)
  | staleToSilent (station : Nat)
  | silentRemoval (station : Nat)
  | secondTimer
  /-- A filtered change of the printer's BUSY to asserted (true) or released (9.5). -/
  | busyChange (asserted : Bool)
  | characterSent
  | busyTimerExpiry
  | pageWriteComplete
  deriving DecidableEq, Repr

end Sys2Proof
end

