-- ==== Sys2Proof/Machine/State.lean ====
section
/-! DEFINITION. The state of the part as plain data: every record the spec gives each block, the store, the queue
of waiting commands, and the state after reset. Durations of running timers are held as expiry times on the
microsecond clock `now` (log 1); `none` is a stopped timer. -/

namespace Sys2Proof.Machine

/-! ### Faults and refusals -/

/-- Why a step can stop with a fault. -/
inductive Fault where
  /-- Raised by PAGE_READ_COMPLETE and PAGE_WRITE_COMPLETE when the port holds an operation outside the 2,048
  pages or past the end of a page (R187). No rule forms such an address. Safe: the machine stops. -/
  | storeAddress (page : Nat)
  deriving DecidableEq, Repr

/-- Why a command can be refused. -/
inductive Refusal where
  /-- Raised by an arm of exec for a command that has no meaning yet. Safe: the machine stops. -/
  | notModelled (mnemonic : String)
  deriving DecidableEq, Repr

/-! ### Trip record (R3, R4) -/

/-- A resolved dose entry of an order line (R110). -/
structure DoseEntry where
  injector  : InjNo
  ratio     : Nat
  mandatory : Bool
  deriving DecidableEq, Repr

/-- Why an order line is refused (R10); `other` keeps a code that no table defines (R212). -/
inductive LineRefusal where
  | compartmentInvalid | duplicateCompartment | productNotAtBay | classNotPermitted | presetTooSmall
  | recipeWithdrawn | recipeNotServable
  | other (code : Nat)
  deriving DecidableEq, Repr

/-- Why a whole card is refused (R1). -/
inductive CardRefusal where
  | length | format | check | bayFault | leakAlarm | expired | notYetValid | noLines | inUse | lineBusy
  deriving DecidableEq, Repr

/-- The cause of a suspension (R4). -/
inductive Cause where
  | lapse | arm | halt | driver
  deriving DecidableEq, Repr

/-- How a line or compartment ended (R171); `other` keeps a code that no table defines (R212). -/
inductive EndReason where
  | preset | driver | lapse | arm | halt | noFlow | pulseFault | additiveFault | powerLost | notLoaded
  | other (code : Nat)
  deriving DecidableEq, Repr

/-- The status of an order line (R4). -/
inductive LineStatus where
  | waiting
  | refused (reason : LineRefusal)
  | active
  | suspended (cause : Cause)
  | ended (reason : EndReason)
  deriving DecidableEq, Repr

/-- The pulse fault codes (R88); `other` keeps a code that no table defines (R212). -/
inductive PulseCode where
  | aMissing | bMissing | phaseReversed | difference
  | other (code : Nat)
  deriving DecidableEq, Repr

/-- A pulse fault record that is not empty (R75, R88). -/
structure PulseFault where
  code  : PulseCode
  gross : Nat
  deriving DecidableEq, Repr

/-- The status of a closed additive line (R128). -/
inductive DoseStatus where
  | ok | under | over | fault
  deriving DecidableEq, Repr

/-- The result of a closed additive line, volumes in µL (R128). -/
structure DoseResult where
  target    : Nat
  delivered : Nat
  status    : DoseStatus
  deriving DecidableEq, Repr

/-- One additive line of a compartment (R115). `finalMark` is the final-stroke mark and `finalBegun` says that
the final stroke has been started (R125). `live` is the phase LIVE. -/
structure AdditiveLine where
  injector   : InjNo
  ratio      : Nat
  mandatory  : Bool
  due        : Nat := 0
  totalDue   : Nat := 0
  commanded  : Nat := 0
  confirmed  : Nat := 0
  misses     : Nat := 0
  backlog    : Bool := false
  faultMark  : Bool := false
  finalMark  : Bool := false
  finalBegun : Bool := false
  live       : Bool := true
  result     : Option DoseResult := none
  deriving DecidableEq, Repr

/-- The compartment flags of R172 other than CLAMPED, which stands on the order line. -/
structure CompFlags where
  overrun        : Bool := false
  valveLeak      : Bool := false
  tempHeld       : Bool := false
  tempDefault    : Bool := false
  tempClamped    : Bool := false
  overspeed      : Bool := false
  phaseReversed  : Bool := false
  lapseInClosing : Bool := false
  injectorLeak   : Bool := false
  deriving DecidableEq, Repr

/-- A compartment record (R50, R68, R69): volumes as 48-bit counts of mL (R91), temperature in hundredths of a
degree. -/
structure CompRecord where
  gross      : Word48 := 0
  std        : Word48 := 0
  corrected  : Nat := 0
  flags      : CompFlags := {}
  weighted   : Option Int := none
  endReason  : Option EndReason := none
  pulseFault : Option PulseFault := none
  additives  : List AdditiveLine := []
  deriving DecidableEq, Repr

/-- An order line (R4). -/
structure OrderLine where
  compartment : Nat
  product     : Nat
  preset      : Nat
  recipe      : Nat
  lane        : Option LaneNo := none
  doses       : List DoseEntry := []
  clamped     : Bool := false
  status      : LineStatus := .waiting
  record      : Option CompRecord := none
  deriving DecidableEq, Repr

/-- The trip flags (R3). -/
structure TripFlags where
  isolatedClaim : Bool := false
  timeUnset     : Bool := false
  haltOverride  : Bool := false
  leak          : Bool := false
  recovered     : Bool := false
  deriving DecidableEq, Repr

/-- The trip record (R3). `marker` keeps the trip marker's head as it was offered at the release event, for the
closed marker that rewrites it with the same content otherwise (R193, log 11). The times hold 0 until they are taken: R3
gives no value before that (log 14). -/
structure Trip where
  permit     : Word32
  driver     : Word32
  tanker     : Word32
  issueDay   : Nat
  expiryDay  : Nat
  classSet   : BitVec 16
  capacities : List Nat
  lines      : List OrderLine
  flags      : TripFlags := {}
  startTime  : Word32 := 0
  endTime    : Word32 := 0
  number     : Nat := 0
  marker     : List Byte := []
  deriving DecidableEq, Repr

/-- A composed trip stamp with the number of its note and the permit it belongs to (R25, R27). -/
structure Stamp where
  bytes  : List Byte
  note   : Nat
  permit : Word32
  deriving DecidableEq, Repr

/-! ### Store requests (R189) -/

/-- The status field that a NOTE-STATUS rewrites (R179). -/
inductive StatusField where
  | stamp | print
  deriving DecidableEq, Repr

/-- A store write request with what it carries (Table 10-2). `line` is the line index 1..8 and `page` 1..4. -/
inductive WriteReq where
  | checkpoint (line : Nat) (record : List Byte)
  | total (lane : LaneNo) (gross std : Word48)
  | markOpen (lines head : List Byte)
  | markClosed (head : List Byte)
  | notePage (note : Nat) (page : Nat) (bytes : List Byte)
  | noteStatus (note : Nat) (field : StatusField) (code : Nat)
  deriving DecidableEq, Repr

/-- A request in the queue; `bySul` says that the Start-up Loader offered it (R189). -/
structure QItem where
  req   : WriteReq
  bySul : Bool := false
  deriving DecidableEq, Repr

/-- A page write: the page, the first byte in it and the bytes loaded (R188). -/
structure PageWrite where
  page   : Nat
  offset : Nat
  bytes  : List Byte
  deriving DecidableEq, Repr

/-- The write in flight (R187): its request, the page writes still to be made, and whether it waits for the read
of a NOTE-STATUS (R196). The first of `steps` is the step that waits or is at the port. -/
structure Flight where
  item    : QItem
  steps   : List PageWrite
  reading : Bool := false
  deriving DecidableEq, Repr

/-- The block that asked for a page read (R188). -/
inductive Reader where
  | sul | ask | reprint | noteStatus
  deriving DecidableEq, Repr

/-- A waiting page read. -/
structure ReadReq where
  owner : Reader
  page  : Nat
  deriving DecidableEq, Repr

/-- The port's operation in progress (R188); a page write is complete at `due`. -/
inductive PortOp where
  | idle
  | reading (r : ReadReq)
  | writing (w : PageWrite) (due : Nat)
  deriving DecidableEq, Repr

/-- The totals copy last written for a lane: copy B or copy A, and its write count (R194). -/
structure CopyState where
  isB   : Bool := false
  count : Nat := 0
  deriving DecidableEq, Repr

/-- The Store Port's state (R187). `departed` marks that a request left the queue in this event, so that a
free-slot report is due (R189). -/
structure Stp where
  queue    : List QItem := []
  flight   : Option Flight := none
  reads    : List ReadReq := []
  port     : PortOp := .idle
  lastRead : Bool := false
  copies   : Vector CopyState 4 := Vector.replicate 4 {}
  departed : Bool := false
  deriving DecidableEq, Repr

/-! ### Permit Control (R2, R3) -/

/-- The trip slot's states (Table 1-1). -/
inductive Slot where
  | empty | checking | claiming | authorized | released | closing | awaitStamp
  deriving DecidableEq, Repr

/-- The frames the part itself queues (Table 8-1); a STATUS takes its contents from the slot at each attempt
(R152). -/
inductive TxFrame where
  | status
  | claim (permit : Word32)
  | held (permit : Word32) (claimant : Nat)
  | release (permit : Word32)
  | noteReady (note permit : Word32)
  | notePart (requester : Nat) (note : Word32) (index count : Nat) (isPresent : Bool) (bytes : List Byte)
  deriving DecidableEq, Repr

/-- Which stamp an outstanding WRITE carries (R26, R27): the trip's, the pending one, or one displaced since. -/
inductive WriteOf where
  | trip
  | pendingStamp
  | displaced (note : Nat)
  deriving DecidableEq, Repr

/-- Permit Control's state (R2, R3, R14, R21, R25 to R27). -/
structure Pct where
  slot         : Slot := .empty
  trip         : Option Trip := none
  heard        : Bool := false
  held         : List TxFrame := []
  heldMarks    : List WriteReq := []
  claimWindow  : Option Nat := none
  authTimer    : Option Nat := none
  idleTimer    : Option Nat := none
  stampWindow  : Option Nat := none
  replyTimer   : Option Nat := none
  lifetime     : Option Nat := none
  lifetimeHeld : Bool := false
  stamp        : Option Stamp := none
  pendingStamp : Option Stamp := none
  write        : Option WriteOf := none
  deriving DecidableEq, Repr

/-! ### Interlock Monitor (R28 to R45) -/

/-- A blinking lamp's phase (R43). -/
structure Blink where
  lit : Bool
  due : Nat
  deriving DecidableEq, Repr

/-- A lamp output: what it shows, until when it must be held (R45), and its blink phase if it is blinking. -/
structure LampState where
  shown     : Bool := false
  holdUntil : Nat := 0
  blink     : Option Blink := none
  deriving DecidableEq, Repr

/-- The config fault pattern (R44): phases 0 to 2 × code, where an even phase below 2 × code is lit. -/
structure Pattern where
  phase : Nat
  due   : Nat
  deriving DecidableEq, Repr

/-- The Interlock Monitor's state; `true` is good, connected or pressed (Table 2-1). -/
structure Ilm where
  ground    : Bool := false
  overfill  : Bool := false
  vapour    : Bool := false
  estop     : Bool := false
  rstop     : Bool := true
  arm       : Vector Bool 4 := Vector.replicate 4 false
  startKey  : Bool := false
  stopKey   : Bool := false
  ackKey    : Bool := false
  ackHold   : Option Nat := none
  bayLatch  : Bool := false
  laneLatch : Vector Bool 4 := Vector.replicate 4 false
  leakAlarm : Bool := false
  faultMark : Vector Bool 4 := Vector.replicate 4 false
  ready     : LampState := {}
  flow      : LampState := {}
  card      : LampState := {}
  attend    : LampState := {}
  pulse     : Option Nat := none
  pattern   : Option Pattern := none
  deriving DecidableEq, Repr

/-! ### Lane: LC, PIU, VEN (R46, R75, R91) -/

/-- The stage a suspended lane left (R46). -/
inductive LeftStage where
  | primed | lowFlow | fullFlow | slowdown
  deriving DecidableEq, Repr

/-- Lane stages (Table 3-1). -/
inductive Stage where
  | idle | primed | lowFlow | fullFlow | slowdown | closing
  | suspended (cause : Cause) (left : LeftStage)
  | ended
  deriving DecidableEq, Repr

/-- An open or close step of the valve in progress (R57). -/
structure ValveStep where
  opening : Bool
  due     : Nat
  deriving DecidableEq, Repr

/-- What a lane in ENDED waits for (R68 to R70): DSC's report, then the acceptance of its ENDED checkpoint (kept
with the totals after), then the acceptance of its TOTAL. -/
inductive After where
  | nothing
  | dose
  | checkpoint (line : Nat) (record : List Byte) (gross std : Word48)
  | total (gross std : Word48)
  deriving DecidableEq, Repr

/-- The pending A edge of the phase watcher (R83). -/
structure PendingEdge where
  capture : Word32
  firstB  : Option Word32
  due     : Nat
  deriving DecidableEq, Repr

/-- A Pulse Input Unit's state (R75). A filtered level is absent until the pin has first held a level (R76). `lastB` is
the clock at the last B edge that the phase watcher was given (R77, log 24). -/
structure Piu where
  levelA    : Option Bool := none
  levelB    : Option Bool := none
  cntA      : Word32 := 0
  cntB      : Word32 := 0
  snapA     : Word32 := 0
  snapB     : Word32 := 0
  capA      : Word32 := 0
  capB      : Word32 := 0
  pendingA  : Option PendingEdge := none
  lastB     : Option Nat := none
  run       : Nat := 0
  mark      : Bool := false
  corrected : Nat := 0
  overspeed : Bool := false
  reversed  : Bool := false
  fault     : Option PulseFault := none
  deriving DecidableEq, Repr

/-- A Volume Engine's state (R91); the window is oldest first and the filtered temperature is its mean. -/
structure Ven where
  grossCarry : Nat := 0
  stdCarry   : Nat := 0
  q          : Nat := 0
  window     : List Int := []
  faultRun   : Nat := 0
  valid      : Bool := false
  sigma      : Int := 0
  totGross   : Word48 := 0
  totStd     : Word48 := 0
  deriving DecidableEq, Repr

/-- One lane: the Lane Controller's state (R46), its PIU and its VEN, the additive limit DSC gave it (R124) and
the share HSU last gave it (R130). -/
structure Lane where
  stage        : Stage := .idle
  line         : Option Nat := none
  setpoint     : Nat := 0
  wanted       : Nat := 0
  learned      : Nat := 0
  grossAtClose : Nat := 0
  closeReason  : Option EndReason := none
  hist         : List Nat := [0, 0, 0, 0]
  noFlow       : Nat := 0
  quiet        : Nat := 0
  closing      : Option Nat := none
  leak         : Nat := 0
  leakCarry    : Nat := 0
  openOut      : Bool := false
  holdOut      : Bool := false
  step         : Option ValveStep := none
  tick         : Option Nat := none
  limit        : Option Nat := none
  share        : Nat := 0
  after        : After := .nothing
  piu          : Piu := {}
  ven          : Ven := {}
  deriving DecidableEq, Repr

/-! ### Dose Controller (R112) -/

/-- Injector states (R112). -/
inductive InjPhase where
  | idle | driving | spacing | faulted
  deriving DecidableEq, Repr

/-- The feedback window (R114). -/
inductive Window where
  | closed
  | opened (pulse : Bool)
  deriving DecidableEq, Repr

/-- The additive line an injector serves: the lane and the place in its compartment's additive lines. -/
structure Serving where
  lane : LaneNo
  slot : Nat
  deriving DecidableEq, Repr

/-- An injector's state (R112 to R114). -/
structure Injector where
  phase        : InjPhase := .idle
  startTime    : Nat := 0
  window       : Window := .closed
  serving      : Option Serving := none
  faultPending : Bool := false
  spacingOver  : Bool := false
  driveDue     : Option Nat := none
  spacingDue   : Option Nat := none
  windowDue    : Option Nat := none
  level        : Bool := false
  deriving DecidableEq, Repr

/-! ### Header Share Unit (R130) -/

/-- HSU's record of one header used. -/
structure Share where
  demand    : Nat := 0
  allotment : Nat := 0
  deriving DecidableEq, Repr

/-- The Header Share Unit's state. -/
structure Hsu where
  headers : Vector Share 6 := Vector.replicate 6 {}
  tick    : Option Nat := none
  deriving DecidableEq, Repr

/-! ### Line Interface (R146 to R167) -/

/-- Link states (Table 8-3). -/
inductive Link where
  | down | listen | join | run | alone | heldLine | mute
  deriving DecidableEq, Repr

/-- Why the link is MUTE (R158, R161). -/
inductive MuteCause where
  | conflict | echo
  deriving DecidableEq, Repr

/-- Ages of a peer entry (R163). -/
inductive Age where
  | fresh | stale | silent
  deriving DecidableEq, Repr

/-- A header entry that the peer table keeps: the header and the demand, and not the draw (R140, R162). -/
structure PeerDemand where
  header : Nat
  demand : Nat
  deriving DecidableEq, Repr

/-- One entry of the peer table (R162); the age is measured from `heardAt`. -/
structure Peer where
  station : Nat
  age     : Age
  heardAt : Nat
  halt    : Bool
  entries : List PeerDemand
  deriving DecidableEq, Repr

/-- What the line receiver is doing (R146). -/
inductive RxPhase where
  /-- A frame in progress when the receiver started to sample: nothing is gathered until the first quiet. -/
  | ignoring
  /-- The line is quiet; a dominant level is the start bit of a new frame. -/
  | quiet
  /-- Between two bytes of a frame; a dominant level is the next start bit. -/
  | between
  /-- In a byte, this many microseconds after the first of its start bit. -/
  | inByte (pos : Nat)
  deriving DecidableEq, Repr

/-- The line receiver (R146): the data bits sampled in the byte in progress, the bytes gathered since the last quiet, and
the mark of a framing error. -/
structure Receiver where
  phase   : RxPhase := .ignoring
  bits    : List Bool := []
  bytes   : List Byte := []
  framing : Bool := false
  deriving DecidableEq, Repr

/-- The current frame or the set-aside frame, with its collision count (R149, R150) and the mark of a CLAIM
withdrawn while it is being sent (R151). -/
structure Current where
  frame      : TxFrame
  collisions : Nat := 0
  urgent     : Bool := false
  withdrawn  : Bool := false
  deriving DecidableEq, Repr

/-- Whether a STATUS is due, and as urgent (R153). -/
inductive Due where
  | none | normal | urgent
  deriving DecidableEq, Repr

/-- The Line Interface's state. `roomFreed` marks that a frame left the FIFO in this event, so that a room report
is due (R151). `sent` counts the microseconds that the attempt on the line has been driven (R149); `recessive` and
`dominant` count those for which the line has held that level without interruption (R146, R148, R160). -/
structure Lif where
  link       : Link := .down
  station    : Nat := 0
  listenOnly : Bool := false
  fifo       : List TxFrame := []
  current    : Option Current := none
  setAside   : Option Current := none
  onLine     : Option Payload := none
  joinTries  : Nat := 0
  due        : Due := .none
  period     : Option Nat := none
  spacing    : Option Nat := none
  alone      : Option Nat := none
  listen     : Option Nat := none
  lastStatus : Option Nat := none
  lastSent   : List HeaderEntry := []
  slot       : List HeaderEntry := []
  peers      : List Peer := []
  time       : Word32 := 0
  timeSet    : Bool := false
  second     : Option Nat := none
  ownLast    : Bool := false
  muteCause  : Option MuteCause := none
  roomFreed  : Bool := false
  sent       : Nat := 0
  recessive  : Nat := 0
  dominant   : Nat := 0
  rx         : Receiver := {}
  deriving DecidableEq, Repr

/-! ### Note Builder (R168) -/

/-- The note under construction (R174, R175). `accepted` counts the pages taken by the write queue. A trip's note
keeps what Permit Control is told at the seal (R176); a recovered note tells it nothing (R178). -/
structure Build where
  image     : List Byte
  number    : Nat
  pages     : Nat
  accepted  : Nat := 0
  recovered : Bool
  permit    : Word32
  endTime   : Word32
  loaded    : Nat
  deriving DecidableEq, Repr

/-- An entry of the print queue (R168, R180). -/
structure PrintEntry where
  image   : List Byte
  number  : Nat
  reprint : Bool
  deriving DecidableEq, Repr

/-- An entry of the ask queue (R184). -/
structure Ask where
  requester : Nat
  note      : Word32
  deriving DecidableEq, Repr

/-- The serving state (R168): READING with the bytes read so far and the pages still to come, or SENDING with the
copy served (`none` for the ABSENT answer) and the index of the next segment. -/
inductive ServeState where
  | idle
  | reading (bytes : List Byte) (left : Nat)
  | sending (image : Option (List Byte)) (next : Nat)
  deriving DecidableEq, Repr

/-- A reprint read in progress (R183). -/
structure ReprintRead where
  number : Nat
  bytes  : List Byte
  left   : Nat
  deriving DecidableEq, Repr

/-- A waiting status request (R179). -/
structure StatusReq where
  note  : Nat
  field : StatusField
  code  : Nat
  deriving DecidableEq, Repr

/-- The printer port (R181): the character on the wire, the characters still to be sent after it, the filtered BUSY
level and the BUSY timer. -/
structure Port where
  wire    : Option Char := none
  chars   : List Char := []
  busy    : Bool := false
  timer   : Option Nat := none
  deriving DecidableEq, Repr

/-- The Note Builder's state. -/
structure Ntb where
  next       : Nat := 0
  build      : Option Build := none
  heldReady  : Option (Word32 × Word32) := none
  statusList : List StatusReq := []
  prints     : List PrintEntry := []
  asks       : List Ask := []
  serving    : ServeState := .idle
  reprint    : Option ReprintRead := none
  port       : Port := {}
  deriving DecidableEq, Repr

/-! ### Configuration tables (Tables 11-1, 12-13) -/

structure BayCfg where
  tolerance : Nat
  deriving DecidableEq, Repr

structure HeaderCfg where
  capacity : Nat
  stations : Nat
  deriving DecidableEq, Repr

structure LaneCfg where
  product    : Nat
  header     : Nat
  k          : Nat
  lowRate    : Nat
  lowVolume  : Nat
  slowVolume : Nat
  slowRate   : Nat
  maxFlow    : Nat
  ramp       : Nat
  overrun    : Nat
  level      : Nat
  correction : Nat
  ceiling    : Nat
  deriving DecidableEq, Repr

structure ProductCfg where
  cls   : Nat
  alpha : Nat
  beta  : Nat
  deriving DecidableEq, Repr

structure PointCfg where
  q  : Nat
  mf : Nat
  deriving DecidableEq, Repr

structure TempCfg where
  cLo : Nat
  tLo : Int
  cHi : Nat
  tHi : Int
  deriving DecidableEq, Repr

structure InjectorCfg where
  lane   : Nat
  stroke : Nat
  rate   : Nat
  drive  : Nat
  deriving DecidableEq, Repr

structure DoseCfg where
  injector  : Nat
  ratio     : Nat
  mandatory : Nat
  deriving DecidableEq, Repr

/-- A RECIPE entry: its kind code and its four content bytes read as a dose entry; the block index of a BLOCK
recipe is the first of them (Table 12-13). -/
structure RecipeCfg where
  kind : Nat
  dose : DoseCfg
  deriving DecidableEq, Repr

/-- The nine tables; an entry that no descriptor loaded is absent (R204). -/
structure Tables where
  bay       : Option BayCfg := none
  headers   : Vector (Option HeaderCfg) 6 := Vector.replicate 6 none
  lanes     : Vector (Option LaneCfg) 4 := Vector.replicate 4 none
  products  : Vector (Option ProductCfg) 15 := Vector.replicate 15 none
  points    : Vector (Option PointCfg) 16 := Vector.replicate 16 none
  temps     : Vector (Option TempCfg) 4 := Vector.replicate 4 none
  injectors : Vector (Option InjectorCfg) 8 := Vector.replicate 8 none
  recipes   : Vector (Option RecipeCfg) 31 := Vector.replicate 31 none
  doses     : Vector (Option DoseCfg) 48 := Vector.replicate 48 none
  deriving DecidableEq, Repr

/-! ### Start-up Loader (R201 to R210) -/

/-- The open trip marker as read at start-up (R193). -/
structure Marker where
  head      : List Byte
  number    : Nat
  permit    : Word32
  driver    : Word32
  tanker    : Word32
  flags     : TripFlags
  startTime : Word32
  count     : Nat
  deriving DecidableEq, Repr

/-- A checkpoint read back from the store (Table 12-8). -/
structure CheckRec where
  stage    : Nat
  reason   : EndReason
  record   : CompRecord
  totGross : Word48
  totStd   : Word48
  deriving DecidableEq, Repr

/-- The step that the start-up sequence has reached. -/
inductive SulPhase where
  /-- The straps have not been read (R202). -/
  | straps
  /-- The first page of the CONFIG region is being read (R203). -/
  | header
  /-- Further pages of the image are being read; the last is `last`. -/
  | image (last : Nat)
  /-- The totals pages are being read; the next is that of lane `lane` + 1 (R194, R208). -/
  | totals (lane : Nat)
  /-- The scan reads the first page of a slot (R208). -/
  | slot (slot : Nat)
  /-- The scan reads `left` further pages of a slot. -/
  | slotRest (slot left : Nat)
  /-- The trip marker's head is being read (R197). -/
  | markHead
  | markLines
  /-- The slot of the open trip's note is being read (R197); `left` further pages. -/
  | sealed
  | sealedRest (left : Nat)
  /-- The checkpoint of line index `line` is being read (R198). -/
  | check (line : Nat)
  /-- All reading is done; offers, seal and closed marker may be awaited (R209). -/
  | settle
  /-- The completion event has taken place (R210, R211). -/
  | complete
  deriving DecidableEq, Repr

/-- How far the recovery of an unsealed trip has come (R199, R200, R209). -/
inductive Recovery where
  /-- No recovery runs. -/
  | none
  /-- The CHECKPOINT and TOTAL offers are being made; the note follows them. -/
  | offering
  /-- The recovered note is being built and written. -/
  | sealing
  /-- TRIP-MARK(closed) has been offered and is not yet written. -/
  | closing
  /-- The write of TRIP-MARK(closed) has completed. -/
  | complete
  deriving DecidableEq, Repr

/-- The Start-up Loader's state. `stored` are the lanes' totals as the TOTALS region held them, `lines` the rebuilt
order lines, `lost` the places of the power-lost ones; `done` says that start-up has completed. The entry number that is
recorded with a fault (R207) is 0 at reset (log 14). -/
structure Sul where
  phase    : SulPhase := .straps
  code     : Nat := 0
  entry    : Nat := 0
  buf      : List Byte := []
  stored   : Vector (Word48 × Word48) 4 := Vector.replicate 4 (0, 0)
  best     : Nat := 0
  held     : List WriteReq := []
  marker   : Option Marker := none
  lines    : List OrderLine := []
  lost     : List Nat := []
  recovery : Recovery := .none
  done     : Bool := false
  deriving DecidableEq, Repr

/-! ### The card reader's port (R1) -/

/-- The card reader's port (R1): the bytes received so far of a message that is not yet whole, and the expiry of the 20 ms
within which its next byte has to come. With no such message it holds none (R201, log 47). -/
structure CardPort where
  bytes : List Byte := []
  gap   : Option Nat := none
  deriving DecidableEq, Repr

/-! ### The pins (0.5) -/

/-- An input pin with a filter: its level, and for how many microseconds it has held a level other than the filtered one
without interruption (R28). -/
structure Pin where
  level : Bool := false
  run   : Nat := 0
  deriving DecidableEq, Repr

/-- The input pins that the part samples (Table 0-2). `true` is good, connected, pressed, high, active, asserted, and on
the line sense dominant. They are set from outside, as the queue of commands is; no command and no tick changes a level
(log 30). `temp` is what the A/D converter would read at a lane's temperature input (R96). `cdrx` is the byte that reaches the
card reader's port in the coming microsecond, which takes it (log 47). -/
structure Pins where
  ground   : Pin := {}
  overfill : Pin := {}
  vapour   : Pin := {}
  estop    : Pin := {}
  rstop    : Pin := { level := true }
  arm      : Vector Pin 4 := Vector.replicate 4 {}
  startKey : Pin := {}
  stopKey  : Pin := {}
  ackKey   : Pin := {}
  meterA   : Vector Bool 4 := Vector.replicate 4 false
  meterB   : Vector Bool 4 := Vector.replicate 4 false
  temp     : Vector (BitVec 12) 4 := Vector.replicate 4 0
  feedback : Vector Pin 8 := Vector.replicate 8 {}
  busy     : Pin := {}
  line     : Bool := false
  cdrx     : Option Byte := none
  deriving DecidableEq, Repr

/-! ### The whole state -/

/-- What leaves the part on the reader port, a message as its bytes (R1, Table 12-14), and on the printer port, a
character (R181). -/
inductive Output where
  | reader (message : List Byte)
  | printed (c : Char)
  deriving DecidableEq, Repr

/-- The state of the part. -/
structure State where
  now     : Nat := 0
  crd     : CardPort := {}
  pct     : Pct := {}
  ilm     : Ilm := {}
  lanes   : Vector Lane 4 := Vector.replicate 4 {}
  injs    : Vector Injector 8 := Vector.replicate 8 {}
  hsu     : Hsu := {}
  lif     : Lif := {}
  ntb     : Ntb := {}
  stp     : Stp := {}
  sul     : Sul := {}
  cfg     : Tables := {}
  store   : List Host.Cell := []
  free    : Nat := 0
  outbox  : List Output := []
  pins    : Pins := {}
  pending : List Instr := []
  deriving DecidableEq, Repr

/-- The part right after reset (Table 11-4), its store never written: every block in its reset state, the
start-up sequence at its first step. -/
def State.reset : State := {}

end Sys2Proof.Machine
end

