-- ==== Sys2Proof/Machine/Bytes.lean ====
section
/-! DEFINITION. Byte strings of the formats: fields most significant byte first (0.6.4, R212), the CRC-16 of every
check field, and the serial form of a byte on the rack line (R146). -/

namespace Sys2Proof.Machine

/-- The `width` bytes of `n`, most significant first (R212). -/
def beBytes : (width : Nat) → (n : Nat) → List Byte
  | 0, _ => []
  | w + 1, n => BitVec.ofNat 8 (n / 256 ^ w) :: beBytes w n

/-- The unsigned value of a field, most significant byte first (R212). -/
def beNat (bytes : List Byte) : Nat :=
  bytes.foldl (fun acc b => acc * 256 + b.toNat) 0

/-- The bytes of a field at an offset of a format. -/
def field (bytes : List Byte) (offset size : Nat) : List Byte := (bytes.drop offset).take size

/-- The unsigned value of a field at an offset of a format. -/
def fieldNat (bytes : List Byte) (offset size : Nat) : Nat := beNat (field bytes offset size)

/-- A 32-bit field at an offset of a format. -/
def fieldWord (bytes : List Byte) (offset : Nat) : Word32 := BitVec.ofNat 32 (fieldNat bytes offset 4)

/-- A signed 16-bit value read from its unsigned field, in two's complement (R212). -/
def signed16 (n : Nat) : Int := if n < 32768 then (n : Int) else (n : Int) - 65536

/-- The unsigned 16-bit field that carries a signed value (R212). -/
def unsigned16 (t : Int) : Nat := (t % 65536).toNat

/-- A value that exceeds its field is written as the field's largest value (R212). -/
def saturate (bits n : Nat) : Nat := min n (2 ^ bits - 1)

/-- One bit of the check register: generator x^16 + x^12 + x^5 + 1, no reflection (R212). -/
def crcBit (r : Nat) : Nat := if r < 32768 then 2 * r else Nat.xor (2 * r - 65536) 0x1021

/-- One byte of the check, most significant bit first. -/
def crcByte (r : Nat) (b : Byte) : Nat :=
  crcBit (crcBit (crcBit (crcBit (crcBit (crcBit (crcBit (crcBit (Nat.xor r (b.toNat * 256)))))))))

/-- The check register, which is 16 bits wide, after the bytes. (The test of its width is always met; it makes
Lean's kernel work out the register at each byte.) -/
def crcRun : List Byte → Nat → Nat
  | [], r => r
  | b :: bs, r => if r < 65536 then crcRun bs (crcByte r b) else r

/-- The CRC-16 of 0.6.4 and R212: initial value all ones, no final inversion. -/
def crc16 (bytes : List Byte) : Nat := crcRun bytes 0xFFFF

/-- A record body followed by its check, most significant byte first (R212). -/
def withCrc (body : List Byte) : List Byte := body ++ beBytes 2 (crc16 body)

/-- The check field at `size - 2` of a record of `size` bytes covers the bytes before it. -/
def crcOk (bytes : List Byte) (size : Nat) : Bool :=
  crc16 (bytes.take (size - 2)) == fieldNat bytes (size - 2) 2

/-- The bits of a byte, most significant first. -/
def byteBits (b : Byte) : List Bool := (List.range 8).map fun i => b.getLsbD (7 - i)

/-- The line levels of one byte (R146): a dominant start bit, the data bits with a 0 dominant and a 1 recessive,
and a recessive stop bit; `true` is dominant. -/
def byteLevels (b : Byte) : List Bool := true :: ((byteBits b).map (!·) ++ [false])

/-- The line levels of a frame: its bytes back to back (R146). -/
def frameLevels (bytes : List Byte) : List Bool := bytes.flatMap byteLevels

/-- A bit of a flag byte or word. -/
def bit (b : Bool) (n : Nat) : Nat := if b then 2 ^ n else 0

/-- Bit `n` of a field's value. -/
def hasBit (v n : Nat) : Bool := v / 2 ^ n % 2 == 1

end Sys2Proof.Machine
end

