-- ==== Sys2Proof/Machine/Flags.lean ====
section
/-! DEFINITION. Codes and flag words of the formats (Chapter 12): refusal reasons, end reasons, stages, compartment
flags, trip flags, and back again. -/

namespace Sys2Proof.Machine

/-- The reason codes of the REFUSED message (12.1). -/
def cardRefusalCode : CardRefusal → Nat
  | .length => 1 | .format => 2 | .check => 3 | .bayFault => 4 | .leakAlarm => 5 | .expired => 6
  | .notYetValid => 7 | .noLines => 8 | .inUse => 9 | .lineBusy => 10

/-- Refusal reasons of order lines (12.3). -/
def lineRefusalCode : LineRefusal → Nat
  | .compartmentInvalid => 17 | .duplicateCompartment => 18 | .productNotAtBay => 19 | .classNotPermitted => 20
  | .presetTooSmall => 21 | .recipeWithdrawn => 22 | .recipeNotServable => 23
  | .other n => n

/-- The refusal reason of a code; a code no table defines is passed on as received (R212). -/
def lineRefusalOf : Nat → LineRefusal
  | 17 => .compartmentInvalid | 18 => .duplicateCompartment | 19 => .productNotAtBay | 20 => .classNotPermitted
  | 21 => .presetTooSmall | 22 => .recipeWithdrawn | 23 => .recipeNotServable
  | n => .other n

/-- End reason codes (12.3). -/
def endReasonCode : EndReason → Nat
  | .preset => 1 | .driver => 2 | .lapse => 3 | .arm => 4 | .halt => 5 | .noFlow => 6 | .pulseFault => 7
  | .additiveFault => 8 | .powerLost => 9 | .notLoaded => 10
  | .other n => n

/-- The end reason of a code; a code no table defines is passed on as received (R212). -/
def endReasonOf : Nat → EndReason
  | 1 => .preset | 2 => .driver | 3 => .lapse | 4 => .arm | 5 => .halt | 6 => .noFlow | 7 => .pulseFault
  | 8 => .additiveFault | 9 => .powerLost | 10 => .notLoaded
  | n => .other n

/-- The end reason that a suspension cause becomes when the trip closes (R24). -/
def causeReason : Cause → EndReason
  | .lapse => .lapse | .arm => .arm | .halt => .halt | .driver => .driver

/-- Cause codes of a checkpoint (Table 12-8). -/
def causeCode : Cause → Nat
  | .lapse => 1 | .arm => 2 | .halt => 3 | .driver => 4

/-- The code by which a line's end or refusal stands in its note line (Table 12-6); 0 for a line that has neither. -/
def lineReasonCode : LineStatus → Nat
  | .refused r => lineRefusalCode r
  | .ended r => endReasonCode r
  | _ => 0

/-- Pulse fault codes (Table 12-6); 0 when the record is empty. -/
def pulseCode : Option PulseFault → Nat
  | none => 0
  | some f => match f.code with
    | .aMissing => 1 | .bMissing => 2 | .phaseReversed => 3 | .difference => 4 | .other n => n

/-- The pulse fault record of a code and its gross; code 0 is none. -/
def pulseFaultOf (code gross : Nat) : Option PulseFault :=
  match code with
  | 0 => none
  | 1 => some ⟨.aMissing, gross⟩
  | 2 => some ⟨.bMissing, gross⟩
  | 3 => some ⟨.phaseReversed, gross⟩
  | 4 => some ⟨.difference, gross⟩
  | n => some ⟨.other n, gross⟩

/-- Status codes of an additive line (Table 12-7). -/
def doseStatusCode : DoseStatus → Nat
  | .ok => 0 | .under => 1 | .over => 2 | .fault => 3

/-- The status of a two-bit code (Table 12-7). -/
def doseStatusOf : Nat → DoseStatus
  | 0 => .ok | 1 => .under | 2 => .over | _ => .fault

/-- Stage codes of a checkpoint (Table 12-8). The table gives IDLE and PRIMED no code: no checkpoint is offered in
them. -/
def stageCode : Stage → Nat
  | .lowFlow => 2 | .fullFlow => 3 | .slowdown => 4 | .closing => 5 | .suspended _ _ => 6 | .ended => 7
  | .idle => 0 | .primed => 0

/-- The code of the stage left, coded as the stage (Table 12-8); PRIMED, which has no code, opens no compartment
and so has no checkpoint. -/
def leftCode : LeftStage → Nat
  | .primed => 0 | .lowFlow => 2 | .fullFlow => 3 | .slowdown => 4

/-- Cause and stage left in one byte; 0 unless SUSPENDED (Table 12-8). -/
def suspendByte : Stage → Nat
  | .suspended c l => causeCode c * 16 + leftCode l
  | _ => 0

/-- The compartment flag word with CLAMPED from the order line (Table 12-6, R172). -/
def flagWord (clamped : Bool) (f : CompFlags) : Nat :=
  bit clamped 0 + bit f.overrun 1 + bit f.valveLeak 2 + bit f.tempHeld 3 + bit f.tempDefault 4 +
  bit f.tempClamped 5 + bit f.overspeed 6 + bit f.phaseReversed 7 + bit f.lapseInClosing 8 + bit f.injectorLeak 9

/-- The compartment flags of a flag word (Table 12-6). -/
def flagsOf (w : Nat) : CompFlags where
  overrun := hasBit w 1
  valveLeak := hasBit w 2
  tempHeld := hasBit w 3
  tempDefault := hasBit w 4
  tempClamped := hasBit w 5
  overspeed := hasBit w 6
  phaseReversed := hasBit w 7
  lapseInClosing := hasBit w 8
  injectorLeak := hasBit w 9

/-- The trip flag byte (Table 12-5). -/
def tripFlagByte (f : TripFlags) : Nat :=
  bit f.isolatedClaim 0 + bit f.timeUnset 1 + bit f.haltOverride 2 + bit f.leak 3 + bit f.recovered 4

/-- The trip flags of a flag byte (Table 12-5). -/
def tripFlagsOf (b : Nat) : TripFlags where
  isolatedClaim := hasBit b 0
  timeUnset := hasBit b 1
  haltOverride := hasBit b 2
  leak := hasBit b 3
  recovered := hasBit b 4

/-- Link state codes (12.2). -/
def linkCode : Link → Nat
  | .down => 0 | .listen => 1 | .join => 2 | .run => 3 | .alone => 4 | .heldLine => 5 | .mute => 6

/-- Stamp status codes (R213). -/
def stampPending : Nat := 1
def stampStamped : Nat := 2
def stampLapsed : Nat := 3
def stampNone : Nat := 4

/-- Print status codes (R213). -/
def printQueued : Nat := 1
def printPrinted : Nat := 2
def printSkipped : Nat := 3
def printFailed : Nat := 4

end Sys2Proof.Machine
end

