-- ==== Sys2Proof/Machine/Layouts.lean ====
section
/-! DEFINITION. The byte layouts of Chapter 12: card block, trip stamp, delivery note, store records, reader
messages. The image's entries are in Image.lean and the rack line's frames in Frames.lean. -/

namespace Sys2Proof.Machine

/-! ### Card block and trip stamp (12.1) -/

/-- The ASCII bytes PERMIT. -/
def permitTag : List Byte := [0x50, 0x45, 0x52, 0x4D, 0x49, 0x54]

/-- Capacity of compartment `i` (from 0) in a card block. -/
def cardCapacity (block : List Byte) (i : Nat) : Nat := fieldNat block (26 + 2 * i) 2

/-- The three intake checks of R6, in order; the first that fails. -/
def intakeCheck (block : List Byte) : Option CardRefusal :=
  if block.length ≠ 84 then some .length
  else if field block 0 6 ≠ permitTag ∨ fieldNat block 24 1 < 1 ∨ 8 < fieldNat block 24 1 ∨ 8 < fieldNat block 25 1 ∨
      (List.range (fieldNat block 24 1)).any (fun i => cardCapacity block i < 1 || 20000 < cardCapacity block i) then
    some .format
  else if crcOk block 84 then none
  else some .check

/-- Order line `i` (from 0) of a card block, not yet checked (R4). -/
def cardLine (block : List Byte) (i : Nat) : OrderLine where
  compartment := fieldNat block (42 + 5 * i) 1
  product := fieldNat block (43 + 5 * i) 1
  preset := fieldNat block (44 + 5 * i) 2
  recipe := fieldNat block (46 + 5 * i) 1

/-- The trip record that a valid block creates (R3): permit fields and order lines copied, all flags clear. -/
def cardTrip (block : List Byte) : Trip where
  permit := fieldWord block 6
  driver := fieldWord block 10
  tanker := fieldWord block 14
  issueDay := fieldNat block 18 2
  expiryDay := fieldNat block 20 2
  classSet := BitVec.ofNat 16 (fieldNat block 22 2)
  capacities := (List.range (fieldNat block 24 1)).map (cardCapacity block)
  lines := (List.range (fieldNat block 25 1)).map (cardLine block)

/-- The trip stamp (Table 12-2, R25). -/
def stampBytes (note station : Nat) (endTime : Word32) (loaded : Nat) : List Byte :=
  withCrc (beBytes 1 0x53 ++ beBytes 4 note ++ beBytes 1 station ++ beBytes 4 endTime.toNat ++ beBytes 1 loaded)

/-! ### Reader port messages (12.6) -/

/-- Whether a reader message of these bytes is taken (R1): a kind the reader sends, the contents length its kind
requires, and a check that matches. -/
def readerMessageOk (raw : List Byte) : Bool :=
  let n := fieldNat raw 1 1
  decide (4 ≤ raw.length) && decide (raw.length = n + 4) && crcOk raw raw.length &&
  (match fieldNat raw 0 1 with
    | 1 => true
    | 2 => n == 0
    | 3 => n == 0
    | _ => false)

/-- The WRITE message (Table 12-14). -/
def writeMessage (stamp : List Byte) : List Byte := withCrc (beBytes 1 4 ++ beBytes 1 stamp.length ++ stamp)

/-- The REFUSED message (Table 12-14). -/
def refusedMessage (r : CardRefusal) : List Byte := withCrc (beBytes 1 5 ++ beBytes 1 1 ++ beBytes 1 (cardRefusalCode r))

/-! ### Delivery note (12.3) -/

/-- What a note's header carries (Table 12-5). -/
structure NoteHead where
  number    : Nat
  station   : Nat
  permit    : Word32
  driver    : Word32
  tanker    : Word32
  startTime : Word32
  endTime   : Word32
  flags     : TripFlags
  deriving DecidableEq, Repr

/-- Mandatory flag, status and ratio in one word (Table 12-7). -/
def additiveWord (a : AdditiveLine) (status : Nat) : Nat :=
  bit a.mandatory 15 + status % 4 * 8192 + a.ratio % 8192

/-- An additive line of a note, 10 bytes (Table 12-7); target and delivered volumes saturate (R212). -/
def noteAdditive (a : AdditiveLine) : List Byte :=
  let r := a.result.getD ⟨0, 0, .ok⟩
  beBytes 2 (additiveWord a (doseStatusCode r.status)) ++
  beBytes 4 (a.injector.val * 536870912 + saturate 27 r.target) ++
  beBytes 4 (saturate 27 r.delivered)

/-- The additive lines of a line's compartment record, none when it has none. -/
def additivesOf (l : OrderLine) : List AdditiveLine := (l.record.map (·.additives)).getD []

/-- A compartment line of a note (Table 12-6, R171, R172); a line with no compartment record carries no volumes, no
temperature and no pulse data. -/
def noteLine (l : OrderLine) : List Byte :=
  let r := l.record.getD {}
  let lane := match l.lane with
    | none => 0
    | some i => i.val + 1
  let temp := match l.record with
    | none => 0x8000
    | some c => match c.weighted with
      | none => 0x8000
      | some t => unsigned16 t
  let faultLitres := match r.pulseFault with
    | none => 0
    | some f => saturate 16 (f.gross / 1000)
  beBytes 1 l.compartment ++ beBytes 1 l.product ++ beBytes 1 (lane * 16 + saturate 4 (pulseCode r.pulseFault)) ++
  beBytes 1 (saturate 6 (lineReasonCode l.status) * 4 + (additivesOf l).length) ++ beBytes 2 l.preset ++
  beBytes 4 (saturate 32 r.gross.toNat) ++ beBytes 4 (saturate 32 r.std.toNat) ++ beBytes 2 temp ++
  beBytes 2 (flagWord l.clamped r.flags) ++ beBytes 2 r.corrected ++ beBytes 2 faultLitres ++
  (additivesOf l).flatMap noteAdditive

/-- The lanes a trip used: the resolved lanes of the lines whose compartment record is present, ascending (R173). -/
def lanesUsed (lines : List OrderLine) : List LaneNo :=
  [0, 1, 2, 3].filter fun i => lines.any fun l => l.record.isSome && decide (l.lane = some i)

/-- A note's length L (12.3). -/
def noteLength (lines : List OrderLine) : Nat :=
  34 + ((lines.map fun l => 22 + 10 * (additivesOf l).length).sum) + 12 * (lanesUsed lines).length

/-- The note without its two status fields and its check: bytes 0 to L - 5, which the check covers (R213). -/
def noteBody (h : NoteHead) (lines : List OrderLine) (totals : LaneNo → Word48 × Word48) : List Byte :=
  beBytes 1 0x4E ++ beBytes 4 h.number ++ beBytes 2 (noteLength lines) ++ beBytes 1 h.station ++
  beBytes 4 h.permit.toNat ++ beBytes 4 h.driver.toNat ++ beBytes 4 h.tanker.toNat ++
  beBytes 4 h.startTime.toNat ++ beBytes 4 h.endTime.toNat ++ beBytes 1 (tripFlagByte h.flags) ++
  beBytes 1 (lines.length * 16 + ((lanesUsed lines).map fun i => 2 ^ i.val).sum) ++
  lines.flatMap noteLine ++
  (lanesUsed lines).flatMap fun i => beBytes 6 (totals i).1.toNat ++ beBytes 6 (totals i).2.toNat

/-- A note's bytes with its stamp and print status (R173, R213). -/
def noteImage (h : NoteHead) (lines : List OrderLine) (totals : LaneNo → Word48 × Word48) (stamp print : Nat) : List Byte :=
  let body := noteBody h lines totals
  body ++ beBytes 1 stamp ++ beBytes 1 print ++ beBytes 2 (crc16 body)

/-- The length field of a note (Table 12-5). -/
def noteLengthField (bytes : List Byte) : Nat := fieldNat bytes 5 2

/-- The offset past `count` compartment lines that begin at an offset (Table 12-6). -/
def pastLines (bytes : List Byte) : (count offset : Nat) → Nat
  | 0, off => off
  | n + 1, off => pastLines bytes n (off + 22 + 10 * (fieldNat bytes (off + 3) 1 % 4))

/-- The offset of the lane totals of a note. -/
def totalsOffset (bytes : List Byte) : Nat := pastLines bytes (fieldNat bytes 29 1 / 16) 30

/-- The lanes of a note's lanes-used bits, ascending (Table 12-5). -/
def noteLanes (bytes : List Byte) : List LaneNo :=
  [0, 1, 2, 3].filter fun i => hasBit (fieldNat bytes 29 1) i.val

/-- A note's length is within its limits (R213): it lies in 34..498 and equals the length that its header counts and its
lines' additive counts give. -/
def noteLimits (bytes : List Byte) : Bool :=
  let l := noteLengthField bytes
  decide (34 ≤ l) && decide (l ≤ 498) &&
  decide (l = totalsOffset bytes + 12 * (noteLanes bytes).length + 4)

/-- The test of R185 and R208: a note tag, the number, a length within the limits, and a check that matches over
bytes 0 to L - 5. -/
def notePresent (number : Nat) (bytes : List Byte) : Bool :=
  let l := noteLengthField bytes
  (fieldNat bytes 0 1 == 0x4E) && (fieldNat bytes 1 4 == number) && noteLimits bytes &&
  (crc16 (bytes.take (l - 4)) == fieldNat bytes (l - 2) 2)

/-- The length field lies in 34..498 (R196, R213), which tells how many pages to read. -/
def lengthFieldOk (bytes : List Byte) : Bool :=
  decide (34 ≤ noteLengthField bytes) && decide (noteLengthField bytes ≤ 498)

/-- Pages of a note of this length (R174). -/
def pagesOf (length : Nat) : Nat := length / 128 + (if length % 128 = 0 then 0 else 1)

/-- The offset of a status byte in a note of this length (R213). -/
def statusOffset (length : Nat) : StatusField → Nat
  | .stamp => length - 4
  | .print => length - 3

/-- The lane totals a note carries (12.3), with their lanes. -/
def noteTotals (bytes : List Byte) : List (LaneNo × Word48 × Word48) :=
  ((noteLanes bytes).zipIdx).map fun (i, k) =>
    (i, BitVec.ofNat 48 (fieldNat bytes (totalsOffset bytes + 12 * k) 6),
      BitVec.ofNat 48 (fieldNat bytes (totalsOffset bytes + 12 * k + 6) 6))

/-! ### Store records (12.4) -/

/-- One additive slot of a checkpoint, 26 bytes (Table 12-8); a value past its field saturates, target and delivered
volumes at 134,217,727 (R212). A FAULT mark is written as 1 (log 39). -/
def checkAdditive (isEnded : Bool) (a : AdditiveLine) : List Byte :=
  let r := a.result.getD ⟨0, 0, .ok⟩
  beBytes 1 (a.injector.val + 1) ++
  beBytes 2 (additiveWord a (if isEnded then doseStatusCode r.status else 0)) ++
  beBytes 1 (bit a.faultMark 0) ++ beBytes 6 (saturate 48 a.totalDue) ++ beBytes 4 (saturate 32 a.commanded) ++
  beBytes 4 (saturate 32 a.confirmed) ++ beBytes 4 (if isEnded then saturate 27 r.target else 0) ++
  beBytes 4 (if isEnded then saturate 27 r.delivered else 0)

/-- A checkpoint record, 121 bytes (Table 12-8, R192). `reason` is 0 unless CLOSING or ENDED, and the ENDED fields
are 0 unless ENDED. -/
def checkpointBytes (number line : Nat) (stage suspend reason : Nat) (clamped : Bool) (r : CompRecord) (temp : Int)
    (gross std : Word48) : List Byte :=
  let isEnded : Bool := stage == 7
  let fault := if isEnded then r.pulseFault else none
  withCrc (beBytes 1 0x43 ++ beBytes 4 number ++ beBytes 1 line ++ beBytes 1 stage ++ beBytes 1 suspend ++
    beBytes 1 reason ++ beBytes 4 (saturate 32 r.gross.toNat) ++ beBytes 4 (saturate 32 r.std.toNat) ++
    beBytes 2 (unsigned16 temp) ++ beBytes 2 (flagWord clamped r.flags) ++ beBytes 2 r.corrected ++
    beBytes 1 (pulseCode fault) ++ beBytes 4 (saturate 32 ((fault.map (·.gross)).getD 0)) ++
    beBytes 1 r.additives.length ++ (r.additives.flatMap (checkAdditive isEnded)) ++
    List.replicate (78 - 26 * r.additives.length) 0 ++
    beBytes 6 (if isEnded then gross.toNat else 0) ++ beBytes 6 (if isEnded then std.toNat else 0))

/-- The additive line in a checkpoint's slot at an offset (Table 12-8). An injector number outside 1..8, for which no rule
gives a reading, is taken modulo 8 (log 21); any FAULT mark byte but 0 is a set mark (log 39). -/
def checkAdditiveOf (isEnded : Bool) (b : List Byte) (off : Nat) : AdditiveLine where
  injector := Fin.ofNat 8 (fieldNat b off 1 + 7)
  ratio := fieldNat b (off + 1) 2 % 8192
  mandatory := hasBit (fieldNat b (off + 1) 2) 15
  totalDue := fieldNat b (off + 4) 6
  commanded := fieldNat b (off + 10) 4
  confirmed := fieldNat b (off + 14) 4
  faultMark := fieldNat b (off + 3) 1 != 0
  live := false
  result :=
    if isEnded then
      some ⟨fieldNat b (off + 18) 4, fieldNat b (off + 22) 4, doseStatusOf (fieldNat b (off + 1) 2 / 8192 % 4)⟩
    else none

/-- A checkpoint as read at recovery (R198): valid and of this trip; otherwise the line has no checkpoint. A stage code that
Table 12-8 does not define, for which R198 has no outcome, counts as no checkpoint, and an additive count above 3 as 3
(log 21). -/
def checkpointOf (number : Nat) (b : List Byte) : Option CheckRec :=
  let stage := fieldNat b 6 1
  let isEnded : Bool := stage == 7
  if fieldNat b 0 1 = 0x43 ∧ crcOk (b.take 121) 121 ∧ fieldNat b 1 4 = number ∧ 2 ≤ stage ∧ stage ≤ 7 then
    some {
      stage := stage
      reason := endReasonOf (fieldNat b 8 1)
      record := {
        gross := BitVec.ofNat 48 (fieldNat b 9 4)
        std := BitVec.ofNat 48 (fieldNat b 13 4)
        corrected := fieldNat b 21 2
        flags := flagsOf (fieldNat b 19 2)
        weighted := some (signed16 (fieldNat b 17 2))
        pulseFault := if isEnded then pulseFaultOf (fieldNat b 23 1) (fieldNat b 24 4) else none
        additives := (List.range (min 3 (fieldNat b 28 1))).map fun k => checkAdditiveOf isEnded b (29 + 26 * k) }
      totGross := BitVec.ofNat 48 (fieldNat b 107 6)
      totStd := BitVec.ofNat 48 (fieldNat b 113 6) }
  else none

/-- A totals copy, 20 bytes (Table 12-9); a write count past its field saturates (R212). -/
def totalsBytes (lane : LaneNo) (count : Nat) (gross std : Word48) : List Byte :=
  withCrc (beBytes 1 0x54 ++ beBytes 1 (lane.val + 1) ++ beBytes 4 (saturate 32 count) ++ beBytes 6 gross.toNat ++ beBytes 6 std.toNat)

/-- A totals copy read at an offset of the lane's page: its count and totals, or none when it is not valid (R194). -/
def totalsOf (lane : LaneNo) (page : List Byte) (off : Nat) : Option (Nat × Word48 × Word48) :=
  let b := field page off 20
  if fieldNat b 0 1 = 0x54 ∧ fieldNat b 1 1 = lane.val + 1 ∧ crcOk b 20 then
    some (fieldNat b 2 4, BitVec.ofNat 48 (fieldNat b 6 6), BitVec.ofNat 48 (fieldNat b 12 6))
  else none

/-- The body of the marker head, bytes 0 to 46 (Table 12-10). `isOpen` gives the state code. -/
def markHeadBody (isOpen : Bool) (t : Trip) : List Byte :=
  beBytes 1 0x4D ++ beBytes 1 (if isOpen then 1 else 2) ++ beBytes 4 t.number ++
  beBytes 4 t.permit.toNat ++ beBytes 4 t.driver.toNat ++ beBytes 4 t.tanker.toNat ++
  beBytes 2 t.issueDay ++ beBytes 2 t.expiryDay ++ beBytes 2 t.classSet.toNat ++
  beBytes 1 t.capacities.length ++ beBytes 1 t.lines.length ++
  t.capacities.flatMap (beBytes 2) ++ List.replicate (16 - 2 * t.capacities.length) 0 ++
  beBytes 1 (tripFlagByte t.flags) ++ beBytes 4 t.startTime.toNat

/-- The marker head of page 68, state OPEN (Table 12-10); capacities past the compartment count are 0 (log 36). -/
def markHead (t : Trip) : List Byte := withCrc (markHeadBody true t)

/-- The same head with state CLOSED and the same content otherwise (R193). -/
def closeHead (head : List Byte) : List Byte := withCrc (head.take 1 ++ beBytes 1 2 ++ (head.take 47).drop 2)

/-- A dose word of the marker's order line (12.4). -/
def doseWord (d : DoseEntry) : Nat := d.injector.val * 8192 + d.ratio % 8192

/-- The status code of the marker's order line: WAITING 0 or the refusal code (12.4). -/
def markStatus : LineStatus → Nat
  | .refused r => lineRefusalCode r
  | _ => 0

/-- One order line of the marker, 13 bytes (12.4); the mandatory flag of dose entry n is bit n - 1 (log 33). -/
def markLine (l : OrderLine) : List Byte :=
  let lane := match l.lane with
    | none => 0
    | some i => i.val + 1
  let mandatory := (l.doses.zipIdx.map fun (d, k) => bit d.mandatory k).sum
  beBytes 1 l.compartment ++ beBytes 1 l.product ++ beBytes 2 l.preset ++ beBytes 1 l.recipe ++
  beBytes 1 (lane * 32 + l.doses.length * 8 + mandatory) ++
  beBytes 1 (bit l.clamped 7 + markStatus l.status % 128) ++
  (l.doses.flatMap fun d => beBytes 2 (doseWord d)) ++ List.replicate (6 - 2 * l.doses.length) 0

/-- The marker's order lines, page 69 (Table 12-11). -/
def markLines (t : Trip) : List Byte :=
  withCrc (beBytes 1 0x4C ++ beBytes 4 t.number ++ t.lines.flatMap markLine ++
    List.replicate (104 - 13 * t.lines.length) 0)

/-- The open marker's head as read at start-up, when it is valid with state OPEN (R193). A line count above 8, for which no
rule gives a reading, is taken as 8 (log 21). -/
def markerOf (page : List Byte) : Option Marker :=
  if fieldNat page 0 1 = 0x4D ∧ crcOk (page.take 49) 49 ∧ fieldNat page 1 1 = 1 then
    some {
      head := page.take 49
      number := fieldNat page 2 4
      permit := fieldWord page 6
      driver := fieldWord page 10
      tanker := fieldWord page 14
      flags := tripFlagsOf (fieldNat page 42 1)
      startTime := fieldWord page 43
      count := min 8 (fieldNat page 25 1) }
  else none

/-- Whether page 69 is valid and of this trip (R193). -/
def markLinesOk (number : Nat) (page : List Byte) : Bool :=
  (fieldNat page 0 1 == 0x4C) && crcOk (page.take 111) 111 && (fieldNat page 1 4 == number)

/-- Order line `i` (from 0) of the marker's second page (12.4). A resolved lane of 5 to 7, for which no table gives a
reading, is taken as absent (log 21). -/
def markLineOf (page : List Byte) (i : Nat) : OrderLine :=
  let off := 5 + 13 * i
  let b := fieldNat page (off + 5) 1
  let st := fieldNat page (off + 6) 1
  { compartment := fieldNat page off 1
    product := fieldNat page (off + 1) 1
    preset := fieldNat page (off + 2) 2
    recipe := fieldNat page (off + 4) 1
    lane := match b / 32 with
      | 1 => some 0
      | 2 => some 1
      | 3 => some 2
      | 4 => some 3
      | _ => none
    doses := (List.range (b / 8 % 4)).map fun k =>
      { injector := Fin.ofNat 8 (fieldNat page (off + 7 + 2 * k) 2 / 8192)
        ratio := fieldNat page (off + 7 + 2 * k) 2 % 8192
        mandatory := hasBit b k }
    clamped := hasBit st 7
    status := if st % 128 = 0 then .waiting else .refused (lineRefusalOf (st % 128)) }

end Sys2Proof.Machine
end

