-- ==== Sys2Proof/Machine/Image.lean ====
section
/-! DEFINITION. The configuration image (R203 to R206): header checks, descriptor loading, range checks and the
lane and injector checks. -/

namespace Sys2Proof.Machine

/-- Entries of a table by its id (Table 11-1); 0 for an id that is no table's. -/
def tableSize : Nat → Nat
  | 1 => 1 | 2 => 6 | 3 => 4 | 4 => 15 | 5 => 16 | 6 => 4 | 7 => 8 | 8 => 31 | 9 => 48 | _ => 0

/-- Bytes of one entry of a table (Table 12-13). -/
def entrySize : Nat → Nat
  | 1 => 1 | 2 => 3 | 3 => 23 | 4 => 4 | 5 => 4 | 6 => 8 | 7 => 6 | 8 => 5 | 9 => 4 | _ => 0

/-- Table names for the printed fault line (R207). -/
def tableName : Nat → String
  | 1 => "BAY" | 2 => "HEADER" | 3 => "LANE" | 4 => "PRODUCT" | 5 => "MFPOINT" | 6 => "TEMPCAL"
  | 7 => "INJECTOR" | 8 => "RECIPE" | 9 => "DOSE" | _ => ""

/-- The header check of R203 on the first page: code 11 for the tag or the length; otherwise the image's length. -/
def imageHeader (page : List Byte) : Except Nat Nat :=
  let len := fieldNat page 2 2
  if fieldNat page 0 2 ≠ 0x5A61 ∨ len < 8 ∨ 8192 < len then .error 11 else .ok len

/-- The image check of R203: the CRC covers bytes 0..5 and 8 to length - 1 (Table 12-12). -/
def imageCrcOk (image : List Byte) : Bool :=
  crc16 (image.take 6 ++ image.drop 8) == fieldNat image 6 2

/-- A DOSE entry, or the dose entry of a recipe (Table 12-13). -/
def doseCfgOf (b : List Byte) (off : Nat) : DoseCfg :=
  { injector := fieldNat b off 1, ratio := fieldNat b (off + 1) 2, mandatory := fieldNat b (off + 3) 1 }

/-- Store one entry, numbered from 1, of the table with this id (R204); loading makes no range check. -/
def loadEntry (t : Tables) (id entry : Nat) (b : List Byte) : Tables :=
  let i := entry - 1
  match id with
  | 1 => { t with bay := some ⟨fieldNat b 0 1⟩ }
  | 2 => { t with headers := t.headers.setIfInBounds i (some ⟨fieldNat b 0 2, fieldNat b 2 1⟩) }
  | 3 => { t with lanes := t.lanes.setIfInBounds i (some {
      product := fieldNat b 0 1
      header := fieldNat b 1 1
      k := fieldNat b 2 4
      lowRate := fieldNat b 6 2
      lowVolume := fieldNat b 8 2
      slowVolume := fieldNat b 10 2
      slowRate := fieldNat b 12 2
      maxFlow := fieldNat b 14 2
      ramp := fieldNat b 16 2
      overrun := fieldNat b 18 1
      level := fieldNat b 19 1
      correction := fieldNat b 20 1
      ceiling := fieldNat b 21 2 }) }
  | 4 => { t with products := t.products.setIfInBounds i (some ⟨fieldNat b 0 1, fieldNat b 1 2, fieldNat b 3 1⟩) }
  | 5 => { t with points := t.points.setIfInBounds i (some ⟨fieldNat b 0 2, fieldNat b 2 2⟩) }
  | 6 => { t with temps := t.temps.setIfInBounds i (some {
      cLo := fieldNat b 0 2
      tLo := signed16 (fieldNat b 2 2)
      cHi := fieldNat b 4 2
      tHi := signed16 (fieldNat b 6 2) }) }
  | 7 => { t with injectors := t.injectors.setIfInBounds i (some {
      lane := fieldNat b 0 1
      stroke := fieldNat b 1 2
      rate := fieldNat b 3 1
      drive := fieldNat b 4 2 }) }
  | 8 => { t with recipes := t.recipes.setIfInBounds i (some ⟨fieldNat b 0 1, doseCfgOf b 1⟩) }
  | 9 => { t with doses := t.doses.setIfInBounds i (some (doseCfgOf b 0)) }
  | _ => t

/-- Load `count` entries from an entry of a table on, going on at entry 1 of the next table past the last entry
(R204). None when the entries run past the image or past the last entry of DOSE, which is code 13. -/
def loadEntries : (count : Nat) → (id entry : Nat) → List Byte → Tables → Option (Tables × List Byte)
  | 0, _, _, rest, t => some (t, rest)
  | n + 1, id, entry, rest, t =>
    let id' := if tableSize id < entry then id + 1 else id
    let entry' := if tableSize id < entry then 1 else entry
    if 9 < id' ∨ rest.length < entrySize id' then none
    else loadEntries n id' (entry' + 1) (rest.drop (entrySize id')) (loadEntry t id' entry' (rest.take (entrySize id')))

/-- Take the descriptors in image order (R204); none is code 13. -/
def loadDescriptors : (count : Nat) → List Byte → Tables → Option Tables
  | 0, rest, t => if rest = [] then some t else none
  | n + 1, rest, t =>
    let id := fieldNat rest 0 1
    let first := fieldNat rest 1 1
    if rest.length < 3 ∨ id < 1 ∨ 9 < id ∨ first < 1 ∨ tableSize id < first then none
    else
      match loadEntries (fieldNat rest 2 1 + 1) id first (rest.drop 3) t with
      | none => none
      | some (t', rest') => loadDescriptors n rest' t'

/-- A value within a range of Table 11-2. -/
def within (v lo hi : Nat) : Bool := decide (lo ≤ v) && decide (v ≤ hi)

/-- Range of a dose entry (Table 11-2). -/
def doseInRange (d : DoseCfg) : Bool := within d.injector 1 8 && within d.ratio 1 5000 && within d.mandatory 0 1

/-- Range of a LANE entry (Table 11-2). -/
def laneInRange (l : LaneCfg) : Bool :=
  within l.product 1 15 && within l.header 1 6 && within l.k 1000 999999 && within l.lowRate 50 1000 &&
  within l.lowVolume 0 2000 && within l.slowVolume 0 5000 && within l.slowRate 50 2000 &&
  within l.maxFlow 100 5000 && within l.ramp 10 1000 && within l.overrun 1 200 && within l.level 0 2 &&
  within l.correction 0 255 && within l.ceiling 1 65535

/-- Range of a TEMPCAL entry (Table 11-2). -/
def tempInRange (c : TempCfg) : Bool :=
  within c.cLo 1 4094 && within c.cHi 1 4094 && decide (c.cLo < c.cHi) && decide (-10000 ≤ c.tLo) &&
  decide (c.tLo ≤ 20000) && decide (-10000 ≤ c.tHi) && decide (c.tHi ≤ 20000) && decide (c.tLo < c.tHi)

/-- Range of a RECIPE entry (Table 11-2): DIRECT with a dose entry, BLOCK with an index 0..15, or WITHDRAWN. -/
def recipeInRange (r : RecipeCfg) : Bool :=
  match r.kind with
  | 1 => doseInRange r.dose
  | 2 => within r.dose.injector 0 15
  | 3 => true
  | _ => false

/-- The first loaded entry of a table that fails its range check, as its code and entry number (R205). -/
def firstBad {α : Type} (id : Nat) (entries : List (Option α)) (ok : α → Bool) : Option (Nat × Nat) :=
  (entries.zipIdx.find? fun (e, _) => match e with
    | none => false
    | some x => !ok x).map fun (_, i) => (id, i + 1)

/-- R205: the range checks, tables in ascending id and entries in ascending order; the BAY entry must be loaded. -/
def rangeFault (t : Tables) : Option (Nat × Nat) :=
  (match t.bay with
    | none => some (1, 1)
    | some b => if within b.tolerance 0 20 then none else some (1, 1)) <|>
  firstBad 2 t.headers.toList (fun h => within h.capacity 100 20000 && within h.stations 1 24) <|>
  firstBad 3 t.lanes.toList laneInRange <|>
  firstBad 4 t.products.toList (fun p => within p.cls 0 15 && within p.alpha 0 2000 && within p.beta 0 200) <|>
  firstBad 5 t.points.toList (fun p => within p.q 0 6000 && within p.mf 9000 11000) <|>
  firstBad 6 t.temps.toList tempInRange <|>
  firstBad 7 t.injectors.toList (fun i => within i.lane 1 4 && within i.stroke 500 50000 && within i.rate 1 120 &&
    within i.drive 50 1000) <|>
  firstBad 8 t.recipes.toList recipeInRange <|>
  firstBad 9 t.doses.toList doseInRange

/-- The loaded entry of a table, numbered from 1. -/
def entryOf {α : Type} {n : Nat} (v : Vector (Option α) n) (entry : Nat) : Option α :=
  if entry = 0 then none else (v[entry - 1]?).join

/-- The loaded MFPOINT entries of a lane, in entry order, each with its entry number (R206). -/
def lanePoints (t : Tables) (i : LaneNo) : List (Nat × PointCfg) :=
  (List.range 4).filterMap fun j => (entryOf t.points (4 * i.val + j + 1)).map fun p => (4 * i.val + j + 1, p)

/-- The first entry of a curve whose Q is not above the one before (R206). -/
def notAscending : List (Nat × PointCfg) → Option Nat
  | [] => none
  | [_] => none
  | (_, p) :: (e, q) :: rest => if q.q ≤ p.q then some e else notAscending ((e, q) :: rest)

/-- R206: the checks of one fitted lane. -/
def laneFault (t : Tables) (i : LaneNo) : Option (Nat × Nat) :=
  match t.lanes[i] with
  | none => none
  | some l =>
    if (entryOf t.products l.product).isNone ∨ (entryOf t.headers l.header).isNone ∨ (t.temps[i]).isNone ∨
        lanePoints t i = [] then some (3, i.val + 1)
    else (notAscending (lanePoints t i)).map fun e => (5, e)

/-- R206: whether an injector's lane is fitted. -/
def laneFitted (t : Tables) (lane : Nat) : Bool := (entryOf t.lanes lane).isSome

/-- R206: each fitted lane in ascending order, then at least one lane, then each fitted injector. -/
def serviceFault (t : Tables) : Option (Nat × Nat) :=
  laneFault t 0 <|> laneFault t 1 <|> laneFault t 2 <|> laneFault t 3 <|>
  (if t.lanes.toList.any (·.isSome) then none else some (3, 1)) <|>
  firstBad 7 t.injectors.toList (fun i => laneFitted t i.lane)

/-- The whole of R203's check, R204, R205 and R206 on an image of the header's length: the tables, or the fault's
code and entry number (0 for the codes that have none). -/
def loadImage (image : List Byte) : Except (Nat × Nat) Tables :=
  if !imageCrcOk image then .error (12, 0)
  else
    match loadDescriptors (fieldNat image 4 2) (image.drop 8) {} with
    | none => .error (13, 0)
    | some t =>
      match rangeFault t <|> serviceFault t with
      | some f => .error f
      | none => .ok t

end Sys2Proof.Machine
end

