-- ==== Sys2Proof/Machine/Operands.lean ====
section
/-! DEFINITION. The arithmetic of metering, temperature correction, dosing and sharing, as functions of their operands
(Chapters 4 to 7). "div" truncates toward zero (0.6.3). -/

namespace Sys2Proof.Machine

/-! ### Meter pulses (Chapter 4) -/

/-- R79, R80: the corrected pulse increment at a pulse security level. -/
def correctedPulses (level a b : Nat) : Nat := if level = 0 then a else max a b

/-- R80: the channel difference. -/
def channelDifference (a b : Nat) : Nat := (a - b) + (b - a)

/-- R80: the corrected-pulse count saturates at 65,535. -/
def addCorrected (count diff : Nat) : Nat := min (count + diff) 65535

/-- R81, R84, R82 in the order of R87: the first condition of a compartment tick at level 2. -/
def pulseCondition (a b : Nat) (mark : Bool) (corrected limit : Nat) : Option PulseCode :=
  if a + 2 < b then some .aMissing
  else if b + 2 < a then some .bMissing
  else if mark then some .phaseReversed
  else if limit < corrected then some .difference
  else none

/-- R83: whether the pending A edge is judged followed, from its capture time, the first B edge since and the new A
edge's capture time; intervals are taken modulo 2^32 (R75). -/
def edgeFollowed (t0 : Word32) (tb : Option Word32) (t1 : Word32) : Bool :=
  match tb with
  | none => false
  | some b => decide (2 * (b - t0).toNat < (t1 - t0).toNat)

/-! ### Volume (Chapter 5) -/

/-- R93 between points: `p` is the last point at or below Q so far. -/
def curveFrom (p : PointCfg) : List PointCfg → Nat → Nat
  | [], _ => p.mf
  | n :: rest, q =>
    if n.q ≤ q then curveFrom n rest q
    else ((p.mf : Int) + (((n.mf : Int) - p.mf) * ((q : Int) - p.q)).tdiv ((n.q : Int) - p.q)).toNat

/-- R93: the meter factor of a curve at the flow of the previous pass. The curve of a fitted lane is never empty
(R206). -/
def meterFactor (curve : List PointCfg) (q : Nat) : Nat :=
  match curve with
  | [] => 0
  | p :: rest => if q ≤ p.q then p.mf else curveFrom p rest q

/-- R94, R95: x = Δp × 100 × MF + carry; the increment x div K and the new carry x - increment × K. -/
def meterVolume (pulses mf carry k : Nat) : Nat × Nat :=
  let x := pulses * 100 * mf + carry
  (x / k, x - x / k * k)

/-- R97: the two-point calibration of a raw count. -/
def calibrate (c : TempCfg) (raw : Nat) : Int :=
  c.tLo + (((raw : Int) - c.cLo) * (c.tHi - c.tLo)).tdiv ((c.cHi : Int) - c.cLo)

/-- R96: a raw count of 1..4094 is a valid sample. -/
def sampleValid (raw : Nat) : Bool := decide (1 ≤ raw) && decide (raw ≤ 4094)

/-- R98: a value joins the window as its newest, and the oldest of four leaves. -/
def joinWindow (w : List Int) (t : Int) : List Int := (if 4 ≤ w.length then w.drop 1 else w) ++ [t]

/-- R98: the filtered temperature, absent while the window is empty. -/
def filtered (w : List Int) : Option Int :=
  if w = [] then none else some (w.sum.tdiv w.length)

/-- R101: the range of the temperature in use. -/
def clampTemp (t : Int) : Int := max (-4000) (min 7000 t)

/-- R102: the volume correction factor in parts per million. -/
def vcf (alpha beta : Nat) (t : Int) : Nat :=
  let d := t - 1500
  let t1 := ((alpha : Int) * d).tdiv 100
  let t2 := ((beta : Int) * d * d).tdiv 1000000
  (max 900000 (min 1100000 (1000000 - t1 - t2))).toNat

/-- R103: y = Δg × VCF + carry; the standard increment and the new carry. -/
def standardVolume (gross factor carry : Nat) : Nat × Nat :=
  let y := gross * factor + carry
  (y / 1000000, y - y / 1000000 * 1000000)

/-- R104: the temperature-volume sum saturates at the ends of a signed 48-bit value. -/
def addSigma (sigma : Int) (gross : Nat) (t : Int) : Int :=
  max (-140737488355328) (min 140737488355327 (sigma + (gross : Int) * t))

/-- R105: the weighted temperature from Σ, the gross volume and the window. -/
def weightedTemp (sigma : Int) (gross : Nat) (window : List Int) : Int :=
  if gross = 0 then
    match filtered window with
    | none => 1500
    | some t => clampTemp t
  else sigma.tdiv gross

/-- R106: a history takes the newest increment and drops the oldest. -/
def pushHistory (h : List Nat) (g : Nat) : List Nat := h.drop 1 ++ [g]

/-- R106: the flow rate in L/min. -/
def flowRate (h : List Nat) : Nat := h.sum * 60 / 1000

/-- R108: a totalizer's advance is taken modulo 2^48. -/
def advanceTotal (t : Word48) (n : Nat) : Word48 := t + BitVec.ofNat 48 n

/-! ### Lane (Chapter 3) -/

/-- 3.5: the remaining volume, signed. -/
def remaining (preset gross : Nat) : Int := (preset : Int) * 1000 - gross

/-- R53: the close check, with the learned overshoot in litres. -/
def closeDue (preset gross learned : Nat) : Bool :=
  decide (remaining preset gross ≤ (learned : Int) * 1000) || decide (remaining preset gross ≤ 0)

/-- R57: the three actions of a steering decision. -/
inductive Steer where
  | open | close | hold
  deriving DecidableEq, Repr

/-- R57: the steering decision from Q and S. -/
def steer (q s : Nat) : Steer :=
  let band := max 20 (s * 3 / 100)
  if q + band < s then .open else if s + band < q then .close else .hold

/-- R62: the overrun in whole litres. -/
def overrunOf (gross atClose : Nat) : Nat := (gross - atClose) / 1000

/-- R62: the learned overshoot after a PRESET end. -/
def learn (learned overrun : Nat) : Nat := min ((learned + overrun) / 2) 20

/-- R62: gross exceeds the preset by more than the overrun limit. -/
def isOverrun (preset gross limit : Nat) : Bool := decide (preset * 1000 + limit * 1000 < gross)

/-- R91: a compartment's volume is a 48-bit count of mL; what it becomes past its greatest value no rule says (log 27). -/
def addVolume (v : Word48) (n : Nat) : Word48 :=
  if v.toNat + n < 281474976710656 then BitVec.ofNat 48 (v.toNat + n) else Config.volumePast (v.toNat + n)

/-- R73: the leak volume saturates. -/
def addLeak (leak n : Nat) : Nat := min (leak + n) 4294967295

/-- R51, R72: gross passed a whole multiple of 1,000,000 mL. Reaching the multiple counts as passing it, which the rules
leave open (log 17). -/
def passedMultiple (before after : Nat) : Bool := decide (before / 1000000 < after / 1000000)

/-! ### Dosing (Chapter 6) -/

/-- R111, R122: a static limit in L/min. -/
def staticLimit (rate stroke ratio : Nat) : Nat := rate * stroke / ratio

/-- R113: the spacing period, in microseconds (60,000 div the maximum rate, in ms). -/
def spacingPeriod (rate : Nat) : Nat := 60000 / rate * 1000

/-- R128: the result of an additive line from its total due, confirmed strokes, FAULT mark, stroke volume and the
bay's tolerance. -/
def doseResult (totalDue confirmed : Nat) (faultMark : Bool) (stroke tol : Nat) : DoseResult :=
  let target := totalDue / 1000
  let delivered := confirmed * stroke
  { target := target
    delivered := delivered
    status :=
      if faultMark then .fault
      else if delivered * 100 < target * (100 - tol) then .under
      else if target * (100 + tol) < delivered * 100 then .over
      else .ok }

/-- R123: the backlog mark after a change of the due; it keeps its value between the two bounds. -/
def backlogAfter (mark : Bool) (due stroke : Nat) : Bool :=
  if 2 * (stroke * 1000) ≤ due then true else if due < stroke * 1000 then false else mark

/-! ### Sharing (Chapter 7) -/

/-- R136 steps 2 to 4 on demands in ascending order: the grant of a claimant that asks for `own`. -/
def grantFrom (own : Nat) : (rem : Nat) → List Nat → Nat
  | _, [] => own
  | rem, d :: rest =>
    if d * (rest.length + 1) ≤ rem then (if d = own then own else grantFrom own (rem - d) rest)
    else rem / (rest.length + 1)

/-- R136: max-min fair division of a capacity among demands; the grant of a claimant that asks for `own`, which is
0 when it asks for nothing. -/
def fairGrant (capacity : Nat) (demands : List Nat) (own : Nat) : Nat :=
  if own = 0 then 0 else grantFrom own capacity (demands.insertionSort (· ≤ ·))

/-- R141: a demand differs enough from the one last sent to be announced. -/
def announce (now last : Nat) : Bool :=
  (decide (now = 0) != decide (last = 0)) || decide (last < ((now - last) + (last - now)) * 10)

/-- R166: whether a peer's time is adopted over own time. -/
def adoptTime (isSet : Bool) (own p : Nat) : Bool :=
  !isSet || (decide (own + 2 ≤ p) && decide (p ≤ own + 86400))

end Sys2Proof.Machine
end

