-- ==== Sys2Proof/Machine/Ops.lean ====
section
/-! DEFINITION. Named operations over the state: one update per block, the clock, lanes and lines, the store's
memory, and the conditions that rules compute from several owners' fields. -/

namespace Sys2Proof.Machine

/-! ### One update per block -/

def State.modPct (f : Pct → Pct) (s : State) : State := { s with pct := f s.pct }
def State.modIlm (f : Ilm → Ilm) (s : State) : State := { s with ilm := f s.ilm }
def State.modHsu (f : Hsu → Hsu) (s : State) : State := { s with hsu := f s.hsu }
def State.modLif (f : Lif → Lif) (s : State) : State := { s with lif := f s.lif }
def State.modNtb (f : Ntb → Ntb) (s : State) : State := { s with ntb := f s.ntb }
def State.modStp (f : Stp → Stp) (s : State) : State := { s with stp := f s.stp }
def State.modSul (f : Sul → Sul) (s : State) : State := { s with sul := f s.sul }

/-- One lane's state. -/
def State.lane (s : State) (i : LaneNo) : Lane := s.lanes[i]

/-- One injector's state. -/
def State.inj (s : State) (j : InjNo) : Injector := s.injs[j]

def State.modLane (i : LaneNo) (f : Lane → Lane) (s : State) : State := { s with lanes := s.lanes.set i (f s.lanes[i]) }
def State.modPiu (i : LaneNo) (f : Piu → Piu) (s : State) : State := s.modLane i fun l => { l with piu := f l.piu }
def State.modVen (i : LaneNo) (f : Ven → Ven) (s : State) : State := s.modLane i fun l => { l with ven := f l.ven }
def State.modInj (j : InjNo) (f : Injector → Injector) (s : State) : State := { s with injs := s.injs.set j (f s.injs[j]) }

/-- A message leaves on the reader port or the printer port. -/
def State.emit (o : Output) (s : State) : State := { s with outbox := s.outbox ++ [o] }

/-- The four lanes in order; an event that reaches several lanes takes them in this order (log 25). -/
def allLanes : List LaneNo := [0, 1, 2, 3]

/-- The eight injectors in order. -/
def allInjs : List InjNo := [0, 1, 2, 3, 4, 5, 6, 7]

/-- Do something at each lane in turn. -/
def State.eachLane (f : LaneNo → State → State) (s : State) : State := allLanes.foldl (fun t i => f i t) s

/-! ### The clock (log 1) -/

/-- The clock moves forward to a timer's expiry; it never moves back. -/
def State.reach (due : Nat) (s : State) : State := { s with now := max s.now due }

/-- The capture timer (R75): a free-running 32-bit count of microseconds. -/
def State.captureTimer (s : State) : Word32 := BitVec.ofNat 32 s.now

/-- The clock moves forward to the next moment at which the capture timer has this value (R77, log 24). -/
def State.reachCapture (c : Word32) (s : State) : State := { s with now := s.now + (c - s.captureTimer).toNat }

/-! ### Trip record and lines -/

def State.modTrip (f : Trip → Trip) (s : State) : State := s.modPct fun p => { p with trip := p.trip.map f }

/-- The order lines of the trip, in card order; none without a trip. -/
def State.lines (s : State) : List OrderLine := (s.pct.trip.map (·.lines)).getD []

/-- Change order line `k` (from 0). -/
def State.modLine (k : Nat) (f : OrderLine → OrderLine) (s : State) : State :=
  s.modTrip fun t => { t with lines := t.lines.modify k f }

/-- The order line that a lane holds (R46). -/
def State.heldLine (s : State) (i : LaneNo) : Option OrderLine := (s.lane i).line.bind fun k => s.lines[k]?

/-- Change the order line that a lane holds. -/
def State.modHeld (i : LaneNo) (f : OrderLine → OrderLine) (s : State) : State :=
  match (s.lane i).line with
  | none => s
  | some k => s.modLine k f

/-- The compartment record of the line that a lane holds. -/
def State.record (s : State) (i : LaneNo) : Option CompRecord := (s.heldLine i).bind (·.record)

/-- Change the compartment record of the line that a lane holds. -/
def State.modRecord (i : LaneNo) (f : CompRecord → CompRecord) (s : State) : State :=
  s.modHeld i fun l => { l with record := l.record.map f }

/-- Change the flags of a lane's compartment record. -/
def State.modFlags (i : LaneNo) (f : CompFlags → CompFlags) (s : State) : State :=
  s.modRecord i fun r => { r with flags := f r.flags }

/-- Set trip flags. -/
def State.modTripFlags (f : TripFlags → TripFlags) (s : State) : State := s.modTrip fun t => { t with flags := f t.flags }

/-- The gross volume of a lane's compartment record. -/
def State.gross (s : State) (i : LaneNo) : Nat := ((s.record i).map (·.gross.toNat)).getD 0

/-- The preset of the line that a lane holds, after any clamping. -/
def State.preset (s : State) (i : LaneNo) : Nat := ((s.heldLine i).map (·.preset)).getD 0

/-- The additive lines of a lane's compartment record. -/
def State.additives (s : State) (i : LaneNo) : List AdditiveLine := ((s.record i).map (·.additives)).getD []

/-- Change additive line `k` (from 0) of a lane's compartment record. -/
def State.modAdditive (i : LaneNo) (k : Nat) (f : AdditiveLine → AdditiveLine) (s : State) : State :=
  s.modRecord i fun r => { r with additives := r.additives.modify k f }

/-! ### Configuration -/

/-- The LANE entry of a fitted lane (R204). -/
def State.laneCfg (s : State) (i : LaneNo) : Option LaneCfg := s.cfg.lanes[i]

def State.fitted (s : State) (i : LaneNo) : Bool := (s.laneCfg i).isSome

/-- The INJECTOR entry of a fitted injector. -/
def State.injCfg (s : State) (j : InjNo) : Option InjectorCfg := s.cfg.injectors[j]

/-- The lane that an injector is assigned to. -/
def State.injLane (s : State) (j : InjNo) : Option LaneNo :=
  (s.injCfg j).bind fun c => match c.lane with
    | 1 => some 0
    | 2 => some 1
    | 3 => some 2
    | 4 => some 3
    | _ => none

/-- An injector's stroke volume in µL; a free value for one that the image does not fit (log 22). -/
def State.stroke (s : State) (j : InjNo) : Nat :=
  match s.injCfg j with
  | some c => c.stroke
  | none => Config.unfittedStroke j.val

/-- The bay's dose tolerance in percent. -/
def State.tolerance (s : State) : Nat := (s.cfg.bay.map (·.tolerance)).getD 0

/-- The HEADER entry of header `h` (from 1). -/
def State.headerCfg (s : State) (h : Nat) : Option HeaderCfg := entryOf s.cfg.headers h

/-- The fitted lanes that name header `h`. -/
def State.lanesOn (s : State) (h : Nat) : List LaneNo :=
  allLanes.filter fun i => match s.laneCfg i with
    | none => false
    | some c => c.header == h

/-- The bay is in config fault (R207). -/
def State.configFault (s : State) : Bool := s.sul.code != 0

/-! ### Stages -/

/-- The flowing stages (3.1). -/
def Stage.flowing : Stage → Bool
  | .lowFlow => true | .fullFlow => true | .slowdown => true
  | _ => false

/-- A compartment is open (Table 3-1). -/
def Stage.compartmentOpen : Stage → Bool
  | .lowFlow => true | .fullFlow => true | .slowdown => true | .closing => true
  | .suspended _ .primed => false
  | .suspended _ _ => true
  | _ => false

def State.stage (s : State) (i : LaneNo) : Stage := (s.lane i).stage

/-- Some lane is in a flowing stage. -/
def State.anyFlowing (s : State) : Bool := allLanes.any fun i => (s.stage i).flowing

/-- Some lane is in CLOSING. -/
def State.anyClosing (s : State) : Bool := allLanes.any fun i => s.stage i == .closing

/-! ### Interlock conditions -/

/-- R29: the bay permissive set is whole. -/
def State.whole (s : State) : Bool := s.ilm.ground && s.ilm.overfill && s.ilm.vapour && s.ilm.estop

/-- R35: a rack halt is in force: own RSTOP pressed, or any peer entry carries the halt flag. -/
def State.halted (s : State) : Bool := s.ilm.rstop || s.lif.peers.any (·.halt)

def State.armOn (s : State) (i : LaneNo) : Bool := s.ilm.arm[i]
def State.laneLatched (s : State) (i : LaneNo) : Bool := s.ilm.laneLatch[i]

/-- No bay or lane lapse latch is set. -/
def State.noLatch (s : State) : Bool := !s.ilm.bayLatch && allLanes.all fun i => !s.laneLatched i

/-- R29: no lane energises an output while this is false. -/
def State.mayEnergise (s : State) (i : LaneNo) : Bool :=
  s.whole && !s.ilm.bayLatch && !s.laneLatched i && !s.halted && (s.stage i).flowing

/-- Card intake is armed (R5). -/
def State.intakeArmed (s : State) : Bool := s.sul.done && decide (s.pct.slot = .empty)

/-- The permit of the trip in the slot. -/
def State.permit (s : State) : Option Word32 := s.pct.trip.map (·.permit)

/-! ### Time -/

/-- A time taken from rack time: 0 while rack time is unset (R3). -/
def State.takeTime (s : State) : Word32 := if s.lif.timeSet then s.lif.time else 0

/-! ### The store's memory (R187, R188) -/

/-- What an unlisted address reads as: the store is erased to all ones (R187, R203, log 3). -/
def erased : Byte := 0xFF

/-- A byte of the store. -/
def readByte : List Host.Cell → Nat → Byte
  | [], _ => erased
  | (a, b) :: rest, addr => if a = addr then b else readByte rest addr

/-- Write one byte, keeping the addresses strictly rising and listing no erased byte. -/
def writeByte : List Host.Cell → Nat → Byte → List Host.Cell
  | [], addr, v => if v = erased then [] else [(addr, v)]
  | (a, b) :: rest, addr, v =>
    if a < addr then (a, b) :: writeByte rest addr v
    else if a = addr then (if v = erased then rest else (addr, v) :: rest)
    else if v = erased then (a, b) :: rest
    else (addr, v) :: (a, b) :: rest

/-- Write bytes at rising addresses. -/
def writeBytes : List Host.Cell → Nat → List Byte → List Host.Cell
  | m, _, [] => m
  | m, addr, b :: rest => writeBytes (writeByte m addr b) (addr + 1) rest

/-- Read bytes at rising addresses. -/
def readBytes (m : List Host.Cell) : (addr count : Nat) → List Byte
  | _, 0 => []
  | addr, n + 1 => readByte m addr :: readBytes m (addr + 1) n

/-- The canonical form: addresses strictly rising from a lower bound on, no entry equal to an erased byte, every
address inside the 256 KiB. -/
def wfFrom : (low : Nat) → List Host.Cell → Bool
  | _, [] => true
  | low, (a, b) :: rest => decide (low ≤ a) && decide (a < 262144) && decide (b ≠ erased) && wfFrom (a + 1) rest

/-- The memory is in canonical form. -/
def Memory.wf (m : List Host.Cell) : Bool := wfFrom 0 m

/-- The 2,048 pages of 128 bytes (R187). -/
def pageCount : Nat := 2048

/-- A whole page of the store. -/
def readPage (m : List Host.Cell) (page : Nat) : List Byte := readBytes m (page * 128) 128

/-- A page write lies inside one page of the memory (R188). -/
def PageWrite.inRange (w : PageWrite) : Bool := decide (w.page < pageCount) && decide (w.offset + w.bytes.length ≤ 128)

/-- The memory changes the loaded bytes only (R188). -/
def applyWrite (m : List Host.Cell) (w : PageWrite) : List Host.Cell := writeBytes m (w.page * 128 + w.offset) w.bytes

end Sys2Proof.Machine
end

