-- ==== Sys2Proof/Machine/Lamps.lean ====
section
/-! DEFINITION. The four bay lamps (R43 to R45): what each is commanded to show, and when its output follows. -/

namespace Sys2Proof.Machine

/-- What a lamp is commanded to show (R43). -/
inductive LampWant where
  | lit | dark | blink
  deriving DecidableEq, Repr

/-- Lit or dark. -/
def litIf (b : Bool) : LampWant := if b then .lit else .dark

/-- READY: the states of R43's table by the slot, and dark in each of them while the leak alarm is set (R74). In AUTHORIZED, where
R43's row names no alarm, R74's sentence is followed (log 19). -/
def readyWant (s : State) : LampWant :=
  if s.ilm.leakAlarm then .dark
  else
    match s.pct.slot with
    | .empty => litIf (!s.configFault)
    | .authorized => .blink
    | _ => .dark

/-- R43: FLOW. -/
def flowWant (s : State) : LampWant := litIf (s.anyFlowing || s.anyClosing)

/-- R43: CARD. -/
def cardWant (s : State) : LampWant :=
  if s.pct.slot = .awaitStamp then .lit else if s.pct.pendingStamp.isSome then .blink else .dark

/-- R44: the conditions that light ATTEND. -/
def attendLit (s : State) : Bool :=
  !s.noLatch || s.ilm.leakAlarm || allLanes.any (fun i => s.ilm.faultMark[i]) || decide (s.lif.link = .mute)

/-- R44: a phase of the config fault pattern is lit: the even ones before the gap. -/
def patternLit (code : Nat) (p : Pattern) : Bool := decide (p.phase < 2 * code) && decide (p.phase % 2 = 0)

/-- R44: ATTEND, with its refusal pulse. -/
def attendWant (s : State) : LampWant :=
  match s.ilm.pattern with
  | some p => litIf (patternLit s.sul.code p)
  | none => litIf (attendLit s != s.ilm.pulse.isSome)

/-- R43: a lamp begins to blink lit, and stops blinking when it is no longer commanded to (log 15). -/
def nextBlink (want : LampWant) (now : Nat) (b : Option Blink) : Option Blink :=
  match want, b with
  | .lit, _ => none
  | .dark, _ => none
  | _, none => some ⟨true, now + Config.blinkTime⟩
  | _, some x => some x

/-- The level a lamp is commanded to show now. -/
def wantedLevel (want : LampWant) (b : Option Blink) : Bool :=
  match want with
  | .lit => true
  | .dark => false
  | .blink => (b.map (·.lit)).getD false

/-- R45: the output takes the commanded level once it has shown its state for 300 ms. -/
def showLevel (level : Bool) (now : Nat) (l : LampState) : LampState :=
  if l.shown != level && decide (l.holdUntil ≤ now) then { l with shown := level, holdUntil := now + Config.lampTime } else l

/-- R43 to R45: a lamp follows its commanded state. -/
def followLamp (want : LampWant) (now : Nat) (l : LampState) : LampState :=
  let b := nextBlink want now l.blink
  showLevel (wantedLevel want b) now { l with blink := b }

/-- R43 to R45: the lamps follow their commanded states at the end of an event, and where a card is taken into CHECKING
(log 16); they stay dark until start-up has completed. -/
def refreshLamps (s : State) : State :=
  if s.sul.done then
    s.modIlm fun m => { m with
      ready := followLamp (readyWant s) s.now m.ready
      flow := followLamp (flowWant s) s.now m.flow
      card := followLamp (cardWant s) s.now m.card
      attend := followLamp (attendWant s) s.now m.attend }
  else s

/-- What a lamp is commanded to show. -/
def lampWant (s : State) : Lamp → LampWant
  | .ready => readyWant s
  | .flow => flowWant s
  | .card => cardWant s
  | .attend => attendWant s

/-- One lamp's state. -/
def Ilm.lamp (m : Ilm) : Lamp → LampState
  | .ready => m.ready
  | .flow => m.flow
  | .card => m.card
  | .attend => m.attend

/-- Change one lamp's state. -/
def Ilm.setLamp (m : Ilm) (x : Lamp) (l : LampState) : Ilm :=
  match x with
  | .ready => { m with ready := l }
  | .flow => { m with flow := l }
  | .card => { m with card := l }
  | .attend => { m with attend := l }

/-- R45: after start-up, a lamp shows another level than the one it is commanded to. -/
def lampLags (x : Lamp) (s : State) : Bool :=
  s.sul.done && (s.ilm.lamp x).shown !=
    wantedLevel (lampWant s x) (nextBlink (lampWant s x) s.now (s.ilm.lamp x).blink)

/-- R44: the next phase of the config fault pattern. -/
def nextPhase (code phase : Nat) : Nat := if phase = 2 * code then 0 else phase + 1

/-- R44: how long a phase lasts. -/
def phaseTime (code phase : Nat) : Nat := if phase = 2 * code then Config.patternGap else Config.lampTime

end Sys2Proof.Machine
end

