-- ==== Sys2Proof/Machine/StorePort.lean ====
section
/-! DEFINITION. The Store Port (R187 to R196): the write queue, the write in flight, the read list, and the choice of
the port's next operation. -/

namespace Sys2Proof.Machine

/-- The page of a note slot's page (R169, Table 10-1); `page` is 1..4. -/
def slotPage (slot page : Nat) : Nat := 128 + 4 * slot + (page - 1)

/-- The page writes that a request makes in flight, and whether a read comes first (Table 10-2). A TOTAL writes the
copy other than the one last written, with a count one greater (R194). -/
def flightOf (copies : Vector CopyState 4) (q : QItem) : Flight :=
  match q.req with
  | .checkpoint line record => { item := q, steps := [⟨69 + line, 0, record⟩] }
  | .total lane gross std =>
    { item := q
      steps := [⟨64 + lane.val, if copies[lane].isB then 0 else 64, totalsBytes lane (copies[lane].count + 1) gross std⟩] }
  | .markOpen lines head => { item := q, steps := [⟨69, 0, lines⟩, ⟨68, 0, head⟩] }
  | .markClosed head => { item := q, steps := [⟨68, 0, head⟩] }
  | .notePage note page bytes => { item := q, steps := [⟨slotPage (note % Config.noteSlots) page, 0, bytes⟩] }
  | .noteStatus _ _ _ => { item := q, steps := [], reading := true }

/-- A page read is asked for; reads are served in the order asked (R188). -/
def askRead (owner : Reader) (page : Nat) (s : State) : State :=
  s.modStp fun p => { p with reads := p.reads ++ [⟨owner, page⟩] }

/-- Page reads of `count` pages from a page on, in order. -/
def askPages (owner : Reader) : (page count : Nat) → State → State
  | _, 0, s => s
  | page, n + 1, s => askPages owner (page + 1) n (askRead owner page s)

/-- R196: the read of a NOTE-STATUS takes the slot's first page. It joins the read list (log 6). -/
def askStatusRead (q : QItem) (s : State) : State :=
  match q.req with
  | .noteStatus note _ _ => askRead .noteStatus (slotPage (note % Config.noteSlots) 1) s
  | _ => s

/-- R189: with no write in flight, the request at the head leaves the queue and becomes the write in flight, and a
free-slot report is due in this event. -/
def startNext (s : State) : State :=
  match s.stp.flight, s.stp.queue with
  | none, q :: rest =>
    askStatusRead q (s.modStp fun p => { p with queue := rest, flight := some (flightOf p.copies q), departed := true })
  | _, _ => s

/-- The line index of a waiting CHECKPOINT request. -/
def checkLine : WriteReq → Option Nat
  | .checkpoint line _ => some line
  | _ => none

/-- R190: replace the record of the waiting CHECKPOINT for the same line index in place. -/
def replaceCheckpoint (q : QItem) : List QItem → List QItem
  | [] => []
  | x :: rest => if checkLine x.req = checkLine q.req then q :: rest else x :: replaceCheckpoint q rest

/-- A CHECKPOINT for the same line index waits in the queue (R190). -/
def sameLineWaits (q : QItem) (queue : List QItem) : Bool :=
  (checkLine q.req).isSome && queue.any fun x => decide (checkLine x.req = checkLine q.req)

/-- An offer to the store write queue (R189, R190): whether it was accepted, and the state after. -/
def enqueue (q : QItem) (s : State) : Bool × State :=
  if sameLineWaits q s.stp.queue then
    (true, s.modStp fun p => { p with queue := replaceCheckpoint q p.queue })
  else if s.stp.queue.length < Config.queueSize then
    (true, startNext (s.modStp fun p => { p with queue := p.queue ++ [q] }))
  else (false, s)

/-- R188: when the port is free, the next operation starts: with a read and a write step both waiting, the kind other
than the one just completed. -/
def portKick (s : State) : State :=
  match s.stp.port with
  | .idle =>
    match s.stp.reads, s.stp.flight.bind (·.steps.head?) with
    | [], none => s
    | r :: rest, none => s.modStp fun p => { p with reads := rest, port := .reading r }
    | [], some w => s.modStp fun p => { p with port := .writing w (s.now + Config.writeTime) }
    | r :: rest, some w =>
      if s.stp.lastRead then s.modStp fun p => { p with port := .writing w (s.now + Config.writeTime) }
      else s.modStp fun p => { p with reads := rest, port := .reading r }
  | _ => s

/-- R196: the byte that a NOTE-STATUS in flight writes after its read of the slot's first page: none when the tag or
the number differ or the length field lies outside 34..498. -/
def statusWrite (note : Nat) (f : StatusField) (code : Nat) (page : List Byte) : List PageWrite :=
  if fieldNat page 0 1 = 0x4E ∧ fieldNat page 1 4 = note ∧ lengthFieldOk page then
    let off := statusOffset (noteLengthField page) f
    [⟨slotPage (note % Config.noteSlots) (off / 128 + 1), off % 128, beBytes 1 code⟩]
  else []

/-- The write in flight is done and the next request leaves the queue (R189). -/
def flightDone (s : State) : State := startNext (s.modStp fun p => { p with flight := none })

/-- R194: the copy written by a TOTAL in flight becomes the copy last written. -/
def recordCopy (req : WriteReq) (s : State) : State :=
  match req with
  | .total lane _ _ => s.modStp fun p =>
      { p with copies := p.copies.set lane ⟨!p.copies[lane].isB, p.copies[lane].count + 1⟩ }
  | _ => s

end Sys2Proof.Machine
end

