-- ==== Sys2Proof/Machine/LaneCore.lean ====
section
/-! DEFINITION. The Lane Controller's shared operations (Chapter 3): setpoint and wanted rate, steering, outputs, the
close decision, suspension, checkpoints and the priming check. -/

namespace Sys2Proof.Machine

/-! ### Setpoint and wanted rate (R54 to R56) -/

/-- The stage limit (R54); 0 outside the flowing stages. -/
def stageLimit (c : LaneCfg) : Stage → Nat
  | .lowFlow => c.lowRate
  | .fullFlow => c.maxFlow
  | .slowdown => c.slowRate
  | _ => 0

/-- A rate under an additive limit, where the lane has one. -/
def underLimit (limit : Option Nat) (rate : Nat) : Nat :=
  match limit with
  | none => rate
  | some x => min x rate

/-- R56: the wanted rate: the smallest of stage limit, lane maximum flow and additive limit; 0 outside the flowing
stages. -/
def wantedRate (c : LaneCfg) (st : Stage) (limit : Option Nat) : Nat :=
  if st.flowing then underLimit limit (min (stageLimit c st) c.maxFlow) else 0

/-- R54: the target rate: the wanted rate under the lane share as well. -/
def targetRate (c : LaneCfg) (st : Stage) (limit : Option Nat) (share : Nat) : Nat := min share (wantedRate c st limit)

/-- The target rate of a lane; 0 for a lane that is not fitted. -/
def State.target (s : State) (i : LaneNo) : Nat :=
  match s.laneCfg i with
  | none => 0
  | some c => targetRate c (s.stage i) (s.lane i).limit (s.lane i).share

/-- The wanted rate of a lane as its stage and limit give it now. -/
def State.wantedNow (s : State) (i : LaneNo) : Nat :=
  match s.laneCfg i with
  | none => 0
  | some c => wantedRate c (s.stage i) (s.lane i).limit

/-- R55, R56: after a change of stage, share or limit, S falls at once to the target rate if it stood above it, and the
wanted rate takes its new value. Outside the flowing stages both are 0. -/
def retarget (i : LaneNo) (s : State) : State :=
  s.modLane i fun l => { l with setpoint := min l.setpoint (s.target i), wanted := s.wantedNow i }

/-- R55: at a tick, S rises to the target rate by at most the ramp step. -/
def rise (i : LaneNo) (s : State) : State :=
  match s.laneCfg i with
  | none => s
  | some c => s.modLane i fun l => { l with setpoint := max l.setpoint (min (s.target i) (l.setpoint + c.ramp)) }

/-! ### Outputs and steering (R57, R58) -/

/-- R58: both outputs off at once, any step in progress cut short. -/
def outputsOff (i : LaneNo) (s : State) : State :=
  s.modLane i fun l => { l with openOut := false, holdOut := false, step := none }

/-- R57: the steering decision of a lane from the Q of its last pass and its S. -/
def State.decision (s : State) (i : LaneNo) : Steer := steer (s.lane i).ven.q (s.lane i).setpoint

/-- R57: the outputs that a steering decision commands. A step still running is cut by the new decision, or begun anew
(log 38). -/
def commandOutputs (d : Steer) (now : Nat) (l : Lane) : Lane :=
  match d with
  | .open => { l with openOut := true, holdOut := true, step := some ⟨true, now + Config.stepTime⟩ }
  | .close => { l with openOut := false, holdOut := false, step := some ⟨false, now + Config.stepTime⟩ }
  | .hold => { l with openOut := false, holdOut := true, step := none }

/-- R57: a steering decision is made; a lane that may not energise its outputs keeps them off (R29). -/
def steerNow (i : LaneNo) (s : State) : State :=
  if s.mayEnergise i then s.modLane i (commandOutputs (s.decision i) s.now) else outputsOff i s

/-! ### Checkpoints (R72, R192) -/

/-- The code of the end reason that a checkpoint carries: with CLOSING and ENDED only (R192). -/
def checkReason (st : Stage) (reason : Option EndReason) : Nat :=
  match st with
  | .closing => (reason.map endReasonCode).getD 0
  | .ended => (reason.map endReasonCode).getD 0
  | _ => 0

/-- R105: the weighted temperature of a record: the final one once it has one, otherwise as Σ and G stand. -/
def tempNow (v : Ven) (r : CompRecord) : Int := r.weighted.getD (weightedTemp v.sigma r.gross.toNat v.window)

/-- The checkpoint record of the line a lane holds, at this moment (R72, R105, R192). -/
def State.checkpointNow (s : State) (i : LaneNo) : Option (Nat × List Byte) :=
  match s.pct.trip, (s.lane i).line, s.heldLine i, s.record i with
  | some t, some k, some l, some r =>
    let ln := s.lane i
    some (k + 1, checkpointBytes t.number (k + 1) (stageCode ln.stage) (suspendByte ln.stage)
      (checkReason ln.stage ln.closeReason) l.clamped r (tempNow ln.ven r)
      ln.ven.totGross ln.ven.totStd)
  | _, _, _, _ => none

/-- R72: a lane offers an ordinary checkpoint; one that the queue refuses is dropped. -/
def offerCheckpoint (i : LaneNo) (s : State) : State :=
  match s.checkpointNow i with
  | none => s
  | some (k, bytes) => (enqueue ⟨.checkpoint k bytes, false⟩ s).2

/-! ### Stages -/

/-- A lane enters a stage; S and the wanted rate follow it (R52, R55, R56). -/
def setStage (i : LaneNo) (st : Stage) (s : State) : State := retarget i (s.modLane i fun l => { l with stage := st })

/-- A lane sets the status of the line it holds. -/
def setStatus (i : LaneNo) (st : LineStatus) (s : State) : State := s.modHeld i fun l => { l with status := st }

/-- R53: the close decision with its end reason. -/
def closeDecision (i : LaneNo) (reason : EndReason) (s : State) : State :=
  s.modLane i fun l => { l with
    stage := .closing
    grossAtClose := s.gross i
    closeReason := some reason
    openOut := false
    holdOut := false
    step := none
    setpoint := 0
    wanted := 0
    quiet := 0
    closing := some (s.now + Config.closingTime) }

/-- R67: a pulse fault or an order to end with ADDITIVE-FAULT, by stage. -/
def takeFault (i : LaneNo) (reason : EndReason) (s : State) : State :=
  match s.stage i with
  | .lowFlow => closeDecision i reason s
  | .fullFlow => closeDecision i reason s
  | .slowdown => closeDecision i reason s
  | .suspended _ .primed => s
  | .suspended _ _ => closeDecision i reason (setStatus i .active s)
  | _ => s

/-- The stage left, of a flowing stage or PRIMED. -/
def leftOf : Stage → Option LeftStage
  | .primed => some .primed
  | .lowFlow => some .lowFlow
  | .fullFlow => some .fullFlow
  | .slowdown => some .slowdown
  | _ => none

/-- R63: a flowing lane enters SUSPENDED. -/
def suspendFlowing (i : LaneNo) (cause : Cause) (left : LeftStage) (s : State) : State :=
  offerCheckpoint i (setStage i (.suspended cause left) (setStatus i (.suspended cause) (outputsOff i s)))

/-- R49: a PRIMED lane enters SUSPENDED(LAPSE); no compartment is open and no checkpoint is offered. -/
def suspendPrimed (i : LaneNo) (s : State) : State :=
  setStage i (.suspended .lapse .primed) (setStatus i (.suspended .lapse) s)

/-- R63: an order to suspend with a cause. -/
def suspendLane (i : LaneNo) (cause : Cause) (s : State) : State :=
  match s.stage i, cause with
  | .lowFlow, _ => suspendFlowing i cause .lowFlow s
  | .fullFlow, _ => suspendFlowing i cause .fullFlow s
  | .slowdown, _ => suspendFlowing i cause .slowdown s
  | .primed, .lapse => suspendPrimed i s
  | _, _ => s

/-- A lane returns to IDLE and holds no line, its outputs off as in every stage that does not flow (R29, R49, R70, R71). -/
def toIdle (i : LaneNo) (s : State) : State :=
  setStage i .idle (outputsOff i (s.modLane i fun l => { l with line := none }))

/-- A WAITING line of a lane. -/
def waitingFor (i : LaneNo) (l : OrderLine) : Bool := decide (l.status = .waiting) && decide (l.lane = some i)

/-- R48: the place of the first WAITING line whose resolved lane is this lane. -/
def State.firstWaiting (s : State) (i : LaneNo) : Option Nat := s.lines.findIdx? (waitingFor i)

/-- The trip slot is AUTHORIZED or RELEASED (R48). -/
def State.primes (s : State) : Bool := decide (s.pct.slot = .authorized) || decide (s.pct.slot = .released)

/-- R48: the priming check of a lane in IDLE. -/
def primingCheck (i : LaneNo) (s : State) : State :=
  if s.stage i = .idle ∧ s.armOn i ∧ s.primes then
    match s.firstWaiting i with
    | none => s
    | some k => s.modLane i fun l => { l with stage := .primed, line := some k }
  else s

end Sys2Proof.Machine
end

