-- ==== Sys2Proof/Machine/Dose.lean ====
section
/-! DEFINITION. The Dose Controller's operations (Chapter 6): recipe resolution, additive lines, strokes, the judgement
of a stroke, the additive limit and the closing of additive lines. -/

namespace Sys2Proof.Machine

/-! ### Recipe resolution (R110, R111) -/

/-- An injector number 1..8 as an injector. -/
def injOf (n : Nat) : InjNo := Fin.ofNat 8 (n + 7)

/-- A dose entry of the configuration as a resolved dose entry. -/
def doseEntryOf (d : DoseCfg) : DoseEntry := ⟨injOf d.injector, d.ratio, d.mandatory == 1⟩

/-- R111: a dose entry is servable on the resolved lane, after the entries before it in its list. -/
def servable (s : State) (lane : LaneNo) (before : List DoseEntry) (d : DoseEntry) : Bool :=
  match s.injCfg d.injector, s.laneCfg lane with
  | some c, some l =>
    decide (s.injLane d.injector = some lane) && !(before.any fun e => e.injector == d.injector) &&
      decide (l.lowRate ≤ staticLimit c.rate c.stroke d.ratio)
  | _, _ => false

/-- R111: every entry of a list is servable. -/
def allServable (s : State) (lane : LaneNo) : (before rest : List DoseEntry) → Bool
  | _, [] => true
  | before, d :: rest => servable s lane before d && allServable s lane (before ++ [d]) rest

/-- The loaded entries of a dose block, in entry order (Table 6-1). -/
def doseBlock (t : Tables) (b : Nat) : List DoseEntry :=
  (([1, 2, 3].filterMap fun k => entryOf t.doses (3 * b + k))).map doseEntryOf

/-- A list that passes R111, or the refusal. -/
def checkedDoses (s : State) (lane : LaneNo) (ds : List DoseEntry) : Except LineRefusal (List DoseEntry) :=
  if allServable s lane [] ds then .ok ds else .error .recipeNotServable

/-- R110: the resolution of a recipe code on a resolved lane. -/
def resolveRecipe (s : State) (code : Nat) (lane : LaneNo) : Except LineRefusal (List DoseEntry) :=
  if code = 0 then .ok []
  else
    match entryOf s.cfg.recipes code with
    | none => .error .recipeNotServable
    | some r => match r.kind with
      | 1 => checkedDoses s lane [doseEntryOf r.dose]
      | 2 =>
        if doseBlock s.cfg r.dose.injector = [] then .error .recipeNotServable
        else checkedDoses s lane (doseBlock s.cfg r.dose.injector)
      | _ => .error .recipeWithdrawn

/-! ### The additive limit (R122 to R124) -/

/-- An active additive line (R122). -/
def AdditiveLine.active (a : AdditiveLine) : Bool := a.live && !a.faultMark

/-- R122: the static limit of one additive line; none when its injector is not fitted. -/
def lineLimit (s : State) (a : AdditiveLine) : Option Nat :=
  (s.injCfg a.injector).map fun c => staticLimit c.rate c.stroke a.ratio

/-- The smallest of a list of limits. -/
def smallest : List Nat → Option Nat
  | [] => none
  | x :: rest => some (rest.foldl min x)

/-- R122, R123: the additive limit of a lane: the smallest static limit of its active lines, nine tenths of it while one
of them has its backlog mark set. That a lane waiting in ENDED keeps the limit of its LIVE lines until they are closed is the
model's choice (log 42). -/
def State.limitOf (s : State) (i : LaneNo) : Option Nat :=
  let act := (s.additives i).filter AdditiveLine.active
  (smallest (act.filterMap (lineLimit s))).map fun x => if act.any (·.backlog) then x * 9 / 10 else x

/-- R124: DSC gives the lane a new additive limit, or none, in the event that changes it. -/
def giveLimit (i : LaneNo) (s : State) : State :=
  if s.limitOf i = (s.lane i).limit then s
  else retarget i (s.modLane i fun l => { l with limit := s.limitOf i })

/-! ### Building lines (R115) -/

/-- A new additive line of a dose entry. -/
def newAdditive (d : DoseEntry) : AdditiveLine := { injector := d.injector, ratio := d.ratio, mandatory := d.mandatory }

/-- R115: an injector of a lane that opens a compartment: FAULTED returns to IDLE and the fault-pending mark clears. -/
def renewInjector (x : Injector) : Injector :=
  { x with phase := if x.phase = .faulted then .idle else x.phase, faultPending := false }

/-- Do something at each injector assigned to a lane. -/
def eachInjOf (i : LaneNo) (f : InjNo → State → State) (s : State) : State :=
  allInjs.foldl (fun t j => if s.injLane j = some i then f j t else t) s

/-- R115: the lane's injectors at the opening of a compartment. -/
def renewInjectors (i : LaneNo) (s : State) : State := eachInjOf i (fun j t => t.modInj j renewInjector) s

/-! ### Strokes (R113, R116, R117) -/

/-- A stroke volume in nL. -/
def State.strokeNl (s : State) (j : InjNo) : Nat := s.stroke j * 1000

/-- Additive line `k` of the compartment of lane `i`. -/
def State.additive (s : State) (i : LaneNo) (k : Nat) : Option AdditiveLine := (s.additives i)[k]?

/-- R116, R123: the due of a LIVE line grows by Δg × ratio, and its backlog mark follows. -/
def accrueLine (stroke dg : Nat) (a : AdditiveLine) : AdditiveLine :=
  if a.live then
    { a with
      due := a.due + dg * a.ratio
      totalDue := a.totalDue + dg * a.ratio
      backlog := backlogAfter a.backlog (a.due + dg * a.ratio) stroke }
  else a

/-- R117, R125: what a stroke takes from the due: one stroke volume, or all of a smaller due. -/
def dueAfterStroke (due strokeNl : Nat) : Nat := due - strokeNl

/-- R117, R125: a line that starts a stroke; `final` says that it is the final stroke. -/
def strokeLine (final : Bool) (stroke : Nat) (a : AdditiveLine) : AdditiveLine :=
  { a with
    commanded := a.commanded + 1
    due := dueAfterStroke a.due (stroke * 1000)
    backlog := backlogAfter a.backlog (dueAfterStroke a.due (stroke * 1000)) stroke
    finalBegun := a.finalBegun || final }

/-- R113: an injector that begins a stroke for an additive line. -/
def strokeInjector (c : InjectorCfg) (now : Nat) (sv : Serving) (x : Injector) : Injector :=
  { x with
    phase := .driving
    startTime := now
    window := .opened false
    serving := some sv
    spacingOver := false
    driveDue := some (now + c.drive * 1000)
    spacingDue := some (now + spacingPeriod c.rate)
    windowDue := none }

/-- R113, R117: a stroke of injector `j` starts for line `k` of lane `i`. -/
def startStroke (final : Bool) (i : LaneNo) (k : Nat) (j : InjNo) (s : State) : State :=
  match s.injCfg j with
  | none => s
  | some c =>
    giveLimit i ((s.modAdditive i k (strokeLine final c.stroke)).modInj j (strokeInjector c s.now ⟨i, k⟩))

/-- R117: whether a regular stroke is started for a line. -/
def strokeDue (s : State) (st : Stage) (a : AdditiveLine) : Bool :=
  (st.flowing || decide (st = .closing)) && a.active && decide ((s.inj a.injector).phase = .idle) &&
    decide (s.strokeNl a.injector ≤ a.due)

/-- R125: whether the final stroke of a line is started now. -/
def finalDue (s : State) (st : Stage) (a : AdditiveLine) : Bool :=
  decide (st = .ended) && a.active && a.finalMark && !a.finalBegun && decide ((s.inj a.injector).phase = .idle)

/-- R117, R125: a stroke is considered for line `k` of lane `i`. -/
def considerLine (i : LaneNo) (k : Nat) (s : State) : State :=
  match s.additive i k with
  | none => s
  | some a =>
    if strokeDue s (s.stage i) a then startStroke false i k a.injector s
    else if finalDue s (s.stage i) a then startStroke true i k a.injector s
    else s

/-- The places of a compartment's additive lines, at most three (R115). -/
def slots : List Nat := [0, 1, 2]

/-- R117: strokes are considered for the lines of a lane, in order. -/
def considerLane (i : LaneNo) (s : State) : State := slots.foldl (fun t k => considerLine i k t) s

/-- R116: the dose step of a compartment pass. -/
def dosePass (i : LaneNo) (dg : Nat) (s : State) : State :=
  considerLane i (giveLimit i (s.modRecord i fun r =>
    { r with additives := r.additives.map fun a => accrueLine (s.stroke a.injector) dg a }))

/-! ### The stroke cycle (R113, R114, R119, R120) -/

/-- An injector that leaves SPACING (R113, R120). -/
def endCycle (x : Injector) : Injector :=
  { x with phase := if x.faultPending then .faulted else .idle, faultPending := false }

/-- R113: both ends of a stroke cycle have come. -/
def Injector.cycleOver (x : Injector) : Bool :=
  decide (x.phase = .spacing) && x.spacingOver && decide (x.window = .closed)

/-- R113, R117: the injector leaves SPACING when its cycle is over; on its return to IDLE a stroke is considered for the
lines of its lane that it serves. -/
def tryEndCycle (j : InjNo) (s : State) : State :=
  if (s.inj j).cycleOver then
    let t := s.modInj j endCycle
    match s.injLane j with
    | none => t
    | some i => slots.foldl (fun u k =>
        if (u.additive i k).any (fun a => a.injector == j) then considerLine i k u else u) t
  else s

/-- R119: a line whose stroke is judged. -/
def judgeLine (pulse : Bool) (a : AdditiveLine) : AdditiveLine :=
  if a.live then
    if pulse then { a with confirmed := a.confirmed + 1, misses := 0 } else { a with misses := a.misses + 1 }
  else a

/-- R120: a line whose injector faults. -/
def faultLine (a : AdditiveLine) : AdditiveLine := { a with faultMark := true, backlog := false }

/-- R120: the order to end with ADDITIVE-FAULT, and the checkpoint of a lane whose stage it changes (R72). -/
def orderFault (i : LaneNo) (s : State) : State :=
  let t := takeFault i .additiveFault s
  if t.stage i = s.stage i then t else offerCheckpoint i t

/-- R120: the injector faults: the fault-pending mark, the FAULT mark, the limit without this line, and the order on a
mandatory line. -/
def injectorFault (sv : Serving) (j : InjNo) (mandatory : Bool) (s : State) : State :=
  let t := giveLimit sv.lane ((s.modInj j fun x => { x with faultPending := true }).modAdditive sv.lane sv.slot faultLine)
  if mandatory then orderFault sv.lane t else t

/-- R119, R120: the judgement of the stroke of injector `j`. -/
def judge (j : InjNo) (pulse : Bool) (s : State) : State :=
  match (s.inj j).serving with
  | none => s
  | some sv =>
    let t := s.modAdditive sv.lane sv.slot (judgeLine pulse)
    match t.additive sv.lane sv.slot with
    | none => t
    | some a => if !pulse && a.live && a.misses == 3 then injectorFault sv j a.mandatory t else t

/-! ### The end of a compartment (R125 to R128) -/

/-- R125: whether a line is given a final stroke. -/
def givesFinal (strokeNl : Nat) (a : AdditiveLine) : Bool := a.active && decide (strokeNl / 2 ≤ a.due)

/-- R125: the final-stroke decision for every line of a compartment that has entered ENDED. -/
def decideFinal (i : LaneNo) (s : State) : State :=
  s.modRecord i fun r =>
    { r with additives := r.additives.map fun a => { a with finalMark := givesFinal (s.strokeNl a.injector) a } }

/-- A stroke of line `k` of lane `i` is in progress and not yet judged (R126). -/
def strokeOpen (s : State) (i : LaneNo) (k : Nat) (j : InjNo) : Bool :=
  decide ((s.inj j).serving = some ⟨i, k⟩) && decide ((s.inj j).window ≠ .closed)

/-- R126: a line has nothing left in progress: no stroke unjudged, and no final stroke still to begin (log 10). -/
def closable (s : State) (i : LaneNo) (k : Nat) (a : AdditiveLine) : Bool :=
  a.live && !strokeOpen s i k a.injector && (!a.finalMark || a.finalBegun || a.faultMark)

/-- R126, R128: a closed line with its result. -/
def closedLine (stroke tol : Nat) (a : AdditiveLine) : AdditiveLine :=
  { a with live := false, backlog := false, result := some (doseResult a.totalDue a.confirmed a.faultMark stroke tol) }

/-- R126: line `k` is closed if it has nothing left in progress. -/
def tryCloseLine (i : LaneNo) (k : Nat) (s : State) : State :=
  match s.additive i k with
  | none => s
  | some a =>
    if closable s i k a then s.modAdditive i k (closedLine (s.stroke a.injector) s.tolerance) else s

/-- R126: lines of a lane in ENDED are closed as far as they can be. -/
def tryCloseLines (i : LaneNo) (s : State) : State :=
  giveLimit i (slots.foldl (fun t k => tryCloseLine i k t) s)

/-- R126: no LIVE additive line is left, so that DSC reports the lines closed. -/
def State.allClosed (s : State) (i : LaneNo) : Bool := (s.additives i).all fun a => !a.live

/-- R127: an injector serves the lane's line no longer, so that its stroke in progress is detached. That an injector with no
stroke in progress loses its served line too is the model's choice (log 43). -/
def detach (i : LaneNo) (x : Injector) : Injector :=
  { x with serving := match x.serving with
      | none => none
      | some sv => if sv.lane = i then none else some sv }

/-- R127: every LIVE line is closed at once without a final stroke, and strokes in progress are detached. -/
def closeAllLines (i : LaneNo) (s : State) : State :=
  let t := s.modRecord i fun r =>
    { r with additives := r.additives.map fun a =>
        if a.live then closedLine (s.stroke a.injector) s.tolerance a else a }
  allInjs.foldl (fun u j => u.modInj j (detach i)) t

end Sys2Proof.Machine
end

