-- ==== Sys2Proof/Machine/Frames.lean ====
section
/-! DEFINITION. The rack line's frames (R147, Tables 12-3 and 12-4): their bytes and the acceptance test. -/

namespace Sys2Proof.Machine

/-- Frame kind codes (Table 12-3). -/
def kindCode : Payload → Nat
  | .status .. => 1 | .claim .. => 2 | .held .. => 3 | .release .. => 4 | .noteReady .. => 5
  | .noteAsk .. => 6 | .notePart .. => 7

/-- A frame's payload bytes (Table 12-4). -/
def payloadBytes : Payload → List Byte
  | .status link flags time entries =>
    [link, flags] ++ beBytes 4 time.toNat ++ beBytes 1 entries.length ++
      entries.flatMap fun e => beBytes 1 e.header ++ beBytes 2 e.demand ++ beBytes 2 e.draw
  | .claim permit => beBytes 4 permit.toNat
  | .held permit claimant => beBytes 4 permit.toNat ++ beBytes 1 claimant
  | .release permit => beBytes 4 permit.toNat
  | .noteReady note permit => beBytes 4 note.toNat ++ beBytes 4 permit.toNat
  | .noteAsk target note => beBytes 1 target ++ beBytes 4 note.toNat
  | .notePart requester note index count isPresent bytes =>
    beBytes 1 requester ++ beBytes 4 note.toNat ++ beBytes 1 index ++ beBytes 1 count ++
      beBytes 1 (if isPresent then 1 else 2) ++ bytes

/-- A frame's bytes (Table 12-3). -/
def frameBytes (sender : Nat) (p : Payload) : List Byte :=
  withCrc (beBytes 1 (kindCode p) ++ beBytes 1 sender ++ beBytes 1 (payloadBytes p).length ++ payloadBytes p)

/-- A station number that a frame may carry (R147). -/
def stationOk (n : Nat) : Bool := decide (1 ≤ n) && decide (n ≤ 24)

/-- No header stands twice in one STATUS (R147). -/
def headersDistinct (entries : List HeaderEntry) : Bool := (entries.map (·.header)).Nodup

/-- The field ranges of R147. -/
def payloadOk : Payload → Bool
  | .status _ _ _ entries =>
    decide (entries.length ≤ 6) && headersDistinct entries &&
      entries.all fun e => decide (1 ≤ e.header) && decide (e.header ≤ 6)
  | .held _ claimant => stationOk claimant
  | .noteAsk target _ => stationOk target
  | .notePart requester _ index count _ _ => stationOk requester && decide (index < count)
  | .claim _ => true
  | .release _ => true
  | .noteReady _ _ => true

/-- The field widths of Table 12-4, which any frame's fields have. -/
def payloadFits : Payload → Bool
  | .status _ _ _ entries => entries.all fun e => decide (e.demand < 65536) && decide (e.draw < 65536)
  | .notePart _ _ index count _ bytes => decide (index < 256) && decide (count < 256) && decide (bytes.length ≤ 48)
  | _ => true

/-- A frame that R147 accepts. -/
def frameOk (sender : Nat) (p : Payload) : Bool := stationOk sender && payloadOk p && payloadFits p

/-- The header entries of a STATUS payload, from an offset on (Table 12-4). -/
def entriesAt (b : List Byte) (count off : Nat) : List HeaderEntry :=
  (List.range count).map fun i =>
    { header := fieldNat b (off + 5 * i) 1
      demand := fieldNat b (off + 5 * i + 1) 2
      draw := fieldNat b (off + 5 * i + 3) 2 }

/-- The payload that bytes of a kind spell, when the length is the one the kind requires (R147, Table 12-4). -/
def payloadOf (kind : Nat) (b : List Byte) : Option Payload :=
  match kind with
  | 1 =>
    let n := fieldNat b 6 1
    if 7 ≤ b.length ∧ b.length = 7 + 5 * n ∧ n ≤ 6 then
      some (.status (BitVec.ofNat 8 (fieldNat b 0 1)) (BitVec.ofNat 8 (fieldNat b 1 1)) (fieldWord b 2) (entriesAt b n 7))
    else none
  | 2 => if b.length = 4 then some (.claim (fieldWord b 0)) else none
  | 3 => if b.length = 5 then some (.held (fieldWord b 0) (fieldNat b 4 1)) else none
  | 4 => if b.length = 4 then some (.release (fieldWord b 0)) else none
  | 5 => if b.length = 8 then some (.noteReady (fieldWord b 0) (fieldWord b 4)) else none
  | 6 => if b.length = 5 then some (.noteAsk (fieldNat b 0 1) (fieldWord b 1)) else none
  | 7 =>
    let st := fieldNat b 7 1
    if 8 ≤ b.length ∧ b.length ≤ 56 ∧ (st = 1 ∨ st = 2) then
      some (.notePart (fieldNat b 0 1) (fieldWord b 1) (fieldNat b 5 1) (fieldNat b 6 1) (st == 1) (b.drop 8))
    else none
  | _ => none

/-- The acceptance test of R147 on a received frame: the sender and payload, or none when the frame is dropped. -/
def acceptFrame (framing : Bool) (raw : List Byte) : Option (Nat × Payload) :=
  let len := fieldNat raw 2 1
  let sender := fieldNat raw 1 1
  if framing ∨ raw.length ≠ len + 5 ∨ 64 < len ∨ !crcOk raw raw.length then none
  else
    match payloadOf (fieldNat raw 0 1) (field raw 3 len) with
    | none => none
    | some p => if stationOk sender && payloadOk p then some (sender, p) else none

end Sys2Proof.Machine
end

