-- ==== Sys2Proof/Machine/LineInterface.lean ====
section
/-! DEFINITION. The Line Interface's own operations (R146 to R154): offers to the transmit FIFO, STATUS requests, the
choice of the frame to send, the peer table and rack time. -/

namespace Sys2Proof.Machine

/-- An offer to the transmit FIFO (R151): whether it was taken, and the state after. In MUTE it is taken and discarded;
in DOWN no offer is taken (R178). -/
def offerFrame (f : TxFrame) (s : State) : Bool × State :=
  match s.lif.link with
  | .mute => (true, s)
  | .down => (false, s)
  | _ =>
    if s.lif.fifo.length < Config.fifoSize then (true, s.modLif fun l => { l with fifo := l.fifo ++ [f] })
    else (false, s)

/-- The link states in which STATUS requests are kept (R153). -/
def Link.sends : Link → Bool
  | .run => true | .alone => true
  | _ => false

/-- A current STATUS becomes urgent in place (R150, R153). -/
def makeUrgent (c : Current) : Current := if c.frame = .status then { c with urgent := true } else c

/-- The current frame is a STATUS. -/
def Lif.statusCurrent (l : Lif) : Bool := match l.current with
  | some c => c.frame == .status
  | none => false

/-- R153: a STATUS is due at once, as urgent. In the states that send no STATUS the request is not kept. -/
def requestUrgent (s : State) : State :=
  if s.lif.link.sends then s.modLif fun l => { l with due := .urgent, current := l.current.map makeUrgent } else s

/-- R153: a STATUS is due now. -/
def statusDueNow (s : State) : State :=
  if s.lif.link.sends ∧ s.lif.due = .none then s.modLif fun l => { l with due := .normal } else s

/-- R153: a change-triggered STATUS is due 100 ms after the previous own STATUS, or at once if that has passed; a
STATUS already due or current meets it. -/
def requestChange (s : State) : State :=
  if s.lif.link.sends ∧ s.lif.due = .none ∧ !s.lif.statusCurrent then
    match s.lif.lastStatus with
    | none => statusDueNow s
    | some t =>
      if t + Config.spacingTime ≤ s.now then statusDueNow s
      else s.modLif fun l => { l with spacing := some (t + Config.spacingTime) }
  else s

/-- R153: a STATUS has been sent or discarded: every pending request is met and the period timer restarts. -/
def statusMet (s : State) : State :=
  s.modLif fun l => { l with
    due := .none
    spacing := none
    period := if l.link.sends then some (s.now + Config.periodTime) else none }

/-- R152: the STATUS contents as they stand when an attempt begins. -/
def statusPayload (s : State) : Payload :=
  .status (BitVec.ofNat 8 (linkCode s.lif.link))
    (BitVec.ofNat 8 (bit s.ilm.rstop 0 + bit s.lif.timeSet 1 + bit (s.pct.slot != .empty) 3 + bit true 4))
    s.takeTime s.lif.slot

/-- The payload of the part's own frame as it goes on the line. -/
def txPayload (s : State) : TxFrame → Payload
  | .status => statusPayload s
  | .claim p => .claim p
  | .held p c => .held p c
  | .release p => .release p
  | .noteReady n p => .noteReady n p
  | .notePart r n i c ok b => .notePart r n i c ok b

/-- R148: the access gap in bit times, lengthened by 64 after an own frame. -/
def accessGap (l : Lif) : Nat := 10 + 2 * l.station + (if l.ownLast then 64 else 0)

/-- R148, R150: the frame chosen at an access, as the LIF that holds it as the current frame; none when nothing may be
sent. A FIFO frame leaves the FIFO when it is chosen. -/
def chooseFrame (l : Lif) : Option Lif :=
  match l.link with
  | .join => if l.current.isSome then some l else none
  | .run | .alone =>
    match l.due, l.current with
    | .urgent, none => some { l with current := some { frame := .status, urgent := true } }
    | .urgent, some c =>
      if c.frame = .status then some { l with current := some (makeUrgent c) }
      else some { l with setAside := some c, current := some { frame := .status, urgent := true } }
    | _, some _ => some l
    | .normal, none => some { l with current := some { frame := .status } }
    | .none, none =>
      match l.fifo with
      | [] => none
      | f :: rest => some { l with fifo := rest, current := some { frame := f }, roomFreed := true }
  | _ => none

/-- The gap that the current frame needs (R148): the urgent STATUS waits plain quiet of 10 bit times. -/
def neededGap (l : Lif) : Nat := match l.current with
  | some c => if c.urgent && decide (l.link ≠ .join) then 10 else accessGap l
  | none => accessGap l

/-- R148 to R150: at a quiet of this many bit times, the station begins an attempt of the chosen frame if the gap that
the frame needs is complete, and begins nothing otherwise. -/
def beginAttempt (quiet : Nat) (s : State) : State :=
  match s.lif.onLine with
  | some _ => s
  | none =>
    match chooseFrame s.lif with
    | none => s
    | some l =>
      if neededGap l ≤ quiet then
        match l.current with
        | none => s
        | some c => { s with lif := { l with onLine := some (txPayload s c.frame), sent := 0 } }
      else s

/-- The set-aside frame becomes current again when the current one is done (R150). -/
def nextCurrent (s : State) : State := s.modLif fun l => { l with current := l.setAside, setAside := none }

/-- Remove the first equal frame of a list. -/
def dropFirst (f : TxFrame) : List TxFrame → List TxFrame
  | [] => []
  | x :: rest => if x = f then rest else x :: dropFirst f rest

/-- R151: Permit Control withdraws its CLAIM: it is removed from the FIFO, discarded where it waits after a collision,
or marked when it is on the line. -/
def withdrawFrame (permit : Word32) (s : State) : State :=
  let f := TxFrame.claim permit
  s.modLif fun l => { l with
    fifo := dropFirst f l.fifo
    roomFreed := l.roomFreed || decide (f ∈ l.fifo)
    current := match l.current with
      | some c => if c.frame = f then (if l.onLine.isSome then some { c with withdrawn := true } else none) else some c
      | none => none
    setAside := match l.setAside with
      | some c => if c.frame = f then none else some c
      | none => none }

/-! ### Peer table (R162, R163) -/

/-- Put an entry at its place in station order, replacing the station's entry (R162). -/
def upsertPeer (e : Peer) : List Peer → List Peer
  | [] => [e]
  | p :: rest =>
    if p.station < e.station then p :: upsertPeer e rest
    else if p.station = e.station then e :: rest
    else e :: p :: rest

/-- R140: a peer's draw is not kept. -/
def keptDemand (e : HeaderEntry) : PeerDemand := ⟨e.header, e.demand⟩

/-- R162: a frame of any kind refreshes its station's entry; a STATUS also replaces its halt flag and header entries,
or creates the entry. -/
def tablePeer (sender : Nat) (p : Payload) (s : State) : State :=
  match p with
  | .status _ flags _ entries =>
    s.modLif fun l => { l with
      peers := upsertPeer ⟨sender, .fresh, s.now, hasBit flags.toNat 0, entries.map keptDemand⟩ l.peers }
  | _ => s.modLif fun l => { l with
      peers := l.peers.map fun e => if e.station = sender then { e with age := .fresh, heardAt := s.now } else e }

/-- A peer entry of this station, of this age. -/
def Peer.isAt (station : Nat) (age : Age) (e : Peer) : Bool := decide (e.station = station) && decide (e.age = age)

/-- The entry of a station in the peer table. -/
def State.peer (s : State) (station : Nat) : Option Peer := s.lif.peers.find? fun e => e.station == station

/-- An entry that becomes SILENT at 6 s and is not removed (R163): a demand above 0 on any header, or the halt flag. -/
def Peer.keeps (e : Peer) : Bool := e.halt || e.entries.any fun h => decide (0 < h.demand)

/-! ### Rack time (R165, R166) -/

/-- R166: adoption of a peer's time from a STATUS with the time-set flag; the second timer restarts. -/
def adoptRackTime (p : Payload) (s : State) : State :=
  match p with
  | .status _ flags time _ =>
    if hasBit flags.toNat 1 && adoptTime s.lif.timeSet s.lif.time.toNat time.toNat then
      s.modLif fun l => { l with time := time, timeSet := true, second := some (s.now + Config.secondTime) }
    else s
  | _ => s

/-- R165: a set rack time advances by one second and stays at its greatest value. -/
def nextSecond (l : Lif) : Word32 := if l.time = BitVec.allOnes 32 then l.time else l.time + 1

end Sys2Proof.Machine
end

