-- ==== Sys2Proof/Machine/Printing.lean ====
section
/-! DEFINITION. The text rendering of a note (R182) and of a config fault (R207), and the printer port's lines. -/

namespace Sys2Proof.Machine

open Sys2Proof.Config (PrintLine)

/-- Whole litres as printed (R182): half a litre rounds up. -/
def printedLitres (mL : Nat) : Nat := (mL + 500) / 1000

/-- A rack time as printed (R182). -/
def timeLine (isEnd : Bool) (t : Nat) : PrintLine :=
  .time isEnd (t / 86400) (t % 86400 / 3600) (t % 3600 / 60) (t % 60)

/-- A weighted temperature as printed (R182). -/
def temperatureLine (t : Int) : PrintLine := .temperature (decide (t < 0)) (t.natAbs / 100) (t.natAbs % 100)

/-- The line of an additive line at an offset of a note (Table 12-7). -/
def additiveLineAt (b : List Byte) (off : Nat) : PrintLine :=
  let w := fieldNat b off 2
  let x := fieldNat b (off + 2) 4
  .additive (x / 536870912 + 1) (w % 8192) (x % 134217728) (fieldNat b (off + 6) 4) (w / 8192 % 4)

/-- The printed lines of a compartment line at an offset of a note (R182, Table 12-6); a line with no compartment
record, which has no temperature, prints its order and end reason only. An absent lane prints as 0 (log 9). -/
def compartmentLines (b : List Byte) (off : Nat) : List PrintLine :=
  let order := PrintLine.order (fieldNat b off 1) (fieldNat b (off + 1) 1) (fieldNat b (off + 2) 1 / 16) (fieldNat b (off + 4) 2)
  let reason := PrintLine.ended (fieldNat b (off + 3) 1 / 4)
  let gross := fieldNat b (off + 6) 4
  let std := fieldNat b (off + 10) 4
  let code := fieldNat b (off + 2) 1 % 16
  let count := fieldNat b (off + 18) 2
  if fieldNat b (off + 14) 2 = 0x8000 then [order, reason]
  else
    [order, reason, .gross gross (printedLitres gross), .standard std (printedLitres std),
      temperatureLine (signed16 (fieldNat b (off + 14) 2))] ++
    ((List.range 10).filter (hasBit (fieldNat b (off + 16) 2))).map PrintLine.lineFlag ++
    (if code ≠ 0 ∨ 0 < count then [.pulses code count] else []) ++
    (List.range (fieldNat b (off + 3) 1 % 4)).map fun k => additiveLineAt b (off + 22 + 10 * k)

/-- The printed lines of `count` compartment lines from an offset on. -/
def allCompartments (b : List Byte) : (count off : Nat) → List PrintLine
  | 0, _ => []
  | n + 1, off => compartmentLines b off ++ allCompartments b n (off + 22 + 10 * (fieldNat b (off + 3) 1 % 4))

/-- The lines of a note's text rendering, in order (R182). The rule's table gives what each part shows; that the start
and the end time have a line each, and each set flag one, is the model's (log 9). -/
def printLines (b : List Byte) (copy : Bool) : List PrintLine :=
  [.heading copy, .number (fieldNat b 7 1) (fieldNat b 1 4),
    .parties (fieldNat b 8 4) (fieldNat b 12 4) (fieldNat b 16 4),
    timeLine false (fieldNat b 20 4), timeLine true (fieldNat b 24 4)] ++
  ((List.range 5).filter (hasBit (fieldNat b 28 1))).map PrintLine.tripFlag ++
  allCompartments b (fieldNat b 29 1 / 16) 30 ++
  ((noteTotals b).map fun (i, g, t) => PrintLine.totals (i.val + 1) g.toNat t.toNat) ++
  [.blank, .dashes]

/-- A printable character of the ASCII set. -/
def printable (c : Char) : Bool := decide (32 ≤ c.toNat) && decide (c.toNat ≤ 126)

/-- The decimal digits of a number. -/
def digits (n : Nat) : List Char := (toString n).toList

/-- Degrees with two decimals and a sign when negative (R182). -/
def degreeText (negative : Bool) (degrees hundredths : Nat) : List Char :=
  (if negative then ['-'] else []) ++ digits degrees ++ ['.'] ++ digits (hundredths / 10) ++ digits (hundredths % 10)

/-- The name of a trip flag by its bit (Table 12-5). -/
def tripFlagName : Nat → String
  | 0 => "ISOLATED-CLAIM" | 1 => "TIME-UNSET" | 2 => "HALT-OVERRIDE" | 3 => "LEAK" | _ => "RECOVERED"

/-- The name of a compartment flag by its bit (Table 12-6). -/
def lineFlagName : Nat → String
  | 0 => "CLAMPED" | 1 => "OVERRUN" | 2 => "VALVE-LEAK" | 3 => "TEMP-HELD" | 4 => "TEMP-DEFAULT" | 5 => "TEMP-CLAMPED"
  | 6 => "OVERSPEED" | 7 => "PHASE-REVERSED" | 8 => "LAPSE-IN-CLOSING" | _ => "INJECTOR-LEAK"

/-- The words for a code that no table defines: a free value (log 9). -/
def unknownText (code : Nat) : List Char := ((Config.codeText code).filter printable).take 22

/-- An end reason by its code, or the refusal reason of a REFUSED line (12.3). -/
def reasonText (code : Nat) : List (List Char) :=
  match code with
  | 1 => ["PRESET".toList]
  | 2 => ["DRIVER".toList]
  | 3 => ["LAPSE".toList]
  | 4 => ["ARM".toList]
  | 5 => ["HALT".toList]
  | 6 => ["NO-FLOW".toList]
  | 7 => ["PULSE-FAULT".toList]
  | 8 => ["ADDITIVE-FAULT".toList]
  | 9 => ["POWER-LOST".toList]
  | 10 => ["NOT-LOADED".toList]
  | 17 => ["REFUSED".toList, "COMPARTMENT-INVALID".toList]
  | 18 => ["REFUSED".toList, "DUPLICATE-COMPARTMENT".toList]
  | 19 => ["REFUSED".toList, "PRODUCT-NOT-AT-BAY".toList]
  | 20 => ["REFUSED".toList, "CLASS-NOT-PERMITTED".toList]
  | 21 => ["REFUSED".toList, "PRESET-TOO-SMALL".toList]
  | 22 => ["REFUSED".toList, "RECIPE-WITHDRAWN".toList]
  | 23 => ["REFUSED".toList, "RECIPE-NOT-SERVABLE".toList]
  | n => [unknownText n]

/-- A pulse fault code, if there is one (R88, Table 12-6). -/
def pulseText (code : Nat) : List (List Char) :=
  match code with
  | 0 => []
  | 1 => ["A-MISSING".toList]
  | 2 => ["B-MISSING".toList]
  | 3 => ["PHASE-REVERSED".toList]
  | 4 => ["DIFFERENCE".toList]
  | n => [unknownText n]

/-- The status of an additive line by its code (Table 12-7). -/
def doseText : Nat → String
  | 0 => "OK" | 1 => "UNDER" | 2 => "OVER" | _ => "FAULT"

/-- What a line shows, in order (R182), with its kind; none for the heading and the blank line, which are given whole. The lane's
number at the front of a totals line, for which R182's table gives the two totalizers only, and the name of a pulse fault, with
nothing in its place where there is none, are the model's choice (log 9). -/
def lineItems : PrintLine → Option (Config.LineKind × List (List Char))
  | .number station note => some (.number, [digits station, digits note])
  | .parties permit driver tanker => some (.parties, [digits permit, digits driver, digits tanker])
  | .time isEnd day h m s =>
    some (if isEnd then .endTime else .startTime, [digits day, digits h, digits m, digits s])
  | .tripFlag b => some (.tripFlag, [(tripFlagName b).toList])
  | .order c p lane preset => some (.order, [digits c, digits p, digits lane, digits preset])
  | .ended reason => some (.ended, reasonText reason)
  | .gross mL litres => some (.gross, [digits mL, digits litres])
  | .standard mL litres => some (.standard, [digits mL, digits litres])
  | .temperature negative degrees hundredths => some (.temperature, [degreeText negative degrees hundredths])
  | .lineFlag b => some (.lineFlag, [(lineFlagName b).toList])
  | .pulses code count => some (.pulses, pulseText code ++ [digits count])
  | .additive injector ratio target delivered status =>
    some (.additive, [digits injector, digits ratio, digits target, digits delivered, (doseText status).toList])
  | .totals lane gross standard => some (.totals, [digits lane, digits gross, digits standard])
  | .heading _ => none
  | .blank => none
  | .dashes => none

/-- What a line shows with the words between and after, which are free values (log 9); the words take at most `room`
characters in all, so that the line stays within its 40. -/
def weave (kind : Config.LineKind) : (room gap : Nat) → List (List Char) → List Char
  | room, gap, [] => ((Config.lineWords kind gap).filter printable).take room
  | room, gap, x :: rest =>
    let w := ((Config.lineWords kind gap).filter printable).take room
    w ++ x ++ weave kind (room - w.length) (gap + 1) rest

/-- The line of dashes that ends a note (R182): at least two, at most 40; how many more than two is a free value (log 9). -/
def dashLine : List Char := List.replicate (2 + min 38 (Config.lineWords .dashes 0).length) '-'

/-- The characters of one line (R182): at most 40, each printable. -/
def lineChars (p : PrintLine) : List Char :=
  match p, lineItems p with
  | _, some (kind, items) => weave kind (40 - (items.map List.length).sum) 0 items
  | .heading copy, none => "DELIVERY NOTE".toList ++ (if copy then " COPY".toList else [])
  | .dashes, none => dashLine
  | _, none => []

/-- The end of a printed line: a carriage return and a line feed (R182). -/
def lineEnd : List Char := [Char.ofNat 13, Char.ofNat 10]

/-- The text rendering of a note (R182). -/
def noteText (b : List Byte) (copy : Bool) : List Char := (printLines b copy).flatMap fun p => lineChars p ++ lineEnd

/-- The printed line of a config fault (R207), its parts set apart by single spaces (log 9); codes 10 to 13 have no table
and no entry. -/
def faultText (code entry : Nat) (table : String) : List Char :=
  "CONFIG FAULT ".toList ++ (toString code).toList ++
  (if code ≤ 9 then " ".toList ++ table.toList ++ " ".toList ++ (toString entry).toList else []) ++ lineEnd

end Sys2Proof.Machine
end

