-- ==== Sys2Proof/Machine/NoteBuilder.lean ====
section
/-! DEFINITION. The Note Builder's operations (Chapter 9): building and offering a note, status requests, printing,
reprints, and serving notes on the line. -/

namespace Sys2Proof.Machine

/-! ### Building (R174, R175) -/

/-- The 128 bytes of a note page, filled out with zero bytes past the note's end (R175). -/
def pageBytes (image : List Byte) (page : Nat) : List Byte :=
  let b := field image (128 * (page - 1)) 128
  b ++ List.replicate (128 - b.length) 0

/-- R175: pages are offered in order, the next as soon as one is accepted; a note has at most four. -/
def offerPages : Nat → State → State
  | 0, s => s
  | n + 1, s =>
    match s.ntb.build with
    | none => s
    | some b =>
      if b.accepted < b.pages then
        match enqueue ⟨.notePage b.number (b.accepted + 1) (pageBytes b.image (b.accepted + 1)), false⟩ s with
        | (true, t) => offerPages n (t.modNtb fun x => { x with build := some { b with accepted := b.accepted + 1 } })
        | (false, t) => t
      else s

/-- The most pages a note has (R174). -/
def maxPages : Nat := 4

/-- The lane totals that a note carries (R173). -/
def State.totals (s : State) (i : LaneNo) : Word48 × Word48 := ((s.lane i).ven.totGross, (s.lane i).ven.totStd)

/-- R174: NTB takes the next note number, fills the note, enters WRITING and offers the first pages. -/
def beginNote (h : NoteHead) (lines : List OrderLine) (recovered : Bool) (s : State) : State :=
  let image := noteImage h lines s.totals (if recovered then stampNone else stampPending) printQueued
  offerPages maxPages (s.modNtb fun x => { x with
    build := some {
      image := image
      number := h.number
      pages := pagesOf (noteLength lines)
      recovered := recovered
      permit := h.permit
      endTime := h.endTime
      loaded := (lines.filter (·.record.isSome)).length } })

/-- A line is ENDED or REFUSED (R23, R174). -/
def LineStatus.finished : LineStatus → Bool
  | .ended _ => true
  | .refused _ => true
  | _ => false

/-- Every order line of the trip is ENDED or REFUSED. -/
def State.allFinished (s : State) : Bool := s.lines.all fun l => l.status.finished

/-- R170: the header of a trip's note. -/
def tripHead (t : Trip) (number station : Nat) : NoteHead where
  number := number
  station := station
  permit := t.permit
  driver := t.driver
  tanker := t.tanker
  startTime := t.startTime
  endTime := t.endTime
  flags := t.flags

/-- R174: the note of the trip is built when the slot is CLOSING and every line is ENDED or REFUSED. -/
def tryBuild (s : State) : State :=
  match s.pct.trip, s.ntb.build with
  | some t, none =>
    if s.pct.slot = .closing ∧ s.allFinished then
      beginNote (tripHead t s.ntb.next s.lif.station) t.lines false s
    else s
  | _, _ => s

/-! ### Status updates (R179) -/

/-- R179: a request joins the tail of the status list, or is dropped while the list holds 8. -/
def joinStatus (r : StatusReq) (s : State) : State :=
  if s.ntb.statusList.length < Config.statusListSize then s.modNtb fun x => { x with statusList := x.statusList ++ [r] }
  else s

/-- R179: a status request is offered, and joins the list if the list is not empty or the queue refuses it. -/
def requestStatus (note : Nat) (f : StatusField) (code : Nat) (s : State) : State :=
  if s.ntb.statusList = [] then
    match enqueue ⟨.noteStatus note f code, false⟩ s with
    | (true, t) => t
    | (false, t) => joinStatus ⟨note, f, code⟩ t
  else joinStatus ⟨note, f, code⟩ s

/-- R179: at a report of a free slot the list is offered from its head until one is refused. -/
def offerStatuses : Nat → State → State
  | 0, s => s
  | n + 1, s =>
    match s.ntb.statusList with
    | [] => s
    | r :: rest =>
      match enqueue ⟨.noteStatus r.note r.field r.code, false⟩ s with
      | (true, t) => offerStatuses n (t.modNtb fun x => { x with statusList := rest })
      | (false, t) => t

/-- R175, R179: NTB's held offers at a report of a free slot: pages first, then the status list. -/
def ntbFreeSlot (s : State) : State := offerStatuses Config.statusListSize (offerPages maxPages s)

/-! ### Printing (R180, R181) -/

/-- R181: with nothing on the wire and BUSY released, the port sends the next character. -/
def sendNext (s : State) : State :=
  match s.ntb.port.wire, s.ntb.port.chars with
  | none, c :: rest =>
    if s.ntb.port.busy then s
    else s.modNtb fun x => { x with port := { x.port with wire := some c, chars := rest } }
  | _, _ => s

/-- R181: the head entry's print begins; a BUSY already asserted starts the BUSY timer. -/
def beginPrint (s : State) : State :=
  match s.ntb.prints with
  | [] => s
  | e :: _ =>
    sendNext (s.modNtb fun x => { x with port := { x.port with
      chars := noteText e.image e.reprint
      timer := if x.port.busy then some (s.now + Config.busyTime) else none } })

/-- R180: a note joins the print queue; before start-up completes nothing is printed. -/
def joinPrints (e : PrintEntry) (s : State) : State :=
  match s.ntb.prints with
  | [] =>
    let t := s.modNtb fun x => { x with prints := [e] }
    if s.sul.done then beginPrint t else t
  | [h] => s.modNtb fun x => { x with prints := [h, e] }
  | h :: w :: _ =>
    let t := s.modNtb fun x => { x with prints := [h, e] }
    if w.reprint then t else requestStatus w.number .print printSkipped t

/-- R181: the head leaves the queue with its outcome, and the next entry's printing begins. -/
def finishPrint (code : Nat) (s : State) : State :=
  match s.ntb.prints with
  | [] => s
  | h :: rest =>
    beginPrint (requestStatus h.number .print code
      (s.modNtb fun x => { x with prints := rest, port := { x.port with chars := [], timer := none } }))

/-! ### Announcing (R177) -/

/-- R177: a NOTE-READY is offered once; a newer one replaces one that is held. -/
def noteReady (note permit : Word32) (s : State) : State :=
  match offerFrame (.noteReady note permit) s with
  | (true, t) => t
  | (false, t) => t.modNtb fun x => { x with heldReady := some (note, permit) }

/-- R177: the held NOTE-READY is offered again at a report of room. -/
def offerReady (s : State) : State :=
  match s.ntb.heldReady with
  | none => s
  | some (n, p) =>
    match offerFrame (.noteReady n p) s with
    | (true, t) => t.modNtb fun x => { x with heldReady := none }
    | (false, t) => t

/-! ### Serving (R184 to R186) -/

/-- Segments of a note (R186). -/
def segmentCount (length : Nat) : Nat := length / 48 + (if length % 48 = 0 then 0 else 1)

/-- R186: the NOTE-PART of segment `k`; without a copy, the ABSENT answer. -/
def segmentFrame (a : Ask) (image : Option (List Byte)) (k : Nat) : TxFrame :=
  match image with
  | none => .notePart a.requester a.note 0 1 false []
  | some b => .notePart a.requester a.note k (segmentCount b.length) true (field b (48 * k) 48)

/-- The segments of an answer. -/
def answerCount (image : Option (List Byte)) : Nat :=
  match image with
  | none => 1
  | some b => segmentCount b.length

/-- R185: a note that is absent without a read: number 0, or a number not yet sealed. -/
def unsealed (s : State) (note : Nat) : Bool := decide (note = 0) || decide (s.ntb.next ≤ note)

/-- R185, R186: serving goes on as far as the transmit FIFO takes its segments. -/
def serve : Nat → State → State
  | 0, s => s
  | n + 1, s =>
    match s.ntb.serving, s.ntb.asks with
    | .idle, [] => s
    | .idle, a :: _ =>
      if unsealed s a.note.toNat then serve n (s.modNtb fun x => { x with serving := .sending none 0 })
      else askRead .ask (slotPage (a.note.toNat % Config.noteSlots) 1) (s.modNtb fun x => { x with serving := .reading [] 0 })
    | .reading _ _, _ => s
    | .sending _ _, [] => s.modNtb fun x => { x with serving := .idle }
    | .sending image k, a :: rest =>
      match offerFrame (segmentFrame a image k) s with
      | (false, t) => t
      | (true, t) =>
        if k + 1 < answerCount image then serve n (t.modNtb fun x => { x with serving := .sending image (k + 1) })
        else serve n (t.modNtb fun x => { x with asks := rest, serving := .idle })

/-- Steps that cover four asks of eleven segments each. -/
def serveSteps : Nat := 64

/-- R184: an ask is taken into the queue: a duplicate and an ask that meets a full queue are dropped. -/
def takeAsk (a : Ask) (s : State) : State :=
  if a ∈ s.ntb.asks then s
  else if Config.askSize ≤ s.ntb.asks.length then s
  else
    let t := s.modNtb fun x => { x with asks := x.asks ++ [a] }
    match s.ntb.serving with
    | .idle => serve serveSteps t
    | _ => t

/-- R177, R186: NTB's held frames at a report of room: NOTE-READY first. -/
def ntbRoom (s : State) : State :=
  let t := offerReady s
  match t.ntb.serving with
  | .sending _ _ => serve serveSteps t
  | _ => t

/-- The further pages of a note that its first page calls for (R185). That none are read for a length outside 34..498, of which
no note is, is the model's choice (log 46). -/
def furtherPages (page : List Byte) : Nat := if lengthFieldOk page then pagesOf (noteLengthField page) - 1 else 0

/-- The image of a note read, when it passes the test of R185. -/
def readNote (number : Nat) (bytes : List Byte) : Option (List Byte) :=
  if notePresent number bytes then some (bytes.take (noteLengthField bytes)) else none

/-- R185: a page of the slot of the head ask has been read. -/
def askPage (page : List Byte) (s : State) : State :=
  match s.ntb.serving, s.ntb.asks with
  | .reading bytes left, a :: _ =>
    let more := if bytes = [] then furtherPages page else left - 1
    if more = 0 then
      serve serveSteps (s.modNtb fun x => { x with serving := .sending (readNote a.note.toNat (bytes ++ page)) 0 })
    else
      let t := s.modNtb fun x => { x with serving := .reading (bytes ++ page) more }
      if bytes = [] then askPages .ask (slotPage (a.note.toNat % Config.noteSlots) 2) more t else t
  | _, _ => s

/-! ### Reprints (R183) -/

/-- R183: a reprint of the newest note is asked for. -/
def askReprint (s : State) : State :=
  if s.ntb.next ≤ 1 ∨ s.ntb.reprint.isSome ∨ s.ntb.prints.any (fun e => e.number == s.ntb.next - 1) then s
  else askRead .reprint (slotPage ((s.ntb.next - 1) % Config.noteSlots) 1)
    (s.modNtb fun x => { x with reprint := some ⟨s.ntb.next - 1, [], 0⟩ })

/-- R183: a page of the newest note's slot has been read. -/
def reprintPage (page : List Byte) (s : State) : State :=
  match s.ntb.reprint with
  | none => s
  | some r =>
    let more := if r.bytes = [] then furtherPages page else r.left - 1
    if more = 0 then
      let t := s.modNtb fun x => { x with reprint := none }
      match readNote r.number (r.bytes ++ page) with
      | none => t
      | some image => joinPrints ⟨image, r.number, true⟩ t
    else
      let t := s.modNtb fun x => { x with reprint := some { r with bytes := r.bytes ++ page, left := more } }
      if r.bytes = [] then askPages .reprint (slotPage (r.number % Config.noteSlots) 2) more t else t

end Sys2Proof.Machine
end

