-- ==== Sys2Proof/Machine/Permit.lean ====
section
/-! DEFINITION. Permit Control's operations (Chapter 1): frames and marker requests it may hold, refusals, validation, the
claim, the stamp and its WRITE. -/

namespace Sys2Proof.Machine

/-! ### Frames and marker requests (R14, R21) -/

/-- A HELD frame. -/
def TxFrame.isHeld : TxFrame → Bool
  | .held _ _ => true
  | _ => false

/-- R14: a frame that the FIFO refuses is kept, up to 24; a HELD equal to one kept is met by that one. -/
def pctSend (f : TxFrame) (s : State) : State :=
  if f.isHeld ∧ f ∈ s.pct.held then s
  else
    match offerFrame f s with
    | (true, t) => t
    | (false, t) =>
      if t.pct.held.length < Config.heldFrames then t.modPct fun p => { p with held := p.held ++ [f] } else t

/-- R14: at a report of room the kept frames are offered from the head until one is refused. -/
def pctRoom : Nat → State → State
  | 0, s => s
  | n + 1, s =>
    match s.pct.held with
    | [] => s
    | f :: rest =>
      match offerFrame f s with
      | (true, t) => pctRoom n (t.modPct fun p => { p with held := rest })
      | (false, t) => t

/-- R21: a TRIP-MARK request that the queue refuses, or that finds earlier ones held, is held, up to 4. -/
def pctMark (r : WriteReq) (s : State) : State :=
  let hold := fun t : State =>
    if t.pct.heldMarks.length < Config.heldMarks then t.modPct fun p => { p with heldMarks := p.heldMarks ++ [r] } else t
  if s.pct.heldMarks = [] then
    match enqueue ⟨r, false⟩ s with
    | (true, t) => t
    | (false, t) => hold t
  else hold s

/-- R21: at a report of a free slot the held markers are offered from the head until one is refused. -/
def pctFreeSlot : Nat → State → State
  | 0, s => s
  | n + 1, s =>
    match s.pct.heldMarks with
    | [] => s
    | r :: rest =>
      match enqueue ⟨r, false⟩ s with
      | (true, t) => pctFreeSlot n (t.modPct fun p => { p with heldMarks := rest })
      | (false, t) => t

/-! ### Refusals (R6, R13, R44) -/

/-- R44: ATTEND's refusal pulse: not lengthened while one runs, and none while the config fault code is showing. -/
def refusalPulse (s : State) : State :=
  if s.ilm.pulse.isNone ∧ s.ilm.pattern.isNone then s.modIlm fun m => { m with pulse := some (s.now + Config.lampTime) }
  else s

/-- R6: REFUSED to the reader (Table 12-14), and ATTEND's pulse. -/
def refuseCard (r : CardRefusal) (s : State) : State := refusalPulse (s.emit (.reader (refusedMessage r)))

/-- R13: the refusal of the whole trip. -/
def refuseTrip (r : CardRefusal) (s : State) : State :=
  refuseCard r (s.modPct fun p => { p with slot := .empty, trip := none, heard := false, claimWindow := none })

/-! ### Validation (R8 to R12) -/

/-- R10 step 3, R11: a fitted lane carries a product. -/
def carries (s : State) (product : Nat) (i : LaneNo) : Bool :=
  match s.laneCfg i with
  | none => false
  | some c => c.product == product

/-- R11: the lowest-numbered fitted lane that carries a product. -/
def laneFor (s : State) (product : Nat) : Option LaneNo := allLanes.find? (carries s product)

/-- R10 step 4: the product's class is in the class set. -/
def classOk (s : State) (classes : BitVec 16) (product : Nat) : Bool :=
  match entryOf s.cfg.products product with
  | none => false
  | some p => classes.getLsbD p.cls

/-- R10 step 1. -/
def compartmentOk (count c : Nat) : Bool := decide (1 ≤ c) && decide (c ≤ count)

/-- R10, R11: the checks of one line after the lines checked before it. -/
def checkLineOf (s : State) (classes : BitVec 16) (count : Nat) (before : List OrderLine) (l : OrderLine) : OrderLine :=
  let refuse := fun (x : OrderLine) r => { x with status := .refused r }
  if !compartmentOk count l.compartment then refuse l .compartmentInvalid
  else if before.any fun e => e.compartment == l.compartment then refuse l .duplicateCompartment
  else
    match laneFor s l.product with
    | none => refuse l .productNotAtBay
    | some i =>
      if !classOk s classes l.product then refuse l .classNotPermitted
      else
        let x := { l with lane := some i }
        if l.preset < 50 then refuse x .presetTooSmall
        else
          match resolveRecipe s l.recipe i with
          | .error r => refuse x r
          | .ok ds => { x with doses := ds, status := .waiting }

/-- R10: the lines one at a time, in card order. -/
def checkLines (s : State) (classes : BitVec 16) (count : Nat) : (before rest : List OrderLine) → List OrderLine
  | before, [] => before
  | before, l :: rest => checkLines s classes count (before ++ [checkLineOf s classes count before l]) rest

/-- R12: a preset above its compartment's capacity is replaced by the capacity. -/
def clampLine (capacities : List Nat) (l : OrderLine) : OrderLine :=
  match capacities[l.compartment - 1]? with
  | none => l
  | some c => if l.status = .waiting ∧ c < l.preset then { l with preset := c, clamped := true } else l

/-- R10 to R12: the lines of a trip, checked and clamped. -/
def validatedLines (s : State) (t : Trip) : List OrderLine :=
  (checkLines s t.classSet t.capacities.length [] t.lines).map (clampLine t.capacities)

/-- R169: numbering is exhausted. -/
def State.exhausted (s : State) : Bool := decide (Config.noteTop ≤ s.ntb.next)

/-- R8, R169: the bay itself refuses. -/
def bayRefusal (s : State) : Option CardRefusal :=
  if s.configFault || s.exhausted then some .bayFault
  else if s.ilm.leakAlarm then some .leakAlarm
  else none

/-- R9: the date check; today is rack time div 86,400. -/
def dateRefusal (s : State) (t : Trip) : Option CardRefusal :=
  if !s.lif.timeSet then none
  else if t.expiryDay < s.lif.time.toNat / 86400 then some .expired
  else if s.lif.time.toNat / 86400 < t.issueDay then some .notYetValid
  else none

/-- R18: the slot enters AUTHORIZED, the authorization timer starts, and the lanes make the priming check (R48). -/
def enterAuthorized (s : State) : State :=
  (s.modPct fun p => { p with slot := .authorized, claimWindow := none, authTimer := some (s.now + Config.authTime) }).eachLane
    primingCheck

/-- R14: the claim of a validated trip: on the line in RUN, otherwise the isolated grant. -/
def startClaim (permit : Word32) (s : State) : State :=
  if s.lif.link = .run then
    pctSend (.claim permit) (s.modPct fun p => { p with slot := .claiming, heard := false })
  else enterAuthorized (s.modTripFlags fun f => { f with isolatedClaim := true })

/-- R3, R8 to R14: a block that has passed intake becomes the trip record and is validated. READY goes dark at CHECKING, for
a card that is then refused too (R43). -/
def takeTrip (t : Trip) (s : State) : State :=
  let s1 := refreshLamps (s.modPct fun p => { p with slot := .checking, trip := some t })
  match bayRefusal s with
  | some r => refuseTrip r s1
  | none =>
    match dateRefusal s t with
    | some r => refuseTrip r s1
    | none =>
      let ls := validatedLines s t
      let s2 := s1.modTrip fun u => { u with lines := ls, flags := { u.flags with timeUnset := !s.lif.timeSet } }
      if ls.any fun l => l.status = .waiting then startClaim t.permit s2 else refuseTrip .noLines s2

/-! ### The claim (R15 to R20) -/

/-- R15, R17, R18: own CLAIM is withdrawn, wherever it waits. -/
def withdrawClaim (permit : Word32) (s : State) : State :=
  withdrawFrame permit (s.modPct fun p => { p with held := dropFirst (.claim permit) p.held })

/-- The slot is CLAIMING on this permit. -/
def claimingOn (s : State) (permit : Word32) : Bool :=
  decide (s.pct.slot = .claiming) && decide (s.permit = some permit)

/-- The permit is held by this bay (R20): from AUTHORIZED on, or from the echo of own CLAIM. -/
def holdsPermit (s : State) (permit : Word32) : Bool :=
  decide (s.permit = some permit) &&
  (match s.pct.slot with
    | .authorized => true
    | .released => true
    | .closing => true
    | .awaitStamp => true
    | .claiming => s.pct.heard
    | _ => false)

/-- R15, R16, R20: a CLAIM heard from another station. -/
def hearClaim (sender : Nat) (permit : Word32) (s : State) : State :=
  if claimingOn s permit ∧ !s.pct.heard then refuseTrip .inUse (withdrawClaim permit s)
  else if holdsPermit s permit then pctSend (.held permit sender) s
  else s

/-- R17: a HELD heard. -/
def hearHeld (permit : Word32) (s : State) : State :=
  if claimingOn s permit then
    refuseTrip .inUse (if s.pct.heard then s else withdrawClaim permit s)
  else s

/-- R16: own CLAIM is heard back, and the claim window starts. The echo of a withdrawn CLAIM that meets a slot CLAIMING anew on
the same permit counts as own CLAIM heard back (log 37). -/
def claimEcho (permit : Word32) (s : State) : State :=
  if claimingOn s permit ∧ !s.pct.heard then
    s.modPct fun p => { p with heard := true, claimWindow := some (s.now + Config.claimTime) }
  else s

/-- R19: own CLAIM was discarded after its eighth collision. -/
def claimDiscarded (permit : Word32) (s : State) : State :=
  if claimingOn s permit ∧ !s.pct.heard then refuseTrip .lineBusy s else s

/-- R18: the link has entered HELD-LINE or MUTE before own CLAIM has been heard back. -/
def claimCutOff (s : State) : State :=
  match s.permit with
  | none => s
  | some p =>
    if s.pct.slot = .claiming ∧ !s.pct.heard then refuseTrip .lineBusy (withdrawClaim p s) else s

/-! ### The stamp (R24 to R27) -/

/-- The slot returns to EMPTY from AWAIT-STAMP, and the trip record is discarded (R26). -/
def slotEmpty (s : State) : State :=
  s.modPct fun p => { p with slot := .empty, trip := none, stamp := none, stampWindow := none, heard := false }

/-- A WRITE of a stamp is sent (Table 12-14) and the reply timer starts (R26, R27). -/
def sendWrite (kind : WriteOf) (stamp : Stamp) (s : State) : State :=
  (s.emit (.reader (writeMessage stamp.bytes))).modPct fun p =>
    { p with write := some kind, replyTimer := some (s.now + Config.replyTime) }

/-- R26: WRITE of the trip's stamp; the stamp window stops. -/
def writeTripStamp (s : State) : State :=
  match s.pct.stamp with
  | none => s
  | some st => sendWrite .trip st (s.modPct fun p => { p with stampWindow := none })

/-- R27: WRITE of the pending stamp. -/
def writePending (s : State) : State :=
  match s.pct.pendingStamp with
  | none => s
  | some st => sendWrite .pendingStamp st s

/-- R26, R27: the trip's stamp enters the pending slot with its lifetime, and the trip slot returns to EMPTY. -/
def stampToPending (s : State) : State :=
  slotEmpty (s.modPct fun p => { p with
    pendingStamp := p.stamp
    lifetime := some (s.now + Config.lifetime)
    lifetimeHeld := false })

/-- The pending slot is emptied (R27). -/
def clearPending (s : State) : State :=
  s.modPct fun p => { p with pendingStamp := none, lifetime := none, lifetimeHeld := false }

/-- R27: the pending stamp is dropped and its note's stamp status lapses. -/
def lapsePending (s : State) : State :=
  match s.pct.pendingStamp with
  | none => s
  | some st => requestStatus st.note .stamp stampLapsed (clearPending s)

/-- The WRITE outstanding has its reply (R1). -/
def endWrite (s : State) : State := s.modPct fun p => { p with write := none, replyTimer := none }

/-- R26, R27: WRITE-DONE. -/
def writeSucceeded (s : State) : State :=
  match s.pct.write with
  | none => s
  | some .trip =>
    match s.pct.stamp with
    | none => endWrite s
    | some st => requestStatus st.note .stamp stampStamped (slotEmpty (endWrite s))
  | some .pendingStamp =>
    match s.pct.pendingStamp with
    | none => endWrite s
    | some st => requestStatus st.note .stamp stampStamped (clearPending (endWrite s))
  | some (.displaced n) => requestStatus n .stamp stampStamped (endWrite s)

/-- R26, R27: WRITE-FAIL, or the expiry of the reply timer. -/
def writeFailed (s : State) : State :=
  match s.pct.write with
  | none => s
  | some .trip => stampToPending (endWrite s)
  | some .pendingStamp => if s.pct.lifetimeHeld then lapsePending (endWrite s) else endWrite s
  | some (.displaced _) => endWrite s

/-- R27: a newer note displaces the pending stamp; an outstanding WRITE of it stays outstanding for its note. -/
def displacePending (s : State) : State :=
  match s.pct.pendingStamp with
  | none => s
  | some st =>
    lapsePending (s.modPct fun p => { p with
      write := if p.write = some .pendingStamp then some (.displaced st.note) else p.write })

/-- R24, R25: the trip's note is sealed. -/
def noteSealed (b : Build) (s : State) : State :=
  match s.pct.trip with
  | none => s
  | some t =>
    let s1 := pctMark (.markClosed (closeHead t.marker)) (pctSend (.release t.permit) (displacePending s))
    s1.modPct fun p => { p with
      slot := .awaitStamp
      stampWindow := some (s.now + Config.stampTime)
      stamp := some ⟨stampBytes b.number s.lif.station b.endTime b.loaded, b.number, b.permit⟩ }

/-! ### Release (R21) -/

/-- R21: a fitted lane that is the resolved lane of a WAITING line has its ARM connected. -/
def someArm (s : State) : Bool :=
  s.lines.any fun l => decide (l.status = .waiting) && (match l.lane with
    | none => false
    | some i => s.fitted i && s.armOn i)

/-- R21: the conditions of a release event. -/
def releases (s : State) : Bool := s.whole && s.noLatch && !s.halted && someArm s

/-- R3: the trip as it stands at the release event: start time, TIME-UNSET, number, and the marker's head. -/
def releasedTrip (s : State) (t : Trip) : Trip :=
  let u : Trip := { t with
    startTime := s.takeTime
    number := s.ntb.next
    flags := { t.flags with timeUnset := t.flags.timeUnset || !s.lif.timeSet } }
  { u with marker := markHead u }

/-- R21: the release event. -/
def release (s : State) : State :=
  match s.pct.trip with
  | none => s
  | some t =>
    let u := releasedTrip s t
    pctMark (.markOpen (markLines u) u.marker)
      (s.modPct fun p => { p with slot := .released, trip := some u, authTimer := none })

end Sys2Proof.Machine
end

