-- ==== Sys2Proof/Machine/Ending.lean ====
section
/-! DEFINITION. The end of a compartment and of a trip: ENDED, hand-back, the two store requests after it, the trip's
entry to CLOSING (R23, R24, R62, R68 to R71), and opening and resuming a compartment (R50, R65). -/

namespace Sys2Proof.Machine

/-! ### Opening and resuming (R50, R65, R90, R107, R115) -/

/-- R90: PIU begins a new compartment. -/
def newPiu (p : Piu) : Piu :=
  { p with corrected := 0, overspeed := false, reversed := false, fault := none, run := 0, mark := false }

/-- R107: VEN begins a new compartment. -/
def newVen (v : Ven) : Ven := { v with grossCarry := 0, stdCarry := 0, sigma := 0, faultRun := 0, valid := false, q := 0 }

/-- R50, R115: the compartment record of a newly opened line. -/
def openRecord (l : OrderLine) : OrderLine :=
  { l with status := .active, record := some { additives := l.doses.map newAdditive } }

/-- R50: the lane's own fields at the opening of a compartment. -/
def openLane (l : Lane) : Lane :=
  { l with stage := .lowFlow, setpoint := 0, noFlow := 0, hist := [0, 0, 0, 0], piu := newPiu l.piu, ven := newVen l.ven }

/-- R50: the compartment of a lane opens. -/
def openCompartment (i : LaneNo) (s : State) : State :=
  offerCheckpoint i (steerNow i (retarget i (giveLimit i (renewInjectors i
    ((s.modHeld i openRecord).modLane i openLane)))))

/-- R65: the stage that a resumed compartment's volumes call for; none when the lane closes at once. -/
def resumeStage (c : LaneCfg) (preset gross learned : Nat) : Option Stage :=
  if closeDue preset gross learned then none
  else if gross < c.lowVolume * 1000 then some .lowFlow
  else if remaining preset gross ≤ (c.slowVolume : Int) * 1000 then some .slowdown
  else some .fullFlow

/-- R65: a lane enters a flowing stage on resume, with S from 0 and a steering decision at once. -/
def enterFlowing (i : LaneNo) (st : Stage) (s : State) : State :=
  steerNow i (retarget i (s.modLane i fun l => { l with stage := st, setpoint := 0 }))

/-- R65: a lane suspended with its compartment open resumes. -/
def resumeOpen (i : LaneNo) (s : State) : State :=
  match s.laneCfg i with
  | none => s
  | some c =>
    let t := (setStatus i .active s).modLane i fun l => { l with noFlow := 0 }
    offerCheckpoint i
      (match resumeStage c (s.preset i) (s.gross i) (s.lane i).learned with
        | none => closeDecision i .preset t
        | some st => enterFlowing i st t)

/-- R39: the lane holds a line that Permit Control has not ended. -/
def holdsOpenLine (s : State) (i : LaneNo) : Bool :=
  match s.heldLine i with
  | none => false
  | some l => match l.status with
    | .ended _ => false
    | _ => true

/-- R39: the conditions under which a lane starts or resumes. -/
def mayStart (s : State) (i : LaneNo) : Bool :=
  s.whole && !s.ilm.bayLatch && !s.laneLatched i && !s.halted && s.armOn i && holdsOpenLine s i

/-- R39, R49, R65: a START in RELEASED at one lane. -/
def startLane (i : LaneNo) (s : State) : State :=
  if mayStart s i then
    match s.stage i with
    | .primed => openCompartment i s
    | .suspended _ .primed => openCompartment i s
    | .suspended _ _ => resumeOpen i s
    | _ => s
  else s

/-! ### After the hand-back (R70) -/

/-- R70: a lane that waits in ENDED offers its TOTAL; accepted, it leaves ENDED and makes the priming check. -/
def offerTotal (i : LaneNo) (gross std : Word48) (s : State) : State :=
  match enqueue ⟨.total i gross std, false⟩ s with
  | (true, t) => primingCheck i (toIdle i (t.modLane i fun l => { l with after := .nothing }))
  | (false, t) => t.modLane i fun l => { l with after := .total gross std }

/-- R70: what a lane that waits in ENDED has to offer: its ENDED checkpoint, then its TOTAL. -/
def offerWaiting (i : LaneNo) (s : State) : State :=
  match (s.lane i).after with
  | .checkpoint k bytes gross std =>
    match enqueue ⟨.checkpoint k bytes, false⟩ s with
    | (true, t) => offerTotal i gross std t
    | (false, t) => t
  | .total gross std => offerTotal i gross std s
  | _ => s

/-- R70: a lane in ENDED makes its held offer. -/
def offerAfter (i : LaneNo) (s : State) : State := if s.stage i = .ended then offerWaiting i s else s

/-! ### Ending (R62, R68, R69, R71) -/

/-- R62: the compartment passed its preset by more than the overrun limit. -/
def overran (s : State) (i : LaneNo) : Bool :=
  match s.laneCfg i with
  | none => false
  | some c => isOverrun (s.preset i) (s.gross i) c.overrun

/-- R62, R105: what becomes final in the record at ENDED: the weighted temperature and OVERRUN. That the final weighted
temperature waits in the record between ENDED and the hand-back, at which R105 has the lane write it there, is the model's
choice (log 41): R91 gives VEN no field for it. -/
def finalRecord (s : State) (i : LaneNo) (r : CompRecord) : CompRecord :=
  { r with
    weighted := some (weightedTemp (s.lane i).ven.sigma r.gross.toNat (s.lane i).ven.window)
    flags := { r.flags with overrun := r.flags.overrun || overran s i } }

/-- R69, R88: the record at the hand-back: the end reason and the pulse fault record. -/
def handRecord (reason : EndReason) (fault : Option PulseFault) (l : OrderLine) : OrderLine :=
  { l with
    status := .ended reason
    record := l.record.map fun r => { r with endReason := some reason, pulseFault := fault } }

/-- R108, R109: the totalizers advance by a compartment's final volumes. -/
def advanceTotals (r : CompRecord) (v : Ven) : Ven :=
  { v with totGross := advanceTotal v.totGross r.gross.toNat, totStd := advanceTotal v.totStd r.std.toNat }

/-- R69, R71: the record is written, the totalizers advance, and the ENDED checkpoint and then the TOTAL are offered;
the lane holds the line no longer. -/
def handOver (i : LaneNo) (reason : EndReason) (s : State) : State :=
  match (s.lane i).line with
  | none => s
  | some k =>
    let s1 := s.modHeld i (handRecord reason (s.lane i).piu.fault)
    let s2 := s1.modVen i (advanceTotals ((s1.record i).getD {}))
    let s3 := s2.modLane i fun l => { l with closeReason := some reason }
    let bytes := ((s3.checkpointNow i).map (·.2)).getD []
    let v := (s3.lane i).ven
    offerAfter i (giveLimit i (s3.modLane i fun l =>
      { l with line := none, after := .checkpoint (k + 1) bytes v.totGross v.totStd }))

/-- R71: the lane of a SUSPENDED line that Permit Control ends. -/
def endSuspended (i : LaneNo) (s : State) : State :=
  match s.stage i with
  | .suspended cause .primed => toIdle i (setStatus i (.ended (causeReason cause)) s)
  | .suspended cause _ =>
    let t := s.modLane i fun l => { l with stage := .ended }
    handOver i (causeReason cause) (closeAllLines i (t.modRecord i (finalRecord s i)))
  | _ => s

/-- R24: one line at the trip's entry to CLOSING. -/
def closeLineOf (k : Nat) (s : State) : State :=
  match s.lines[k]? with
  | none => s
  | some l =>
    match l.status, l.lane with
    | .waiting, lane =>
      let t := s.modLine k fun x => { x with status := .ended .notLoaded }
      match lane with
      | none => t
      | some i => if (s.lane i).line = some k then toIdle i t else t
    | .suspended _, some i => endSuspended i s
    | _, _ => s

/-- R24: the trip enters CLOSING: the end time, the WAITING and SUSPENDED lines, and the hand to NTB. The lines are ended in
card order, so that the ENDED checkpoint and TOTAL of an earlier line are offered first; R24 gives no order (log 25). -/
def enterClosing (s : State) : State :=
  let s1 := (s.modPct fun p => { p with slot := .closing, idleTimer := none }).modTrip fun t => { t with
    endTime := s.takeTime
    flags := { t.flags with timeUnset := t.flags.timeUnset || !s.lif.timeSet } }
  tryBuild ((List.range s.lines.length).foldl (fun t k => closeLineOf k t) s1)

/-- R33: a fault end sets the lane's fault acknowledgement mark. -/
def EndReason.isFault : EndReason → Bool
  | .noFlow => true
  | .pulseFault => true
  | .additiveFault => true
  | _ => false

/-- R33, R69: the report of a fault end. -/
def reportFault (i : LaneNo) (reason : EndReason) (s : State) : State :=
  if reason.isFault then s.modIlm fun m => { m with faultMark := m.faultMark.set i true } else s

/-- R69: the hand-back of a closed compartment, and the trip's closing or the note's building that it may bring. -/
def handBack (i : LaneNo) (s : State) : State :=
  let reason := (s.lane i).closeReason.getD .preset
  let t := reportFault i reason (handOver i reason (s.modLane i fun l => { l with after := .nothing }))
  if t.pct.slot = .released ∧ t.allFinished then enterClosing t else tryBuild t

/-- R126: DSC closes what it can of a lane in ENDED, and reports when no line is left LIVE. -/
def closeDoses (i : LaneNo) (s : State) : State :=
  if s.stage i = .ended ∧ (s.lane i).after = .dose then
    let t := tryCloseLines i s
    if t.allClosed i then handBack i t else t
  else s

/-- R62: the learning of a PRESET end. -/
def learnOvershoot (i : LaneNo) (s : State) : State :=
  if (s.lane i).closeReason = some .preset then
    s.modLane i fun l => { l with learned := learn l.learned (overrunOf (s.gross i) l.grossAtClose) }
  else s

/-- R62, R68, R125: the lane enters ENDED from CLOSING. -/
def enterEnded (i : LaneNo) (s : State) : State :=
  let t := (learnOvershoot i s).modRecord i (finalRecord s i)
  closeDoses i (considerLane i (decideFinal i (t.modLane i fun l => { l with stage := .ended, closing := none, after := .dose })))

end Sys2Proof.Machine
end

