-- ==== Sys2Proof/Machine/HeaderShare.lean ====
section
/-! DEFINITION. The Header Share Unit's computation (Chapter 7): own demand, claimants, allotment, shares, and the
header entries of own STATUS. -/

namespace Sys2Proof.Machine

/-- R130: the isolation share of a header. -/
def isolationShare (c : HeaderCfg) : Nat := c.capacity / c.stations

/-- R132: own demand on header `h`: the wanted rates of the lanes that name it. -/
def ownDemand (s : State) (h : Nat) : Nat := ((s.lanesOn h).map fun i => (s.lane i).wanted).sum

/-- R140: the draw on header `h`: the latest Q of the lanes that name it. -/
def ownDraw (s : State) (h : Nat) : Nat := ((s.lanesOn h).map fun i => (s.lane i).ven.q).sum

/-- R133: the demand above 0 that a peer's last STATUS carried for header `h`. -/
def peerDemand (h : Nat) (e : Peer) : Option Nat :=
  (e.entries.find? fun x => x.header == h && decide (0 < x.demand)).map (·.demand)

/-- R133, R134: what a peer entry counts for on header `h`: its demand, or the isolation share while it is SILENT. -/
def peerClaim (h isolation : Nat) (e : Peer) : Option Nat :=
  match e.age with
  | .silent => (peerDemand h e).map fun _ => isolation
  | _ => peerDemand h e

/-- R133: the claimants' demands on a header in RUN, own demand first. -/
def claimants (s : State) (h isolation own : Nat) : List Nat := own :: s.lif.peers.filterMap (peerClaim h isolation)

/-- R133 to R137: own allotment on a header, by the link state. -/
def allotmentOn (s : State) (c : HeaderCfg) (h own : Nat) : Nat :=
  if own = 0 then 0
  else
    match s.lif.link with
    | .run => fairGrant c.capacity (claimants s h (isolationShare c) own) own
    | .alone => min own c.capacity
    | _ => isolationShare c

/-- R138: the wanted rates above 0 of the own lanes on a header. -/
def laneClaims (s : State) (h : Nat) : List Nat := ((s.lanesOn h).map fun i => (s.lane i).wanted).filter (0 < ·)

/-- R139: a lane takes the share it is given; a lower one lowers its setpoint at once. -/
def giveShare (i : LaneNo) (share : Nat) (s : State) : State := retarget i (s.modLane i fun l => { l with share := share })

/-- R138, R139: the allotment of a header is divided among its own lanes. -/
def giveShares (h allotment : Nat) (s : State) : State :=
  (s.lanesOn h).foldl (fun t i => giveShare i (fairGrant allotment (laneClaims s h) (s.lane i).wanted) t) s

/-- HSU's record of header `h` (from 1). -/
def setShare (h : Nat) (x : Share) (s : State) : State :=
  s.modHsu fun u => { u with headers := u.headers.setIfInBounds (h - 1) x }

/-- R131: the computation on one header; a header that no fitted lane names has no state (R130). -/
def computeHeader (h : Nat) (s : State) : State :=
  if s.lanesOn h = [] then s
  else
    match s.headerCfg h with
    | none => s
    | some c =>
      let own := ownDemand s h
      let a := allotmentOn s c h own
      giveShares h a (setShare h ⟨own, a⟩ s)

/-- The headers H1 to H6 in order. -/
def allHeaders : List Nat := [1, 2, 3, 4, 5, 6]

/-- The headers used (7.1), ascending. -/
def State.headersUsed (s : State) : List Nat := allHeaders.filter fun h => decide (s.lanesOn h ≠ [])

/-- The demand that HSU last worked out for header `h`. -/
def State.demandOn (s : State) (h : Nat) : Nat := ((s.hsu.headers[h - 1]?).map (·.demand)).getD 0

/-- R140: the header entries of own STATUS; the draw saturates (R212). -/
def ownEntries (s : State) : List HeaderEntry :=
  s.headersUsed.map fun h => { header := h, demand := s.demandOn h, draw := saturate 16 (ownDraw s h) }

/-- R141: the demand that the last STATUS sent carried for header `h`; 0 before the first. -/
def lastDemand (l : Lif) (h : Nat) : Nat := ((l.lastSent.find? fun e => e.header == h).map (·.demand)).getD 0

/-- R141: some demand is to be announced. -/
def announces (s : State) : Bool := s.headersUsed.any fun h => Machine.announce (s.demandOn h) (lastDemand s.lif h)

/-- R131: a computation on every header used, in ascending order, with the STATUS slot and the request of R141. -/
def computeShares (s : State) : State :=
  let t := allHeaders.foldl (fun u h => computeHeader h u) s
  let u := t.modLif fun l => { l with slot := ownEntries t }
  if announces u then requestChange u else u

end Sys2Proof.Machine
end

