-- ==== Sys2Proof/Machine/LinkStates.lean ====
section
/-! DEFINITION. Link states (R155 to R161), collisions and discards (R149), the rack halt's start (R35), and the handling of
a peer frame (R154). -/

namespace Sys2Proof.Machine

/-! ### Rack halt (R35) -/

/-- R30, R35, R40: every lane in a flowing stage is ordered to suspend. -/
def suspendAll (cause : Cause) (s : State) : State :=
  s.eachLane fun i t => if (t.stage i).flowing then suspendLane i cause t else t

/-- R35: after a change, a halt that was not in force before and is in force now starts. -/
def haltEdge (before : Bool) (s : State) : State := if !before && s.halted then suspendAll .halt s else s

/-! ### Link states -/

/-- R131, R155: HSU computes under the new state, and Permit Control withdraws a CLAIM that the line can no longer
carry (R18). -/
def setLink (l : Link) (s : State) : State :=
  let t := computeShares (s.modLif fun x => { x with link := l })
  match l with
  | .heldLine => claimCutOff t
  | .mute => claimCutOff t
  | _ => t

/-- R156, R157: entry to LISTEN, without a window under the listen-only strap. -/
def enterListen (s : State) : State :=
  setLink .listen (s.modLif fun l =>
    { l with listen := if l.listenOnly then none else some (s.now + Config.listenTime) })

/-- R161: entry to MUTE. Frames leave the FIFO, so that room is reported (R151). -/
def enterMute (cause : MuteCause) (s : State) : State :=
  setLink .mute (s.modLif fun l => { l with
    roomFreed := l.roomFreed || !l.fifo.isEmpty
    fifo := []
    current := none
    setAside := none
    onLine := none
    due := .none
    period := none
    spacing := none
    alone := none
    listen := none
    muteCause := some cause })

/-- A fresh STATUS as the current frame. -/
def freshStatus : Current := { frame := .status }

/-- R158: entry to JOIN: a current STATUS is discarded and another current frame set aside. -/
def enterJoin (s : State) : State :=
  setLink .join (s.modLif fun l => { l with
    listen := none
    setAside := match l.current with
      | none => l.setAside
      | some c => if c.frame = .status then l.setAside else some c
    current := some freshStatus
    onLine := none
    joinTries := 1 })

/-- R158: a join try has failed: a fresh one, or MUTE with cause ECHO after the third. -/
def joinFailed (s : State) : State :=
  if s.lif.joinTries < Config.joinLimit then
    s.modLif fun l => { l with joinTries := l.joinTries + 1, current := some freshStatus, onLine := none }
  else enterMute .echo s

/-- R160: entry to HELD-LINE. A join STATUS is abandoned with JOIN, and a current frame loses its place only if its
CLAIM was withdrawn (R151); the attempt that is cut counts no collision (log 20). -/
def enterHeldLine (s : State) : State :=
  setLink .heldLine (s.modLif fun l => { l with
    peers := []
    listen := none
    alone := none
    period := none
    spacing := none
    due := .none
    joinTries := 0
    onLine := none
    current := match l.current with
      | none => none
      | some c => if (l.link = .join ∧ c.frame = .status) ∨ c.withdrawn then none else some c })

/-- R159: entry to RUN from JOIN: the join STATUS is recorded as sent, the timers start, and a frame set aside becomes
current again. -/
def enterRun (s : State) : State :=
  setLink .run (s.modLif fun l => { l with
    joinTries := 0
    alone := some (s.now + Config.aloneTime)
    period := some (s.now + Config.periodTime)
    due := .none
    spacing := none })

/-! ### Collisions and discards (R149) -/

/-- R149: a frame is discarded at its eighth collision. -/
def discardFrame (c : Current) (s : State) : State :=
  match c.frame with
  | .status => if s.lif.link = .join then joinFailed s else nextCurrent (statusMet s)
  | .claim p => claimDiscarded p (nextCurrent s)
  | _ => nextCurrent s

/-- R149, R151: an attempt of the current frame has met a collision; a withdrawn CLAIM is discarded without a report. -/
def collided (s : State) : State :=
  match s.lif.current with
  | none => s.modLif fun l => { l with onLine := none }
  | some c =>
    let t := s.modLif fun l => { l with onLine := none, current := some { c with collisions := c.collisions + 1 } }
    if c.withdrawn then nextCurrent t
    else if Config.collisionLimit ≤ c.collisions + 1 then discardFrame c t
    else t

/-- R149, R158: a completed attempt whose echo was dropped: a collision, or in JOIN the end of the try. -/
def echoDropped (s : State) : State :=
  if s.lif.link = .join then joinFailed s else collided s

/-! ### Own echo (R154) -/

/-- R153: own STATUS heard back: its time and its demands are recorded. -/
def statusSent (entries : List HeaderEntry) (s : State) : State :=
  s.modLif fun l => { l with lastStatus := some s.now, lastSent := entries }

/-- R154: own echo is given to the frame's owner, that of a withdrawn CLAIM too (R151). In JOIN a STATUS completes the
join. -/
def ownEchoOf (p : Payload) (s : State) : State :=
  let done := fun t : State => nextCurrent (t.modLif fun l => { l with onLine := none, ownLast := true })
  match p with
  | .status _ _ _ entries =>
    if s.lif.link = .join then enterRun (done (statusSent entries s))
    else statusMet (done (statusSent entries s))
  | .claim permit => claimEcho permit (done s)
  | _ => done s

/-! ### Peer frames (R154, R161) -/

/-- R161: a frame with own number that is not own echo. -/
def conflictHeard (s : State) : State :=
  match s.lif.link with
  | .listen => enterMute .conflict s
  | .join => enterMute .conflict s
  | .run => enterMute .conflict s
  | .alone => enterMute .conflict s
  | _ => s

/-- R159: the ALONE timer restarts on a peer frame, and a peer frame in ALONE returns the link to RUN. -/
def peerHeard (s : State) : State :=
  match s.lif.link with
  | .run => s.modLif fun l => { l with alone := some (s.now + Config.aloneTime) }
  | .alone => setLink .run (s.modLif fun l => { l with alone := some (s.now + Config.aloneTime) })
  | _ => s

/-- R154: a peer frame in the states that take it: the peer table, the halt it may start, rack time, delivery, the
ALONE timer. -/
def takePeer (sender : Nat) (p : Payload) (deliver : State → State) (s : State) : State :=
  peerHeard (deliver (adoptRackTime p (haltEdge s.halted
    (tablePeer sender p (s.modLif fun l => { l with ownLast := false })))))

/-- R147, R154, R161: an accepted frame that is not own echo. One that R147 drops has no effect, and before start-up
completes the line is not sampled (R146). -/
def peerFrame (sender : Nat) (p : Payload) (deliver : State → State) (s : State) : State :=
  if !s.sul.done || !frameOk sender p then s
  else if sender = s.lif.station then conflictHeard s
  else
    match s.lif.link with
    | .down => s
    | .heldLine => s
    | _ => takePeer sender p deliver s

end Sys2Proof.Machine
end

