-- ==== Sys2Proof/Machine/StartUp.lean ====
section
/-! DEFINITION. The Start-up Loader (Chapter 11) and the recovery of an open trip (R197 to R200). -/

namespace Sys2Proof.Machine

/-! ### Offers (R189, R208) -/

/-- R208: an offer that is refused, or that finds earlier ones held, is held in order. -/
def sulOffer (r : WriteReq) (s : State) : State :=
  if s.sul.held = [] then
    match enqueue ⟨r, true⟩ s with
    | (true, t) => t
    | (false, t) => t.modSul fun u => { u with held := [r] }
  else s.modSul fun u => { u with held := u.held ++ [r] }

/-- R189: at a report of a free slot the held offers are made again from the first, until one is refused. -/
def sulFreeSlot : Nat → State → State
  | 0, s => s
  | n + 1, s =>
    match s.sul.held with
    | [] => s
    | r :: rest =>
      match enqueue ⟨r, true⟩ s with
      | (true, t) => sulFreeSlot n (t.modSul fun u => { u with held := rest })
      | (false, t) => t

/-! ### Reset (R191, R201, R202) -/

/-- `count` undefined bytes: free values from a place in the supply on (R191, log 4). -/
def freeBytes (start count : Nat) : List Byte := (List.range count).map fun k => Config.freeByte (start + k)

/-- R191: the loaded bytes of a page write in progress are left undefined; everything else of the memory stands. -/
def storeAfterReset (s : State) : List Host.Cell :=
  match s.stp.port with
  | .writing w _ =>
    if w.inRange then applyWrite s.store { w with bytes := freeBytes s.free w.bytes.length } else s.store
  | _ => s.store

/-- The supply of free values after the bytes of R191. -/
def freeAfterReset (s : State) : Nat :=
  match s.stp.port with
  | .writing w _ => s.free + w.bytes.length
  | _ => s.free

/-- R108: a lane in its reset state, its totalizers not cleared. -/
def resetLane (l : Lane) : Lane := { ven := { totGross := l.ven.totGross, totStd := l.ven.totStd } }

/-- An input pin after a reset: its level stands, and its filter begins anew (R28). -/
def Pin.restart (p : Pin) : Pin := { p with run := 0 }

/-- R28: the pins after a reset. -/
def Pins.restart (p : Pins) : Pins :=
  { p with
    ground := p.ground.restart, overfill := p.overfill.restart, vapour := p.vapour.restart, estop := p.estop.restart
    rstop := p.rstop.restart, arm := p.arm.map Pin.restart
    startKey := p.startKey.restart, stopKey := p.stopKey.restart, ackKey := p.ackKey.restart
    feedback := p.feedback.map Pin.restart, busy := p.busy.restart }

/-- R201: every block in its reset state; the totalizers (R108), the store, the pins, the supply of free values and the
waiting commands stay. -/
def resetBlocks (s : State) : State :=
  { State.reset with
    lanes := s.lanes.map resetLane, store := storeAfterReset s, free := freeAfterReset s, pins := s.pins.restart
    pending := s.pending }

/-- R75: a lane that the image leaves unfitted has no working PIU. -/
def dropPiu (i : LaneNo) (s : State) : State := if s.fitted i then s else s.modPiu i fun _ => {}

/-- R75: once the tables are settled, the unfitted lanes' PIUs hold nothing. -/
def dropUnfitted (s : State) : State := s.eachLane dropPiu

/-- R207: the first fault found: its code and entry are recorded, every table is discarded, and start-up is ready to
complete at once (log 8). -/
def configFaultAt (code entry : Nat) (s : State) : State :=
  dropUnfitted { (s.modSul fun u => { u with code := code, entry := entry, phase := .settle, buf := [] }) with cfg := {} }

/-- R202: the strap read: the listen-only strap, and a station number 1..24 or config fault 10; then the first page of the
CONFIG region. The own station number that stands after a config fault 10 is 0: the model's choice (log 14). -/
def readStraps (straps : BitVec 5) (listenOnly : Bool) (s : State) : State :=
  let t := s.modLif fun l => { l with listenOnly := listenOnly }
  if 1 ≤ straps.toNat ∧ straps.toNat ≤ 24 then
    askRead .sul 0
      ((t.modLif fun l => { l with station := straps.toNat }).modSul fun u => { u with phase := .header })
  else configFaultAt 10 0 t

/-! ### The image (R203 to R206) -/

/-- R203 to R206: the whole image has been read; then the TOTALS region. -/
def imageRead (bytes : List Byte) (s : State) : State :=
  match loadImage (bytes.take (fieldNat bytes 2 2)) with
  | .error (code, entry) => configFaultAt code entry s
  | .ok t => askRead .sul 64 ((dropUnfitted { s with cfg := t }).modSul fun u => { u with phase := .totals 0, buf := [] })

/-- R203: the first page of the CONFIG region. -/
def headerPage (page : List Byte) (s : State) : State :=
  match imageHeader page with
  | .error code => configFaultAt code 0 s
  | .ok len =>
    if pagesOf len = 1 then imageRead page s
    else askPages .sul 1 (pagesOf len - 1) (s.modSul fun u => { u with phase := .image (pagesOf len - 1), buf := page })

/-- R203: a further page of the image. -/
def imagePage (last : Nat) (page : List Byte) (s : State) : State :=
  if last ≤ 1 then imageRead (s.sul.buf ++ page) s
  else s.modSul fun u => { u with phase := .image (last - 1), buf := u.buf ++ page }

/-! ### Totals (R194, R208) -/

/-- R194: the totals of a lane's page, and the copy they stand in. Of two valid copies with equal write counts, between
which R194 and R208 do not choose, copy A is taken (log 33). -/
def chooseTotals (a b : Option (Nat × Word48 × Word48)) : CopyState × Word48 × Word48 :=
  match a, b with
  | none, none => ({}, 0, 0)
  | some (n, g, t), none => (⟨false, n⟩, g, t)
  | none, some (n, g, t) => (⟨true, n⟩, g, t)
  | some (n, g, t), some (m, h, u) => if m ≤ n then (⟨false, n⟩, g, t) else (⟨true, m⟩, h, u)

/-- The lane's totalizers take values. -/
def setTotals (i : LaneNo) (g t : Word48) (s : State) : State := s.modVen i fun v => { v with totGross := g, totStd := t }

/-- R194, R208: the totals page of a lane; then the next lane's, or the note ring. -/
def totalsPage (k : Nat) (page : List Byte) (s : State) : State :=
  let i : LaneNo := Fin.ofNat 4 k
  let (copy, g, t) := chooseTotals (totalsOf i page 0) (totalsOf i page 64)
  let s1 := (setTotals i g t s).modStp fun p => { p with copies := p.copies.set i copy }
  let s2 := s1.modSul fun u => { u with stored := u.stored.set i (g, t) }
  if k < 3 then askRead .sul (64 + k + 1) (s2.modSul fun u => { u with phase := .totals (k + 1) })
  else askRead .sul (slotPage 0 1) (s2.modSul fun u => { u with phase := .slot 0 })

/-! ### The note scan (R208) -/

/-- R208: the scan goes on at the next slot, or ends with the next note number and the read of the marker. -/
def nextSlot (slot : Nat) (s : State) : State :=
  if slot + 1 < Config.noteSlots then
    askRead .sul (slotPage (slot + 1) 1) (s.modSul fun u => { u with phase := .slot (slot + 1), buf := [] })
  else
    askRead .sul 68 ((s.modNtb fun x => { x with next := s.sul.best + 1 }).modSul fun u => { u with phase := .markHead, buf := [] })

/-- R208: a slot's note is PENDING. -/
def stampIsPending (bytes : List Byte) : Bool := fieldNat bytes (statusOffset (noteLengthField bytes) .stamp) 1 == stampPending

/-- R208: all pages of a slot have been read: a valid note counts for the next note number, and lapses if PENDING. -/
def slotRead (slot : Nat) (bytes : List Byte) (s : State) : State :=
  let n := fieldNat bytes 1 4
  if notePresent n bytes then
    let t := s.modSul fun u => { u with best := max u.best n }
    nextSlot slot (if stampIsPending bytes then sulOffer (.noteStatus n .stamp stampLapsed) t else t)
  else nextSlot slot s

/-- R208: the tests of a slot's first page that say whether more of it is read. -/
def slotCandidate (slot : Nat) (page : List Byte) : Bool :=
  (fieldNat page 0 1 == 0x4E) && decide (1 ≤ fieldNat page 1 4) && (fieldNat page 1 4 % Config.noteSlots == slot) &&
    lengthFieldOk page

/-- R208: the first page of a slot. -/
def slotFirst (slot : Nat) (page : List Byte) (s : State) : State :=
  if slotCandidate slot page then
    if furtherPages page = 0 then slotRead slot page s
    else askPages .sul (slotPage slot 2) (furtherPages page)
      (s.modSul fun u => { u with phase := .slotRest slot (furtherPages page), buf := page })
  else nextSlot slot s

/-- R208: a further page of a slot. -/
def slotNext (slot left : Nat) (page : List Byte) (s : State) : State :=
  if left ≤ 1 then slotRead slot (s.sul.buf ++ page) s
  else s.modSul fun u => { u with phase := .slotRest slot (left - 1), buf := u.buf ++ page }

/-! ### Recovery (R197 to R200) -/

/-- All reading is done (R209). -/
def toSettle (s : State) : State := s.modSul fun u => { u with phase := .settle, buf := [] }

/-- The larger of two totals. -/
def larger (a b : Word48) : Word48 := if a.toNat < b.toNat then b else a

/-- R197, R199: a lane's totalizers become at least these, each taken separately. -/
def raiseTotals (i : LaneNo) (g t : Word48) (s : State) : State :=
  s.modVen i fun v => { v with totGross := larger v.totGross g, totStd := larger v.totStd t }

/-- The totals of a lane as the store held them. -/
def State.storedTotals (s : State) (i : LaneNo) : Word48 × Word48 := s.sul.stored[i]

/-- R197, R199: TOTAL for each lane whose totals differ from those stored, in lane order. -/
def offerTotals (s : State) : State :=
  s.eachLane fun i t => if t.totals i = t.storedTotals i then t else sulOffer (.total i (t.totals i).1 (t.totals i).2) t

/-- R197: the trip's note was sealed: the totals take the note's, and TRIP-MARK(closed) is offered last. -/
def settleSealed (m : Marker) (note : List Byte) (s : State) : State :=
  let t := (noteTotals note).foldl (fun u (i, g, x) => raiseTotals i g x u) s
  toSettle (sulOffer (.markClosed (closeHead m.head)) (offerTotals t))

/-- R128, R198: the additive lines of a power-lost compartment, closed from the checkpoint's counts. -/
def lostRecord (s : State) (r : CompRecord) : CompRecord :=
  { r with
    endReason := some .powerLost
    additives := r.additives.map fun a => closedLine (s.stroke a.injector) s.tolerance a }

/-- R198: one line with its checkpoint, if it has one. -/
def rebuildLine (s : State) (c : Option CheckRec) (l : OrderLine) : OrderLine :=
  match c with
  | none => { l with status := .ended .notLoaded, record := none }
  | some x =>
    if x.stage = 7 then { l with status := .ended x.reason, record := some { x.record with endReason := some x.reason } }
    else { l with status := .ended .powerLost, record := some (lostRecord s x.record) }

/-- R199 pass 1: the totals after of a closed compartment. -/
def passOne (c : Option CheckRec) (l : OrderLine) (s : State) : State :=
  match c, l.lane with
  | some x, some i => if x.stage = 7 then raiseTotals i x.totGross x.totStd s else s
  | _, _ => s

/-- A checkpoint of a compartment open when power was lost (R198). -/
def isLost (c : Option CheckRec) : Bool :=
  match c with
  | none => false
  | some x => decide (x.stage ≠ 7)

/-- R199 pass 2: one power-lost compartment advances its lane's totalizers, and its checkpoint is rewritten as ENDED. A line
without a lane advances none, and its checkpoint has totals of 0: the model's choice (log 21). -/
def passTwo (number k : Nat) (s : State) : State :=
  match s.sul.lines[k]? with
  | none => s
  | some l =>
    let r := l.record.getD {}
    let t := match l.lane with
      | none => s
      | some i => s.modVen i (advanceTotals r)
    let after := match l.lane with
      | none => (0, 0)
      | some i => t.totals i
    sulOffer (.checkpoint (k + 1)
      (checkpointBytes number (k + 1) 7 0 (endReasonCode .powerLost) l.clamped r (r.weighted.getD 1500) after.1 after.2)) t

/-- R199: the lines are rebuilt: pass 2 in card order, then the TOTAL offers; the recovered note follows them. -/
def rebuilt (m : Marker) (s : State) : State :=
  let t := s.sul.lost.foldl (fun u k => passTwo m.number k u) s
  (toSettle (offerTotals t)).modSul fun u => { u with recovery := .offering }

/-- R198: the place of the next WAITING line at or after one. -/
def nextWaiting (lines : List OrderLine) (start : Nat) : Option Nat :=
  (List.range lines.length).find? fun k => decide (start ≤ k) && ((lines[k]?).any fun l => decide (l.status = .waiting))

/-- R198: the checkpoint page of the next WAITING line is read. That no page is read for a REFUSED line, whose outcome is the same
with any checkpoint, is the model's choice (log 48). -/
def nextCheck (m : Marker) (start : Nat) (s : State) : State :=
  match nextWaiting s.sul.lines start with
  | none => rebuilt m s
  | some k => askRead .sul (69 + (k + 1)) (s.modSul fun u => { u with phase := .check (k + 1), buf := [] })

/-- R198: the checkpoint page of line index `line`. -/
def checkPage (m : Marker) (line : Nat) (page : List Byte) (s : State) : State :=
  let k := line - 1
  match s.sul.lines[k]? with
  | none => rebuilt m s
  | some l =>
    let c := checkpointOf m.number page
    let t := (passOne c l s).modSul fun u => { u with
      lines := u.lines.modify k (rebuildLine s c)
      lost := if isLost c then u.lost ++ [k] else u.lost }
    nextCheck m (k + 1) t

/-- R197: the slot of the open trip's note has been read. -/
def sealedRead (bytes : List Byte) (s : State) : State :=
  match s.sul.marker with
  | none => toSettle s
  | some m =>
    if notePresent m.number bytes ∧ fieldWord bytes 8 = m.permit then settleSealed m bytes s else nextCheck m 0 s

/-- R197: the first page of the slot of the open trip's note. -/
def sealedFirst (page : List Byte) (s : State) : State :=
  match s.sul.marker with
  | none => toSettle s
  | some m =>
    if furtherPages page = 0 then sealedRead page s
    else askPages .sul (slotPage (m.number % Config.noteSlots) 2) (furtherPages page)
      (s.modSul fun u => { u with phase := .sealedRest (furtherPages page), buf := page })

/-- R197: a further page of that slot. -/
def sealedNext (left : Nat) (page : List Byte) (s : State) : State :=
  if left ≤ 1 then sealedRead (s.sul.buf ++ page) s
  else s.modSul fun u => { u with phase := .sealedRest (left - 1), buf := u.buf ++ page }

/-- R193, R197: the trip marker's head. That it is read first, and the order lines of page 69 only after a valid one of state OPEN,
is the model's choice: R197 and R209 say only that the marker is read (log 48). -/
def markHeadPage (page : List Byte) (s : State) : State :=
  match markerOf page with
  | none => toSettle s
  | some m => askRead .sul 69 (s.modSul fun u => { u with marker := some m, phase := .markLines })

/-- R193, R197: the trip marker's order lines; a marker that is open has its trip's slot read. -/
def markLinesPage (page : List Byte) (s : State) : State :=
  match s.sul.marker with
  | none => toSettle s
  | some m =>
    if markLinesOk m.number page then
      askRead .sul (slotPage (m.number % Config.noteSlots) 1)
        (s.modSul fun u => { u with lines := (List.range m.count).map (markLineOf page), phase := .sealed })
    else toSettle s

/-- R203 to R209: a page that the Start-up Loader asked for, by the step of its sequence. -/
def sulPage (page : List Byte) (s : State) : State :=
  match s.sul.phase with
  | .header => headerPage page s
  | .image last => imagePage last page s
  | .totals k => totalsPage k page s
  | .slot k => slotFirst k page s
  | .slotRest k left => slotNext k left page s
  | .markHead => markHeadPage page s
  | .markLines => markLinesPage page s
  | .sealed => sealedFirst page s
  | .sealedRest left => sealedNext left page s
  | .check line =>
    match s.sul.marker with
    | none => toSettle s
    | some m => checkPage m line page s
  | .straps => s
  | .settle => s
  | .complete => s

/-- R200: the header of the recovered note. -/
def recoveredHead (m : Marker) (number station : Nat) : NoteHead where
  number := number
  station := station
  permit := m.permit
  driver := m.driver
  tanker := m.tanker
  startTime := m.startTime
  endTime := 0
  flags := { m.flags with recovered := true, timeUnset := true }

/-- R200: once every offer of R199 has been accepted, the recovered note is handed to NTB. -/
def recoveryNote (s : State) : State :=
  match s.sul.marker with
  | none => s
  | some m =>
    if s.sul.recovery = .offering ∧ s.sul.held = [] then
      beginNote (recoveredHead m s.ntb.next s.lif.station) s.sul.lines true (s.modSul fun u => { u with recovery := .sealing })
    else s

/-- R200: at the seal of the recovered note, TRIP-MARK(closed) is offered. -/
def recoverySealed (s : State) : State :=
  match s.sul.marker with
  | none => s
  | some m => sulOffer (.markClosed (closeHead m.head)) (s.modSul fun u => { u with recovery := .closing })

/-! ### Completion (R209 to R211) -/

/-- R209: start-up is ready to complete. -/
def State.ready (s : State) : Bool :=
  decide (s.sul.phase = .settle) && (decide (s.sul.code ≠ 0) ||
    (decide (s.sul.held = []) && (decide (s.sul.recovery = .none) || decide (s.sul.recovery = .complete))))

/-- R46, R78: a fitted lane starts its metering tick, and its PIU sets both snapshots to the counters. -/
def startLaneTick (now : Nat) (l : Lane) : Lane :=
  { l with tick := some (now + Config.tickTime), piu := { l.piu with snapA := l.piu.cntA, snapB := l.piu.cntB } }

/-- R210: every fitted lane starts. -/
def startLanes (s : State) : State :=
  s.eachLane fun i t => if t.fitted i then t.modLane i (startLaneTick t.now) else t

/-- R207, R211: the completion event in the config fault state: ATTEND's pattern and the printed line. -/
def completeFault (s : State) : State :=
  let t := (s.modSul fun u => { u with done := true, phase := .complete }).modIlm fun m => { m with
    pattern := some ⟨0, s.now + Config.lampTime⟩ }
  sendNext (t.modNtb fun x => { x with port := { x.port with chars := faultText s.sul.code s.sul.entry (tableName s.sul.code) } })

/-- R210: the completion event without a config fault. -/
def completeNormal (s : State) : State :=
  let t := enterListen (s.modSul fun u => { u with done := true, phase := .complete })
  beginPrint (offerReady ((startLanes t).modHsu fun u => { u with tick := some (s.now + Config.shareTime) }))

end Sys2Proof.Machine
end

