-- ==== Sys2Proof/Machine/Settle.lean ====
section
/-! DEFINITION. The end of every event (log 31): the reports of a free slot and of room, the recovered note, the trip idle
timer, the lamps, and the store port's next operation. -/

namespace Sys2Proof.Machine

/-- R189: a free slot is reported to the lanes, Permit Control, the Note Builder and the Start-up Loader (log 5). -/
def reportFreeSlot (s : State) : State :=
  if s.stp.departed then
    let t := (s.modStp fun p => { p with departed := false }).eachLane offerAfter
    sulFreeSlot Config.queueSize (ntbFreeSlot (pctFreeSlot Config.heldMarks t))
  else s

/-- R151: room is reported to Permit Control and the Note Builder (log 5). -/
def reportRoom (s : State) : State :=
  if s.lif.roomFreed then
    ntbRoom (pctRoom Config.heldFrames (s.modLif fun l => { l with roomFreed := false }))
  else s

/-- R23: the trip idle timer runs while the slot is RELEASED and no lane is in a flowing stage or in CLOSING. -/
def idleTimer (s : State) : State :=
  if s.pct.slot = .released ∧ !s.anyFlowing ∧ !s.anyClosing then
    match s.pct.idleTimer with
    | some _ => s
    | none => s.modPct fun p => { p with idleTimer := some (s.now + Config.idleTime) }
  else s.modPct fun p => { p with idleTimer := none }

/-- What every event does last. -/
def settle (s : State) : State :=
  portKick (refreshLamps (idleTimer (reportRoom (reportFreeSlot (recoveryNote (reportFreeSlot s))))))

end Sys2Proof.Machine
end

