-- ==== Sys2Proof/Machine/StoreCommands.lean ====
section
/-! DEFINITION. The commands of reset, start-up and the store port: RESET, PAGE_READ_COMPLETE, PAGE_WRITE_COMPLETE,
START_UP_COMPLETION. -/

namespace Sys2Proof.Machine

/-- The answer of a command. -/
abbrev Answer := Host.Outcome State Fault Refusal

/-- A command took effect: the end of the event follows (log 31). -/
def finish (s : State) : Answer := .next (settle s)

/-- The expiry of a timer: nothing while it is stopped; otherwise the clock reaches its expiry and the effect follows
(log 1, log 26). -/
def onExpiry (due : Option Nat) (effect : Nat → State → State) (s : State) : Answer :=
  match due with
  | none => .next s
  | some d => finish (effect d (s.reach d))

/-- RESET (R201, R202). -/
def execReset (straps : BitVec 5) (listenOnly : Bool) (s : State) : Answer :=
  finish (readStraps straps listenOnly (resetBlocks s))

/-- R196: the first page of a NOTE-STATUS's slot has been read: the one byte to write, or the request is done. -/
def statusPage (page : List Byte) (s : State) : State :=
  match s.stp.flight with
  | none => s
  | some f =>
    match f.item.req with
    | .noteStatus note fld code =>
      match statusWrite note fld code page with
      | [] => flightDone s
      | steps => s.modStp fun p => { p with flight := some { f with steps := steps, reading := false } }
    | _ => s

/-- R188: a page read goes to the block that asked for it. -/
def deliverPage (owner : Reader) (page : List Byte) (s : State) : State :=
  match owner with
  | .sul => sulPage page s
  | .ask => askPage page s
  | .reprint => reprintPage page s
  | .noteStatus => statusPage page s

/-- PAGE_READ_COMPLETE (R188): the page as the memory holds it at this moment. -/
def execPageReadComplete (s : State) : Answer :=
  match s.stp.port with
  | .reading r =>
    if r.page < pageCount then
      finish (deliverPage r.owner (readPage s.store r.page) (s.modStp fun p => { p with port := .idle, lastRead := true }))
    else .fault (.storeAddress r.page)
  | _ => .next s

/-- R176: the note is sealed: the number rises, Permit Control or the Start-up Loader is told, NOTE-READY is offered, a
copy joins the print queue, and the build state returns to IDLE. -/
def sealNote (b : Build) (s : State) : State :=
  let s1 := s.modNtb fun x => { x with next := x.next + 1 }
  let s2 := if b.recovered then recoverySealed s1 else noteSealed b s1
  let s3 := noteReady (BitVec.ofNat 32 b.number) b.permit s2
  (joinPrints ⟨b.image, b.number, false⟩ s3).modNtb fun x => { x with build := none }

/-- R189: the completion of a request is reported: a NOTE-PAGE to the Note Builder, the closed marker to the Start-up
Loader that offered it. -/
def reportDone (q : QItem) (s : State) : State :=
  match q.req with
  | .notePage note page _ =>
    match s.ntb.build with
    | none => s
    | some b => if b.number = note ∧ b.pages = page then sealNote b s else s
  | .markClosed _ =>
    if q.bySul ∧ s.sul.recovery = .closing then s.modSul fun u => { u with recovery := .complete } else s
  | _ => s

/-- R189: the step of the write in flight is done; after its last step the request is done, its completion is reported,
and the next request leaves the queue. -/
def stepDone (s : State) : State :=
  match s.stp.flight with
  | none => s
  | some f =>
    if f.steps.tail = [] then flightDone (reportDone f.item (recordCopy f.item.req s))
    else s.modStp fun p => { p with flight := some { f with steps := f.steps.tail } }

/-- PAGE_WRITE_COMPLETE (R188): the memory changes the loaded bytes only. -/
def execPageWriteComplete (s : State) : Answer :=
  match s.stp.port with
  | .writing w due =>
    if w.inRange then
      finish (stepDone (({ s with store := applyWrite s.store w }.reach due).modStp fun p =>
        { p with port := .idle, lastRead := false }))
    else .fault (.storeAddress w.page)
  | _ => .next s

/-- START_UP_COMPLETION (R210, R211): the completion event, once start-up is ready to complete. -/
def execStartUpCompletion (s : State) : Answer :=
  if s.ready then finish (if s.sul.code = 0 then completeNormal s else completeFault s) else .next s

end Sys2Proof.Machine
end

