-- ==== Sys2Proof/Machine/InterlockCommands.lean ====
section
/-! DEFINITION. The commands of the interlock inputs, the rack stop, the keys and the lamps (Chapter 2). -/

namespace Sys2Proof.Machine

/-! ### Permissives (R28 to R30, R32) -/

/-- A permissive input's filtered level. -/
def Ilm.level (m : Ilm) : Permissive → Bool
  | .ground => m.ground
  | .overfill => m.overfill
  | .vapour => m.vapour
  | .estop => m.estop

/-- A permissive input takes a level. -/
def Ilm.setLevel (m : Ilm) (p : Permissive) (good : Bool) : Ilm :=
  match p with
  | .ground => { m with ground := good }
  | .overfill => { m with overfill := good }
  | .vapour => { m with vapour := good }
  | .estop => { m with estop := good }

/-- R30: the bay latch orders a lane that is flowing or PRIMED to suspend with cause LAPSE. -/
def lapseLane (i : LaneNo) (s : State) : State :=
  if (s.stage i).flowing ∨ s.stage i = .primed then suspendLane i .lapse s else s

/-- R32: the record of a lane in CLOSING is marked LAPSE-IN-CLOSING. -/
def markLapse (i : LaneNo) (s : State) : State :=
  if s.stage i = .closing then s.modFlags i fun f => { f with lapseInClosing := true } else s

/-- R30, R32: a permissive goes bad while the trip slot is RELEASED. -/
def permissiveDrop (s : State) : State :=
  let t := s.eachLane markLapse
  if t.ilm.bayLatch then t
  else (t.modIlm fun m => { m with bayLatch := true }).eachLane lapseLane

/-- R29: while the permissive set is broken the outputs of a flowing lane are removed. -/
def dropOutputs (i : LaneNo) (s : State) : State :=
  if (s.stage i).flowing ∧ !s.whole then outputsOff i s else s

/-- R29, R30: the effect of a permissive change after start-up. -/
def permissiveEffect (good : Bool) (s : State) : State :=
  (if !good ∧ s.pct.slot = .released then permissiveDrop s else s).eachLane dropOutputs

/-- PERMISSIVE_CHANGE (R28 to R32): a level that is not a change has no effect; before start-up completes only the level
is taken. -/
def execPermissiveChange (input : Permissive) (good : Bool) (s : State) : Answer :=
  if s.ilm.level input = good then .next s
  else
    let t := s.modIlm fun m => m.setLevel input good
    finish (if s.sul.done then permissiveEffect good t else t)

/-! ### Arms (R28, R31, R32, R48, R49) -/

/-- ARM_CONNECT (R48): an IDLE lane makes the priming check. -/
def execArmConnect (i : LaneNo) (s : State) : Answer :=
  if s.armOn i then .next s
  else
    let t := s.modIlm fun m => { m with arm := m.arm.set i true }
    finish (if s.sul.done then primingCheck i t else t)

/-- R31, R32: the lane's lapse latch is set. -/
def latchLane (i : LaneNo) (s : State) : State := s.modIlm fun m => { m with laneLatch := m.laneLatch.set i true }

/-- R31, R32, R49: an ARM drop by the lane's stage. -/
def armLost (i : LaneNo) (s : State) : State :=
  match s.stage i with
  | .primed => toIdle i s
  | .lowFlow => suspendLane i .arm (latchLane i s)
  | .fullFlow => suspendLane i .arm (latchLane i s)
  | .slowdown => suspendLane i .arm (latchLane i s)
  | .closing => markLapse i (latchLane i s)
  | _ => s

/-- ARM_DROP (R31, R32, R49). -/
def execArmDrop (i : LaneNo) (s : State) : Answer :=
  if !s.armOn i then .next s
  else
    let t := s.modIlm fun m => { m with arm := m.arm.set i false }
    finish (if s.sul.done then armLost i t else t)

/-! ### Rack stop (R34, R35) -/

/-- RSTOP_CHANGE (R34, R35): own halt flag goes out as urgent, and a halt may start. -/
def execRstopChange (pressed : Bool) (s : State) : Answer :=
  if s.ilm.rstop = pressed then .next s
  else
    let t := s.modIlm fun m => { m with rstop := pressed }
    finish (if s.sul.done then haltEdge s.halted (requestUrgent t) else t)

/-! ### Keys (R38 to R42) -/

/-- R21, R39: the effect of START by the trip slot's state. -/
def startEffect (s : State) : State :=
  match s.pct.slot with
  | .authorized => if releases s then release s else s
  | .released => s.eachLane startLane
  | _ => s

/-- START (R21, R38, R39): the key changes from released to pressed; at a pressed one there is no event. -/
def execStart (s : State) : Answer :=
  if s.ilm.startKey then .next s
  else
    let t := s.modIlm fun m => { m with startKey := true }
    finish (if s.sul.done then startEffect t else t)

/-- R40: the effect of STOP. -/
def stopEffect (s : State) : State :=
  if s.pct.slot ≠ .released then s
  else if s.anyFlowing then suspendAll .driver s
  else if s.anyClosing then s
  else enterClosing s

/-- STOP (R23, R38, R40): the key changes from released to pressed. -/
def execStop (s : State) : Answer :=
  if s.ilm.stopKey then .next s
  else
    let t := s.modIlm fun m => { m with stopKey := true }
    finish (if s.sul.done then stopEffect t else t)

/-- R41, R74: the ACK press on the latches, the leak alarm and the marks. -/
def clearLatches (s : State) (m : Ilm) : Ilm :=
  { m with
    bayLatch := m.bayLatch && !s.whole
    laneLatch := Vector.ofFn fun i => m.laneLatch[i] && !m.arm[i]
    leakAlarm := false
    faultMark := Vector.replicate 4 false }

/-- R41, R74: the ACK press on a lane's leak. -/
def clearLeak (i : LaneNo) (s : State) : State := s.modLane i fun l => { l with leak := 0, leakCarry := 0 }

/-- R38, R41: the effect of an ACK press after start-up; the hold timing begins. -/
def ackEffect (s : State) : State :=
  ((s.modIlm (clearLatches s)).modIlm fun m => { m with ackHold := some (s.now + Config.holdTime) }).eachLane clearLeak

/-- ACK_PRESS (R38, R41): the key changes from released to pressed. -/
def execAckPress (s : State) : Answer :=
  if s.ilm.ackKey then .next s
  else
    let t := s.modIlm fun m => { m with ackKey := true }
    finish (if s.sul.done then ackEffect t else t)

/-- ACK_RELEASE (R38): the key changes from pressed to released, and the hold timing ends. -/
def execAckRelease (s : State) : Answer :=
  if s.ilm.ackKey then finish (s.modIlm fun m => { m with ackKey := false, ackHold := none }) else .next s

/-- R37: an entry that the local override removes. -/
def overridden (e : Peer) : Bool := e.halt && decide (e.age = .silent)

/-- R37: the conditions of the local override. -/
def overrideHolds (s : State) : Bool :=
  !s.ilm.rstop && s.lif.peers.any (·.halt) && s.lif.peers.all fun e => !e.halt || decide (e.age = .silent)

/-- R37: the local override. -/
def takeOverride (s : State) : State :=
  (s.modLif fun l => { l with peers := l.peers.filter fun e => !overridden e }).modTripFlags fun f =>
    { f with haltOverride := true }

/-- R42: the effect of an ACK hold event. -/
def holdEffect (s : State) : State :=
  let t := s.modIlm fun m => { m with ackHold := none }
  if overrideHolds t then takeOverride t
  else if t.pct.slot = .empty then askReprint t
  else t

/-- ACK_HOLD_EVENT (R37, R38, R42). -/
def execAckHoldEvent (s : State) : Answer := onExpiry s.ilm.ackHold (fun _ t => holdEffect t) s

/-! ### Lamps (R43 to R45) -/

/-- REFUSAL_PULSE_END (R44). -/
def execRefusalPulseEnd (s : State) : Answer :=
  onExpiry s.ilm.pulse (fun _ t => t.modIlm fun m => { m with pulse := none }) s

/-- LAMP_STRETCH_END (R45): the least time of the shown state ends; the output takes the commanded state of that
moment at the end of the event. With no stretch running and the commanded state shown it has no effect. -/
def execLampStretchEnd (lamp : Lamp) (s : State) : Answer :=
  if (s.ilm.lamp lamp).holdUntil ≤ s.now ∧ !lampLags lamp s then .next s
  else finish (s.reach (s.ilm.lamp lamp).holdUntil)

/-- R43: the next phase of a blinking lamp. -/
def flipBlink (l : LampState) : LampState :=
  { l with blink := l.blink.map fun b => ⟨!b.lit, b.due + Config.blinkTime⟩ }

/-- LAMP_BLINK_PHASE (R43). -/
def execLampBlinkPhase (lamp : Lamp) (s : State) : Answer :=
  onExpiry ((s.ilm.lamp lamp).blink.map (·.due)) (fun _ t => t.modIlm fun m => m.setLamp lamp (flipBlink (m.lamp lamp))) s

/-- R44: the pattern goes on to its next phase. -/
def advancePattern (code : Nat) (p : Pattern) : Pattern :=
  ⟨nextPhase code p.phase, p.due + phaseTime code (nextPhase code p.phase)⟩

/-- FAULT_CODE_PATTERN_PHASE (R44). -/
def execFaultCodePatternPhase (s : State) : Answer :=
  onExpiry (s.ilm.pattern.map (·.due))
    (fun _ t => t.modIlm fun m => { m with pattern := m.pattern.map (advancePattern t.sul.code) }) s

end Sys2Proof.Machine
end

