-- ==== Sys2Proof/Machine/Metering.lean ====
section
/-! DEFINITION. The metering pass (R51, R92): PIU's tick (Chapter 4), VEN's pass (Chapter 5), the stage and closing
checks (R52, R53, R59), steering with the no-flow watch (R66), and the leak pass (R73, R74). -/

namespace Sys2Proof.Machine

/-! ### Pulses (R77 to R90) -/

/-- R78: a channel's increment, modulo 2^32. -/
def channelDelta (cnt snap : Word32) : Nat := (cnt - snap).toNat

/-- R78: PIU takes the tick's increments and sets the snapshots. -/
def snapshot (p : Piu) : Piu := { p with snapA := p.cntA, snapB := p.cntB }

/-- What a compartment tick gives the lane: Δp and the pulse fault raised, with the PIU after it. -/
structure PulseTick where
  piu    : Piu
  pulses : Nat
  raised : Option PulseCode
  deriving DecidableEq, Repr

/-- R80, R84 to R86: the PIU's counts and flags after a compartment tick with increments `a` and `b`. -/
def countTick (c : LaneCfg) (a b : Nat) (p : Piu) : Piu :=
  { snapshot p with
    corrected := if c.level = 0 then p.corrected else addCorrected p.corrected (channelDifference a b)
    overspeed := p.overspeed || decide (c.ceiling < correctedPulses c.level a b)
    reversed := p.reversed || p.mark
    mark := false }

/-- R87: the fault that a compartment tick raises at level 2 while the record is empty. -/
def raisedFault (c : LaneCfg) (a b : Nat) (p : Piu) : Option PulseCode :=
  if c.level = 2 ∧ p.fault = none then
    pulseCondition a b p.mark (addCorrected p.corrected (channelDifference a b)) c.correction
  else none

/-- R78 to R88: PIU's part of a compartment tick, with the compartment's gross before it. -/
def pulseTick (c : LaneCfg) (gross : Nat) (p : Piu) : PulseTick :=
  let a := channelDelta p.cntA p.snapA
  let b := channelDelta p.cntB p.snapB
  let raised := raisedFault c a b p
  { piu := { countTick c a b p with fault := match raised with
      | none => p.fault
      | some code => some ⟨code, gross⟩ }
    pulses := correctedPulses c.level a b
    raised := raised }

/-- R78, R84: PIU's part of a leak tick: the mark clears without effect. -/
def leakTick (c : LaneCfg) (p : Piu) : Piu × Nat :=
  ({ snapshot p with mark := false },
    correctedPulses c.level (channelDelta p.cntA p.snapA) (channelDelta p.cntB p.snapB))

/-- R89: the lane writes the count and the flags into the compartment record. -/
def recordPulses (p : Piu) (r : CompRecord) : CompRecord :=
  { r with
    corrected := p.corrected
    flags := { r.flags with
      overspeed := r.flags.overspeed || p.overspeed
      phaseReversed := r.flags.phaseReversed || p.reversed } }

/-- R83: the arriving A edge becomes the pending one, its B edge cleared but for one of the same timer value (R77). -/
def pendEdge (now : Nat) (cap : Word32) (tied : Option Word32) (p : Piu) : Piu :=
  { p with pendingA := some ⟨cap, tied, now + Config.edgeTime⟩ }

/-- R83, R84: an A edge judged not followed; the third in a row sets the classification mark. -/
def notFollowed (p : Piu) : Piu := if p.run + 1 = 3 then { p with run := 0, mark := true } else { p with run := p.run + 1 }

/-- R83: the pending A edge is judged, or dropped unjudged if it is older than its limit. -/
def judgeEdge (now : Nat) (cap : Word32) (firstB : Option Word32) (e : PendingEdge) (p : Piu) : Piu :=
  if e.due < now then { p with run := 0 }
  else if edgeFollowed e.capture firstB cap then { p with run := 0 }
  else notFollowed p

/-- R77: the B edge of this very timer value, which the A edge precedes although its command came first. -/
def tiedB (now : Nat) (cap : Word32) (p : Piu) : Option Word32 := if p.lastB = some now then some cap else none

/-- R77, R83: the first B edge that came before an A edge now arriving: a B edge of the same timer value came after it. -/
def earlierB (tied : Option Word32) (e : PendingEdge) : Option Word32 := if e.firstB = tied then none else e.firstB

/-- R77, R83, R84: the phase watcher at an A edge. -/
def watchA (now : Nat) (cap : Word32) (p : Piu) : Piu :=
  let tied := tiedB now cap p
  pendEdge now cap tied (match p.pendingA with
    | none => p
    | some e => judgeEdge now cap (earlierB tied e) e p)

/-- R83: the phase watcher at a B edge: only the first B edge after the pending A edge is used. -/
def watchB (now : Nat) (cap : Word32) (p : Piu) : Piu :=
  { p with
    lastB := some now
    pendingA := p.pendingA.map fun e => match e.firstB with
      | none => { e with firstB := some cap }
      | some _ => e }

/-- R83: the phase watcher runs at levels 1 and 2, from the completion of start-up. -/
def watches (s : State) (i : LaneNo) : Bool :=
  s.sul.done && (match s.laneCfg i with
    | none => false
    | some c => decide (c.level ≠ 0))

/-- R77: a rising edge of channel A is counted and captured. -/
def countA (cap : Word32) (p : Piu) : Piu := { p with cntA := p.cntA + 1, capA := cap, levelA := some true }

/-- R77: a rising edge of channel B is counted and captured. -/
def countB (cap : Word32) (p : Piu) : Piu := { p with cntB := p.cntB + 1, capB := cap, levelB := some true }

/-! ### Volume (R92 to R107) -/

/-- R96 to R98: the tick's sample joins the window if it is valid. -/
def sampleWindow (c : TempCfg) (raw : Nat) (w : List Int) : List Int :=
  if sampleValid raw then joinWindow w (calibrate c raw) else w

/-- R99, R100: the fault run count after a compartment tick. -/
def runAfter (raw run : Nat) : Nat := if sampleValid raw then 0 else min (run + 1) 40

/-- R99, R100: the temperature before clamping: the filtered one, or the default while no valid sample has been taken
since the opening. -/
def rawTemp (valid : Bool) (w : List Int) : Int := if valid then (filtered w).getD 1500 else 1500

/-- R99 to R101: the temperature flags that a compartment tick sets. -/
def tempFlags (valid : Bool) (raw run : Nat) (t : Int) (f : CompFlags) : CompFlags :=
  { f with
    tempHeld := f.tempHeld || (!sampleValid raw && valid && decide (40 ≤ run))
    tempDefault := f.tempDefault || (!sampleValid raw && !valid)
    tempClamped := f.tempClamped || decide (clampTemp t ≠ t) }

/-- The configured quantities that VEN reads for a lane (Table 5-1). -/
structure VenCfg where
  lane    : LaneCfg
  temp    : TempCfg
  product : ProductCfg
  curve   : List PointCfg
  deriving DecidableEq, Repr

/-- Table 5-1 for a fitted lane; R206 sees to it that every part is loaded. -/
def State.venCfg (s : State) (i : LaneNo) : Option VenCfg :=
  match s.laneCfg i, s.cfg.temps[i] with
  | some l, some t =>
    (entryOf s.cfg.products l.product).map fun p => ⟨l, t, p, (lanePoints s.cfg i).map (·.2)⟩
  | _, _ => none

/-- What a compartment pass of VEN leaves (R92): its state, the record, Δg and the new history. -/
structure Pass where
  ven    : Ven
  record : CompRecord
  dg     : Nat
  hist   : List Nat
  deriving DecidableEq, Repr

/-- R92: VEN's compartment pass on Δp pulses and a raw sample. -/
def venPass (c : VenCfg) (pulses raw : Nat) (hist : List Nat) (v : Ven) (r : CompRecord) : Pass :=
  let (dg, gc) := meterVolume pulses (meterFactor c.curve v.q) v.grossCarry c.lane.k
  let w := sampleWindow c.temp raw v.window
  let valid := v.valid || sampleValid raw
  let run := runAfter raw v.faultRun
  let t := rawTemp valid w
  let use := clampTemp t
  let (ds, sc) := standardVolume dg (vcf c.product.alpha c.product.beta use) v.stdCarry
  let h := pushHistory hist dg
  { ven := { v with
      grossCarry := gc
      stdCarry := sc
      q := flowRate h
      window := w
      faultRun := run
      valid := valid
      sigma := addSigma v.sigma dg use }
    record := { r with gross := addVolume r.gross dg, std := addVolume r.std ds, flags := tempFlags valid raw run t r.flags }
    dg := dg
    hist := h }

/-- R92, R95: VEN's leak pass: the leak increment, the leak carry after it, and VEN's state with its new Q. -/
def leakPass (c : VenCfg) (pulses raw carry : Nat) (hist : List Nat) (v : Ven) : Nat × Nat × List Nat × Ven :=
  let (dg, gc) := meterVolume pulses (meterFactor c.curve v.q) carry c.lane.k
  let h := pushHistory hist dg
  (dg, gc, h, { v with q := flowRate h, window := sampleWindow c.temp raw v.window })

/-! ### The lane's pass (R51) -/

/-- R51 step 1: pulses, and the fault they raise. -/
def pulseStep (i : LaneNo) (pt : PulseTick) (s : State) : State :=
  let t := (s.modPiu i fun _ => pt.piu).modRecord i (recordPulses pt.piu)
  match pt.raised with
  | none => t
  | some _ => takeFault i .pulseFault t

/-- R51 step 2: volume. -/
def volumeStep (i : LaneNo) (p : Pass) (s : State) : State :=
  (s.modLane i fun l => { l with ven := p.ven, hist := p.hist }).modRecord i fun _ => p.record

/-- R52: full flow, then slowdown, after the close check has not closed the lane. -/
def stageAfter (c : LaneCfg) (st : Stage) (preset gross : Nat) : Stage :=
  let s1 := if st = .lowFlow ∧ c.lowVolume * 1000 ≤ gross then .fullFlow else st
  if (s1 = .lowFlow ∨ s1 = .fullFlow) ∧ remaining preset gross ≤ (c.slowVolume : Int) * 1000 then .slowdown else s1

/-- R52, R53: the stage checks of a flowing stage. -/
def stageStep (c : LaneCfg) (i : LaneNo) (s : State) : State :=
  if closeDue (s.preset i) (s.gross i) (s.lane i).learned then closeDecision i .preset s
  else setStage i (stageAfter c (s.stage i) (s.preset i) (s.gross i)) s

/-- R59: the closing checks of a tick with this Δp. -/
def closingStep (i : LaneNo) (pulses : Nat) (s : State) : State :=
  let n := if pulses = 0 then (s.lane i).quiet + 1 else 0
  let t := s.modLane i fun l => { l with quiet := n }
  if 4 ≤ n then enterEnded i t else t

/-- R51 step 4. -/
def checkStep (c : LaneCfg) (i : LaneNo) (pulses : Nat) (s : State) : State :=
  if (s.stage i).flowing then stageStep c i s
  else if s.stage i = .closing then closingStep i pulses s
  else s

/-- R66: the no-flow watch after the steering decision of the tick. -/
def noFlowStep (i : LaneNo) (pulses : Nat) (d : Steer) (s : State) : State :=
  let n := if pulses = 0 ∧ d = .open then (s.lane i).noFlow + 1 else 0
  let t := s.modLane i fun l => { l with noFlow := n }
  if 16 ≤ n then closeDecision i .noFlow t else t

/-- R51 step 5: setpoint, steering and the no-flow watch of a flowing stage. That a higher limit which DSC gives in step 3 of the
same tick is used here, and not only from the next tick (R124), is the model's choice (log 45). -/
def steerStep (i : LaneNo) (pulses : Nat) (s : State) : State :=
  if (s.stage i).flowing then
    let t := rise i (retarget i s)
    noFlowStep i pulses (t.decision i) (steerNow i t)
  else s

/-- R51 step 6: one checkpoint if the tick changed the stage of an open compartment or its gross passed a whole multiple
of 1,000,000 mL. -/
def checkpointStep (i : LaneNo) (before : Stage) (gross : Nat) (s : State) : State :=
  if (s.stage i).compartmentOpen ∧ (s.stage i ≠ before ∨ passedMultiple gross (s.gross i)) then offerCheckpoint i s else s

/-- R51: the pass of a lane with a compartment open. -/
def compartmentPass (i : LaneNo) (c : VenCfg) (raw : Nat) (s : State) : State :=
  let pt := pulseTick c.lane (s.gross i) (s.lane i).piu
  let s1 := pulseStep i pt s
  let p := venPass c pt.pulses raw (s.lane i).hist (s.lane i).ven ((s1.record i).getD {})
  let s2 := dosePass i p.dg (volumeStep i p s1)
  checkpointStep i (s.stage i) (s.gross i) (steerStep i pt.pulses (checkStep c.lane i pt.pulses s2))

/-- R74: a lane's leak volume first exceeds 10,000 mL. -/
def leakReport (before after : Nat) (s : State) : State :=
  if before ≤ 10000 ∧ 10000 < after then
    (s.modIlm fun m => { m with leakAlarm := true }).modTripFlags fun f => { f with leak := true }
  else s

/-- R51, R73: the pass of a lane with no compartment open. -/
def leakLanePass (i : LaneNo) (c : VenCfg) (raw : Nat) (s : State) : State :=
  let l := s.lane i
  let (piu, pulses) := leakTick c.lane l.piu
  let (dg, carry, hist, ven) := leakPass c pulses raw l.leakCarry l.hist l.ven
  leakReport l.leak (addLeak l.leak dg)
    (s.modLane i fun x => { x with
      piu := piu, ven := ven, hist := hist, leakCarry := carry, leak := addLeak l.leak dg })

/-- R51: one pass of a lane. -/
def lanePass (i : LaneNo) (raw : Nat) (s : State) : State :=
  match s.venCfg i with
  | none => s
  | some c => if (s.stage i).compartmentOpen then compartmentPass i c raw s else leakLanePass i c raw s

end Sys2Proof.Machine
end

