-- ==== Sys2Proof/Machine/LaneCommands.lean ====
section
/-! DEFINITION. The commands of a lane, its meter channels and the injectors (Chapters 3, 4, 6), and the share tick
(Chapter 7). -/

namespace Sys2Proof.Machine

/-- METERING_TICK (R51): the tick restarts and the lane makes one pass. -/
def execMeteringTick (i : LaneNo) (raw : BitVec 12) (s : State) : Answer :=
  onExpiry (s.lane i).tick
    (fun d t => lanePass i raw.toNat (t.modLane i fun l => { l with tick := some (d + Config.tickTime) })) s

/-- R57: the outputs at the end of an open or close step: OPEN off and HOLD on. -/
def endStep (i : LaneNo) (s : State) : State :=
  s.modLane i fun l => { l with step := none, openOut := false, holdOut := s.mayEnergise i }

/-- VALVE_STEP_END (R57). -/
def execValveStepEnd (i : LaneNo) (s : State) : Answer :=
  onExpiry ((s.lane i).step.map (·.due)) (fun _ t => endStep i t) s

/-- R60: the closing timer expires while the lane is in CLOSING: VALVE-LEAK, and the lane enters ENDED. -/
def valveLeak (i : LaneNo) (s : State) : State :=
  if s.stage i = .closing then enterEnded i (s.modFlags i fun f => { f with valveLeak := true })
  else s.modLane i fun l => { l with closing := none }

/-- CLOSING_TIMER_EXPIRY (R60). -/
def execClosingTimerExpiry (i : LaneNo) (s : State) : Answer := onExpiry (s.lane i).closing (fun _ t => valveLeak i t) s

/-- R77, R83: an edge of channel A. -/
def edgeA (i : LaneNo) (cap : Word32) (s : State) : State :=
  s.modPiu i fun p => if watches s i then watchA s.now cap (countA cap p) else countA cap p

/-- R77, R83: an edge of channel B. -/
def edgeB (i : LaneNo) (cap : Word32) (s : State) : State :=
  s.modPiu i fun p => if watches s i then watchB s.now cap (countB cap p) else countB cap p

/-- The image has not been loaded yet, so that no lane is known to be unfitted (R203, R204). -/
def SulPhase.beforeTables : SulPhase → Bool
  | .straps => true
  | .header => true
  | .image _ => true
  | _ => false

/-- A lane with a working PIU: a fitted one; until the image has been loaded every lane counts (R75, R77, log 34). -/
def State.counts (s : State) (i : LaneNo) : Bool := s.fitted i || s.sul.phase.beforeTables

/-- RISING_EDGE (R76, R77): counted and captured at the capture timer's value, and passed to the phase watcher; none is lost.
The command is the filtered change from low to high, whatever level the model holds: the fall before it has no row (log 12). -/
def execRisingEdge (i : LaneNo) (ch : Channel) (cap : Word32) (s : State) : Answer :=
  if s.counts i then
    match ch with
    | .a => finish (edgeA i cap (s.reachCapture cap))
    | .b => finish (edgeB i cap (s.reachCapture cap))
  else .next s

/-- PENDING_A_EDGE_TIMEOUT (R83): the pending A edge is dropped unjudged and the run count returns to 0 with it; R83 can also
be read as setting it at the next A edge (log 35). -/
def execPendingAEdgeTimeout (i : LaneNo) (s : State) : Answer :=
  onExpiry ((s.lane i).piu.pendingA.map (·.due)) (fun _ t => t.modPiu i fun p => { p with pendingA := none, run := 0 }) s

/-! ### Injectors (R113, R114, R119 to R121) -/

/-- R113, R114: the drive output turns off, and the window will close 300 ms later. -/
def driveEnd (x : Injector) (now : Nat) : Injector :=
  { x with phase := .spacing, driveDue := none, windowDue := some (now + Config.windowTime) }

/-- DRIVE_TIME_END (R113). -/
def execDriveTimeEnd (j : InjNo) (s : State) : Answer :=
  onExpiry (s.inj j).driveDue (fun d t => t.modInj j fun x => driveEnd x d) s

/-- SPACING_PERIOD_END (R113): the injector leaves SPACING if its window has closed. -/
def execSpacingPeriodEnd (j : InjNo) (s : State) : Answer :=
  onExpiry (s.inj j).spacingDue
    (fun _ t => match s.injLane j with
      | none => tryEndCycle j (t.modInj j fun x => { x with spacingDue := none, spacingOver := true })
      | some i => closeDoses i (tryEndCycle j (t.modInj j fun x => { x with spacingDue := none, spacingOver := true }))) s

/-- Table 6-2: the lane waits in ENDED with an additive line of this injector LIVE. The table records unexpected feedback
there, and R121's sentence does not, since the lane has no compartment open: the table is followed (log 40). -/
def endedLive (j : InjNo) (i : LaneNo) (s : State) : Bool :=
  decide (s.stage i = .ended) && (s.additives i).any fun a => a.live && decide (a.injector = j)

/-- R121, Table 6-2: unexpected feedback (log 40). -/
def unexpected (j : InjNo) (s : State) : State :=
  match s.injLane j with
  | none => s
  | some i =>
    if (s.stage i).compartmentOpen || endedLive j i s then s.modFlags i fun f => { f with injectorLeak := true } else s

/-- R114, R121: a feedback pulse by the window's state. -/
def pulseTaken (j : InjNo) (s : State) : State :=
  match (s.inj j).window with
  | .closed => unexpected j s
  | .opened _ => s.modInj j fun x => { x with window := .opened true }

/-- The feedback input of an injector is read: of a fitted one; until start-up has completed every level is followed
(R112, R114). -/
def State.reads (s : State) (j : InjNo) : Bool := (s.injCfg j).isSome || !s.sul.done

/-- FEEDBACK_PULSE (R112, R114, R121): before start-up completes the level is followed and no pulse is taken; the input
of an unfitted injector is not read, and a level that is active already gives no pulse. -/
def execFeedbackPulse (j : InjNo) (s : State) : Answer :=
  if s.reads j && !(s.inj j).level then
    let t := s.modInj j fun x => { x with level := true }
    finish (if s.sul.done then pulseTaken j t else t)
  else .next s

/-- A feedback pulse was taken in the open window. -/
def Injector.pulsed (x : Injector) : Bool := decide (x.window = .opened true)

/-- R119: the window closes and the stroke is judged; then the injector's cycle may be over, and a lane in ENDED may have
nothing left in progress. -/
def windowEnd (j : InjNo) (s : State) : State :=
  let t := tryEndCycle j (judge j (s.inj j).pulsed (s.modInj j fun x => { x with window := .closed, windowDue := none }))
  match s.injLane j with
  | none => t
  | some i => closeDoses i t

/-- FEEDBACK_WINDOW_CLOSE (R114, R119). -/
def execFeedbackWindowClose (j : InjNo) (s : State) : Answer := onExpiry (s.inj j).windowDue (fun _ t => windowEnd j t) s

/-- SHARE_TICK (R131). -/
def execShareTick (s : State) : Answer :=
  onExpiry s.hsu.tick (fun d t => computeShares (t.modHsu fun u => { u with tick := some (d + Config.shareTime) })) s

end Sys2Proof.Machine
end

