-- ==== Sys2Proof/Machine/Receiver.lean ====
section
/-! DEFINITION. The rack line's receiver and the read-back of own attempts, one microsecond at a time (R146, R148, R149,
R160): which bytes the line's levels spell, and which events the line brings. -/

namespace Sys2Proof.Machine

/-! ### The receiver (R146) -/

/-- The byte that eight sampled data bits spell, most significant bit first. -/
def byteOfBits (bits : List Bool) : Byte := BitVec.ofNat 8 (bits.foldl (fun n b => 2 * n + (if b then 1 else 0)) 0)

/-- R146: the receiver samples the bit in progress at the middle of its bit time: the data bits, a recessive one being a 1,
and the stop bit, which ends the byte and marks a framing error when it is read dominant. -/
def sampleBit (dominant : Bool) (pos : Nat) (r : Receiver) : Receiver :=
  if pos = 4 then { r with phase := .inByte 5 }
  else if pos < 72 then { r with phase := .inByte (pos + 1), bits := r.bits ++ [!dominant] }
  else { r with
    phase := .between, bits := [], bytes := r.bytes ++ [byteOfBits r.bits], framing := r.framing || dominant }

/-- R146: one microsecond of the line's level at the receiver, apart from the end of a frame. -/
def receive (dominant : Bool) (r : Receiver) : Receiver :=
  match r.phase with
  | .ignoring => r
  | .quiet => if dominant then { phase := .inByte 1 } else r
  | .between => if dominant then { r with phase := .inByte 1, bits := [] } else r
  | .inByte pos =>
    if pos % Config.bitTime = 4 then sampleBit dominant pos r else { r with phase := .inByte (pos + 1) }

/-- R146: the line has fallen quiet: the receiver is ready for a new frame. -/
def Receiver.atQuiet (_ : Receiver) : Receiver := { phase := .quiet }

/-- R146: what a quiet ends: the framing mark and the bytes of the frame gathered, if one was. -/
def Receiver.frame (r : Receiver) : Option (Bool × List Byte) :=
  match r.phase with
  | .between => some (r.framing, r.bytes)
  | .inByte _ => some (r.framing, r.bytes)
  | _ => none

/-- R146: 10 bit times of uninterrupted recessive level, in microseconds. -/
def quietTime : Nat := Config.quietBits * Config.bitTime

/-- R146: one microsecond at the receiver, with the recessive time after it: the receiver, and the frame that a quiet which
falls in this microsecond ends. -/
def receiverTick (dominant : Bool) (recessive : Nat) (r : Receiver) : Receiver × Option (Bool × List Byte) :=
  if recessive = quietTime then ((receive dominant r).atQuiet, (receive dominant r).frame) else (receive dominant r, none)

/-- The receiver over a run of levels, one for each microsecond, from a recessive time on: the receiver, the recessive time
after the run, and the frames ended in it. -/
def receiverRun : List Bool → (recessive : Nat) → Receiver → Receiver × Nat × List (Bool × List Byte)
  | [], q, r => (r, q, [])
  | d :: rest, q, r =>
    let n := if d then 0 else q + 1
    let (r1, f) := receiverTick d n r
    let (r2, q2, fs) := receiverRun rest n r1
    (r2, q2, f.toList ++ fs)

/-- A level for each microsecond of a run of bit times. -/
def bitLevels (bits : List Bool) : List Bool := bits.flatMap fun b => List.replicate Config.bitTime b

/-! ### Own attempts (R146, R149) -/

/-- The levels that the attempt on the line drives, one for each bit time (R146). -/
def Lif.driven (l : Lif) : List Bool :=
  match l.onLine with
  | none => []
  | some p => frameLevels (frameBytes l.station p)

/-- The level that LNTX drives: dominant where the attempt on the line has a dominant bit, recessive otherwise (R146,
R156). -/
def Lif.drive (l : Lif) : Bool := (l.driven[l.sent / Config.bitTime]?).getD false

/-- R149: the bit driven is read back, at the middle of its bit time, at another level. -/
def Lif.mismatch (dominant : Bool) (l : Lif) : Bool :=
  decide (l.sent / Config.bitTime < l.driven.length) && decide (l.sent % Config.bitTime = 4) && (l.drive != dominant)

/-! ### The events of the line -/

/-- The command of an accepted frame from another station. -/
def frameCommand (sender : Nat) : Payload → Instr
  | .status link flags time entries => .status sender link flags time entries
  | .claim permit => .claim sender permit
  | .held permit claimant => .held sender permit claimant
  | .release permit => .release sender permit
  | .noteReady note permit => .noteReady sender note permit
  | .noteAsk target note => .noteAsk sender target note
  | .notePart requester note index count isPresent bytes => .notePart sender requester note index count isPresent bytes

/-- R147, R154, R161: the event that a frame's end is: a frame dropped, own echo where an attempt has run, a conflict, or
the frame of a peer. -/
def frameEvent (l : Lif) (framing : Bool) (raw : List Byte) : Instr :=
  match acceptFrame framing raw with
  | none => .frameDropped framing raw
  | some (sender, p) =>
    if l.onLine.isSome then .ownEcho else if sender = l.station then .conflict else frameCommand sender p

/-- The line is sampled: from the completion of a start-up without a config fault on (R146, R156). -/
def State.samples (s : State) : Bool := s.sul.done && decide (s.lif.link ≠ .down)

/-- R146, R149: one microsecond of the line's level at the Line Interface. -/
def lineTick (dominant : Bool) (l : Lif) : Lif :=
  let recessive := if dominant then 0 else l.recessive + 1
  { l with
    sent := if l.onLine.isSome then l.sent + 1 else 0
    recessive := recessive
    dominant := if dominant then l.dominant + 1 else 0
    rx := (receiverTick dominant recessive l.rx).1 }

/-- R148, R150: a frame waits whose gap the quiet so far completes. -/
def Lif.mayBegin (l : Lif) : Bool :=
  l.onLine.isNone && (match chooseFrame l with
    | none => false
    | some x => decide (neededGap x ≤ l.recessive / Config.bitTime))

/-- R160: the link states that watch for a held line. -/
def Link.watchesLine : Link → Bool
  | .listen => true | .join => true | .run => true | .alone => true
  | _ => false

/-- R146 to R149, R160: the events that one microsecond of the line's level brings, with the Line Interface before it. -/
def lineEvents (dominant : Bool) (l : Lif) : List Instr :=
  let t := lineTick dominant l
  (if l.mismatch dominant then [.collision] else []) ++
  ((receiverTick dominant t.recessive l.rx).2.toList.map fun (framing, raw) => frameEvent l framing raw) ++
  (if t.mayBegin then [.accessAttempt (t.recessive / Config.bitTime)] else []) ++
  (if l.link.watchesLine ∧ Config.heldLineTime ≤ t.dominant then [.heldLineDetected] else []) ++
  (if l.link = .heldLine ∧ Config.recessiveTime ≤ t.recessive then [.heldLineEnd] else [])

end Sys2Proof.Machine
end

