-- ==== Sys2Proof/Machine/LineCommands.lean ====
section
/-! DEFINITION. The commands of the rack line and of the printer (Chapters 8 and 9): peer frames, own attempts, line timers,
ageing, rack time, BUSY. -/

namespace Sys2Proof.Machine

/-! ### Peer frames (R147, R154) -/

/-- A peer frame with what it is delivered to. -/
def hearFrame (sender : Nat) (p : Payload) (deliver : State → State) (s : State) : Answer :=
  finish (peerFrame sender p deliver s)

/-- STATUS (R162, R166): the peer table and rack time; delivered to no block. -/
def execStatus (sender : Nat) (link flags : Byte) (time : Word32) (entries : List HeaderEntry) (s : State) : Answer :=
  hearFrame sender (.status link flags time entries) id s

/-- CLAIM (R15, R16, R20). -/
def execClaim (sender : Nat) (permit : Word32) (s : State) : Answer :=
  hearFrame sender (.claim permit) (hearClaim sender permit) s

/-- HELD (R17). -/
def execHeld (sender : Nat) (permit : Word32) (claimant : Nat) (s : State) : Answer :=
  hearFrame sender (.held permit claimant) (hearHeld permit) s

/-- RELEASE (R154): age refresh only. -/
def execRelease (sender : Nat) (permit : Word32) (s : State) : Answer := hearFrame sender (.release permit) id s

/-- NOTE_READY (R154): age refresh only. -/
def execNoteReady (sender : Nat) (note permit : Word32) (s : State) : Answer :=
  hearFrame sender (.noteReady note permit) id s

/-- R154, R184: an ask for own number is delivered in RUN and ALONE only. -/
def hearAsk (sender target : Nat) (note : Word32) (s : State) : State :=
  if target = s.lif.station ∧ s.lif.link.sends then takeAsk ⟨sender, note⟩ s else s

/-- NOTE_ASK (R154, R184). -/
def execNoteAsk (sender target : Nat) (note : Word32) (s : State) : Answer :=
  hearFrame sender (.noteAsk target note) (hearAsk sender target note) s

/-- NOTE_PART (R154): age refresh only. -/
def execNotePart (sender requester : Nat) (note : Word32) (index count : Nat) (isPresent : Bool) (bytes : List Byte)
    (s : State) : Answer :=
  hearFrame sender (.notePart requester note index count isPresent bytes) id s

/-! ### Own frames (R147 to R154, R161) -/

/-- OWN_ECHO (R154): own attempt, run to its end, is heard back intact. -/
def execOwnEcho (s : State) : Answer :=
  match s.lif.onLine with
  | none => .next s
  | some p => finish (ownEchoOf p s)

/-- CONFLICT (R161): an accepted frame with own number that is not own echo. -/
def execConflict (s : State) : Answer :=
  if s.sul.done then finish (conflictHeard s) else .next s

/-- FRAME_DROPPED (R147, R149): it has no effect but that the last frame on the line was not an own one (log 18); when it
was own attempt run to its end, its echo was dropped. Bytes that pass the acceptance test of R147 are no dropped frame
(log 26). -/
def execFrameDropped (framing : Bool) (raw : List Byte) (s : State) : Answer :=
  if (acceptFrame framing raw).isSome then .next s
  else
    match s.lif.onLine with
    | none => .next (s.modLif fun l => { l with ownLast := false })
    | some _ => finish (echoDropped (s.modLif fun l => { l with ownLast := true }))

/-- ACCESS_ATTEMPT (R148, R150): the line has been quiet for this many bit times. -/
def execAccessAttempt (quiet : Nat) (s : State) : Answer := finish (beginAttempt quiet s)

/-- COLLISION (R149): a bit of own attempt was read back at another level. -/
def execCollision (s : State) : Answer :=
  match s.lif.onLine with
  | none => .next s
  | some _ => finish (collided s)

/-! ### Line timers (R153, R157, R159, R160) -/

/-- STATUS_PERIOD_EXPIRY (R153). -/
def execStatusPeriodExpiry (s : State) : Answer :=
  onExpiry s.lif.period (fun _ t => statusDueNow (t.modLif fun l => { l with period := none })) s

/-- STATUS_SPACING_EXPIRY (R153): the change-triggered STATUS is due. -/
def execStatusSpacingExpiry (s : State) : Answer :=
  onExpiry s.lif.spacing (fun _ t => statusDueNow (t.modLif fun l => { l with spacing := none })) s

/-- R159: RUN becomes ALONE. -/
def aloneEnd (s : State) : State :=
  let t := s.modLif fun l => { l with alone := none }
  if t.lif.link = .run then setLink .alone t else t

/-- ALONE_TIMER_EXPIRY (R159). -/
def execAloneTimerExpiry (s : State) : Answer := onExpiry s.lif.alone (fun _ t => aloneEnd t) s

/-- R157: LISTEN becomes JOIN. -/
def listenEnd (s : State) : State :=
  if s.lif.link = .listen then enterJoin s else s.modLif fun l => { l with listen := none }

/-- LISTEN_WINDOW_EXPIRY (R157, R158). -/
def execListenWindowExpiry (s : State) : Answer := onExpiry s.lif.listen (fun _ t => listenEnd t) s

/-- HELD_LINE_DETECTED (R160). -/
def execHeldLineDetected (s : State) : Answer :=
  if s.lif.link.watchesLine then finish (enterHeldLine s) else .next s

/-- HELD_LINE_END (R160). -/
def execHeldLineEnd (s : State) : Answer :=
  if s.lif.link = .heldLine then finish (enterListen s) else .next s

/-! ### Ageing (R163) -/

/-- The link states in which entries age (R163). -/
def Link.ages : Link → Bool
  | .listen => true | .join => true | .run => true | .alone => true | .mute => true
  | _ => false

/-- Change the entries of a station. -/
def mapPeer (station : Nat) (f : Peer → Peer) (s : State) : State :=
  s.modLif fun l => { l with peers := l.peers.map fun e => if e.station = station then f e else e }

/-- Remove a station's entry. -/
def dropPeer (station : Nat) (s : State) : State :=
  s.modLif fun l => { l with peers := l.peers.filter fun e => decide (e.station ≠ station) }

/-- FRESH_TO_STALE (R163): an entry at 2 s. -/
def execFreshToStale (station : Nat) (s : State) : Answer :=
  match s.peer station with
  | none => .next s
  | some e =>
    if s.lif.link.ages ∧ e.age = .fresh then
      finish (mapPeer station (fun x => { x with age := .stale }) (s.reach (e.heardAt + Config.staleAge)))
    else .next s

/-- STALE_TO_SILENT (R163): an entry at 6 s becomes SILENT, or is removed when it has neither a demand nor the halt
flag. -/
def execStaleToSilent (station : Nat) (s : State) : Answer :=
  match s.peer station with
  | none => .next s
  | some e =>
    if s.lif.link.ages ∧ e.age = .stale then
      let t := s.reach (e.heardAt + Config.silentAge)
      finish (if e.keeps then mapPeer station (fun x => { x with age := .silent }) t else dropPeer station t)
    else .next s

/-- SILENT_REMOVAL (R163): a SILENT entry at 30 s, kept while its halt flag is set. -/
def execSilentRemoval (station : Nat) (s : State) : Answer :=
  match s.peer station with
  | none => .next s
  | some e =>
    if s.lif.link.ages ∧ e.age = .silent ∧ !e.halt then
      finish (dropPeer station (s.reach (e.heardAt + Config.removalAge)))
    else .next s

/-! ### Rack time (R165) -/

/-- SECOND_TIMER (R165). -/
def execSecondTimer (s : State) : Answer :=
  onExpiry s.lif.second
    (fun d t => t.modLif fun l => { l with time := nextSecond l, second := some (d + Config.secondTime) }) s

/-! ### Printer (R181, R207) -/

/-- R181: BUSY becomes asserted: the head entry's BUSY timer starts. -/
def busyAsserted (s : State) : State :=
  s.modNtb fun x => { x with port := { x.port with
    busy := true
    timer := if s.sul.done && !x.prints.isEmpty then some (s.now + Config.busyTime) else x.port.timer } }

/-- R181: BUSY is released: the timer stops and the next character is sent. -/
def busyReleased (s : State) : State :=
  sendNext (s.modNtb fun x => { x with port := { x.port with busy := false, timer := none } })

/-- BUSY_CHANGE (R181): before printing begins only the level is taken. -/
def execBusyChange (asserted : Bool) (s : State) : Answer :=
  if s.ntb.port.busy = asserted then .next s
  else finish (if asserted then busyAsserted s else busyReleased s)

/-- R181: a character has left the port; with the last one the print is complete. -/
def characterGone (s : State) : State :=
  let t := s.modNtb fun x => { x with port := { x.port with wire := none } }
  if t.ntb.port.chars = [] then finishPrint printPrinted t else sendNext t

/-- CHARACTER_SENT (R181). -/
def execCharacterSent (s : State) : Answer :=
  match s.ntb.port.wire with
  | none => .next s
  | some c => finish (characterGone (s.emit (.printed c)))

/-- BUSY_TIMER_EXPIRY (R181): the print is abandoned. -/
def execBusyTimerExpiry (s : State) : Answer := onExpiry s.ntb.port.timer (fun _ t => finishPrint printFailed t) s

end Sys2Proof.Machine
end

