-- ==== Sys2Proof/Machine/ReaderCommands.lean ====
section
/-! DEFINITION. The commands of the card reader and of Permit Control's timers (Chapter 1). -/

namespace Sys2Proof.Machine

/-- What becomes of a CARD message (R5 to R7). -/
inductive CardAction where
  | ignore
  | refuse (reason : CardRefusal)
  | takeTrip
  | writeTrip
  | writePending
  deriving DecidableEq, Repr

/-- The pending stamp belongs to this permit (R6, R7). -/
def pendingFor (s : State) (permit : Word32) : Bool := decide (s.pct.pendingStamp.map (·.permit) = some permit)

/-- R6: a card while the trip slot is EMPTY. -/
def cardAtEmpty (block : List Byte) (s : State) : CardAction :=
  match intakeCheck block with
  | some r => .refuse r
  | none => if pendingFor s (cardTrip block).permit then .writePending else .takeTrip

/-- R7: a card in AWAIT-STAMP. -/
def cardAtStamp (block : List Byte) (s : State) : CardAction :=
  match intakeCheck block with
  | some r => .refuse r
  | none => if s.permit = some (cardTrip block).permit then .writeTrip else .ignore

/-- R7: a card in the other states: only the pending stamp's permit has an effect, and only if it is not the trip's. -/
def cardDuringTrip (block : List Byte) (s : State) : CardAction :=
  match intakeCheck block with
  | some _ => .ignore
  | none =>
    if s.permit = some (cardTrip block).permit then .ignore
    else if pendingFor s (cardTrip block).permit then .writePending
    else .ignore

/-- R5 to R7: a CARD message is ignored before start-up completes and while a WRITE is outstanding. -/
def cardAction (block : List Byte) (s : State) : CardAction :=
  if !s.sul.done || s.pct.write.isSome then .ignore
  else
    match s.pct.slot with
    | .empty => cardAtEmpty block s
    | .awaitStamp => cardAtStamp block s
    | _ => cardDuringTrip block s

/-- A CARD message reaches PCT (R5 to R7). An ignored card changes no state. -/
def takeCard (block : List Byte) (s : State) : Answer :=
  match cardAction block s with
  | .ignore => .next s
  | .refuse r => finish (refuseCard r s)
  | .takeTrip => finish (takeTrip (cardTrip block) s)
  | .writeTrip => finish (writeTripStamp s)
  | .writePending => finish (writePending s)

/-- A WRITE-DONE (`success`) or WRITE-FAIL reaches PCT (R26, R27); with no WRITE outstanding it is discarded (R1). -/
def takeReply (success : Bool) (s : State) : Answer :=
  if s.pct.write.isSome then finish (if success then writeSucceeded s else writeFailed s) else .next s

/-- A message of the reader whose bytes are good reaches PCT as the event of its kind (R1, Table 12-14). -/
def takeMessage (raw : List Byte) (s : State) : Answer :=
  match fieldNat raw 0 1 with
  | 1 => takeCard (field raw 2 (fieldNat raw 1 1)) s
  | 2 => takeReply true s
  | _ => takeReply false s

/-- CARD (R5 to R7): the bytes read from the card's permit block. -/
def execCard (block : List Byte) (s : State) : Answer := takeCard block s

/-- READER_MESSAGE_DISCARDED (R1, Table 12-14): a message of another kind, another length or a check that does not match is
discarded at the port. Bytes that make a good message are taken as that message (log 44). -/
def execReaderMessageDiscarded (raw : List Byte) (s : State) : Answer :=
  if readerMessageOk raw then takeMessage raw s else .next s

/-- READER_BYTE_GAP_TIMEOUT (R1): the bytes of the message received so far are discarded, and the next byte begins a new
message. -/
def execReaderByteGapTimeout (s : State) : Answer := onExpiry s.crd.gap (fun _ t => { t with crd := {} }) s

/-- WRITE_DONE (R26, R27). -/
def execWriteDone (s : State) : Answer := takeReply true s

/-- WRITE_FAIL (R26, R27). -/
def execWriteFail (s : State) : Answer := takeReply false s

/-- REPLY_TIMER_EXPIRY (R26, R27): as WRITE-FAIL. -/
def execReplyTimerExpiry (s : State) : Answer := onExpiry s.pct.replyTimer (fun _ t => writeFailed t) s

/-- R18: the claim window expires. -/
def claimWindowEnd (s : State) : State :=
  if s.pct.slot = .claiming then enterAuthorized s else s.modPct fun p => { p with claimWindow := none }

/-- CLAIM_WINDOW_EXPIRY (R18). -/
def execClaimWindowExpiry (s : State) : Answer := onExpiry s.pct.claimWindow (fun _ t => claimWindowEnd t) s

/-- R22: a lane PRIMED on a line of the trip returns to IDLE. -/
def unprime (i : LaneNo) (s : State) : State := if s.stage i = .primed then toIdle i s else s

/-- R22: the trip ends with no loads. -/
def authEnd (s : State) : State :=
  match s.pct.slot, s.permit with
  | .authorized, some p =>
    (pctSend (.release p) ((s.eachLane unprime).modPct fun x =>
      { x with slot := .empty, trip := none, authTimer := none, heard := false }))
  | _, _ => s.modPct fun x => { x with authTimer := none }

/-- AUTHORIZATION_TIMEOUT (R22). -/
def execAuthorizationTimeout (s : State) : Answer := onExpiry s.pct.authTimer (fun _ t => authEnd t) s

/-- R23: the trip idle timer expires. -/
def idleEnd (s : State) : State :=
  if s.pct.slot = .released then enterClosing s else s.modPct fun p => { p with idleTimer := none }

/-- TRIP_IDLE_TIMER_EXPIRY (R23). -/
def execTripIdleTimerExpiry (s : State) : Answer := onExpiry s.pct.idleTimer (fun _ t => idleEnd t) s

/-- R26: the stamp window expires with no WRITE of the trip's stamp outstanding (log 13). -/
def stampWindowEnd (s : State) : State :=
  if s.pct.slot = .awaitStamp then stampToPending s else s.modPct fun p => { p with stampWindow := none }

/-- STAMP_WINDOW_EXPIRY (R26). -/
def execStampWindowExpiry (s : State) : Answer := onExpiry s.pct.stampWindow (fun _ t => stampWindowEnd t) s

/-- R27: the lifetime of the pending stamp expires; during a WRITE of it the expiry is held. -/
def lifetimeEnd (s : State) : State :=
  if s.pct.write = some .pendingStamp then s.modPct fun p => { p with lifetime := none, lifetimeHeld := true }
  else lapsePending (s.modPct fun p => { p with lifetime := none })

/-- STAMP_LIFETIME_EXPIRY (R27). -/
def execStampLifetimeExpiry (s : State) : Answer := onExpiry s.pct.lifetime (fun _ t => lifetimeEnd t) s

end Sys2Proof.Machine
end

