-- ==== Sys2Proof/Machine/Dispatch.lean ====
section
/-! DEFINITION. The dispatch of the commands: one meaning for each row of the table. -/

namespace Sys2Proof.Machine

def exec (i : Instr) (s : State) : Host.Outcome State Fault Refusal :=
  match i with
  | .reset straps listenOnly => Sys2Proof.Machine.execReset straps listenOnly s
  | .pageReadComplete => Sys2Proof.Machine.execPageReadComplete s
  | .startUpCompletion => Sys2Proof.Machine.execStartUpCompletion s
  | .card block => Sys2Proof.Machine.execCard block s
  | .readerMessageDiscarded raw => Sys2Proof.Machine.execReaderMessageDiscarded raw s
  | .readerByteGapTimeout => Sys2Proof.Machine.execReaderByteGapTimeout s
  | .writeDone => Sys2Proof.Machine.execWriteDone s
  | .writeFail => Sys2Proof.Machine.execWriteFail s
  | .replyTimerExpiry => Sys2Proof.Machine.execReplyTimerExpiry s
  | .claimWindowExpiry => Sys2Proof.Machine.execClaimWindowExpiry s
  | .authorizationTimeout => Sys2Proof.Machine.execAuthorizationTimeout s
  | .tripIdleTimerExpiry => Sys2Proof.Machine.execTripIdleTimerExpiry s
  | .stampWindowExpiry => Sys2Proof.Machine.execStampWindowExpiry s
  | .stampLifetimeExpiry => Sys2Proof.Machine.execStampLifetimeExpiry s
  | .permissiveChange input good => Sys2Proof.Machine.execPermissiveChange input good s
  | .armConnect lane => Sys2Proof.Machine.execArmConnect lane s
  | .armDrop lane => Sys2Proof.Machine.execArmDrop lane s
  | .rstopChange pressed => Sys2Proof.Machine.execRstopChange pressed s
  | .start => Sys2Proof.Machine.execStart s
  | .stop => Sys2Proof.Machine.execStop s
  | .ackPress => Sys2Proof.Machine.execAckPress s
  | .ackRelease => Sys2Proof.Machine.execAckRelease s
  | .ackHoldEvent => Sys2Proof.Machine.execAckHoldEvent s
  | .refusalPulseEnd => Sys2Proof.Machine.execRefusalPulseEnd s
  | .lampStretchEnd lamp => Sys2Proof.Machine.execLampStretchEnd lamp s
  | .lampBlinkPhase lamp => Sys2Proof.Machine.execLampBlinkPhase lamp s
  | .faultCodePatternPhase => Sys2Proof.Machine.execFaultCodePatternPhase s
  | .meteringTick lane raw => Sys2Proof.Machine.execMeteringTick lane raw s
  | .valveStepEnd lane => Sys2Proof.Machine.execValveStepEnd lane s
  | .closingTimerExpiry lane => Sys2Proof.Machine.execClosingTimerExpiry lane s
  | .risingEdge lane channel capture => Sys2Proof.Machine.execRisingEdge lane channel capture s
  | .pendingAEdgeTimeout lane => Sys2Proof.Machine.execPendingAEdgeTimeout lane s
  | .driveTimeEnd inj => Sys2Proof.Machine.execDriveTimeEnd inj s
  | .spacingPeriodEnd inj => Sys2Proof.Machine.execSpacingPeriodEnd inj s
  | .feedbackPulse inj => Sys2Proof.Machine.execFeedbackPulse inj s
  | .feedbackWindowClose inj => Sys2Proof.Machine.execFeedbackWindowClose inj s
  | .shareTick => Sys2Proof.Machine.execShareTick s
  | .status sender link flags time entries => Sys2Proof.Machine.execStatus sender link flags time entries s
  | .claim sender permit => Sys2Proof.Machine.execClaim sender permit s
  | .held sender permit claimant => Sys2Proof.Machine.execHeld sender permit claimant s
  | .release sender permit => Sys2Proof.Machine.execRelease sender permit s
  | .noteReady sender note permit => Sys2Proof.Machine.execNoteReady sender note permit s
  | .noteAsk sender target note => Sys2Proof.Machine.execNoteAsk sender target note s
  | .notePart sender requester note index count isPresent bytes => Sys2Proof.Machine.execNotePart sender requester note index count isPresent bytes s
  | .ownEcho => Sys2Proof.Machine.execOwnEcho s
  | .conflict => Sys2Proof.Machine.execConflict s
  | .frameDropped framing raw => Sys2Proof.Machine.execFrameDropped framing raw s
  | .accessAttempt quiet => Sys2Proof.Machine.execAccessAttempt quiet s
  | .collision => Sys2Proof.Machine.execCollision s
  | .statusPeriodExpiry => Sys2Proof.Machine.execStatusPeriodExpiry s
  | .statusSpacingExpiry => Sys2Proof.Machine.execStatusSpacingExpiry s
  | .aloneTimerExpiry => Sys2Proof.Machine.execAloneTimerExpiry s
  | .listenWindowExpiry => Sys2Proof.Machine.execListenWindowExpiry s
  | .heldLineDetected => Sys2Proof.Machine.execHeldLineDetected s
  | .heldLineEnd => Sys2Proof.Machine.execHeldLineEnd s
  | .freshToStale station => Sys2Proof.Machine.execFreshToStale station s
  | .staleToSilent station => Sys2Proof.Machine.execStaleToSilent station s
  | .silentRemoval station => Sys2Proof.Machine.execSilentRemoval station s
  | .secondTimer => Sys2Proof.Machine.execSecondTimer s
  | .busyChange asserted => Sys2Proof.Machine.execBusyChange asserted s
  | .characterSent => Sys2Proof.Machine.execCharacterSent s
  | .busyTimerExpiry => Sys2Proof.Machine.execBusyTimerExpiry s
  | .pageWriteComplete => Sys2Proof.Machine.execPageWriteComplete s

end Sys2Proof.Machine
end

