-- ==== Sys2Proof/Machine/ReaderPort.lean ====
section
/-! DEFINITION. The card reader's port, one byte at a time (R1, 12.6): how it delimits the reader's messages, and the event
that each message is. -/

namespace Sys2Proof.Machine

/-- R1, Table 12-14: a message has been received whole: its kind, its contents length, its contents and its check. That an
unknown kind is delimited by its length byte as well is the model's choice (log 47). -/
def messageWhole (bytes : List Byte) : Bool := decide (2 ≤ bytes.length) && decide (fieldNat bytes 1 1 + 4 ≤ bytes.length)

/-- R1: the port after a byte that comes at time `now`, and the message that the byte makes whole. The gap to the next byte of
a message is timed from here. -/
def CardPort.take (b : Byte) (now : Nat) (p : CardPort) : CardPort × Option (List Byte) :=
  let bytes := p.bytes ++ [b]
  if messageWhole bytes then ({}, some bytes) else ({ bytes := bytes, gap := some (now + Config.readerGap) }, none)

/-- R1: the event that a whole message is: one that reaches PCT, or one that is discarded at the port. -/
def messageEvent (raw : List Byte) : Instr :=
  if readerMessageOk raw then
    match fieldNat raw 0 1 with
    | 1 => .card (field raw 2 (fieldNat raw 1 1))
    | 2 => .writeDone
    | _ => .writeFail
  else .readerMessageDiscarded raw

/-- R1: the port over bytes that come with no gap of more than 20 ms, at one time: the port, and the events of the messages
that they make whole. -/
def portRun (now : Nat) : List Byte → CardPort → CardPort × List Instr
  | [], p => (p, [])
  | b :: rest, p =>
    let (p1, m) := p.take b now
    let (p2, events) := portRun now rest p1
    (p2, m.toList.map messageEvent ++ events)

/-- R1: a microsecond at the port that ends at time `now`: a byte that reaches it is taken. -/
def portTick (byte : Option Byte) (now : Nat) (p : CardPort) : CardPort × List Instr :=
  match byte with
  | none => (p, [])
  | some b => ((p.take b now).1, (p.take b now).2.toList.map messageEvent)

end Sys2Proof.Machine
end

