-- ==== Sys2Proof/Machine/Tick.lean ====
section
/-! DEFINITION. What happens while no command waits (log 1): the events of the timers that are due, and otherwise one
microsecond: the clock, the input filters (R28, R76, R114, 9.5), the card reader's port (R1) and the line's receiver (R146),
with the events they bring, which join the queue of commands. -/

namespace Sys2Proof.Machine

/-! ### Input filters (R28, R114, 9.5) -/

/-- R28: one microsecond of a filtered input: the time for which its pin has held a level other than the filtered one. -/
def Pin.tick (filtered : Bool) (time : Nat) (p : Pin) : Pin :=
  { p with run := if p.level = filtered then 0 else if p.run + 1 < time then p.run + 1 else 0 }

/-- R28: the pin has held another level than the filtered one for the filter's time at the end of this microsecond. -/
def Pin.passes (filtered : Bool) (time : Nat) (p : Pin) : Bool := (p.level != filtered) && decide (time ≤ p.run + 1)

/-- An input's filtered change as an event, when its filter passes it in this microsecond. -/
def Pin.event (filtered : Bool) (time : Nat) (event : Bool → List Instr) (p : Pin) : List Instr :=
  if p.passes filtered time then event p.level else []

/-- The pins after one microsecond. -/
def tickPins (s : State) : Pins :=
  { s.pins with
    ground := s.pins.ground.tick s.ilm.ground Config.filterTime
    overfill := s.pins.overfill.tick s.ilm.overfill Config.filterTime
    vapour := s.pins.vapour.tick s.ilm.vapour Config.filterTime
    estop := s.pins.estop.tick s.ilm.estop Config.filterTime
    rstop := s.pins.rstop.tick s.ilm.rstop Config.filterTime
    arm := Vector.ofFn fun i => s.pins.arm[i].tick s.ilm.arm[i] Config.filterTime
    startKey := s.pins.startKey.tick s.ilm.startKey Config.filterTime
    stopKey := s.pins.stopKey.tick s.ilm.stopKey Config.filterTime
    ackKey := s.pins.ackKey.tick s.ilm.ackKey Config.filterTime
    feedback := Vector.ofFn fun j => s.pins.feedback[j].tick s.injs[j].level Config.feedbackTime
    busy := s.pins.busy.tick s.ntb.port.busy Config.busyFilterTime
    cdrx := none }

/-- R38: a key's filtered level after one microsecond: a release that the filter passes is no event, and lowers the level. -/
def keyAfter (level : Bool) (p : Pin) : Bool := level && !(p.passes level Config.filterTime && !p.level)

/-- R76: a channel's filtered level after one microsecond. The first level is taken as it is, a fall is followed, and a
rise is an event that sets the level itself. -/
def channelAfter (pin : Bool) : Option Bool → Option Bool
  | none => some pin
  | some true => some pin
  | some false => some false

/-- R76: the channel levels of a lane's PIU after one microsecond. -/
def piuLevels (a b : Bool) (p : Piu) : Piu := { p with levelA := channelAfter a p.levelA, levelB := channelAfter b p.levelB }

/-- R76: the PIU of a lane that counts follows its pins. -/
def followChannels (i : LaneNo) (s : State) : State :=
  if s.counts i then s.modPiu i (piuLevels s.pins.meterA[i] s.pins.meterB[i]) else s

/-- R114: a feedback input's filtered level after one microsecond: a fall is followed, and a rise is an event. -/
def feedbackAfter (p : Pin) (x : Injector) : Injector :=
  { x with level := x.level && !(p.passes x.level Config.feedbackTime && !p.level) }

/-- The levels that the filters change without an event. -/
def followLevels (s : State) : State :=
  (allInjs.foldl (fun t j => if t.reads j then t.modInj j (feedbackAfter s.pins.feedback[j]) else t)
    (s.eachLane followChannels)).modIlm fun m => { m with
      startKey := keyAfter m.startKey s.pins.startKey, stopKey := keyAfter m.stopKey s.pins.stopKey }

/-- R28, R38: a key press as an event. -/
def pressEvent (c : Instr) (pressed : Bool) : List Instr := if pressed then [c] else []

/-- A channel's filtered level (R76). -/
def Piu.level (p : Piu) : Channel → Option Bool
  | .a => p.levelA
  | .b => p.levelB

/-- R76, R77: a channel's rising edge in this microsecond, with the capture timer's value at its end. -/
def edgeEvent (s : State) (i : LaneNo) (ch : Channel) (pin : Bool) : List Instr :=
  if s.counts i ∧ (s.lane i).piu.level ch = some false ∧ pin then
    [.risingEdge i ch (BitVec.ofNat 32 (s.now + 1))]
  else []

/-- The filtered changes of this microsecond that are events; of two edges of a lane that of channel A comes first (R77). -/
def inputEvents (s : State) : List Instr :=
  s.pins.ground.event s.ilm.ground Config.filterTime (fun x => [.permissiveChange .ground x]) ++
  s.pins.overfill.event s.ilm.overfill Config.filterTime (fun x => [.permissiveChange .overfill x]) ++
  s.pins.vapour.event s.ilm.vapour Config.filterTime (fun x => [.permissiveChange .vapour x]) ++
  s.pins.estop.event s.ilm.estop Config.filterTime (fun x => [.permissiveChange .estop x]) ++
  s.pins.rstop.event s.ilm.rstop Config.filterTime (fun x => [.rstopChange x]) ++
  (allLanes.flatMap fun i => s.pins.arm[i].event s.ilm.arm[i] Config.filterTime fun x =>
    [if x then .armConnect i else .armDrop i]) ++
  s.pins.startKey.event s.ilm.startKey Config.filterTime (pressEvent .start) ++
  s.pins.stopKey.event s.ilm.stopKey Config.filterTime (pressEvent .stop) ++
  s.pins.ackKey.event s.ilm.ackKey Config.filterTime (fun x => [if x then .ackPress else .ackRelease]) ++
  (allLanes.flatMap fun i => edgeEvent s i .a s.pins.meterA[i] ++ edgeEvent s i .b s.pins.meterB[i]) ++
  (allInjs.flatMap fun j =>
    if s.reads j then s.pins.feedback[j].event s.injs[j].level Config.feedbackTime (pressEvent (.feedbackPulse j)) else []) ++
  s.pins.busy.event s.ntb.port.busy Config.busyFilterTime (fun x => [.busyChange x])

/-! ### Timers (log 1) -/

/-- The expiry of a timer as an event, once the clock has reached it. -/
def expiry (now : Nat) (due : Option Nat) (c : Instr) : List Instr :=
  match due with
  | none => []
  | some d => if d ≤ now then [c] else []

/-- The timers of Permit Control and the Interlock Monitor that are due. -/
def bayTimers (s : State) : List Instr :=
  expiry s.now s.pct.replyTimer .replyTimerExpiry ++ expiry s.now s.pct.claimWindow .claimWindowExpiry ++
  expiry s.now s.pct.authTimer .authorizationTimeout ++ expiry s.now s.pct.idleTimer .tripIdleTimerExpiry ++
  expiry s.now s.pct.stampWindow .stampWindowExpiry ++ expiry s.now s.pct.lifetime .stampLifetimeExpiry ++
  expiry s.now s.ilm.ackHold .ackHoldEvent ++ expiry s.now s.ilm.pulse .refusalPulseEnd ++
  (([Lamp.ready, Lamp.card]).flatMap fun x => expiry s.now ((s.ilm.lamp x).blink.map (·.due)) (.lampBlinkPhase x)) ++
  expiry s.now (s.ilm.pattern.map (·.due)) .faultCodePatternPhase ++
  (([Lamp.ready, Lamp.flow, Lamp.card, Lamp.attend]).flatMap fun x =>
    if lampLags x s then expiry s.now (some (s.ilm.lamp x).holdUntil) (.lampStretchEnd x) else [])

/-- The timers of a lane that are due; a tick samples the lane's temperature input (R96). -/
def laneTimers (s : State) (i : LaneNo) : List Instr :=
  expiry s.now (s.lane i).tick (.meteringTick i s.pins.temp[i]) ++
  expiry s.now ((s.lane i).step.map (·.due)) (.valveStepEnd i) ++
  expiry s.now (s.lane i).closing (.closingTimerExpiry i) ++
  expiry s.now ((s.lane i).piu.pendingA.map (·.due)) (.pendingAEdgeTimeout i)

/-- The timers of an injector that are due. -/
def injTimers (s : State) (j : InjNo) : List Instr :=
  expiry s.now (s.inj j).driveDue (.driveTimeEnd j) ++ expiry s.now (s.inj j).spacingDue (.spacingPeriodEnd j) ++
  expiry s.now (s.inj j).windowDue (.feedbackWindowClose j)

/-- R163: the ageing event of a peer entry that is due. -/
def ageEvent (s : State) (e : Peer) : List Instr :=
  match e.age with
  | .fresh => expiry s.now (some (e.heardAt + Config.staleAge)) (.freshToStale e.station)
  | .stale => expiry s.now (some (e.heardAt + Config.silentAge)) (.staleToSilent e.station)
  | .silent => if e.halt then [] else expiry s.now (some (e.heardAt + Config.removalAge)) (.silentRemoval e.station)

/-- The timers of the rack line that are due. -/
def lineTimers (s : State) : List Instr :=
  expiry s.now s.lif.period .statusPeriodExpiry ++ expiry s.now s.lif.spacing .statusSpacingExpiry ++
  expiry s.now s.lif.alone .aloneTimerExpiry ++ expiry s.now s.lif.listen .listenWindowExpiry ++
  expiry s.now s.lif.second .secondTimer ++ (if s.lif.link.ages then s.lif.peers.flatMap (ageEvent s) else [])

/-- R188: the page write at the port is complete. -/
def writeEvent (s : State) : List Instr :=
  match s.stp.port with
  | .writing _ due => expiry s.now (some due) .pageWriteComplete
  | _ => []

/-- R207, R209: start-up completes once it is ready. -/
def completionEvent (s : State) : List Instr := if s.ready then [.startUpCompletion] else []

/-- The events of the timers that are due at the clock's value, in the order in which they are taken: which of two that fall
together comes first the rules leave open (log 1). -/
def dueEvents (s : State) : List Instr :=
  writeEvent s ++ completionEvent s ++ bayTimers s ++ allLanes.flatMap (laneTimers s) ++ allInjs.flatMap (injTimers s) ++
  expiry s.now s.hsu.tick .shareTick ++ lineTimers s ++ expiry s.now s.ntb.port.timer .busyTimerExpiry ++
  expiry s.now s.crd.gap .readerByteGapTimeout

/-! ### The microsecond -/

/-- The line's part of a microsecond. -/
def followLine (s : State) : State := if s.samples then s.modLif (lineTick s.pins.line) else s

/-- The events of the line in this microsecond. -/
def lineInput (s : State) : List Instr := if s.samples then lineEvents s.pins.line s.lif else []

/-- The clock one microsecond on. -/
def State.later (s : State) : State := { s with now := s.now + 1 }

/-- The card reader's port after this microsecond, and the events of the messages that end in it (R1). -/
def cardInput (s : State) : CardPort × List Instr := portTick s.pins.cdrx (s.now + 1) s.crd

/-- One microsecond: the levels that change without an event follow their pins, the clock goes on, and the events of the
inputs, of the line and of the card reader's port wait in the queue, in this order. -/
def microsecond (s : State) : State :=
  { (followLine (followLevels s)).later with
    crd := (cardInput s).1, pins := tickPins s, pending := inputEvents s ++ lineInput s ++ (cardInput s).2 }

/-- A step with no command waiting (log 1): the first event that is due is put in the queue; with none due, a microsecond
passes. -/
def tick (s : State) : State :=
  match dueEvents s with
  | c :: _ => { s with pending := [c] }
  | [] => microsecond s

end Sys2Proof.Machine
end

