-- ==== Sys2Proof/Safety.lean ====
section
/-! DEFINITION. What the statements speak of: an event that is over, what the end of an event may still change, what a share
computation and a checkpoint ask for, and the laws that every step keeps (store in canonical form, queues within their
sizes, outputs only where a lane may flow, the trip record only with an occupied slot). -/

namespace Sys2Proof.Machine

/-- No report of a free slot (R189) or of room (R151) is still to be made. -/
def State.noReportDue (s : State) : Prop := s.stp.departed = false ∧ s.lif.roomFreed = false

/-- The event before is over: no report is due, and no recovered note waits for the Start-up Loader's offers (R200). -/
def State.Calm (s : State) : Prop := s.noReportDue ∧ s.sul.recovery ≠ .offering

/-- Start-up has completed without a config fault (R210). -/
def State.Running (s : State) : Prop := s.sul.done = true ∧ s.sul.code = 0

/-- The state without what the end of every event brings up to date: the lamps (R43 to R45), the trip idle timer (R23)
and the store port's operation with the reads that wait for it (R188). -/
def State.apart (s : State) : State :=
  { s with
    ilm := { s.ilm with ready := {}, flow := {}, card := {}, attend := {} }
    pct := { s.pct with idleTimer := none }
    stp := { s.stp with port := .idle, reads := [] } }

/-- A lane without what a report of a free slot may change in it (R70). -/
def Lane.steady (l : Lane) : Lane :=
  { l with
    stage := .idle, line := none, setpoint := 0, wanted := 0, after := .nothing, openOut := false, holdOut := false
    step := none }

/-- The state without what the reports at the end of an event may change as well: offers held for the store or the
transmit FIFO, and a lane that leaves ENDED. -/
def State.steady (s : State) : State :=
  { s with
    pct := { s.pct with held := [], heldMarks := [], idleTimer := none }
    ilm := { s.ilm with ready := {}, flow := {}, card := {}, attend := {} }
    lanes := s.lanes.map Lane.steady
    lif := { s.lif with fifo := [], roomFreed := false }
    ntb := { s.ntb with build := none, heldReady := none, statusList := [], asks := [], serving := .idle }
    stp := {}
    sul := { s.sul with held := [], recovery := .none } }

/-- The tables, the store, the supply of free values, the waiting commands, the input pins and the card reader's port. -/
def State.kept (s : State) : Tables × List Host.Cell × Nat × List Instr × Pins × CardPort :=
  (s.cfg, s.store, s.free, s.pending, s.pins, s.crd)

/-- The command answers a next state that is `u` but for what the end of an event brings up to date. -/
def Yields (c : Instr) (s u : State) : Prop := ∃ t, exec c s = .next t ∧ t.apart = u.apart

/-- The command answers a next state that is `u` but for what the reports at the end of an event may change: offers held,
and lanes that wait in ENDED. -/
def Leaves (c : Instr) (s u : State) : Prop :=
  ∃ t, exec c s = .next t ∧ t.steady = u.steady ∧ ∀ i, u.stage i ≠ .ended → t.lane i = u.lane i

/-- R131 to R140: `t` holds what a computation of the shares makes of the state `s`, under the link state and the peer table of
`t`: on each header used own demand, own allotment and its entry in the STATUS slot, and the share of each lane. -/
def State.Allots (s t : State) : Prop :=
  ∀ (h : Nat) (c : HeaderCfg), h ∈ s.headersUsed → s.headerCfg h = some c →
    let own := ((s.lanesOn h).map fun i => (s.lane i).wanted).sum
    let isolation := c.capacity / c.stations
    let allot := if own = 0 then 0 else match t.lif.link with
      | .run => fairGrant c.capacity (own :: t.lif.peers.filterMap (peerClaim h isolation)) own
      | .alone => min own c.capacity
      | _ => isolation
    t.hsu.headers[h - 1]? = some ⟨own, allot⟩ ∧
    (∀ i ∈ s.lanesOn h,
      (t.lane i).share = fairGrant allot (((s.lanesOn h).map fun j => (s.lane j).wanted).filter (0 < ·)) (s.lane i).wanted ∧
      (t.lane i).setpoint ≤ (t.lane i).share ∧ (t.lane i).setpoint ≤ (s.lane i).setpoint) ∧
    ⟨h, own, min ((s.lanesOn h).map fun i => (s.lane i).ven.q).sum 65535⟩ ∈ t.lif.slot

/-- R141, R153: the request that a computation of the shares makes of the Line Interface, with the demands of `s`, at the time and
in the link state of `t`. Where on some header used one of own demand and the demand last sent is 0 and the other is not, or ten
times their difference is greater than the demand last sent, a STATUS is due: at once when 100 ms have passed since the last own
STATUS or none has been sent, and otherwise at the end of those 100 ms. A STATUS that is due or current meets the request, and the
link states that send none do not keep it. -/
def State.Announces (s t : State) : Prop :=
  let own (h : Nat) : Nat := ((s.lanesOn h).map fun i => (s.lane i).wanted).sum
  let last (h : Nat) : Nat := ((s.lif.lastSent.find? fun e => decide (e.header = h)).map (·.demand)).getD 0
  let changed : Prop := ∃ h ∈ s.headersUsed, (own h = 0 ∧ last h ≠ 0) ∨ (own h ≠ 0 ∧ last h = 0) ∨
    last h < (max (own h) (last h) - min (own h) (last h)) * 10
  let kept : Prop := (t.lif.link = .run ∨ t.lif.link = .alone) ∧ s.lif.due = .none ∧
    ∀ c : Current, s.lif.current = some c → c.frame ≠ .status
  (∀ h ∈ s.headersUsed, (s.headerCfg h).isSome = true) →
  (changed → kept →
    ((∀ d : Nat, s.lif.lastStatus = some d → d + 100000 ≤ t.now) → t.lif.due = .normal ∧ t.lif.spacing = s.lif.spacing) ∧
    (∀ d : Nat, s.lif.lastStatus = some d → t.now < d + 100000 →
      t.lif.due = .none ∧ t.lif.spacing = some (d + 100000))) ∧
  (¬changed ∨ ¬kept → t.lif.due = s.lif.due ∧ t.lif.spacing = s.lif.spacing)

/-! ### The checks of the configuration (R205, R206) -/

/-- A check of the tables: the fault code and the entry number of its failure, and whether it passes. -/
structure ImageCheck where
  code  : Nat
  entry : Nat
  ok    : Bool
  deriving DecidableEq, Repr

/-- R205: the checks of a table's loaded entries, in entry order; an entry that is absent passes. -/
def entryChecks {α : Type} (id : Nat) (entries : List (Option α)) (ok : α → Bool) : List ImageCheck :=
  entries.zipIdx.map fun (e, k) => ⟨id, k + 1, (e.map ok).getD true⟩

/-- Table 11-2's ranges of a dose entry. -/
def DoseCfg.legal (d : DoseCfg) : Bool :=
  decide (1 ≤ d.injector ∧ d.injector ≤ 8 ∧ 1 ≤ d.ratio ∧ d.ratio ≤ 5000 ∧ d.mandatory ≤ 1)

/-- R205, Table 11-2: the range checks, in order of table and entry. -/
def Tables.rangeChecks (t : Tables) : List ImageCheck :=
  [⟨1, 1, (t.bay.map fun b => decide (b.tolerance ≤ 20)).getD false⟩] ++
  entryChecks 2 t.headers.toList (fun h => decide (100 ≤ h.capacity ∧ h.capacity ≤ 20000 ∧ 1 ≤ h.stations ∧ h.stations ≤ 24)) ++
  entryChecks 3 t.lanes.toList (fun l => decide (1 ≤ l.product ∧ l.product ≤ 15 ∧ 1 ≤ l.header ∧ l.header ≤ 6 ∧
    1000 ≤ l.k ∧ l.k ≤ 999999 ∧ 50 ≤ l.lowRate ∧ l.lowRate ≤ 1000 ∧ l.lowVolume ≤ 2000 ∧ l.slowVolume ≤ 5000 ∧
    50 ≤ l.slowRate ∧ l.slowRate ≤ 2000 ∧ 100 ≤ l.maxFlow ∧ l.maxFlow ≤ 5000 ∧ 10 ≤ l.ramp ∧ l.ramp ≤ 1000 ∧
    1 ≤ l.overrun ∧ l.overrun ≤ 200 ∧ l.level ≤ 2 ∧ l.correction ≤ 255 ∧ 1 ≤ l.ceiling ∧ l.ceiling ≤ 65535)) ++
  entryChecks 4 t.products.toList (fun p => decide (p.cls ≤ 15 ∧ p.alpha ≤ 2000 ∧ p.beta ≤ 200)) ++
  entryChecks 5 t.points.toList (fun p => decide (p.q ≤ 6000 ∧ 9000 ≤ p.mf ∧ p.mf ≤ 11000)) ++
  entryChecks 6 t.temps.toList (fun x => decide (1 ≤ x.cLo ∧ x.cLo < x.cHi ∧ x.cHi ≤ 4094 ∧
    -10000 ≤ x.tLo ∧ x.tLo < x.tHi ∧ x.tHi ≤ 20000)) ++
  entryChecks 7 t.injectors.toList (fun x => decide (1 ≤ x.lane ∧ x.lane ≤ 4 ∧ 500 ≤ x.stroke ∧ x.stroke ≤ 50000 ∧
    1 ≤ x.rate ∧ x.rate ≤ 120 ∧ 50 ≤ x.drive ∧ x.drive ≤ 1000)) ++
  entryChecks 8 t.recipes.toList (fun r =>
    decide ((r.kind = 1 ∧ r.dose.legal = true) ∨ (r.kind = 2 ∧ r.dose.injector ≤ 15) ∨ r.kind = 3)) ++
  entryChecks 9 t.doses.toList DoseCfg.legal

/-- R206: the checks of a lane, none of an unfitted one: its product, header, calibration and curve are there, and each point
of the curve lies above the one before. -/
def Tables.laneChecks (t : Tables) (i : LaneNo) : List ImageCheck :=
  match t.lanes[i] with
  | none => []
  | some l =>
    let curve := lanePoints t i
    [⟨3, i.val + 1, (entryOf t.products l.product).isSome⟩, ⟨3, i.val + 1, (entryOf t.headers l.header).isSome⟩,
      ⟨3, i.val + 1, (t.temps[i]).isSome⟩, ⟨3, i.val + 1, decide (curve ≠ [])⟩] ++
    (curve.zip (curve.drop 1)).map fun (a, b) => ⟨5, b.1, decide (a.2.q < b.2.q)⟩

/-- R206: the checks of each lane, of at least one lane fitted, and of each fitted injector's lane. -/
def Tables.serviceChecks (t : Tables) : List ImageCheck :=
  [(0 : LaneNo), 1, 2, 3].flatMap t.laneChecks ++ [⟨3, 1, t.lanes.toList.any (·.isSome)⟩] ++
  entryChecks 7 t.injectors.toList (fun x => (entryOf t.lanes x.lane).isSome)

/-! ### Laws that every step keeps -/

/-- The store is in canonical form, within the 256 KiB (R187). -/
def State.StoreOk (s : State) : Prop := Memory.wf s.store = true

/-- No two waiting CHECKPOINT requests are for the same order line (R190). -/
def checkpointsApart (queue : List QItem) : Prop :=
  queue.Pairwise fun a b => (checkLine a.req).isSome → checkLine a.req ≠ checkLine b.req

/-- The store write queue is within R189 and R190. -/
def State.QueueOk (s : State) : Prop :=
  s.stp.queue.length ≤ Config.queueSize ∧ checkpointsApart s.stp.queue

/-- The page requests of a note, in order (R175). -/
def Build.requests (b : Build) : List QItem :=
  (List.range b.pages).map fun p => ⟨.notePage b.number (p + 1) (pageBytes b.image (p + 1)), false⟩

/-- The other queues are within the sizes that R14, R21, R151, R168 and R184 give. -/
def State.ListsOk (s : State) : Prop :=
  s.lif.fifo.length ≤ Config.fifoSize ∧ s.pct.held.length ≤ Config.heldFrames ∧
  s.pct.heldMarks.length ≤ Config.heldMarks ∧ s.ntb.statusList.length ≤ Config.statusListSize ∧
  s.ntb.asks.length ≤ Config.askSize ∧ s.ntb.prints.length ≤ 2

/-- R29: a lane output is on only where the lane may energise it. Before start-up completes no lane flows, and the trip
idle timer runs only while none does (R23). -/
def State.OutputsOk (s : State) : Prop :=
  (∀ i : LaneNo, ((s.lane i).openOut || (s.lane i).holdOut) = true → s.mayEnergise i = true) ∧
  (s.sul.done = false → s.anyFlowing = false) ∧
  (s.pct.idleTimer.isSome = true → s.anyFlowing = false)

/-- R162: the peer table is in ascending order of station number, with no entry for the station's own. -/
def State.PeersOk (s : State) : Prop :=
  (s.lif.peers.map (·.station)).Pairwise (· < ·) ∧
  ∀ e ∈ s.lif.peers, 1 ≤ e.station ∧ e.station ≤ 24 ∧ e.station ≠ s.lif.station

/-- R209 to R211: start-up has completed in its last step only, a config fault leads to that step, and the recovery's
offers are made before it. -/
def State.StartOk (s : State) : Prop :=
  (s.sul.done = true ↔ s.sul.phase = .complete) ∧
  (s.sul.code ≠ 0 → s.sul.phase = .settle ∨ s.sul.phase = .complete) ∧
  (s.sul.recovery = .offering → s.sul.phase = .settle ∧ s.sul.code = 0)

/-- R23: the trip idle timer runs just while the slot is RELEASED and no lane is in a flowing stage or in CLOSING. -/
def State.IdleOk (s : State) : Prop :=
  s.pct.idleTimer.isSome = true ↔ s.pct.slot = .released ∧ s.anyFlowing = false ∧ s.anyClosing = false

/-- R1: the card reader's port times a gap just while it holds bytes of a message, and no message that is whole is held. -/
def State.PortOk (s : State) : Prop :=
  (s.crd.gap.isSome = true ↔ s.crd.bytes ≠ []) ∧ messageWhole s.crd.bytes = false

/-- R2, R3: the trip record is held while the slot is not EMPTY. -/
def State.SlotOk (s : State) : Prop := (s.pct.slot = .empty) ↔ s.pct.trip = none

/-! ### Checkpoints (R72) -/

/-- The stage code of a checkpoint, its byte of cause and stage left, and the code of its end reason, carried with CLOSING and
ENDED only (R192, Table 12-8). -/
def Lane.checkCodes (l : Lane) : Nat × Nat × Nat :=
  let reason := (l.closeReason.map endReasonCode).getD 0
  match l.stage with
  | .lowFlow => (2, 0, 0) | .fullFlow => (3, 0, 0) | .slowdown => (4, 0, 0)
  | .closing => (5, 0, reason) | .ended => (7, 0, reason)
  | .suspended cause left =>
    let c := match cause with
      | .lapse => 16 | .arm => 32 | .halt => 48 | .driver => 64
    (6, c + (match left with
      | .primed => 0 | .lowFlow => 2 | .fullFlow => 3 | .slowdown => 4), 0)
  | _ => (0, 0, 0)

/-- The CHECKPOINT of the line that a lane holds, as its lane, its record and its totals stand: the line index and the bytes
(R72, R105, R192). A lane without a line, or without a record of it, has none. -/
def State.checkpoint (s : State) (i : LaneNo) : Option (Nat × List Byte) := do
  let trip ← s.pct.trip
  let k ← (s.lane i).line
  let l ← trip.lines[k]?
  let r ← l.record
  let v := (s.lane i).ven
  let codes := (s.lane i).checkCodes
  let temp : Int := r.weighted.getD (if r.gross = 0 then
      (if v.window = [] then 1500 else max (-4000) (min 7000 (v.window.sum.tdiv v.window.length)))
    else v.sigma.tdiv r.gross.toNat)
  some (k + 1, checkpointBytes trip.number (k + 1) codes.1 codes.2.1 codes.2.2 l.clamped r temp v.totGross v.totStd)

/-- R72, R189, R190: the store write queue after an offer of an ordinary checkpoint. One that waits for the same line has its content
replaced in place; otherwise the request joins the queue, and it is dropped at a full one. -/
def withCheckpoint (queue : List QItem) (c : Nat × List Byte) : List QItem :=
  let q : QItem := ⟨.checkpoint c.1 c.2, false⟩
  if queue.any fun x => decide (checkLine x.req = some c.1) then
    queue.map fun x => if checkLine x.req = some c.1 then q else x
  else if queue.length < 12 then queue ++ [q] else queue

/-- R72: with a request in flight, each of these lanes, and no other, has offered one checkpoint, of the line it holds and as `t` has
it, in some order; nothing else has joined the store write queue. (No other lane holds a line of theirs.) -/
def State.Checkpoints (s t : State) (lanes : List LaneNo) : Prop :=
  s.Calm → s.QueueOk → s.stp.flight.isSome = true →
  (∀ i ∈ lanes, ∀ j : LaneNo, j ≠ i → (s.lane i).line = none ∨ (s.lane j).line ≠ (s.lane i).line) →
  ∃ order : List LaneNo, order.Perm lanes ∧
    t.stp.queue = (order.filterMap t.checkpoint).foldl withCheckpoint s.stp.queue ∧ t.stp.flight = s.stp.flight

/-- The lanes in a flowing stage. -/
def State.flowingLanes (s : State) : List LaneNo := allLanes.filter fun i => (s.stage i).flowing

/-- R39: what a START in RELEASED asks of a lane itself: PRIMED or SUSPENDED, no latch of its own, its ARM connected, and a line that
has not been ended. -/
def State.Startable (s : State) (i : LaneNo) : Prop :=
  (s.stage i = .primed ∨ ∃ cause left, s.stage i = .suspended cause left) ∧ s.laneLatched i = false ∧ s.armOn i = true ∧
  ∃ l, s.heldLine i = some l ∧ ∀ reason, l.status ≠ .ended reason

/-- R72: the checkpoints of a START in RELEASED with the permissive set whole, no bay latch and no halt: one of each lane that it opens
or resumes. -/
def State.StartCheckpoints (s t : State) : Prop :=
  ∀ lanes : List LaneNo, lanes.Sublist allLanes → (∀ i : LaneNo, i ∈ lanes ↔ s.Startable i) →
    (∀ i ∈ lanes, s.fitted i = true) → s.Checkpoints t lanes

/-- R72: the checkpoint of a tick at one lane, when the tick changes its stage or its gross passes a whole multiple of 1,000,000 mL,
and none otherwise. A gross that lands on a multiple has passed it: the model's choice (log 17). -/
def State.TickCheckpoint (s t : State) (i : LaneNo) : Prop :=
  s.Checkpoints t (if t.stage i ≠ s.stage i ∨ s.gross i / 1000000 < t.gross i / 1000000 then [i] else [])

end Sys2Proof.Machine
end

