-- ==== Sys2Proof/WellFormed.lean ====
section
/-! DEFINITION. Which commands are well formed: the operands that the event of each row can carry (R1, R147, R148, R43). -/

namespace Sys2Proof

open Machine

/-- A lamp that can blink (R43). -/
def Lamp.blinks : Lamp → Bool
  | .ready => true
  | .card => true
  | _ => false

/-- The operands of a command are ones that its event can carry. -/
def Instr.wf : Instr → Bool
  | .card block => decide (block.length ≤ 255)
  | .readerMessageDiscarded raw => !readerMessageOk raw
  | .lampBlinkPhase lamp => lamp.blinks
  | .status sender link flags time entries => frameOk sender (.status link flags time entries)
  | .claim sender permit => frameOk sender (.claim permit)
  | .held sender permit claimant => frameOk sender (.held permit claimant)
  | .release sender permit => frameOk sender (.release permit)
  | .noteReady sender note permit => frameOk sender (.noteReady note permit)
  | .noteAsk sender target note => frameOk sender (.noteAsk target note)
  | .notePart sender requester note index count isPresent bytes =>
    frameOk sender (.notePart requester note index count isPresent bytes)
  | .frameDropped framing raw => (acceptFrame framing raw).isNone
  | .accessAttempt quiet => decide (10 ≤ quiet)
  | .freshToStale station => stationOk station
  | .staleToSilent station => stationOk station
  | .silentRemoval station => stationOk station
  | .reset _ _ => true
  | .pageReadComplete => true
  | .startUpCompletion => true
  | .readerByteGapTimeout => true
  | .writeDone => true
  | .writeFail => true
  | .replyTimerExpiry => true
  | .claimWindowExpiry => true
  | .authorizationTimeout => true
  | .tripIdleTimerExpiry => true
  | .stampWindowExpiry => true
  | .stampLifetimeExpiry => true
  | .permissiveChange _ _ => true
  | .armConnect _ => true
  | .armDrop _ => true
  | .rstopChange _ => true
  | .start => true
  | .stop => true
  | .ackPress => true
  | .ackRelease => true
  | .ackHoldEvent => true
  | .refusalPulseEnd => true
  | .lampStretchEnd _ => true
  | .faultCodePatternPhase => true
  | .meteringTick _ _ => true
  | .valveStepEnd _ => true
  | .closingTimerExpiry _ => true
  | .risingEdge _ _ _ => true
  | .pendingAEdgeTimeout _ => true
  | .driveTimeEnd _ => true
  | .spacingPeriodEnd _ => true
  | .feedbackPulse _ => true
  | .feedbackWindowClose _ => true
  | .shareTick => true
  | .ownEcho => true
  | .conflict => true
  | .collision => true
  | .statusPeriodExpiry => true
  | .statusSpacingExpiry => true
  | .aloneTimerExpiry => true
  | .listenWindowExpiry => true
  | .heldLineDetected => true
  | .heldLineEnd => true
  | .secondTimer => true
  | .busyChange _ => true
  | .characterSent => true
  | .busyTimerExpiry => true
  | .pageWriteComplete => true

end Sys2Proof
end

