-- ==== Sys2Proof/Certificates/Slice0/Obligations.lean ====
section
/-! DEFINITION. The statements for the provers. Each speaks of one rule or a few, for every state and every operand; the
premises name the record that the rule looks at. `Yields` and `Leaves` (Safety.lean) say the frame: everything else
is as it was, but for what the end of every event brings up to date. -/

open Sys2Proof Sys2Proof.Machine

/-! ### The machine as a whole -/

/-- One step runs the command at the front of the queue on the queue's rest.
With an empty queue the first event that is due joins the queue, and with none due a microsecond passes: the model's choice
(log 1). What a microsecond brings is said in InputFilters and LineReceiver. -/
def Obligations.StepRunsFrontCommand : Prop :=
  (∀ (c : Instr) (rest : List Instr) (s : State), s.pending = c :: rest → step s = exec c { s with pending := rest }) ∧
  (∀ (c : Instr) (rest : List Instr) (s : State), s.pending = [] → dueEvents s = c :: rest →
     step s = .next { s with pending := [c] }) ∧
  (∀ s : State, s.pending = [] → dueEvents s = [] → step s = .next (microsecond s))

/-- R28, R38, R76, R114: the input filters over a microsecond with no command waiting and no event due. An input whose pin holds
another level than the filtered one counts up to its filter's time (50 ms, for feedback 2 ms, for BUSY 10 ms), and then its
change joins the queue as one event, with the pin's level; a pin at the filtered level starts its count anew. The release of
START or STOP and the end of a feedback pulse are no events and lower the level. A meter channel takes its first level, and a
fall, without an event, and a rise is an edge with the capture timer's value at its end.
R1, Table 12-14: a byte that reaches the card reader's port joins the bytes of its message, and the 20 ms to the next byte are timed.
The byte that makes the message whole is its end: a CARD, a WRITE-DONE or a WRITE-FAIL joins the queue as its event, any other
message as one that is discarded, and the port holds no byte.
Nothing else changes but the clock and what the line's levels bring (LineReceiver).
That the pins are sampled once in a microsecond, and a message of an unknown kind delimited by its length, is the model's choice
(log 1, log 30, log 47). -/
def Obligations.InputFilters : Prop :=
  ∀ s : State, s.pending = [] → dueEvents s = [] →
    ∃ t, step s = .next t ∧ t.now = s.now + 1 ∧ t.pct = s.pct ∧ t.hsu = s.hsu ∧ t.ntb = s.ntb ∧ t.stp = s.stp ∧
      t.sul = s.sul ∧ t.cfg = s.cfg ∧ t.store = s.store ∧ t.free = s.free ∧ t.outbox = s.outbox ∧
      t.pins.cdrx = none ∧ (s.pins.cdrx = none → t.crd = s.crd) ∧
      (let raw := s.crd.bytes ++ s.pins.cdrx.toList
       let whole : Prop := s.pins.cdrx ≠ none ∧ 2 ≤ raw.length ∧ fieldNat raw 1 1 + 4 ≤ raw.length
       let event : Instr := if readerMessageOk raw = true then (match fieldNat raw 0 1 with
         | 1 => .card (field raw 2 (fieldNat raw 1 1))
         | 2 => .writeDone
         | _ => .writeFail) else .readerMessageDiscarded raw
       (s.pins.cdrx ≠ none → t.crd = if whole then ⟨[], none⟩ else ⟨raw, some (t.now + 20000)⟩) ∧
       ∀ c : Instr, ((∃ x, c = .card x) ∨ (∃ x, c = .readerMessageDiscarded x) ∨ c = .writeDone ∨ c = .writeFail) →
         (c ∈ t.pending ↔ whole ∧ c = event)) ∧
      (let counts (time : Nat) (level : Bool) (p q : Pin) : Prop :=
         q = { p with run := if p.level = level ∨ time ≤ p.run + 1 then 0 else p.run + 1 }
       let passes (time : Nat) (level : Bool) (p : Pin) : Prop := p.level ≠ level ∧ time ≤ p.run + 1
       let changes (level : Bool) (p q : Pin) (c : Bool → Instr) : Prop :=
         counts 50000 level p q ∧ (c p.level ∈ t.pending ↔ passes 50000 level p) ∧ c (!p.level) ∉ t.pending
       changes s.ilm.ground s.pins.ground t.pins.ground (.permissiveChange .ground ·) ∧
       changes s.ilm.overfill s.pins.overfill t.pins.overfill (.permissiveChange .overfill ·) ∧
       changes s.ilm.vapour s.pins.vapour t.pins.vapour (.permissiveChange .vapour ·) ∧
       changes s.ilm.estop s.pins.estop t.pins.estop (.permissiveChange .estop ·) ∧
       changes s.ilm.rstop s.pins.rstop t.pins.rstop .rstopChange ∧
       (∀ i : LaneNo, changes s.ilm.arm[i] s.pins.arm[i] t.pins.arm[i] fun x => if x then .armConnect i else .armDrop i) ∧
       changes s.ilm.ackKey s.pins.ackKey t.pins.ackKey (fun x => if x then .ackPress else .ackRelease) ∧
       counts 50000 s.ilm.startKey s.pins.startKey t.pins.startKey ∧
       (.start ∈ t.pending ↔ s.pins.startKey.level = true ∧ passes 50000 s.ilm.startKey s.pins.startKey) ∧
       counts 50000 s.ilm.stopKey s.pins.stopKey t.pins.stopKey ∧
       (.stop ∈ t.pending ↔ s.pins.stopKey.level = true ∧ passes 50000 s.ilm.stopKey s.pins.stopKey) ∧
       (t.ilm.startKey = false ↔ s.ilm.startKey = false ∨ (s.pins.startKey.level = false ∧ 50000 ≤ s.pins.startKey.run + 1)) ∧
       (t.ilm.stopKey = false ↔ s.ilm.stopKey = false ∨ (s.pins.stopKey.level = false ∧ 50000 ≤ s.pins.stopKey.run + 1)) ∧
       t.ilm = { s.ilm with startKey := t.ilm.startKey, stopKey := t.ilm.stopKey } ∧
       counts 10000 s.ntb.port.busy s.pins.busy t.pins.busy ∧
       (.busyChange s.pins.busy.level ∈ t.pending ↔ passes 10000 s.ntb.port.busy s.pins.busy) ∧
       (∀ j : InjNo, counts 2000 (s.inj j).level s.pins.feedback[j] t.pins.feedback[j] ∧
         (.feedbackPulse j ∈ t.pending ↔ s.reads j = true ∧ s.pins.feedback[j].level = true ∧
           passes 2000 (s.inj j).level s.pins.feedback[j]) ∧
         t.inj j = { s.inj j with level := (s.inj j).level && !(s.reads j && !s.pins.feedback[j].level &&
           decide (2000 ≤ s.pins.feedback[j].run + 1)) })) ∧
      (∀ i : LaneNo,
        let first (pin : Bool) (level : Option Bool) : Option Bool :=
          if s.counts i then (if level = some false then some false else some pin) else level
        t.lane i = { s.lane i with piu := { (s.lane i).piu with
          levelA := first s.pins.meterA[i] (s.lane i).piu.levelA
          levelB := first s.pins.meterB[i] (s.lane i).piu.levelB } } ∧
        (.risingEdge i .a (BitVec.ofNat 32 (s.now + 1)) ∈ t.pending ↔
          s.counts i = true ∧ s.pins.meterA[i] = true ∧ (s.lane i).piu.levelA = some false) ∧
        (.risingEdge i .b (BitVec.ofNat 32 (s.now + 1)) ∈ t.pending ↔
          s.counts i = true ∧ s.pins.meterB[i] = true ∧ (s.lane i).piu.levelB = some false))

/-- Every command answers a next state and leaves the waiting commands as they are. The only stop is an operation of the
store port outside the memory's pages, an address that no rule forms (R187).
The memory changes at the completion of a page write and at a reset only, the supply of free values at a reset only, and the
tables not at all once start-up has completed (R203 to R207).
The time at which the memory changes (R188, R191) and the supply of free values are the model's choice (log 7, log 4), as is that
an operation outside the pages stops (NOTES.md, Stops). -/
def Obligations.CommandsAnswer : Prop :=
  (∀ (c : Instr) (s : State),
     (∃ t, exec c s = .next t ∧ t.pending = s.pending) ∨
     (c = .pageReadComplete ∧ ∃ r, s.stp.port = .reading r ∧ 2048 ≤ r.page ∧
       exec c s = .fault (.storeAddress r.page)) ∨
     (c = .pageWriteComplete ∧ ∃ w due, s.stp.port = .writing w due ∧ w.inRange = false ∧
       exec c s = .fault (.storeAddress w.page))) ∧
  (∀ (c : Instr) (s t : State), exec c s = .next t → (∀ straps listenOnly, c ≠ .reset straps listenOnly) →
     (c ≠ .pageWriteComplete → t.store = s.store) ∧ t.free = s.free ∧ (s.sul.phase = .complete → t.cfg = s.cfg))

/-! ### Reset, the store and start-up -/

/-- R108, R201, R202: a reset gives every block its reset state and reads the straps: the listen-only strap, and a station number
of 1 to 24 with the read of the first page of the image, or config fault 10 and no read. The totalizers are not cleared. The
store follows R191; every pin's level stays and every filter begins anew (R28); the commands stay.
R1, R2, R162, R187: the state right after reset has every law that the steps keep. The card reader's port holds no byte (R201).
The straps as operands of the command, start-up not yet completed in the event of an invalid strap, which R207 completes at once,
and the reset values that the spec does not give are the model's choice (log 2, log 8, log 14). -/
def Obligations.ResetState : Prop :=
  (∀ (straps : BitVec 5) (listenOnly : Bool) (s : State),
    let lanes : Vector Lane 4 := s.lanes.map fun l => { ven := { totGross := l.ven.totGross, totStd := l.ven.totStd } }
    (1 ≤ straps.toNat ∧ straps.toNat ≤ 24 →
      exec (.reset straps listenOnly) s = .next { State.reset with
        lif := { station := straps.toNat, listenOnly := listenOnly }
        sul := { phase := .header }
        stp := { port := .reading ⟨.sul, 0⟩ }
        lanes := lanes, store := storeAfterReset s, free := freeAfterReset s, pins := s.pins.restart
        pending := s.pending }) ∧
    (straps.toNat = 0 ∨ 24 < straps.toNat →
      exec (.reset straps listenOnly) s = .next { State.reset with
        lif := { listenOnly := listenOnly }
        sul := { phase := .settle, code := 10 }
        lanes := lanes, store := storeAfterReset s, free := freeAfterReset s, pins := s.pins.restart
        pending := s.pending }) ∧
    (let anew (p : Pin) : Pin := { p with run := 0 }
     s.pins.restart = { s.pins with
       ground := anew s.pins.ground, overfill := anew s.pins.overfill, vapour := anew s.pins.vapour
       estop := anew s.pins.estop, rstop := anew s.pins.rstop, arm := s.pins.arm.map anew
       startKey := anew s.pins.startKey, stopKey := anew s.pins.stopKey, ackKey := anew s.pins.ackKey
       feedback := s.pins.feedback.map anew, busy := anew s.pins.busy })) ∧
  (State.reset.StoreOk ∧ State.reset.QueueOk ∧ State.reset.ListsOk ∧ State.reset.OutputsOk ∧ State.reset.SlotOk ∧
    State.reset.PeersOk ∧ State.reset.StartOk ∧ State.reset.IdleOk ∧ State.reset.PortOk ∧ State.reset.noReportDue)

/-- R191: a reset during a page write leaves the loaded bytes at free values and every other byte of the memory as it was;
a reset with no page write in progress changes no byte.
R188: at the completion of a page write the memory holds the loaded bytes, and every other byte as it was.
The free values, and the time at which the memory changes, are the model's choice (log 4, log 7).
The clock that a timed event leaves is the model's choice (log 1). -/
def Obligations.StoreBytes : Prop :=
  (∀ (straps : BitVec 5) (listenOnly : Bool) (s : State), s.StoreOk →
     ∃ t, exec (.reset straps listenOnly) s = .next t ∧ t.StoreOk ∧
       (∀ w due, s.stp.port = .writing w due → w.inRange →
         (∀ k < w.bytes.length, readByte t.store (w.page * 128 + w.offset + k) = Config.freeByte (s.free + k)) ∧
         (∀ a, a < w.page * 128 + w.offset ∨ w.page * 128 + w.offset + w.bytes.length ≤ a →
           readByte t.store a = readByte s.store a)) ∧
       ((∀ w due, s.stp.port ≠ .writing w due) → t.store = s.store)) ∧
  (∀ (s : State) (w : PageWrite) (due : Nat), s.StoreOk → s.stp.port = .writing w due → w.inRange →
     ∃ t, exec .pageWriteComplete s = .next t ∧ t.StoreOk ∧ t.now = max s.now due ∧ t.cfg = s.cfg ∧
       (∀ (k : Nat) (b : Byte), w.bytes[k]? = some b → readByte t.store (w.page * 128 + w.offset + k) = b) ∧
       (∀ a, a < w.page * 128 + w.offset ∨ w.page * 128 + w.offset + w.bytes.length ≤ a →
         readByte t.store a = readByte s.store a))

/-- R203, R204, R206, R207, R75: a page of the CONFIG region read at start-up. A first page whose tag or length is wrong is config
fault 11. An image of more than one page has its further pages read, as many as its length requires. The whole image, cut to its
length, is loaded (loadImage): its tables are taken, and the totals of lane 1 are read next; or the first fault found is recorded
with its entry, every table is discarded and start-up is ready to complete. R75: a lane that is left unfitted has no working PIU.
That the whole state of such a lane's PIU is dropped when the tables settle, and of every lane's at a config fault, is the model's
choice (log 34).
R203 to R206: what loadImage accepts. An image whose check does not match is fault 12, one whose descriptors do not load fault 13.
One whose tables load is accepted with them when every check of R205 and R206 passes, and is otherwise the fault of the first check
that fails, in their order, with that check's code of 1 to 9 and its entry.
Tables that it answers have the BAY entry, a fitted lane, each fitted lane's entries in range with its product, header, calibration
and an ascending curve, each fitted injector in range on a fitted lane, and headers in range.
That a config fault is taken up in the event of the page that shows it is the model's choice (log 8). -/
def Obligations.ImageLoads : Prop :=
  (∀ (s : State) (n : Nat), s.stp.port = .reading ⟨.sul, n⟩ → n < 2048 →
    let page := readPage s.store n
    let fault (code entry : Nat) : State := { s with
      sul := { s.sul with code := code, entry := entry, phase := .settle, buf := [] }
      cfg := {}, lanes := s.lanes.map fun l => { l with piu := {} } }
    let loads (bytes : List Byte) : Prop :=
      (∀ code entry, loadImage (bytes.take (fieldNat bytes 2 2)) = .error (code, entry) →
        Leaves .pageReadComplete s (fault code entry)) ∧
      (∀ tables : Tables, loadImage (bytes.take (fieldNat bytes 2 2)) = .ok tables →
        Leaves .pageReadComplete s { s with
          cfg := tables, sul := { s.sul with phase := .totals 0, buf := [] }
          lanes := Vector.ofFn fun i : LaneNo =>
            if (tables.lanes[i]).isSome then s.lane i else { s.lane i with piu := {} } } ∧
        (s.Calm → s.stp.reads = [] → s.stp.queue = [] → s.stp.flight = none →
          ∀ t, exec .pageReadComplete s = .next t → t.stp.port = .reading ⟨.sul, 64⟩))
    let len := fieldNat page 2 2
    (s.sul.phase = .header →
      (fieldNat page 0 2 ≠ 0x5A61 ∨ len < 8 ∨ 8192 < len → Leaves .pageReadComplete s (fault 11 0)) ∧
      (fieldNat page 0 2 = 0x5A61 → 8 ≤ len → len ≤ 128 → loads page) ∧
      (fieldNat page 0 2 = 0x5A61 → 128 < len → len ≤ 8192 →
        Leaves .pageReadComplete s { s with sul := { s.sul with phase := .image ((len + 127) / 128 - 1), buf := page } } ∧
        (s.Calm → s.stp.reads = [] → s.stp.queue = [] → s.stp.flight = none →
          ∀ t, exec .pageReadComplete s = .next t → t.stp.port = .reading ⟨.sul, 1⟩ ∧
            t.stp.reads = (List.range ((len + 127) / 128 - 2)).map fun k => ⟨.sul, k + 2⟩))) ∧
    (∀ left : Nat, s.sul.phase = .image left →
      (2 ≤ left → Leaves .pageReadComplete s { s with
        sul := { s.sul with phase := .image (left - 1), buf := s.sul.buf ++ page } }) ∧
      (left ≤ 1 → loads (s.sul.buf ++ page)))) ∧
  (∀ image : List Byte,
    (crc16 (image.take 6 ++ image.drop 8) ≠ fieldNat image 6 2 → loadImage image = .error (12, 0)) ∧
    (crc16 (image.take 6 ++ image.drop 8) = fieldNat image 6 2 →
      loadDescriptors (fieldNat image 4 2) (image.drop 8) {} = none → loadImage image = .error (13, 0)) ∧
    (∀ t : Tables, crc16 (image.take 6 ++ image.drop 8) = fieldNat image 6 2 →
      loadDescriptors (fieldNat image 4 2) (image.drop 8) {} = some t →
      ((∀ c ∈ t.rangeChecks ++ t.serviceChecks, c.ok = true) → loadImage image = .ok t) ∧
      (∀ c : ImageCheck, (t.rangeChecks ++ t.serviceChecks).find? (fun c => !c.ok) = some c →
        loadImage image = .error (c.code, c.entry))) ∧
    (∀ t : Tables, loadImage image = .ok t →
      crc16 (image.take 6 ++ image.drop 8) = fieldNat image 6 2 ∧
      loadDescriptors (fieldNat image 4 2) (image.drop 8) {} = some t ∧
      (∃ b, t.bay = some b ∧ b.tolerance ≤ 20) ∧ (∃ i : LaneNo, (t.lanes[i]).isSome = true) ∧
      (∀ (i : LaneNo) (l : LaneCfg), t.lanes[i] = some l →
        (1000 ≤ l.k ∧ l.k ≤ 999999 ∧ 50 ≤ l.lowRate ∧ l.lowRate ≤ 1000 ∧ l.lowVolume ≤ 2000 ∧ l.slowVolume ≤ 5000 ∧
          50 ≤ l.slowRate ∧ l.slowRate ≤ 2000 ∧ 100 ≤ l.maxFlow ∧ l.maxFlow ≤ 5000 ∧ 10 ≤ l.ramp ∧ l.ramp ≤ 1000 ∧
          1 ≤ l.overrun ∧ l.overrun ≤ 200 ∧ l.level ≤ 2 ∧ l.correction ≤ 255 ∧ 1 ≤ l.ceiling ∧ l.ceiling ≤ 65535) ∧
        (∃ p, entryOf t.products l.product = some p ∧ p.cls ≤ 15 ∧ p.alpha ≤ 2000 ∧ p.beta ≤ 200) ∧
        (entryOf t.headers l.header).isSome = true ∧
        (∃ x, t.temps[i] = some x ∧ 1 ≤ x.cLo ∧ x.cLo < x.cHi ∧ x.cHi ≤ 4094 ∧ -10000 ≤ x.tLo ∧ x.tLo < x.tHi ∧
          x.tHi ≤ 20000) ∧
        lanePoints t i ≠ [] ∧ ((lanePoints t i).map (·.2.q)).Pairwise (· < ·)) ∧
      (∀ (j : InjNo) (x : InjectorCfg), t.injectors[j] = some x →
        (∃ i : LaneNo, x.lane = i.val + 1 ∧ (t.lanes[i]).isSome = true) ∧ 500 ≤ x.stroke ∧ x.stroke ≤ 50000 ∧
        1 ≤ x.rate ∧ x.rate ≤ 120 ∧ 50 ≤ x.drive ∧ x.drive ≤ 1000) ∧
      (∀ (h : Nat) (c : HeaderCfg), entryOf t.headers h = some c →
        100 ≤ c.capacity ∧ c.capacity ≤ 20000 ∧ 1 ≤ c.stations ∧ c.stations ≤ 24)))

/-- R194: a lane's totals page read at start-up gives the lane the totals of the valid copy with the larger write count, of
the one valid copy, or 0 and 0, and the copy state says which copy that was.
R208: the scan of a note slot. Its first page is taken when it has a note tag, a number of at least 1 that belongs to the slot and a
length in 34..498, and further pages of a longer note are read first. A slot that then passes the test of a present note counts
for the next note number and has NOTE-STATUS(LAPSED) offered when its stamp status is PENDING; another slot holds no note. After
slot 239 the next note number is the highest number found plus 1, and the marker's head is read.
R193, R197: an open marker's head has the order lines read, and those that belong to it the slot of the trip's note. With a marker
that is not open there is nothing to recover.
Nothing else of the machine changes but the Start-up Loader's place and the port.
That copy A is taken of two valid ones with equal counts is the model's choice (log 33), and so is that the marker's head is read
before its order lines, which are read only for an open head (log 48). -/
def Obligations.StartUpReads : Prop :=
  (∀ (s : State) (i : LaneNo), s.sul.phase = .totals i.val → s.stp.port = .reading ⟨.sul, 64 + i.val⟩ →
    let page := readPage s.store (64 + i.val)
    let best : Bool × Nat × Word48 × Word48 :=
      match totalsOf i page 0, totalsOf i page 64 with
      | none, none => (false, 0, 0, 0)
      | some a, none => (false, a)
      | none, some b => (true, b)
      | some a, some b => if b.1 ≤ a.1 then (false, a) else (true, b)
    Leaves .pageReadComplete s
      { s with
        lanes := s.lanes.set i { s.lane i with ven := { (s.lane i).ven with
          totGross := best.2.2.1, totStd := best.2.2.2 } }
        sul := { s.sul with
          stored := s.sul.stored.set i best.2.2
          phase := if i.val < 3 then .totals (i.val + 1) else .slot 0 } } ∧
    ∃ t, exec .pageReadComplete s = .next t ∧ t.stp.copies = s.stp.copies.set i ⟨best.1, best.2.1⟩) ∧
  (∀ (s : State) (n : Nat), s.stp.port = .reading ⟨.sul, n⟩ → n < 2048 →
    let page := readPage s.store n
    let quiet : Prop := s.Calm ∧ s.stp.reads = [] ∧ s.stp.queue = [] ∧ s.stp.flight = none ∧ s.sul.held = []
    let goes (u : State) (next : Nat) : Prop := Leaves .pageReadComplete s u ∧
      (quiet → ∀ t, exec .pageReadComplete s = .next t → t.stp.port = .reading ⟨.sul, next⟩)
    let onward (k best : Nat) : State × Nat :=
      if k < 239 then ({ s with sul := { s.sul with best := best, phase := .slot (k + 1), buf := [] } }, 128 + 4 * (k + 1))
      else ({ s with
        ntb := { s.ntb with next := best + 1 }
        sul := { s.sul with best := best, phase := .markHead, buf := [] } }, 68)
    let scanned (k : Nat) (bytes : List Byte) : Prop :=
      let number := fieldNat bytes 1 4
      let isPending : Prop := fieldNat bytes (fieldNat bytes 5 2 - 4) 1 = 1
      (notePresent number bytes = false → goes (onward k s.sul.best).1 (onward k s.sul.best).2) ∧
      (notePresent number bytes = true → ¬isPending →
        goes (onward k (max s.sul.best number)).1 (onward k (max s.sul.best number)).2) ∧
      (notePresent number bytes = true → isPending →
        Leaves .pageReadComplete s (onward k (max s.sul.best number)).1 ∧
        (s.Calm → s.sul.held = [] → s.stp.flight.isSome = true → s.stp.queue.length < 12 →
          ∀ t, exec .pageReadComplete s = .next t →
            t.stp.queue = s.stp.queue ++ [⟨.noteStatus number .stamp 3, true⟩]))
    let len := fieldNat page 5 2
    let candidate (k : Nat) : Prop := fieldNat page 0 1 = 0x4E ∧ 1 ≤ fieldNat page 1 4 ∧ fieldNat page 1 4 % 240 = k ∧
      34 ≤ len ∧ len ≤ 498
    (∀ k : Nat, s.sul.phase = .slot k →
      (¬candidate k → goes (onward k s.sul.best).1 (onward k s.sul.best).2) ∧
      (candidate k → len ≤ 128 → scanned k page) ∧
      (candidate k → 128 < len → goes { s with
        sul := { s.sul with phase := .slotRest k ((len + 127) / 128 - 1), buf := page } } (128 + 4 * k + 1))) ∧
    (∀ k left : Nat, s.sul.phase = .slotRest k left →
      (2 ≤ left → Leaves .pageReadComplete s { s with
        sul := { s.sul with phase := .slotRest k (left - 1), buf := s.sul.buf ++ page } }) ∧
      (left ≤ 1 → scanned k (s.sul.buf ++ page))) ∧
    (let settled : State := { s with sul := { s.sul with phase := .settle, buf := [] } }
     (s.sul.phase = .markHead →
       (markerOf page = none → Leaves .pageReadComplete s settled) ∧
       (∀ m : Marker, markerOf page = some m →
         goes { s with sul := { s.sul with marker := some m, phase := .markLines } } 69)) ∧
     (∀ m : Marker, s.sul.phase = .markLines → s.sul.marker = some m →
       (markLinesOk m.number page = false → Leaves .pageReadComplete s settled) ∧
       (markLinesOk m.number page = true → goes { s with
         sul := { s.sul with lines := (List.range m.count).map (markLineOf page), phase := .sealed } }
         (128 + 4 * (m.number % 240))))))

/-- R197: the slot of the open trip's note has been read, from one page or from several. With the trip's note in it, of the marker's
permit, the lanes' totals become the larger of those stored and the note's, each taken separately, a TOTAL is offered for each lane
whose totals changed, TRIP-MARK(closed) last, and all reading is done.
R198: otherwise the checkpoints of the WAITING lines are read in card order. A line with an ENDED checkpoint of the trip takes its end
reason and its record, and its lane's totals become at least the checkpoint's; one with a checkpoint of an open stage is ENDED with
POWER-LOST and the checkpoint's record, its additive lines closed with their results; one with none is NOT-LOADED.
R199, R200: after the last WAITING line the totals advance by each power-lost compartment, and when every offer has been accepted the
recovered note is built from the lines, with RECOVERED and TIME-UNSET set, the end time 0 and stamp status NONE.
R199, R189, R175: the offers are, for each power-lost line in card order, the CHECKPOINT of its line, ENDED with POWER-LOST, the
recovered volumes and additive lines and the lane's totals after its advance, and then a TOTAL for each lane whose totals differ from
those stored. They join the store write queue in this order behind what waits there, as far as it has room; the rest is held. With
none held the pages of the recovered note follow them in the queue, again as far as it has room. With nothing waiting and no
request in flight the first offer is in flight at once.
That a power-lost line without a resolved lane, as a marker's lane of 5 to 7 is read, advances no totalizer and has totals of 0 in
its ENDED CHECKPOINT is the model's choice (log 21): R199 speaks of lanes alone. That the TOTALs are offered in lane order, that
no further page is read for a length outside 34..498, and that no checkpoint page is read for a line that is not WAITING, is the
model's choice (log 25, log 46, log 48). -/
def Obligations.TripRecovery : Prop :=
  ∀ (s : State) (n : Nat) (m : Marker), s.stp.port = .reading ⟨.sul, n⟩ → n < 2048 → s.sul.marker = some m → s.Calm →
    s.ntb.build = none →
    let page := readPage s.store n
    let bigger (a b : Word48) : Word48 := if a.toNat < b.toNat then b else a
    let recovers (lines : List OrderLine) (lost : List Nat) (base : LaneNo → Word48 × Word48) : Prop :=
      (∀ k : Nat, nextWaiting lines 0 = some k → ∃ t, exec .pageReadComplete s = .next t ∧
        t.sul.phase = .check (k + 1) ∧ t.sul.lines = lines ∧ t.sul.lost = lost ∧ t.sul.recovery = s.sul.recovery ∧
        (∀ i : LaneNo, t.totals i = base i) ∧ t.ntb.build = none ∧
        (s.stp.reads = [] → s.stp.flight.bind (·.steps.head?) = none → t.stp.port = .reading ⟨.sul, 69 + (k + 1)⟩)) ∧
      (nextWaiting lines 0 = none → ∃ t, exec .pageReadComplete s = .next t ∧
        t.sul.phase = .settle ∧ t.sul.lines = lines ∧ t.sul.lost = lost ∧
        (∀ i : LaneNo,
          let mine := (lost.filterMap fun k => lines[k]?).filter fun l => decide (l.lane = some i)
          t.totals i = ((base i).1 + (mine.map fun l => (l.record.getD {}).gross).sum,
            (base i).2 + (mine.map fun l => (l.record.getD {}).std).sum)) ∧
        (let after (n : Nat) : Option LaneNo → Word48 × Word48
            | none => (0, 0)
            | some i =>
              let mine := ((lost.take (n + 1)).filterMap fun k => lines[k]?).filter fun l => decide (l.lane = some i)
              ((base i).1 + (mine.map fun l => (l.record.getD {}).gross).sum,
                (base i).2 + (mine.map fun l => (l.record.getD {}).std).sum)
         let ended : List QItem := lost.zipIdx.filterMap fun (k, n) => lines[k]?.map fun l =>
           let r := l.record.getD {}
           ⟨.checkpoint (k + 1) (checkpointBytes m.number (k + 1) 7 0 9 l.clamped r (r.weighted.getD 0)
             (after n l.lane).1 (after n l.lane).2), true⟩
         let offers : List QItem := ended ++ (allLanes.filter fun i => decide (t.totals i ≠ s.storedTotals i)).map fun i =>
           ⟨.total i (t.totals i).1 (t.totals i).2, true⟩
         let requests : List QItem := offers ++ t.ntb.build.toList.flatMap (·.requests)
         lost.Nodup → (∀ k ∈ lost, ∀ l, lines[k]? = some l → (l.record.bind (·.weighted)).isSome = true) →
         noteLength lines ≤ 512 → s.sul.held = [] →
         (s.stp.flight.isSome = true → s.stp.queue.length ≤ 12 → (∀ q ∈ s.stp.queue, checkLine q.req = none) →
           let room := 12 - s.stp.queue.length
           t.stp.queue = s.stp.queue ++ requests.take room ∧ t.stp.flight = s.stp.flight ∧
           t.sul.held = (offers.drop room).map (·.req)) ∧
         (s.stp.flight = none → s.stp.queue = [] → lost.length ≤ 8 → s.pct.heldMarks = [] → s.ntb.statusList = [] →
           (∀ i : LaneNo, s.stage i ≠ .ended) →
           t.stp.flight.map (·.item) = requests.head? ∧ t.stp.queue = requests.tail.take 12 ∧ t.sul.held = [])) ∧
        (t.sul.held ≠ [] → t.sul.recovery = .offering ∧ t.ntb.build = none) ∧
        (t.sul.held = [] → t.sul.recovery = .sealing ∧ ∃ b, t.ntb.build = some b ∧ b.recovered = true ∧
          b.number = s.ntb.next ∧ b.image = noteImage { number := s.ntb.next, station := s.lif.station, permit := m.permit
                                                        driver := m.driver, tanker := m.tanker, startTime := m.startTime
                                                        endTime := 0
                                                        flags := { m.flags with recovered := true, timeUnset := true } }
            lines t.totals 4 1))
    let slotRead (bytes : List Byte) : Prop :=
      (notePresent m.number bytes = true ∧ fieldWord bytes 8 = m.permit →
        ∃ t, exec .pageReadComplete s = .next t ∧ t.sul.phase = .settle ∧ t.sul.recovery = s.sul.recovery ∧
          (∀ (i : LaneNo) (g x : Word48), (i, g, x) ∈ noteTotals bytes →
            t.totals i = (bigger (s.totals i).1 g, bigger (s.totals i).2 x)) ∧
          (∀ i : LaneNo, (∀ g x, (i, g, x) ∉ noteTotals bytes) → t.totals i = s.totals i) ∧
          (s.sul.held = [] → s.stp.queue = [] → s.stp.flight.isSome = true →
            t.stp.queue = (allLanes.filter fun i => decide (t.totals i ≠ s.storedTotals i)).map (fun i =>
              ⟨.total i (t.totals i).1 (t.totals i).2, true⟩) ++ [⟨.markClosed (closeHead m.head), true⟩])) ∧
      (¬(notePresent m.number bytes = true ∧ fieldWord bytes 8 = m.permit) →
        s.sul.recovery = .none → recovers s.sul.lines s.sul.lost s.totals)
    (s.sul.phase = .sealed →
      (fieldNat page 5 2 ≤ 128 ∨ 498 < fieldNat page 5 2 → slotRead page) ∧
      (128 < fieldNat page 5 2 → fieldNat page 5 2 ≤ 498 →
        Leaves .pageReadComplete s { s with
          sul := { s.sul with phase := .sealedRest ((fieldNat page 5 2 + 127) / 128 - 1), buf := page } })) ∧
    (∀ left : Nat, s.sul.phase = .sealedRest left →
      (2 ≤ left → Leaves .pageReadComplete s { s with
        sul := { s.sul with phase := .sealedRest (left - 1), buf := s.sul.buf ++ page } }) ∧
      (left ≤ 1 → slotRead (s.sul.buf ++ page))) ∧
    (∀ (k : Nat) (l : OrderLine), s.sul.phase = .check (k + 1) → s.sul.lines[k]? = some l → s.sul.recovery = .none →
      nextWaiting s.sul.lines 0 = some k →
      let close (a : AdditiveLine) : AdditiveLine := { a with
        live := false, backlog := false
        result := some (doseResult a.totalDue a.confirmed a.faultMark (s.stroke a.injector) s.tolerance) }
      (checkpointOf m.number page = none →
        recovers (s.sul.lines.set k { l with status := .ended .notLoaded, record := none }) s.sul.lost s.totals) ∧
      (∀ x : CheckRec, checkpointOf m.number page = some x →
        (x.stage = 7 → recovers
          (s.sul.lines.set k { l with
            status := .ended x.reason, record := some { x.record with endReason := some x.reason } }) s.sul.lost
          fun i => if l.lane = some i then (bigger (s.totals i).1 x.totGross, bigger (s.totals i).2 x.totStd)
            else s.totals i) ∧
        (x.stage ≠ 7 → recovers
          (s.sul.lines.set k { l with
            status := .ended .powerLost
            record := some { x.record with
              endReason := some .powerLost, additives := x.record.additives.map close } }) (s.sul.lost ++ [k]) s.totals)))

/-- R24, R25, R176: the completion of the last page of a trip's note seals it: the next note number rises by 1, the slot
enters AWAIT-STAMP with its 120 s window and the composed stamp, no stamp is pending, and no note is being built.
R24, R27, R177, R179: a stamp that was pending is dropped with a request of stamp status LAPSED for its note, and a WRITE of it stays
outstanding for that note. TRIP-MARK(closed) is offered after that request; with the store queue free to take all that the seal
offers they follow what waits in it. RELEASE(permit) and then NOTE-READY go to the transmit FIFO; the one that it refuses is held, and
in MUTE both are taken and discarded.
R176, R180, R181: a copy of the note, without the reprint mark, joins the print queue. In an empty one it is the head, and its printing
begins at once, or before start-up has completed not yet; behind one entry it waits; and of two it takes the place of the waiting
one, with print status SKIPPED requested for that one's note, after what else the seal offers, when it was no reprint.
R178, R200: a recovered note, sealed before start-up completes, reports nothing to Permit Control: the slot, the trip and the stamps stay.
TRIP-MARK(closed) is offered, NOTE-READY is held in DOWN, and the recovery is complete when that marker's write is.
That the clock reaches the write's end is the model's choice (log 1), as in every statement with a timer below. -/
def Obligations.LastPageSealsNote : Prop :=
  (∀ (s : State) (w : PageWrite) (due : Nat) (page : Nat) (bytes : List Byte) (b : Build) (f : Flight),
    s.sul.recovery ≠ .offering → s.stp.port = .writing w due → w.inRange → s.stp.flight = some f →
    f.item.req = .notePage b.number page bytes → f.steps.tail = [] → s.ntb.build = some b → b.pages = page →
    let number : Word32 := BitVec.ofNat 32 b.number
    let skipped : List QItem := match s.ntb.prints with
      | _ :: x :: _ => if x.reprint then [] else [⟨.noteStatus x.number .print 3, false⟩]
      | _ => []
    let offers (t : State) (requests : List QItem) : Prop :=
      s.Calm → s.sul.held = [] → s.ntb.statusList = [] → s.pct.heldMarks = [] →
      s.stp.queue.length + requests.length ≤ 12 → (∀ i : LaneNo, s.stage i ≠ .ended) →
      t.stp.flight.toList.map (·.item) ++ t.stp.queue = s.stp.queue ++ requests
    let copied (t : State) : Prop :=
      let e : PrintEntry := ⟨b.image, b.number, false⟩
      t.ntb.prints = (match s.ntb.prints with
        | [] => [e]
        | h :: _ => [h, e]) ∧
      (s.ntb.prints = [] → s.sul.done = true → s.ntb.port.wire = none →
        t.ntb.port.wire.toList ++ t.ntb.port.chars = noteText b.image false ∧ t.ntb.port.busy = s.ntb.port.busy ∧
        t.ntb.port.timer = (if s.ntb.port.busy then some (max s.now due + 30000000) else none)) ∧
      (s.ntb.prints ≠ [] ∨ s.sul.done = false → t.ntb.port = s.ntb.port)
    (∀ tr : Trip, b.recovered = false → s.pct.trip = some tr →
      ∃ t, exec .pageWriteComplete s = .next t ∧ t.ntb.next = s.ntb.next + 1 ∧ t.ntb.build = none ∧
        t.pct.slot = .awaitStamp ∧ t.pct.trip = some tr ∧ t.pct.pendingStamp = none ∧
        t.pct.stampWindow = some (max s.now due + 120000000) ∧
        t.pct.stamp = some ⟨withCrc (beBytes 1 0x53 ++ beBytes 4 b.number ++ beBytes 1 s.lif.station ++
          beBytes 4 b.endTime.toNat ++ beBytes 1 b.loaded), b.number, b.permit⟩ ∧
        t.lanes.map Lane.steady = s.lanes.map Lane.steady ∧ copied t ∧
        (s.pct.pendingStamp = none → t.pct.write = s.pct.write) ∧
        (∀ st : Stamp, s.pct.pendingStamp = some st →
          t.pct.write = if s.pct.write = some .pendingStamp then some (.displaced st.note) else s.pct.write) ∧
        offers t ((s.pct.pendingStamp.toList.map fun st => ⟨.noteStatus st.note .stamp 3, false⟩) ++
          [⟨.markClosed (closeHead tr.marker), false⟩] ++ skipped) ∧
        (s.Calm →
          (s.lif.link ≠ .down → s.lif.link ≠ .mute →
            t.lif.fifo = s.lif.fifo ++ [.release tr.permit, .noteReady number b.permit].take (6 - s.lif.fifo.length) ∧
            t.ntb.heldReady = (if s.lif.fifo.length ≤ 4 then s.ntb.heldReady else some (number, b.permit)) ∧
            (s.lif.fifo.length ≤ 5 → t.pct.held = s.pct.held) ∧
            (6 ≤ s.lif.fifo.length → s.pct.held.length < 24 → t.pct.held = s.pct.held ++ [.release tr.permit])) ∧
          (s.lif.link = .mute → t.lif.fifo = s.lif.fifo ∧ t.ntb.heldReady = s.ntb.heldReady ∧ t.pct.held = s.pct.held))) ∧
    (∀ m : Marker, b.recovered = true → s.sul.marker = some m →
      ∃ t, exec .pageWriteComplete s = .next t ∧ t.ntb.next = s.ntb.next + 1 ∧ t.ntb.build = none ∧
        t.sul.recovery = .closing ∧ t.sul.phase = s.sul.phase ∧ t.sul.done = s.sul.done ∧
        t.pct.slot = s.pct.slot ∧ t.pct.trip = s.pct.trip ∧ t.pct.stamp = s.pct.stamp ∧
        t.pct.stampWindow = s.pct.stampWindow ∧ t.pct.pendingStamp = s.pct.pendingStamp ∧ t.pct.write = s.pct.write ∧
        t.lanes.map Lane.steady = s.lanes.map Lane.steady ∧ copied t ∧
        offers t ([⟨.markClosed (closeHead m.head), true⟩] ++ skipped) ∧
        (s.Calm → s.lif.link = .down → t.lif.fifo = s.lif.fifo ∧ t.ntb.heldReady = some (number, b.permit)))) ∧
  (∀ (s : State) (w : PageWrite) (due : Nat) (f : Flight) (head : List Byte),
    s.sul.recovery = .closing → s.stp.port = .writing w due → w.inRange → s.stp.flight = some f →
    f.item = ⟨.markClosed head, true⟩ → f.steps.tail = [] →
    ∃ t, exec .pageWriteComplete s = .next t ∧ t.sul.recovery = .complete ∧ t.sul.phase = s.sul.phase ∧
      t.ntb.next = s.ntb.next ∧ t.pct.slot = s.pct.slot ∧ t.pct.trip = s.pct.trip)

/-- R209, R210: START_UP_COMPLETION with start-up ready and no config fault: LIF enters LISTEN (with no window under the
listen-only strap), the share tick and the fitted lanes' metering ticks start, and each fitted lane's snapshots are set
to its counters. No frame is sent and no store request is made.
R207, R211: in the config fault state ATTEND's pattern starts at its first pulse, the line CONFIG FAULT with the code (and for
codes 1 to 9 the table's name and the entry) goes to the printer port, and LIF, HSU, the lanes and the store stay as they are.
R28, R114, R211: before start-up completes a filtered change and a key press are taken into the filtered level only: no latch, no
key event, no order to a lane; a feedback pulse is followed without a pulse being taken.
Before start-up is ready, its step not reached, an offer held or a recovery going on, the command has no effect: the model's
choice (log 26). The time of the event in the config fault state and the single spaces of the line are the model's choice as
well (log 8, log 9). -/
def Obligations.StartUpCompletes : Prop :=
  (∀ s : State,
    (s.sul.phase = .settle → s.sul.code = 0 → s.sul.held = [] → s.sul.recovery = .none ∨ s.sul.recovery = .complete →
      s.noReportDue →
      ∃ t, exec .startUpCompletion s = .next t ∧ t.sul = { s.sul with done := true, phase := .complete } ∧
        t.now = s.now ∧ t.lif.link = .listen ∧
        t.lif.listen = (if s.lif.listenOnly then none else some (s.now + 1500000)) ∧
        t.hsu.tick = some (s.now + 500000) ∧
        (∀ i : LaneNo, s.fitted i = true → (t.lane i).tick = some (s.now + 250000) ∧
          (t.lane i).piu = { (s.lane i).piu with snapA := (s.lane i).piu.cntA, snapB := (s.lane i).piu.cntB }) ∧
        (∀ i : LaneNo, s.fitted i = false → (t.lane i).tick = (s.lane i).tick ∧ (t.lane i).piu = (s.lane i).piu) ∧
        (∀ i : LaneNo, t.stage i = s.stage i) ∧
        t.lif.onLine = s.lif.onLine ∧ t.stp.queue = s.stp.queue ∧ t.stp.flight = s.stp.flight ∧
        t.pct.slot = s.pct.slot ∧ t.pct.trip = s.pct.trip ∧ t.injs = s.injs ∧ t.store = s.store) ∧
    (s.sul.phase = .settle → s.sul.code ≠ 0 → s.Calm → s.ntb.port.wire = none →
      ∃ t, exec .startUpCompletion s = .next t ∧ t.sul = { s.sul with done := true, phase := .complete } ∧
        t.ilm.pattern = some ⟨0, s.now + 300000⟩ ∧ t.lif = s.lif ∧ t.hsu = s.hsu ∧ t.lanes = s.lanes ∧
        t.store = s.store ∧ t.stp.queue = s.stp.queue ∧
        t.ntb.port.wire.toList ++ t.ntb.port.chars =
          "CONFIG FAULT ".toList ++ (toString s.sul.code).toList ++
          (if s.sul.code ≤ 9 then
            " ".toList ++ (tableName s.sul.code).toList ++ " ".toList ++ (toString s.sul.entry).toList else []) ++
          [Char.ofNat 13, Char.ofNat 10]) ∧
    (s.sul.phase ≠ .settle ∨ (s.sul.code = 0 ∧ (s.sul.held ≠ [] ∨ s.sul.recovery = .offering ∨
        s.sul.recovery = .sealing ∨ s.sul.recovery = .closing)) →
      exec .startUpCompletion s = .next s)) ∧
  (∀ s : State, s.sul.done = false →
    (∀ (p : Permissive) (good : Bool), s.ilm.level p ≠ good →
      Leaves (.permissiveChange p good) s { s with ilm := s.ilm.setLevel p good }) ∧
    (∀ i : LaneNo, s.armOn i = false →
      Leaves (.armConnect i) s { s with ilm := { s.ilm with arm := s.ilm.arm.set i true } }) ∧
    (∀ i : LaneNo, s.armOn i = true →
      Leaves (.armDrop i) s { s with ilm := { s.ilm with arm := s.ilm.arm.set i false } }) ∧
    (∀ pressed : Bool, s.ilm.rstop ≠ pressed →
      Leaves (.rstopChange pressed) s { s with ilm := { s.ilm with rstop := pressed } }) ∧
    (s.ilm.startKey = false → Leaves .start s { s with ilm := { s.ilm with startKey := true } }) ∧
    (s.ilm.stopKey = false → Leaves .stop s { s with ilm := { s.ilm with stopKey := true } }) ∧
    (s.ilm.ackKey = false → Leaves .ackPress s { s with ilm := { s.ilm with ackKey := true } }) ∧
    (∀ j : InjNo, (s.inj j).level = false → Leaves (.feedbackPulse j) s { s with injs := s.injs.set j { s.inj j with level := true } }))

/-! ### Driver permits -/

/-- R5 to R7: a CARD message is ignored before start-up completes, while a WRITE is outstanding, and, when its block fails an
intake check, during a trip. While the slot is EMPTY or AWAIT-STAMP the three intake checks of R6, in order, give REFUSED with
the reason of the first that fails and ATTEND's 300 ms pulse; nothing else changes.
R8 to R13: a valid block that is not the pending stamp's, presented while intake is armed, is refused as a whole trip in this
order: BAY-FAULT in config fault or with numbering exhausted (R169), LEAK-ALARM, EXPIRED, NOT-YET-VALID, and NO-LINES for a card
none of whose lines is WAITING after its checks, one with no order lines among them. The slot is EMPTY again, no trip record is
kept, REFUSED goes to the reader and ATTEND pulses; nothing else changes. READY, lit before, has gone dark at CHECKING (R43)
and shows that for its 300 ms (R45). -/
def Obligations.CardsRefused : Prop :=
  (∀ (block : List Byte) (s : State),
    (s.sul.done = false ∨ s.pct.write.isSome = true → exec (.card block) s = .next s) ∧
    (s.sul.done = true → s.pct.write = none → ∀ r : CardRefusal,
      (if block.length ≠ 84 then some CardRefusal.length
        else if field block 0 6 ≠ [0x50, 0x45, 0x52, 0x4D, 0x49, 0x54] ∨
            ¬(1 ≤ fieldNat block 24 1 ∧ fieldNat block 24 1 ≤ 8) ∨ 8 < fieldNat block 25 1 ∨
            (∃ k < fieldNat block 24 1, ¬(1 ≤ fieldNat block (26 + 2 * k) 2 ∧ fieldNat block (26 + 2 * k) 2 ≤ 20000)) then
          some CardRefusal.format
        else if crc16 (block.take 82) ≠ fieldNat block 82 2 then some CardRefusal.check else none) = some r →
      (s.Calm → s.pct.slot = .empty ∨ s.pct.slot = .awaitStamp →
        Yields (.card block) s { s with
          outbox := s.outbox ++ [.reader (refusedMessage r)]
          ilm := { s.ilm with pulse :=
            if s.ilm.pulse = none ∧ s.ilm.pattern = none then some (s.now + 300000) else s.ilm.pulse } }) ∧
      (s.pct.slot ≠ .empty → s.pct.slot ≠ .awaitStamp → exec (.card block) s = .next s))) ∧
  (∀ (block : List Byte) (s : State) (r : CardRefusal),
    s.Calm → s.sul.done = true → s.pct.write = none → s.pct.slot = .empty → intakeCheck block = none →
    s.pct.pendingStamp.map (·.permit) ≠ some (fieldWord block 6) →
    (if s.sul.code ≠ 0 ∨ 4294967296 ≤ s.ntb.next then some CardRefusal.bayFault
      else if s.ilm.leakAlarm = true then some CardRefusal.leakAlarm
      else if s.lif.timeSet = true ∧ fieldNat block 20 2 < s.lif.time.toNat / 86400 then some CardRefusal.expired
      else if s.lif.timeSet = true ∧ s.lif.time.toNat / 86400 < fieldNat block 18 2 then some CardRefusal.notYetValid
      else if ∀ l ∈ validatedLines s (cardTrip block), l.status ≠ .waiting then some CardRefusal.noLines else none) = some r →
    ∃ t, exec (.card block) s = .next t ∧ t.apart = State.apart { s with
        outbox := s.outbox ++ [.reader (refusedMessage r)]
        pct := { s.pct with slot := .empty, trip := none, heard := false, claimWindow := none }
        ilm := { s.ilm with pulse :=
          if s.ilm.pulse = none ∧ s.ilm.pattern = none then some (s.now + 300000) else s.ilm.pulse } } ∧
      (s.ilm.ready.shown = true → s.ilm.ready.holdUntil ≤ s.now → t.ilm.ready.shown = false))

/-- R9, R14, R18, R48: a valid trip with a WAITING line. In RUN its CLAIM is queued (kept while the FIFO is full) and the slot is
CLAIMING. In every other link state the slot is AUTHORIZED at once with ISOLATED-CLAIM and the 300 s timer, and each lane
makes the priming check. TIME-UNSET is set while rack time is unset. -/
def Obligations.CardAccepted : Prop :=
  ∀ (block : List Byte) (s : State),
    s.Calm → s.sul.done = true → s.pct.write = none → s.pct.slot = .empty →
    intakeCheck block = none → s.pct.pendingStamp.map (·.permit) ≠ some (fieldWord block 6) →
    s.sul.code = 0 → s.ntb.next < 4294967296 → s.ilm.leakAlarm = false →
    (s.lif.timeSet = true → fieldNat block 18 2 ≤ s.lif.time.toNat / 86400 ∧
      s.lif.time.toNat / 86400 ≤ fieldNat block 20 2) →
    let tr := cardTrip block
    let ls := validatedLines s tr
    (∃ l ∈ ls, l.status = .waiting) →
    (s.lif.link = .run →
      ∃ t, exec (.card block) s = .next t ∧ t.lanes = s.lanes ∧ t.steady = State.steady { s with pct := { s.pct with
          slot := .claiming, heard := false
          trip := some { tr with lines := ls, flags := { timeUnset := !s.lif.timeSet } } } } ∧
        (s.lif.fifo.length < 6 → t.lif.fifo = s.lif.fifo ++ [.claim (fieldWord block 6)] ∧ t.pct.held = s.pct.held) ∧
        (6 ≤ s.lif.fifo.length → s.pct.held.length < 24 →
          t.lif.fifo = s.lif.fifo ∧ t.pct.held = s.pct.held ++ [.claim (fieldWord block 6)])) ∧
    (s.lif.link ≠ .run →
      ∃ t, exec (.card block) s = .next t ∧ t.steady = State.steady { s with pct := { s.pct with
          slot := .authorized, claimWindow := none, authTimer := some (s.now + 300000000)
          trip := some { tr with lines := ls, flags := { isolatedClaim := true, timeUnset := !s.lif.timeSet } } } } ∧
        ∀ (i : LaneNo),
          (∀ k : Nat, s.stage i = .idle → s.armOn i = true → ls.findIdx? (waitingFor i) = some k →
            t.lane i = { s.lane i with stage := .primed, line := some k }) ∧
          (s.stage i ≠ .idle ∨ s.armOn i = false ∨ ls.findIdx? (waitingFor i) = none → t.lane i = s.lane i))

/-- R10 to R12, R110, R111: validation gives each line one outcome, in the order of R10's checks: COMPARTMENT-INVALID,
DUPLICATE-COMPARTMENT (an earlier line of the same valid compartment, whatever became of it), PRODUCT-NOT-AT-BAY,
CLASS-NOT-PERMITTED, PRESET-TOO-SMALL, and then the recipe: WAITING for code 0, RECIPE-NOT-SERVABLE for an absent one, a block
without entries or an entry that is not servable, RECIPE-WITHDRAWN for a withdrawn one, and otherwise WAITING. A refused line is
the card's line with its reason and, refused after the class check, its resolved lane.
A line that validation leaves WAITING names a compartment of the tanker, carries a product of its
class set on its resolved lane, the lowest-numbered fitted lane with that product, asked for at least 50 L, has a preset clamped
to its compartment's capacity and is CLAMPED when that is less than it asked for, and shares its compartment with no other
WAITING line. Its dose entries are those of its recipe (none for code 0), each on an injector of the resolved lane that no other
of them names and whose static limit is at least the lane's low-flow rate. -/
def Obligations.LinesAreValidated : Prop :=
  (∀ (s : State) (tr : Trip) (k : Nat) (l : OrderLine),
    (∀ x ∈ tr.lines, x.status = .waiting ∧ x.lane = none ∧ x.clamped = false) →
    (validatedLines s tr)[k]? = some l → l.status = .waiting →
    (1 ≤ l.compartment ∧ l.compartment ≤ tr.capacities.length) ∧
    (∃ x, tr.lines[k]? = some x ∧ l.compartment = x.compartment ∧ l.product = x.product ∧ l.recipe = x.recipe ∧
      50 ≤ x.preset ∧
      ∃ c, tr.capacities[l.compartment - 1]? = some c ∧ l.preset = min x.preset c ∧ (l.clamped = true ↔ c < x.preset)) ∧
    (∃ i, l.lane = some i ∧ ∃ c, s.laneCfg i = some c ∧ c.product = l.product ∧
      (∀ j : LaneNo, j < i → ∀ d, s.laneCfg j = some d → d.product ≠ l.product) ∧
      (l.doses.map (·.injector)).Nodup ∧
      ∀ d ∈ l.doses, s.injLane d.injector = some i ∧
        ∃ x, s.injCfg d.injector = some x ∧ c.lowRate ≤ x.rate * x.stroke / d.ratio) ∧
    (l.recipe = 0 → l.doses = []) ∧
    (l.recipe ≠ 0 → ∃ r, entryOf s.cfg.recipes l.recipe = some r ∧
      ((r.kind = 1 ∧ l.doses = [doseEntryOf r.dose]) ∨
        (r.kind = 2 ∧ l.doses = doseBlock s.cfg r.dose.injector ∧ l.doses ≠ []))) ∧
    (∃ p, entryOf s.cfg.products l.product = some p ∧ tr.classSet.getLsbD p.cls = true) ∧
    (∀ (j : Nat) (m : OrderLine), (validatedLines s tr)[j]? = some m → m.status = .waiting →
      m.compartment = l.compartment → j = k)) ∧
  (∀ (s : State) (tr : Trip) (k : Nat) (x : OrderLine),
    (∀ x ∈ tr.lines, x.status = .waiting ∧ x.lane = none ∧ x.clamped = false) → tr.lines[k]? = some x →
    let valid : Prop := 1 ≤ x.compartment ∧ x.compartment ≤ tr.capacities.length
    let twice : Prop := ∃ (j : Nat) (y : OrderLine), j < k ∧ tr.lines[j]? = some y ∧ y.compartment = x.compartment
    let carried (i : LaneNo) : Prop := ∃ c, s.laneCfg i = some c ∧ c.product = x.product
    let classed : Prop := ∃ p, entryOf s.cfg.products x.product = some p ∧ tr.classSet.getLsbD p.cls = true
    let served (i : LaneNo) (ds : List DoseEntry) : Prop := (ds.map (·.injector)).Nodup ∧
      ∀ d ∈ ds, s.injLane d.injector = some i ∧ ∃ c y, s.laneCfg i = some c ∧ s.injCfg d.injector = some y ∧
        c.lowRate ≤ y.rate * y.stroke / d.ratio
    (validatedLines s tr).length = tr.lines.length ∧
    ∃ l, (validatedLines s tr)[k]? = some l ∧
      (∀ r, l.status = .refused r → l = { x with status := .refused r, lane := l.lane }) ∧
      (¬valid → l.status = .refused .compartmentInvalid ∧ l.lane = none) ∧
      (valid → twice → l.status = .refused .duplicateCompartment ∧ l.lane = none) ∧
      (valid → ¬twice → (∀ i : LaneNo, ¬carried i) → l.status = .refused .productNotAtBay ∧ l.lane = none) ∧
      ∀ i : LaneNo, valid → ¬twice → carried i → (∀ j : LaneNo, j < i → ¬carried j) →
        (¬classed → l.status = .refused .classNotPermitted ∧ l.lane = none) ∧
        (classed → l.lane = some i) ∧
        (classed → x.preset < 50 → l.status = .refused .presetTooSmall) ∧
        (classed → 50 ≤ x.preset →
          (x.recipe = 0 → l.status = .waiting) ∧
          (x.recipe ≠ 0 →
            (entryOf s.cfg.recipes x.recipe = none → l.status = .refused .recipeNotServable) ∧
            ∀ r, entryOf s.cfg.recipes x.recipe = some r →
              let ds := if r.kind = 1 then [doseEntryOf r.dose] else doseBlock s.cfg r.dose.injector
              (r.kind = 3 → l.status = .refused .recipeWithdrawn) ∧
              (r.kind = 1 ∨ r.kind = 2 →
                (ds ≠ [] ∧ served i ds → l.status = .waiting) ∧
                (¬(ds ≠ [] ∧ served i ds) → l.status = .refused .recipeNotServable)))))

/-- R7, R26, R27: a valid card of the trip's permit in AWAIT-STAMP has the trip's stamp written and stops the stamp window; one
of the pending stamp's permit has the pending stamp written, with the slot EMPTY or during a trip of another permit. The
WRITE carries the stamp's bytes and starts the 2 s reply timer. Any other valid card during a trip is ignored. -/
def Obligations.CardWritesStamp : Prop :=
  ∀ (block : List Byte) (s : State), s.sul.done = true → s.pct.write = none → intakeCheck block = none →
    (∀ (tr : Trip) (st : Stamp), s.Calm → s.pct.slot = .awaitStamp → s.pct.trip = some tr → s.pct.stamp = some st →
      tr.permit = fieldWord block 6 →
      Yields (.card block) s { s with
        outbox := s.outbox ++ [.reader (writeMessage st.bytes)]
        pct := { s.pct with write := some .trip, replyTimer := some (s.now + 2000000), stampWindow := none } }) ∧
    (∀ st : Stamp, s.Calm → s.pct.pendingStamp = some st → st.permit = fieldWord block 6 → s.pct.slot ≠ .awaitStamp →
      (s.pct.slot = .empty ∨ s.pct.trip.map (·.permit) ≠ some (fieldWord block 6)) →
      Yields (.card block) s { s with
        outbox := s.outbox ++ [.reader (writeMessage st.bytes)]
        pct := { s.pct with write := some .pendingStamp, replyTimer := some (s.now + 2000000) } }) ∧
    (s.pct.slot ≠ .empty → s.pct.slot ≠ .awaitStamp →
      s.pct.trip.map (·.permit) = some (fieldWord block 6) ∨ s.pct.pendingStamp.map (·.permit) ≠ some (fieldWord block 6) →
      exec (.card block) s = .next s) ∧
    (s.pct.slot = .awaitStamp → s.pct.trip.map (·.permit) ≠ some (fieldWord block 6) → exec (.card block) s = .next s)

/-- R1: a reader message that fails the port's test, and a WRITE-DONE or WRITE-FAIL with no WRITE outstanding, change nothing. The
20 ms after the last byte of a message that is not whole discard its bytes, so that the next byte begins a new message, and
change nothing else but the clock (log 1). Bytes given as discarded that pass the test are taken as the message they are: the
model's choice (log 44).
R147: a frame dropped while no own attempt is on the line refreshes nothing.
That a collision with no attempt on the line, a FRAME_DROPPED whose bytes pass R147's test, a press at a pressed key, an ACK
release at a released one, a hold event with no hold timing and the end of a gap that is not timed have no effect is the model's
choice (log 26).
The lengthened gap ends with any frame that is not an own one: the model's choice (log 18). -/
def Obligations.DiscardedMessages : Prop :=
  (∀ s : State,
     (∀ raw : List Byte,
       (readerMessageOk raw = false → exec (.readerMessageDiscarded raw) s = .next s) ∧
       (readerMessageOk raw = true → exec (.readerMessageDiscarded raw) s = exec (match fieldNat raw 0 1 with
         | 1 => .card (field raw 2 (fieldNat raw 1 1))
         | 2 => .writeDone
         | _ => .writeFail) s)) ∧
     (s.crd.gap = none → exec .readerByteGapTimeout s = .next s) ∧
     (∀ d : Nat, s.Calm → s.crd.gap = some d →
       Yields .readerByteGapTimeout s { s with now := max s.now d, crd := { bytes := [], gap := none } }) ∧
     (s.pct.write = none → exec .writeDone s = .next s ∧ exec .writeFail s = .next s) ∧
     (s.ilm.startKey = true → exec .start s = .next s) ∧ (s.ilm.stopKey = true → exec .stop s = .next s) ∧
     (s.ilm.ackKey = true → exec .ackPress s = .next s) ∧ (s.ilm.ackKey = false → exec .ackRelease s = .next s) ∧
     (s.ilm.ackHold = none → exec .ackHoldEvent s = .next s)) ∧
  (∀ s : State, s.lif.onLine = none → exec .collision s = .next s ∧
     ∀ (framing : Bool) (raw : List Byte), acceptFrame framing raw = none →
       exec (.frameDropped framing raw) s = .next { s with lif := { s.lif with ownLast := false } }) ∧
  (∀ (framing : Bool) (raw : List Byte) (s : State), (acceptFrame framing raw).isSome = true →
     exec (.frameDropped framing raw) s = .next s)

/-- R26, R27, R179: the outcome of a WRITE. Of the trip's stamp: WRITE-DONE empties the slot and requests stamp status STAMPED
for its note; WRITE-FAIL and the expiry of the reply timer move the stamp to the pending slot with a 600 s lifetime and empty
the slot. Of the pending stamp: WRITE-DONE empties the pending slot and requests STAMPED; WRITE-FAIL and the timer's expiry keep
the stamp with its lifetime, or with the lifetime's expiry held drop it with LAPSED. Of a displaced stamp: WRITE-DONE requests
STAMPED for its note, and a failure changes nothing further.
R26, R27, R179: the stamp window's expiry in AWAIT-STAMP with no WRITE outstanding moves the stamp to the pending slot. The pending
stamp's lifetime expires with a request of stamp status LAPSED; during a WRITE of it the expiry is held.
A stamp window that expires during a WRITE is not part of this statement (log 13).
The clock that a timed event leaves is the model's choice (log 1). -/
def Obligations.StampOutcomes : Prop :=
  (∀ (s : State) (st : Stamp), s.pct.write = some .trip → s.pct.stamp = some st →
     (∃ t, exec .writeDone s = .next t ∧ t.steady = State.steady { s with pct := { s.pct with
         slot := .empty, trip := none, heard := false, stamp := none, stampWindow := none, write := none
         replyTimer := none } } ∧
       (s.Calm → s.ntb.statusList = [] → s.stp.queue.length < 12 →
         s.stp.flight.isSome = true → t.stp.queue = s.stp.queue ++ [⟨.noteStatus st.note .stamp 2, false⟩])) ∧
     (s.Calm →
       Yields .writeFail s { s with pct := { s.pct with
         slot := .empty, trip := none, heard := false, stamp := none, stampWindow := none, write := none
         replyTimer := none, pendingStamp := some st, lifetime := some (s.now + 600000000), lifetimeHeld := false } } ∧
       ∀ d : Nat, s.pct.replyTimer = some d →
         Yields .replyTimerExpiry s { s with now := max s.now d, pct := { s.pct with
           slot := .empty, trip := none, heard := false, stamp := none, stampWindow := none, write := none
           replyTimer := none, pendingStamp := some st, lifetime := some (max s.now d + 600000000)
           lifetimeHeld := false } })) ∧
  (∀ (s : State) (c : Instr) (now : Nat),
     let failed : Prop := (c = .writeFail ∧ now = s.now) ∨
       ∃ d, c = .replyTimerExpiry ∧ s.pct.replyTimer = some d ∧ now = max s.now d
     let replied : Pct := { s.pct with write := none, replyTimer := none }
     let emptied : Pct := { replied with pendingStamp := none, lifetime := none, lifetimeHeld := false }
     let requests (t : State) (note code : Nat) : Prop :=
       s.Calm → s.ntb.statusList = [] → s.stp.queue.length < 12 → s.stp.flight.isSome = true →
         t.stp.queue = s.stp.queue ++ [⟨.noteStatus note .stamp code, false⟩]
     (∀ st : Stamp, s.pct.write = some .pendingStamp → s.pct.pendingStamp = some st →
       (∃ t, exec .writeDone s = .next t ∧ t.steady = State.steady { s with pct := emptied } ∧ requests t st.note 2) ∧
       (failed → s.pct.lifetimeHeld = false → s.Calm → Yields c s { s with now := now, pct := replied }) ∧
       (failed → s.pct.lifetimeHeld = true →
         ∃ t, exec c s = .next t ∧ t.steady = State.steady { s with now := now, pct := emptied } ∧ requests t st.note 3)) ∧
     (∀ note : Nat, s.pct.write = some (.displaced note) →
       (∃ t, exec .writeDone s = .next t ∧ t.steady = State.steady { s with pct := replied } ∧ requests t note 2) ∧
       (failed → s.Calm → Yields c s { s with now := now, pct := replied }))) ∧
  (∀ s : State,
     (∀ d : Nat, s.Calm → s.pct.write = none → s.pct.stampWindow = some d → s.pct.slot = .awaitStamp →
       Yields .stampWindowExpiry s { s with now := max s.now d, pct := { s.pct with
         slot := .empty, trip := none, heard := false, stamp := none, stampWindow := none
         pendingStamp := s.pct.stamp, lifetime := some (max s.now d + 600000000), lifetimeHeld := false } }) ∧
     (∀ d : Nat, s.pct.lifetime = some d →
       (s.Calm → s.pct.write = some .pendingStamp →
         Yields .stampLifetimeExpiry s { s with now := max s.now d, pct := { s.pct with
           lifetime := none, lifetimeHeld := true } }) ∧
       (∀ st : Stamp, s.pct.write ≠ some .pendingStamp → s.pct.pendingStamp = some st →
         ∃ t, exec .stampLifetimeExpiry s = .next t ∧ t.steady = State.steady { s with now := max s.now d, pct := { s.pct with
             pendingStamp := none, lifetime := none, lifetimeHeld := false } } ∧
           (s.Calm → s.ntb.statusList = [] → s.stp.queue.length < 12 → s.stp.flight.isSome = true →
             t.stp.queue = s.stp.queue ++ [⟨.noteStatus st.note .stamp 3, false⟩]) ∧
           (s.Calm → s.ntb.statusList ≠ [] → s.ntb.statusList.length < 8 →
             t.ntb.statusList = s.ntb.statusList ++ [⟨st.note, .stamp, 3⟩]))))

/-- R18, R48: the claim window's expiry in CLAIMING: the slot is AUTHORIZED with the 300 s timer, and each lane makes the
priming check.
R22: the authorization timer's expiry in AUTHORIZED ends the trip with no loads. RELEASE(permit) is queued, the record is
discarded, the slot is EMPTY, and each lane PRIMED on a line of the trip is IDLE. No note is built, nothing is written to the
store and no stamp is made.
That an event taken after its time sees the clock at the later of the two is the model's choice (log 1). -/
def Obligations.AuthorizedSlot : Prop :=
  (∀ (s : State) (d : Nat) (tr : Trip), s.pct.claimWindow = some d → s.pct.slot = .claiming → s.pct.trip = some tr →
     ∃ t, exec .claimWindowExpiry s = .next t ∧ t.steady = State.steady { s with
         now := max s.now d
         pct := { s.pct with slot := .authorized, claimWindow := none, authTimer := some (max s.now d + 300000000) } } ∧
       ∀ i : LaneNo,
         (∀ k : Nat, s.stage i = .idle → s.armOn i = true → tr.lines.findIdx? (waitingFor i) = some k →
           t.lane i = { s.lane i with stage := .primed, line := some k }) ∧
         (s.stage i ≠ .idle → s.stage i ≠ .ended → t.lane i = s.lane i) ∧
         (s.stage i = .idle → s.armOn i = false ∨ tr.lines.findIdx? (waitingFor i) = none → t.lane i = s.lane i)) ∧
  (∀ (s : State) (d : Nat) (tr : Trip), s.Calm → s.pct.authTimer = some d → s.pct.slot = .authorized →
     s.pct.trip = some tr →
     ∃ t, exec .authorizationTimeout s = .next t ∧ t.steady = State.steady { s with
         now := max s.now d
         pct := { s.pct with slot := .empty, trip := none, heard := false, authTimer := none } } ∧
       (∀ i : LaneNo, s.stage i = .primed → t.stage i = .idle ∧ (t.lane i).line = none) ∧
       (∀ i : LaneNo, s.stage i ≠ .primed → t.lane i = s.lane i) ∧
       t.ntb.build = s.ntb.build ∧ t.stp.queue = s.stp.queue ∧ t.stp.flight = s.stp.flight ∧
       (s.lif.link ≠ .down → s.lif.link ≠ .mute → s.lif.fifo.length < 6 →
         t.lif.fifo = s.lif.fifo ++ [.release tr.permit]) ∧
       (s.lif.link ≠ .mute → s.lif.link = .down ∨ 6 ≤ s.lif.fifo.length → s.pct.held.length < 24 →
         t.pct.held = s.pct.held ++ [.release tr.permit]))

/-- R23, R24: a STOP in RELEASED with no lane flowing or closing, and the expiry of the trip idle timer, take the trip to
CLOSING: the end time is taken, a WAITING line ends with NOT-LOADED and a REFUSED one keeps its reason; a SUSPENDED line that
its lane holds ends with its cause; its volumes stay, its additive lines are closed at once with their results from the counts
as they stand, and no stroke in progress serves the lane any longer (R71, R127). (No other suspended lane holds the line.)
R62, R69 to R72, R105, R108, R109: the rest of the record of such a compartment becomes final as at ENDED: the weighted temperature,
OVERRUN past the limit, the pulse fault and the end reason. The lane's totalizers advance by the record's volumes, its learned
overshoot stays, and no fault mark is set. With room in the store queue its ENDED checkpoint, with the totals after the advance, and
then its TOTAL join the queue, the lane is IDLE without a line, and the pages of the note that is begun follow as far as the queue has
room. At a queue with room for the checkpoint alone the lane waits in ENDED with its TOTAL, and at a full one, with no checkpoint of the
line waiting there, with both. (For these requests: no other lane is suspended with its compartment open, and for the pages no note
is being built before.)
That an injector without a stroke in progress serves the lane no longer either is the model's choice (log 43).
The clock that a timed event leaves is the model's choice (log 1). -/
def Obligations.TripCloses : Prop :=
  ∀ (c : Instr) (s : State) (now : Nat) (tr : Trip), s.sul.done = true → s.pct.slot = .released → s.pct.trip = some tr →
    (c = .stop ∧ s.ilm.stopKey = false ∧ now = s.now ∧ s.anyFlowing = false ∧ s.anyClosing = false ∨
      ∃ d, c = .tripIdleTimerExpiry ∧ s.pct.idleTimer = some d ∧ now = max s.now d) →
    ∃ t tr', exec c s = .next t ∧ t.pct.slot = .closing ∧ t.pct.trip = some tr' ∧ t.now = now ∧
      tr'.endTime = (if s.lif.timeSet then s.lif.time else 0) ∧
      tr'.flags.timeUnset = (tr.flags.timeUnset || !s.lif.timeSet) ∧ tr'.lines.length = tr.lines.length ∧
      ∀ (k : Nat) (l : OrderLine), tr.lines[k]? = some l →
        (l.status = .waiting → (∀ i cause left, s.stage i = .suspended cause left → (s.lane i).line ≠ some k) →
          ∃ l', tr'.lines[k]? = some l' ∧ l'.status = .ended .notLoaded ∧ l'.record = l.record) ∧
        (∀ r, l.status = .refused r → (∀ i cause left, s.stage i = .suspended cause left → (s.lane i).line ≠ some k) →
          tr'.lines[k]? = some l) ∧
        (∀ i cause left, l.status = .suspended cause → l.lane = some i → (s.lane i).line = some k →
          s.stage i = .suspended cause left →
          (∀ j cause' left', j ≠ i → s.stage j = .suspended cause' left' → (s.lane j).line ≠ some k) →
          let reason : EndReason := match cause with
            | .lapse => .lapse | .arm => .arm | .halt => .halt | .driver => .driver
          ∃ l', tr'.lines[k]? = some l' ∧ l'.status = .ended reason ∧
            (left = .primed → l'.record = l.record ∧ t.totals i = s.totals i) ∧
            (left ≠ .primed → ∀ (r : CompRecord) (c : LaneCfg), l.record = some r → s.laneCfg i = some c →
              let v := (s.lane i).ven
              let weighted : Int := if r.gross = 0 then
                  (if v.window = [] then 1500 else max (-4000) (min 7000 (v.window.sum.tdiv v.window.length)))
                else v.sigma.tdiv r.gross.toNat
              let r' : CompRecord := { r with
                weighted := some weighted, endReason := some reason, pulseFault := (s.lane i).piu.fault
                flags := { r.flags with
                  overrun := r.flags.overrun || decide (l.preset * 1000 + c.overrun * 1000 < r.gross.toNat) }
                additives := r.additives.map fun a => if a.live then { a with
                  live := false, backlog := false
                  result := some (doseResult a.totalDue a.confirmed a.faultMark (s.stroke a.injector) s.tolerance) } else a }
              l'.record = some r' ∧ t.totals i = (v.totGross + r.gross, v.totStd + r.std) ∧
              (t.lane i).learned = (s.lane i).learned ∧ t.ilm.faultMark = s.ilm.faultMark ∧
              (∀ j : InjNo, (t.inj j).serving.map (·.lane) ≠ some i) ∧
              (s.Calm → s.stp.flight.isSome = true → (∀ q ∈ s.stp.queue, checkLine q.req ≠ some (k + 1)) →
                (∀ j cause' left', j ≠ i → s.stage j = .suspended cause' left' → left' = .primed) →
                let ended : List QItem :=
                  [⟨.checkpoint (k + 1) (checkpointBytes tr.number (k + 1) 7 0 (endReasonCode reason) l.clamped r' weighted
                      (v.totGross + r.gross) (v.totStd + r.std)), false⟩,
                    ⟨.total i (v.totGross + r.gross) (v.totStd + r.std), false⟩]
                (s.stp.queue.length ≤ 10 → t.stage i = .idle ∧ (t.lane i).line = none ∧
                  (s.ntb.build = none → noteLength tr'.lines ≤ 512 →
                    t.stp.queue = s.stp.queue ++ ended ++
                      (t.ntb.build.toList.flatMap (·.requests)).take (10 - s.stp.queue.length))) ∧
                (s.stp.queue.length = 11 → t.stage i = .ended ∧ t.stp.queue = s.stp.queue ++ ended.take 1) ∧
                (12 ≤ s.stp.queue.length → t.stage i = .ended ∧ t.stp.queue = s.stp.queue))))

/-! ### Interlocks, keys and lamps -/

/-- R29, R30, R32, R58: a permissive goes bad after start-up. Every flowing lane's outputs are off at once. In RELEASED the bay
latch is set; if it was clear, every flowing or PRIMED lane is SUSPENDED for LAPSE with S and the wanted rate 0 and its line
SUSPENDED(LAPSE); and a lane in CLOSING goes on with its record marked LAPSE-IN-CLOSING. In any other slot state no latch is
set. The lane latches, the leak alarm and the trip slot stay.
R28, R29: a permissive that becomes good changes its level and no latch, stage or setpoint; a filtered level that is not a
change changes nothing.
R72: each flowing lane that is suspended offers a checkpoint of its line, and a PRIMED one none (Safety.lean, State.Checkpoints).
That a command which is no change has no effect is the model's choice (log 26). -/
def Obligations.PermissiveChanges : Prop :=
  (∀ (s : State) (p : Permissive), s.sul.done = true → s.ilm.level p = true →
     ∃ t, exec (.permissiveChange p false) s = .next t ∧ t.whole = false ∧ t.ilm.level p = false ∧
       t.ilm.bayLatch = (s.ilm.bayLatch || decide (s.pct.slot = .released)) ∧ t.ilm.laneLatch = s.ilm.laneLatch ∧
       t.ilm.leakAlarm = s.ilm.leakAlarm ∧ t.pct.slot = s.pct.slot ∧
       s.Checkpoints t (if s.pct.slot = .released ∧ s.ilm.bayLatch = false then s.flowingLanes else []) ∧
       ∀ i : LaneNo,
         ((s.stage i).flowing = true → (t.lane i).openOut = false ∧ (t.lane i).holdOut = false ∧
           (t.lane i).step = none) ∧
         (∀ left : LeftStage, leftOf (s.stage i) = some left → s.pct.slot = .released → s.ilm.bayLatch = false →
           t.stage i = .suspended .lapse left ∧ (t.lane i).setpoint = 0 ∧ (t.lane i).wanted = 0 ∧
           (t.lane i).line = (s.lane i).line ∧
           ∀ k l, (s.lane i).line = some k → s.lines[k]? = some l →
             ∃ l', t.lines[k]? = some l' ∧ l'.status = .suspended .lapse) ∧
         (s.stage i = .closing → t.lane i = s.lane i ∧
           (s.pct.slot = .released → ∀ r, s.record i = some r →
             t.record i = some { r with flags := { r.flags with lapseInClosing := true } })) ∧
         (s.pct.slot ≠ .released → s.stage i ≠ .ended → t.stage i = s.stage i)) ∧
  (∀ (s : State) (p : Permissive),
     (s.ilm.level p = false →
       ∃ t, exec (.permissiveChange p true) s = .next t ∧ t.ilm.level p = true ∧
         (∀ q : Permissive, q ≠ p → t.ilm.level q = s.ilm.level q) ∧ t.ilm.bayLatch = s.ilm.bayLatch ∧
         t.ilm.laneLatch = s.ilm.laneLatch ∧ t.pct.slot = s.pct.slot ∧ t.pct.trip = s.pct.trip ∧ t.injs = s.injs ∧
         ∀ i : LaneNo, s.stage i ≠ .ended → t.stage i = s.stage i ∧ (t.lane i).setpoint = (s.lane i).setpoint ∧
           (t.lane i).line = (s.lane i).line) ∧
     (∀ good : Bool, s.ilm.level p = good → exec (.permissiveChange p good) s = .next s))

/-- R48: an ARM that becomes connected at a lane in IDLE, with the slot AUTHORIZED or RELEASED: the lane takes the first WAITING
line in card order that is its own and is PRIMED. With no such line, in another slot state or in another stage nothing but
the level changes.
R31, R32, R49: an ARM drop. A PRIMED lane returns to IDLE and releases its line with no latch. A flowing lane's latch is set
and the lane is SUSPENDED for ARM, outputs off, its line SUSPENDED(ARM). A lane in CLOSING goes on, its latch set and its
record marked LAPSE-IN-CLOSING. In the other stages nothing but the level changes.
R72: a flowing lane that is so suspended offers a checkpoint of its line (Safety.lean, State.Checkpoints).
That an ARM command which is no change has no effect is the model's choice (log 26). -/
def Obligations.ArmChanges : Prop :=
  (∀ (s : State) (i : LaneNo), s.sul.done = true → s.armOn i = false →
    let u : State := { s with ilm := { s.ilm with arm := s.ilm.arm.set i true } }
    (∀ (k : Nat) (l : OrderLine), s.stage i = .idle → s.pct.slot = .authorized ∨ s.pct.slot = .released →
      s.lines[k]? = some l → l.status = .waiting → l.lane = some i →
      (∀ (j : Nat) (m : OrderLine), j < k → s.lines[j]? = some m → m.status = .waiting → m.lane ≠ some i) →
      Leaves (.armConnect i) s { u with lanes := s.lanes.set i { s.lane i with stage := .primed, line := some k } }) ∧
    (s.stage i ≠ .idle ∨ (s.pct.slot ≠ .authorized ∧ s.pct.slot ≠ .released) ∨
      (∀ l ∈ s.lines, l.status = .waiting → l.lane ≠ some i) → Leaves (.armConnect i) s u)) ∧
  (∀ (s : State) (i : LaneNo), s.sul.done = true → s.armOn i = true →
    let low : State := { s with ilm := { s.ilm with arm := s.ilm.arm.set i false } }
    let latched : State := { s with ilm := { s.ilm with
      arm := s.ilm.arm.set i false, laneLatch := s.ilm.laneLatch.set i true } }
    (s.stage i = .primed → Leaves (.armDrop i) s { low with lanes := s.lanes.set i { s.lane i with
      stage := .idle, line := none, setpoint := 0, wanted := 0, openOut := false, holdOut := false, step := none } }) ∧
    (∀ left : LeftStage, (s.stage i).flowing = true → leftOf (s.stage i) = some left →
      Leaves (.armDrop i) s
        ({ latched with lanes := s.lanes.set i { s.lane i with
          stage := .suspended .arm left, setpoint := 0, wanted := 0, openOut := false, holdOut := false
          step := none } }.modHeld i fun l => { l with status := .suspended .arm }) ∧
      ∀ t, exec (.armDrop i) s = .next t → s.Checkpoints t [i]) ∧
    (s.stage i = .closing → Leaves (.armDrop i) s (latched.modFlags i fun f => { f with lapseInClosing := true })) ∧
    (s.stage i = .idle ∨ s.stage i = .ended ∨ (∃ cause left, s.stage i = .suspended cause left) →
      Leaves (.armDrop i) s low)) ∧
  (∀ (s : State) (i : LaneNo), (s.armOn i = true → exec (.armConnect i) s = .next s) ∧
    (s.armOn i = false → exec (.armDrop i) s = .next s))

/-- R34, R35: a change of the rack stop. In RUN and ALONE a STATUS is due at once, as urgent. A press that starts a halt suspends
every flowing lane for HALT with its outputs off; every other lane, and every lane at a release, is unchanged.
R72: each lane so suspended offers a checkpoint of its line (Safety.lean, State.Checkpoints). -/
def Obligations.RackStopChanges : Prop :=
  ∀ (s : State) (pressed : Bool), s.sul.done = true → s.ilm.rstop ≠ pressed →
    ∃ t, exec (.rstopChange pressed) s = .next t ∧ t.ilm.rstop = pressed ∧ t.ilm.bayLatch = s.ilm.bayLatch ∧
      t.ilm.laneLatch = s.ilm.laneLatch ∧ t.pct.slot = s.pct.slot ∧ t.lif.peers = s.lif.peers ∧
      (s.lif.link = .run ∨ s.lif.link = .alone → t.lif.due = .urgent) ∧
      (s.lif.link ≠ .run → s.lif.link ≠ .alone → t.lif.due = s.lif.due ∧ t.lif.current = s.lif.current) ∧
      s.Checkpoints t (if pressed = true ∧ s.halted = false then s.flowingLanes else []) ∧
      ∀ i : LaneNo,
        (∀ left : LeftStage, pressed = true → s.halted = false → (s.stage i).flowing = true →
          leftOf (s.stage i) = some left →
          t.lane i = { s.lane i with
            stage := .suspended .halt left, setpoint := 0, wanted := 0, openOut := false, holdOut := false
            step := none } ∧
          ∀ k l, (s.lane i).line = some k → s.lines[k]? = some l →
            ∃ l', t.lines[k]? = some l' ∧ l'.status = .suspended .halt) ∧
        (pressed = false ∨ s.halted = true ∨ (s.stage i).flowing = false → s.stage i ≠ .ended →
          t.lane i = s.lane i)

/-- R3, R21: a START in AUTHORIZED with the permissive set whole, no lapse latch, no rack halt and a connected ARM at a fitted
lane of a WAITING line is the release event: the slot is RELEASED, the authorization timer stops, the start time and the
trip number are taken, and TRIP-MARK(open) is offered. No lane changes. When a condition fails nothing changes but the
key's level.
R39: a START in RELEASED leaves as it was each lane, outside ENDED, for which a condition fails (it holds no line, or one that
has been ended, among them) or which is neither PRIMED nor SUSPENDED; in EMPTY, CHECKING, CLAIMING, CLOSING and AWAIT-STAMP it is ignored. -/
def Obligations.StartEvent : Prop :=
  (∀ (s : State) (tr : Trip), s.sul.done = true → s.ilm.startKey = false → s.pct.slot = .authorized → s.pct.trip = some tr →
     let cond : Prop := s.whole = true ∧ s.ilm.bayLatch = false ∧ (∀ i : LaneNo, s.laneLatched i = false) ∧
       s.halted = false ∧
       ∃ l ∈ tr.lines, l.status = .waiting ∧ ∃ i : LaneNo, l.lane = some i ∧ s.fitted i = true ∧ s.armOn i = true
     let tr1 : Trip := { tr with
       startTime := if s.lif.timeSet then s.lif.time else 0
       number := s.ntb.next
       flags := { tr.flags with timeUnset := tr.flags.timeUnset || !s.lif.timeSet } }
     (cond →
       Leaves .start s { s with
         ilm := { s.ilm with startKey := true }
         pct := { s.pct with slot := .released, trip := some { tr1 with marker := markHead tr1 }, authTimer := none } } ∧
       (s.Calm → s.pct.heldMarks = [] → s.stp.queue.length < 12 → s.stp.flight.isSome = true →
         ∀ t, exec .start s = .next t →
           t.stp.queue = s.stp.queue ++ [⟨.markOpen (markLines tr1) (markHead tr1), false⟩])) ∧
     (¬cond → Leaves .start s { s with ilm := { s.ilm with startKey := true } })) ∧
  (∀ s : State, s.sul.done = true → s.ilm.startKey = false →
     (s.pct.slot = .released →
       ∃ t, exec .start s = .next t ∧ t.pct.slot = .released ∧ ∀ i : LaneNo, s.stage i ≠ .ended →
         (s.whole = false ∨ s.ilm.bayLatch = true ∨ s.laneLatched i = true ∨ s.halted = true ∨ s.armOn i = false ∨
           s.heldLine i = none ∨ (∃ l reason, s.heldLine i = some l ∧ l.status = .ended reason) ∨ (s.stage i ≠ .primed ∧ ∀ cause left, s.stage i ≠ .suspended cause left)) →
         t.lane i = s.lane i) ∧
     (s.pct.slot ≠ .released → s.pct.slot ≠ .authorized →
       Leaves .start s { s with ilm := { s.ilm with startKey := true } }))

/-- R39, R50, R65, R107, R115: a START in RELEASED opens the compartment of a lane, PRIMED or SUSPENDED from PRIMED, for which the
conditions of R39 hold: LOW-FLOW with S at 0, the wanted rate of LOW-FLOW, four zero increments, zero carries and counts, HOLD on and OPEN off; its line is
ACTIVE with an empty record and one additive line for each resolved dose entry.
R72, R189, R190: the lane offers a checkpoint of its line, with the codes, the volumes and the totals as the opening leaves them, and so
does each other lane that the event opens or resumes. With a request in flight they join the store write queue, each in the
place of a checkpoint of its line that waits there, or else at the tail, where one that meets a full queue is dropped, and nothing
else joins it (Safety.lean, State.Checkpoints). -/
def Obligations.StartOpensCompartment : Prop :=
  ∀ (s : State) (i : LaneNo) (k : Nat) (l : OrderLine) (c : LaneCfg),
    s.sul.done = true → s.ilm.startKey = false → s.pct.slot = .released →
    (s.stage i = .primed ∨ ∃ cause, s.stage i = .suspended cause .primed) → (s.lane i).line = some k →
    s.lines[k]? = some l → s.laneCfg i = some c → (∀ j : LaneNo, j ≠ i → (s.lane j).line ≠ some k) →
    s.whole = true → s.ilm.bayLatch = false → s.laneLatched i = false → s.halted = false → s.armOn i = true →
    (∀ reason, l.status ≠ .ended reason) →
    ∃ t l' r, exec .start s = .next t ∧ t.pct.slot = .released ∧ t.stage i = .lowFlow ∧ (t.lane i).line = some k ∧
      (t.lane i).setpoint = 0 ∧ (t.lane i).wanted = underLimit (t.lane i).limit (min c.lowRate c.maxFlow) ∧
      (t.lane i).hist = [0, 0, 0, 0] ∧ (t.lane i).noFlow = 0 ∧
      (t.lane i).openOut = false ∧ (t.lane i).holdOut = true ∧
      (t.lane i).leak = (s.lane i).leak ∧ (t.lane i).leakCarry = (s.lane i).leakCarry ∧
      (t.lane i).piu = { (s.lane i).piu with
        corrected := 0, overspeed := false, reversed := false, fault := none, run := 0, mark := false } ∧
      (t.lane i).ven = { (s.lane i).ven with
        grossCarry := 0, stdCarry := 0, sigma := 0, faultRun := 0, valid := false, q := 0 } ∧
      t.lines[k]? = some l' ∧ l'.status = .active ∧ l'.record = some r ∧ l'.clamped = l.clamped ∧
      r.gross = 0 ∧ r.std = 0 ∧ r.corrected = 0 ∧ r.flags = {} ∧ r.pulseFault = none ∧ r.endReason = none ∧
      r.additives.map (fun a => (a.injector, a.ratio, a.mandatory, a.due, a.totalDue, a.commanded)) =
        l.doses.map (fun d => (d.injector, d.ratio, d.mandatory, 0, 0, 0)) ∧ s.StartCheckpoints t

/-- R39, R65: a START in RELEASED resumes a lane suspended with its compartment open, for which the conditions of R39 hold: with the remaining volume at most the learned
overshoot, or none, it closes at once with PRESET; otherwise it enters LOW-FLOW below the low-flow volume, SLOWDOWN within
the slowdown volume, and FULL-FLOW in the other cases, with S at 0. Its line is ACTIVE and its no-flow count 0.
R72, R189, R190: the lane, and each other one that the event opens or resumes, offers a checkpoint of its line as it then stands
(Safety.lean, State.Checkpoints). -/
def Obligations.StartResumes : Prop :=
  ∀ (s : State) (i : LaneNo) (k : Nat) (l : OrderLine) (c : LaneCfg) (cause : Cause) (left : LeftStage),
    s.sul.done = true → s.ilm.startKey = false → s.pct.slot = .released → s.stage i = .suspended cause left → left ≠ .primed →
    (s.lane i).line = some k → s.lines[k]? = some l → s.laneCfg i = some c →
    (∀ j : LaneNo, j ≠ i → (s.lane j).line ≠ some k) →
    s.whole = true → s.ilm.bayLatch = false → s.laneLatched i = false → s.halted = false → s.armOn i = true →
    (∀ reason, l.status ≠ .ended reason) →
    ∃ t, exec .start s = .next t ∧ t.lines[k]? = some { l with status := .active } ∧ (t.lane i).line = some k ∧
      (t.lane i).noFlow = 0 ∧ (t.lane i).setpoint = 0 ∧ (t.lane i).ven = (s.lane i).ven ∧
      (t.lane i).hist = (s.lane i).hist ∧ s.StartCheckpoints t ∧
      let rem : Int := l.preset * 1000 - s.gross i
      (rem ≤ (s.lane i).learned * 1000 ∨ rem ≤ 0 → t.stage i = .closing ∧ (t.lane i).closeReason = some .preset ∧
        (t.lane i).grossAtClose = s.gross i ∧ (t.lane i).closing = some (s.now + 10000000) ∧
        (t.lane i).openOut = false ∧ (t.lane i).holdOut = false) ∧
      (¬(rem ≤ (s.lane i).learned * 1000 ∨ rem ≤ 0) →
        t.stage i = (if s.gross i < c.lowVolume * 1000 then Stage.lowFlow
          else if rem ≤ (c.slowVolume : Int) * 1000 then Stage.slowdown else Stage.fullFlow) ∧
        (t.lane i).openOut = false ∧ ((s.lane i).ven.q ≤ 20 → (t.lane i).holdOut = true))

/-- R40: a STOP event. In RELEASED with some lane flowing, every flowing lane is SUSPENDED for DRIVER and every other lane stays;
with none flowing and some CLOSING it is ignored; with neither the trip enters CLOSING (R23). In any other slot state it is
ignored.
R72 (section 3.13), R189, R190: each lane so suspended offers a checkpoint of its line, with the cause DRIVER and the stage left
(Safety.lean, State.Checkpoints). -/
def Obligations.StopEvent : Prop :=
  ∀ s : State, s.sul.done = true → s.ilm.stopKey = false →
    (s.pct.slot = .released → s.anyFlowing = true →
      ∃ t, exec .stop s = .next t ∧ t.pct.slot = .released ∧ s.Checkpoints t s.flowingLanes ∧ ∀ i : LaneNo,
        (∀ left : LeftStage, (s.stage i).flowing = true → leftOf (s.stage i) = some left →
          t.lane i = { s.lane i with
            stage := .suspended .driver left, setpoint := 0, wanted := 0, openOut := false, holdOut := false
            step := none } ∧
          ∀ k l, (s.lane i).line = some k → s.lines[k]? = some l →
            ∃ l', t.lines[k]? = some l' ∧ l'.status = .suspended .driver) ∧
        ((s.stage i).flowing = false → s.stage i ≠ .ended → t.lane i = s.lane i)) ∧
    (s.pct.slot = .released → s.anyFlowing = false → s.anyClosing = true →
      Leaves .stop s { s with ilm := { s.ilm with stopKey := true } }) ∧
    (s.pct.slot = .released → s.anyFlowing = false → s.anyClosing = false →
      ∃ t, exec .stop s = .next t ∧ t.pct.slot = .closing) ∧
    (s.pct.slot ≠ .released → Leaves .stop s { s with ilm := { s.ilm with stopKey := true } })

/-- R38, R41, R74: an ACK press after start-up clears the bay latch if the permissive set is whole, each lane latch whose ARM is
connected, the leak alarm with every lane's leak volume and carry, and every fault mark; the 2 s hold timing begins. Nothing
else changes, and no lane starts.
R37, R38, R42, R183: an ACK release ends the hold timing. At the hold event, with own RSTOP released, some peer entry halting
and every halting one SILENT, the SILENT halting entries are removed and a trip gets HALT-OVERRIDE. Otherwise with the slot EMPTY
the newest note's reprint read begins at the first page of its slot (behind the reads that wait), unless there is no note, a
reprint read runs, or the note is in the print queue. Otherwise nothing happens.
The clock at an event taken after its time is the model's choice (log 1). -/
def Obligations.AckKey : Prop :=
  (∀ s : State, s.Calm → s.sul.done = true → s.ilm.ackKey = false →
    Yields .ackPress s { s with
      ilm := { s.ilm with
        ackKey := true
        ackHold := some (s.now + 2000000)
        bayLatch := s.ilm.bayLatch && !s.whole
        laneLatch := Vector.ofFn fun i : LaneNo => s.laneLatched i && !s.armOn i
        leakAlarm := false
        faultMark := Vector.replicate 4 false }
      lanes := s.lanes.map fun l => { l with leak := 0, leakCarry := 0 } }) ∧
  (∀ s : State,
    (s.ilm.ackKey = true → Leaves .ackRelease s { s with ilm := { s.ilm with ackKey := false, ackHold := none } }) ∧
    ∀ d : Nat, s.ilm.ackHold = some d →
      let cond : Prop := s.ilm.rstop = false ∧ (∃ e ∈ s.lif.peers, e.halt = true) ∧
        ∀ e ∈ s.lif.peers, e.halt = true → e.age = .silent
      let u : State := { s with now := max s.now d, ilm := { s.ilm with ackHold := none } }
      (cond → Leaves .ackHoldEvent s { u with
        lif := { s.lif with peers := s.lif.peers.filter fun e => !e.halt }
        pct := { s.pct with trip := s.pct.trip.map fun t => { t with flags := { t.flags with haltOverride := true } } } }) ∧
      (¬cond → s.pct.slot = .empty → 2 ≤ s.ntb.next → s.ntb.reprint = none →
        (∀ e ∈ s.ntb.prints, e.number ≠ s.ntb.next - 1) →
        Leaves .ackHoldEvent s { u with ntb := { s.ntb with reprint := some ⟨s.ntb.next - 1, [], 0⟩ } } ∧
        let read : ReadReq := ⟨.reprint, 128 + 4 * ((s.ntb.next - 1) % 240)⟩
        (s.Calm → ∀ t, exec .ackHoldEvent s = .next t →
          (s.stp.port = .idle → s.stp.reads = [] → s.stp.flight = none → t.stp.port = .reading read) ∧
          (s.stp.port ≠ .idle → t.stp.port = s.stp.port ∧ t.stp.reads = s.stp.reads ++ [read]))) ∧
      (¬cond → s.pct.slot ≠ .empty ∨ s.ntb.next ≤ 1 ∨ s.ntb.reprint.isSome = true ∨
          (∃ e ∈ s.ntb.prints, e.number = s.ntb.next - 1) →
        Leaves .ackHoldEvent s u))

/-- R43 to R45, R74: the lamp timers. The refusal pulse ends. At the end of a stretch each of the four lamps shows the state that it
is commanded to at that moment: READY lit with the slot EMPTY outside config fault, blinking in AUTHORIZED and dark otherwise, and
dark in every slot state while the leak alarm is set; FLOW lit while a lane flows or closes; CARD lit in AWAIT-STAMP and blinking
for a pending stamp; ATTEND lit for a latch, the leak alarm, a fault mark or MUTE, the inverse of it during a refusal pulse, and by
the pattern in config fault. READY (with no leak alarm) and CARD, blinking, go on to their other phase of 500 ms; with the leak
alarm set READY blinks no more. The config fault pattern goes on: lit and dark phases of 300 ms, as many lit as the code, then
1,500 ms dark.
That in AUTHORIZED R74's sentence, READY dark while the alarm is set, is followed against R43's table, which has it blink, is the
model's reading (log 19).
That a lamp begins to blink lit, and that the command has no effect with no stretch to end or before start-up has completed, is the
model's choice (log 15, log 26).
The clock that a timed event leaves is the model's choice (log 1). -/
def Obligations.LampTimers : Prop :=
  ∀ s : State, s.Calm →
    let phase (b : Option Blink) : Bool := (b.map (·.lit)).getD true
    let wanted : Lamp → Bool
      | .ready => match s.pct.slot with
          | .empty => decide (s.sul.code = 0) && !s.ilm.leakAlarm
          | .authorized => phase s.ilm.ready.blink && !s.ilm.leakAlarm
          | _ => false
      | .flow => s.anyFlowing || s.anyClosing
      | .card => decide (s.pct.slot = .awaitStamp) || (s.pct.pendingStamp.isSome && phase s.ilm.card.blink)
      | .attend => match s.ilm.pattern with
        | some p => decide (p.phase < 2 * s.sul.code ∧ p.phase % 2 = 0)
        | none => decide ((s.ilm.bayLatch = true ∨ (∃ i : LaneNo, s.laneLatched i = true) ∨ s.ilm.leakAlarm = true ∨
            (∃ i : LaneNo, s.ilm.faultMark[i] = true) ∨ s.lif.link = .mute) ↔ s.ilm.pulse = none)
    (∀ d : Nat, s.ilm.pulse = some d →
      Yields .refusalPulseEnd s { s with now := max s.now d, ilm := { s.ilm with pulse := none } }) ∧
    (∀ lamp : Lamp, s.sul.done = true → s.now < (s.ilm.lamp lamp).holdUntil ∨ (s.ilm.lamp lamp).shown ≠ wanted lamp →
      ∃ t, exec (.lampStretchEnd lamp) s = .next t ∧ t.now = max s.now (s.ilm.lamp lamp).holdUntil ∧
        (t.ilm.lamp lamp).shown = wanted lamp ∧
        t.apart = State.apart { s with now := max s.now (s.ilm.lamp lamp).holdUntil }) ∧
    (∀ lamp : Lamp, (s.ilm.lamp lamp).holdUntil ≤ s.now →
      s.sul.done = false ∨ (s.ilm.lamp lamp).shown = wanted lamp → exec (.lampStretchEnd lamp) s = .next s) ∧
    (∀ b : Blink, s.sul.done = true → s.pct.slot = .authorized → s.ilm.leakAlarm = false → s.ilm.ready.blink = some b →
      ∃ t, exec (.lampBlinkPhase .ready) s = .next t ∧ t.ilm.ready.blink = some ⟨!b.lit, b.due + 500000⟩ ∧
        t.apart = State.apart { s with now := max s.now b.due }) ∧
    (∀ b : Blink, s.sul.done = true → s.ilm.leakAlarm = true → s.ilm.ready.blink = some b →
      ∃ t, exec (.lampBlinkPhase .ready) s = .next t ∧ t.ilm.ready.blink = none ∧
        t.apart = State.apart { s with now := max s.now b.due }) ∧
    (∀ b : Blink, s.sul.done = true → s.pct.slot ≠ .awaitStamp → s.pct.pendingStamp.isSome = true →
      s.ilm.card.blink = some b →
      ∃ t, exec (.lampBlinkPhase .card) s = .next t ∧ t.ilm.card.blink = some ⟨!b.lit, b.due + 500000⟩ ∧
        t.apart = State.apart { s with now := max s.now b.due }) ∧
    (∀ p : Pattern, s.ilm.pattern = some p →
      let n := if p.phase = 2 * s.sul.code then 0 else p.phase + 1
      Yields .faultCodePatternPhase s { s with
        now := max s.now p.due
        ilm := { s.ilm with pattern := some ⟨n, p.due + (if n = 2 * s.sul.code then 1500000 else 300000)⟩ } })

/-! ### Lanes, metering and dosing -/

/-- R93: the meter factor. A pass takes it from the lane's curve at the Q of the lane's previous pass: the first point's at a Q at
most Q₁, the last one's at a Q of at least Qₙ, and between two points MFᵢ + (MFᵢ₊₁ - MFᵢ) × (Q - Qᵢ) div (Qᵢ₊₁ - Qᵢ), the signed
product's division truncated toward zero. The result lies between the two points' factors, and so within 9,000..11,000. Q is 0
after reset, so that the first pass takes MF₁. With the factor so chosen, a pass with a compartment open moves gross and its carry,
in CLOSING too, and a pass with none moves the leak volume and its carry. The example of the rule is 10,012. -/
def Obligations.MeterFactor : Prop :=
  let chosen (curve : List PointCfg) (q mf : Nat) : Prop :=
    (∀ p, curve.head? = some p → q ≤ p.q → mf = p.mf) ∧
    (∀ p, curve.getLast? = some p → p.q ≤ q → mf = p.mf) ∧
    (∀ (n : Nat) (a b : PointCfg), curve[n]? = some a → curve[n + 1]? = some b → a.q ≤ q → q < b.q →
      (mf : Int) = a.mf + (((b.mf : Int) - a.mf) * ((q : Int) - a.q)).tdiv ((b.q : Int) - a.q) ∧
      min a.mf b.mf ≤ mf ∧ mf ≤ max a.mf b.mf)
  let ascending (curve : List PointCfg) : Prop := curve ≠ [] ∧ (curve.map (·.q)).Pairwise (· < ·)
  (∀ (curve : List PointCfg) (q : Nat), ascending curve →
    chosen curve q (meterFactor curve q) ∧
    ((∀ p ∈ curve, 9000 ≤ p.mf ∧ p.mf ≤ 11000) → 9000 ≤ meterFactor curve q ∧ meterFactor curve q ≤ 11000)) ∧
  (∀ (s : State) (i : LaneNo) (raw : BitVec 12) (d mf : Nat) (c : VenCfg),
    (s.lane i).tick = some d → s.venCfg i = some c → ascending c.curve → chosen c.curve (s.lane i).ven.q mf →
    let a := ((s.lane i).piu.cntA - (s.lane i).piu.snapA).toNat
    let b := ((s.lane i).piu.cntB - (s.lane i).piu.snapB).toNat
    let pulses := if c.lane.level = 0 then a else max a b
    (∀ r : CompRecord, (s.stage i).compartmentOpen = true → s.stage i ≠ .closing ∨ pulses ≠ 0 → s.record i = some r →
      let x := pulses * 100 * mf + (s.lane i).ven.grossCarry
      r.gross.toNat + x / c.lane.k < 281474976710656 →
      ∃ t r', exec (.meteringTick i raw) s = .next t ∧ t.record i = some r' ∧
        r'.gross.toNat = r.gross.toNat + x / c.lane.k ∧ (t.lane i).ven.grossCarry = x - x / c.lane.k * c.lane.k) ∧
    ((s.stage i).compartmentOpen = false →
      let x := pulses * 100 * mf + (s.lane i).leakCarry
      ∃ t, exec (.meteringTick i raw) s = .next t ∧ (s.stage i ≠ .ended →
        (t.lane i).leak = min ((s.lane i).leak + x / c.lane.k) 4294967295 ∧
        (t.lane i).leakCarry = x - x / c.lane.k * c.lane.k))) ∧
  (∀ i : LaneNo, (State.reset.lane i).ven.q = 0) ∧
  meterFactor [⟨200, 10055⟩, ⟨800, 10031⟩, ⟨1600, 10018⟩, ⟨3000, 10008⟩] 2445 = 10012

/-- R51, R64, R78 to R80, R85, R86, R89, R92, R94 to R106: a metering tick of a lane with its compartment open and not in CLOSING.
The tick restarts and the snapshots take the counters. The corrected pulses are those of channel A at level 0 and the larger of
the two otherwise. With x the pulses × 100 × the meter factor (MeterFactor) plus the gross carry, gross rises by x div K and the carry keeps the
rest. A valid sample joins the window, calibrated; an invalid one counts in the fault run up to 40. The temperature in use is the
window's mean, or 15 °C while no sample has been valid since the opening, within -40 and 70 °C; TEMP-HELD, TEMP-DEFAULT and
TEMP-CLAMPED are set as they apply. With y the gross increment × the factor of R102 at it plus the standard carry, the standard
volume rises by y div 1,000,000 and the carry keeps the rest, and Σ takes the increment × the temperature within 48 bits. Q
follows from the history. OVERSPEED and PHASE-REVERSED follow the pulses. The other lanes, outside ENDED, stay. A lane in
SUSPENDED (level 0 or 1) stays there, its outputs and its no-flow count as they were.
R72: a lane in SUSPENDED whose gross passes a whole multiple of 1,000,000 mL offers one checkpoint of its line, and otherwise none.
What a volume becomes past its 48 bits is left out (log 27). That a gross which lands on a multiple has passed it is the model's
choice (log 17).
The clock that a timed event leaves is the model's choice (log 1). -/
def Obligations.MeteringTickVolume : Prop :=
  ∀ (s : State) (i : LaneNo) (raw : BitVec 12) (d : Nat) (c : VenCfg) (r : CompRecord),
    (s.lane i).tick = some d → s.venCfg i = some c → (s.stage i).compartmentOpen = true → s.stage i ≠ .closing →
    s.record i = some r →
    let p := (s.lane i).piu
    let v := (s.lane i).ven
    let a := (p.cntA - p.snapA).toNat
    let b := (p.cntB - p.snapB).toNat
    let pulses := if c.lane.level = 0 then a else max a b
    let x := pulses * 100 * meterFactor c.curve v.q + v.grossCarry
    let dg := x / c.lane.k
    let good : Bool := decide (1 ≤ raw.toNat ∧ raw.toNat ≤ 4094)
    let sample : Int :=
      c.temp.tLo + (((raw.toNat : Int) - c.temp.cLo) * (c.temp.tHi - c.temp.tLo)).tdiv ((c.temp.cHi : Int) - c.temp.cLo)
    let window := if good then (if 4 ≤ v.window.length then v.window.drop 1 else v.window) ++ [sample] else v.window
    let run := if good then 0 else min (v.faultRun + 1) 40
    let temp : Int := if (v.valid || good) = true ∧ window ≠ [] then window.sum.tdiv window.length else 1500
    let use : Int := max (-4000) (min 7000 temp)
    let t1 := ((c.product.alpha : Int) * (use - 1500)).tdiv 100
    let t2 := ((c.product.beta : Int) * (use - 1500) * (use - 1500)).tdiv 1000000
    let y := dg * (max 900000 (min 1100000 (1000000 - t1 - t2))).toNat + v.stdCarry
    let ds := y / 1000000
    let hist := (s.lane i).hist.drop 1 ++ [dg]
    r.gross.toNat + dg < 281474976710656 → r.std.toNat + ds < 281474976710656 →
    ∃ t r', exec (.meteringTick i raw) s = .next t ∧ t.now = max s.now d ∧ (t.lane i).tick = some (d + 250000) ∧
      t.record i = some r' ∧ r'.gross.toNat = r.gross.toNat + dg ∧ r'.std.toNat = r.std.toNat + ds ∧
      (t.lane i).ven = { v with
        grossCarry := x - dg * c.lane.k, stdCarry := y - ds * 1000000, q := hist.sum * 60 / 1000, window := window
        faultRun := run, valid := v.valid || good
        sigma := max (-140737488355328) (min 140737488355327 (v.sigma + (dg : Int) * use)) } ∧
      (t.lane i).hist = hist ∧ (t.lane i).leak = (s.lane i).leak ∧ (t.lane i).leakCarry = (s.lane i).leakCarry ∧
      (t.lane i).piu.snapA = p.cntA ∧ (t.lane i).piu.snapB = p.cntB ∧ (t.lane i).piu.cntA = p.cntA ∧
      (t.lane i).piu.cntB = p.cntB ∧ (t.lane i).piu.mark = false ∧
      (t.lane i).piu.corrected = (if c.lane.level = 0 then p.corrected else min (p.corrected + ((a - b) + (b - a))) 65535) ∧
      r'.corrected = (t.lane i).piu.corrected ∧
      r'.flags = { r.flags with
        tempHeld := r.flags.tempHeld || (!good && v.valid && decide (40 ≤ run))
        tempDefault := r.flags.tempDefault || (!good && !v.valid)
        tempClamped := r.flags.tempClamped || decide (use ≠ temp)
        overspeed := r.flags.overspeed || p.overspeed || decide (c.lane.ceiling < pulses)
        phaseReversed := r.flags.phaseReversed || p.reversed || p.mark } ∧
      (∀ j : LaneNo, j ≠ i → s.stage j ≠ .ended → t.lane j = s.lane j) ∧
      ((s.stage i).flowing = false → c.lane.level < 2 → t.stage i = s.stage i ∧ (t.lane i).noFlow = (s.lane i).noFlow ∧
        (t.lane i).openOut = (s.lane i).openOut ∧ (t.lane i).holdOut = (s.lane i).holdOut ∧ s.TickCheckpoint t i)

/-- R67, R81 to R88: the pulse fault of a compartment tick outside CLOSING at level 2 with an empty fault record: A-MISSING or
B-MISSING for a difference above 2, then PHASE-REVERSED for a marked classification, then DIFFERENCE for a count past the limit.
It is recorded with the gross before the tick, and the lane, flowing or SUSPENDED, closes with PULSE-FAULT, its line ACTIVE. At the
other levels, and with a fault recorded, none is raised.
R72: the tick offers one checkpoint of the line, in CLOSING with PULSE-FAULT (Safety.lean, State.Checkpoints).
The clock that a timed event leaves is the model's choice (log 1). -/
def Obligations.PulseFaultCloses : Prop :=
  ∀ (s : State) (i : LaneNo) (raw : BitVec 12) (d : Nat) (c : VenCfg) (r : CompRecord),
    (s.lane i).tick = some d → s.venCfg i = some c → (s.stage i).compartmentOpen = true → s.stage i ≠ .closing →
    s.record i = some r →
    let a := ((s.lane i).piu.cntA - (s.lane i).piu.snapA).toNat
    let b := ((s.lane i).piu.cntB - (s.lane i).piu.snapB).toNat
    let code : Option PulseCode :=
      if c.lane.level ≠ 2 then none
      else if a + 2 < b then some .aMissing
      else if b + 2 < a then some .bMissing
      else if (s.lane i).piu.mark = true then some .phaseReversed
      else if c.lane.correction < min ((s.lane i).piu.corrected + ((a - b) + (b - a))) 65535 then some .difference
      else none
    ((s.lane i).piu.fault = none →
      ∃ t, exec (.meteringTick i raw) s = .next t ∧
        (t.lane i).piu.fault = code.map (fun x => ⟨x, r.gross.toNat⟩) ∧
        (code.isSome = true → t.stage i = .closing ∧ (t.lane i).closeReason = some .pulseFault ∧
          (t.lane i).grossAtClose = r.gross.toNat ∧ (t.lane i).setpoint = 0 ∧ (t.lane i).wanted = 0 ∧
          (t.lane i).openOut = false ∧ (t.lane i).holdOut = false ∧
          (t.lane i).closing = some (max s.now d + 10000000) ∧ s.Checkpoints t [i] ∧
          ((s.stage i).flowing = false → (t.heldLine i).map (·.status) = some .active))) ∧
    ((s.lane i).piu.fault.isSome = true →
      ∃ t, exec (.meteringTick i raw) s = .next t ∧ (t.lane i).piu.fault = (s.lane i).piu.fault)

/-- R52, R53, R66: a flowing lane's stage after a tick that raises no pulse fault. With the remaining volume at most the learned
overshoot, or none, it closes with PRESET and its gross recorded. Otherwise it passes from LOW-FLOW to FULL-FLOW at the low-flow
volume and to SLOWDOWN within the slowdown volume, and then keeps the no-flow watch: a tick without a corrected pulse whose
steering decision is to open a step adds 1 to the no-flow count, any other sets it to 0, and at 16 the lane closes with NO-FLOW.
The decision is that of the lane's Q and setpoint after the tick; for a lane without additive lines the setpoint is worked out
here too, so that the close itself is fixed.
R72, R189, R190: a tick that changes the stage, or at which the gross passes a whole multiple of 1,000,000 mL, or both, offers one
checkpoint of the line as the tick leaves it, and any other tick none. With a request in flight it takes the place of a checkpoint
of the line that waits in the store write queue, or joins at the tail, or is dropped at a full queue (Safety.lean,
State.TickCheckpoint). That a gross which lands on a multiple has passed it is the model's choice (log 17).
The clock that a timed event leaves is the model's choice (log 1). -/
def Obligations.StageAfterTick : Prop :=
  ∀ (s : State) (i : LaneNo) (raw : BitVec 12) (d k : Nat) (l : OrderLine) (c : VenCfg) (r : CompRecord),
    (s.lane i).tick = some d → s.venCfg i = some c → (s.stage i).flowing = true →
    (s.lane i).line = some k → s.lines[k]? = some l → l.record = some r →
    let a := ((s.lane i).piu.cntA - (s.lane i).piu.snapA).toNat
    let b := ((s.lane i).piu.cntB - (s.lane i).piu.snapB).toNat
    let pulses := if c.lane.level = 0 then a else max a b
    (c.lane.level = 2 → (s.lane i).piu.fault.isSome = true ∨ (a ≤ b + 2 ∧ b ≤ a + 2 ∧ (s.lane i).piu.mark = false ∧
      min ((s.lane i).piu.corrected + ((a - b) + (b - a))) 65535 ≤ c.lane.correction)) →
    ∃ t r', exec (.meteringTick i raw) s = .next t ∧ t.record i = some r' ∧ s.TickCheckpoint t i ∧
      let rem : Int := l.preset * 1000 - r'.gross.toNat
      let closes (reason : EndReason) : Prop :=
        t.stage i = .closing ∧ (t.lane i).closeReason = some reason ∧ (t.lane i).grossAtClose = r'.gross.toNat ∧
        (t.lane i).quiet = 0 ∧ (t.lane i).closing = some (max s.now d + 10000000) ∧ (t.lane i).setpoint = 0 ∧
        (t.lane i).wanted = 0 ∧ (t.lane i).openOut = false ∧ (t.lane i).holdOut = false
      let stage := if s.stage i = .slowdown ∨ rem ≤ (c.lane.slowVolume : Int) * 1000 then Stage.slowdown
        else if s.stage i = .fullFlow ∨ c.lane.lowVolume * 1000 ≤ r'.gross.toNat then Stage.fullFlow
        else Stage.lowFlow
      let limit := match stage with
        | .lowFlow => c.lane.lowRate
        | .fullFlow => c.lane.maxFlow
        | _ => c.lane.slowRate
      let opens (setpoint : Nat) : Prop := pulses = 0 ∧ (t.lane i).ven.q + max 20 (setpoint * 3 / 100) < setpoint
      (rem ≤ (s.lane i).learned * 1000 ∨ rem ≤ 0 → closes .preset) ∧
      (¬(rem ≤ (s.lane i).learned * 1000 ∨ rem ≤ 0) →
        ((t.stage i = stage ∧ (t.lane i).noFlow < 16 ∧
            (t.lane i).noFlow = (if opens (t.lane i).setpoint then (s.lane i).noFlow + 1 else 0)) ∨
          (closes .noFlow ∧ pulses = 0 ∧ 15 ≤ (s.lane i).noFlow)) ∧
        (r.additives = [] → (s.lane i).limit = none →
          (opens (min (min (s.lane i).share (min limit c.lane.maxFlow)) ((s.lane i).setpoint + c.lane.ramp)) ∧
            15 ≤ (s.lane i).noFlow ↔ t.stage i = .closing)))

/-- R54, R55, R57: after a tick a lane still flowing has a setpoint at most its target rate (the smallest of stage limit, lane
maximum, share and additive limit) and at most one ramp step above the one before, and without additives it rises by the ramp
step towards the target; where it may energise its outputs, they follow Q and S with the band of R57.
That the decision cuts a step whose 100 ms still run, or begins it anew, is the model's choice (log 38).
The clock that a timed event leaves is the model's choice (log 1). -/
def Obligations.TickSteers : Prop :=
  ∀ (s : State) (i : LaneNo) (raw : BitVec 12) (d : Nat) (c : VenCfg),
    (s.lane i).tick = some d → s.venCfg i = some c → (s.stage i).flowing = true →
    ∃ t, exec (.meteringTick i raw) s = .next t ∧ ((t.stage i).flowing = true →
      let target := min (t.lane i).share (underLimit (t.lane i).limit (min (stageLimit c.lane (t.stage i)) c.lane.maxFlow))
      let sp := (t.lane i).setpoint
      let band := max 20 (sp * 3 / 100)
      let q := (t.lane i).ven.q
      sp ≤ target ∧ sp ≤ (s.lane i).setpoint + c.lane.ramp ∧
      (s.additives i = [] → (s.lane i).limit = none → (s.lane i).setpoint ≤ target →
        sp = min target ((s.lane i).setpoint + c.lane.ramp)) ∧
      (s.mayEnergise i = true →
        (q + band < sp → (t.lane i).openOut = true ∧ (t.lane i).holdOut = true ∧
          (t.lane i).step = some ⟨true, max s.now d + 100000⟩) ∧
        (sp + band < q → (t.lane i).openOut = false ∧ (t.lane i).holdOut = false ∧
          (t.lane i).step = some ⟨false, max s.now d + 100000⟩) ∧
        (sp ≤ q + band → q ≤ sp + band → (t.lane i).openOut = false ∧ (t.lane i).holdOut = true ∧
          (t.lane i).step = none)) ∧
      (s.mayEnergise i = false → (t.lane i).openOut = false ∧ (t.lane i).holdOut = false))

/-- R73, R74, R92, R95: a metering tick of a lane with no compartment open. The pulses go to the leak volume with the leak carry,
and to the history; the compartment's carries, the sum and the totalizers stay. A leak volume that first exceeds 10,000 mL
sets the leak alarm, and the trip flag LEAK of a trip.
The clock that a timed event leaves is the model's choice (log 1). -/
def Obligations.LeakTick : Prop :=
  ∀ (s : State) (i : LaneNo) (raw : BitVec 12) (d : Nat) (c : VenCfg),
    (s.lane i).tick = some d → s.venCfg i = some c → (s.stage i).compartmentOpen = false →
    let a := ((s.lane i).piu.cntA - (s.lane i).piu.snapA).toNat
    let b := ((s.lane i).piu.cntB - (s.lane i).piu.snapB).toNat
    let x := (if c.lane.level = 0 then a else max a b) * 100 * meterFactor c.curve (s.lane i).ven.q + (s.lane i).leakCarry
    let hist := (s.lane i).hist.drop 1 ++ [x / c.lane.k]
    let leak := min ((s.lane i).leak + x / c.lane.k) 4294967295
    let passed : Bool := decide ((s.lane i).leak ≤ 10000) && decide (10000 < leak)
    Leaves (.meteringTick i raw) s { s with
      now := max s.now d
      lanes := s.lanes.set i { s.lane i with
        tick := some (d + 250000)
        piu := { (s.lane i).piu with snapA := (s.lane i).piu.cntA, snapB := (s.lane i).piu.cntB, mark := false }
        ven := { (s.lane i).ven with
          q := hist.sum * 60 / 1000, window := sampleWindow c.temp raw.toNat (s.lane i).ven.window }
        hist := hist
        leak := leak
        leakCarry := x - x / c.lane.k * c.lane.k }
      ilm := { s.ilm with leakAlarm := s.ilm.leakAlarm || passed }
      pct := { s.pct with trip := s.pct.trip.map fun t => { t with flags := { t.flags with leak := t.flags.leak || passed } } } }

/-- R116, R117, R122 to R124: a metering tick of a compartment in a flowing stage, or SUSPENDED, that closes for no pulse fault
there, and its additive lines. The due and total due of a LIVE line grow by the gross increment × its ratio, with its backlog mark
set at two stroke volumes and cleared below one. In a flowing stage a line that is LIVE and not marked FAULT starts a stroke when
its injector is IDLE and its due is at least a stroke volume: commanded counts it, the due loses it, and the injector drives with
its window open. No other injector changes. The lane's additive limit is the smallest rate × stroke volume div ratio of the lines
so active, nine tenths of it while one has its backlog mark, and none without such a line.
R113, R117, R125: an injector returns to IDLE at its spacing period's end, its window closed. A line of it whose due is at least a
stroke volume starts its next stroke while the lane flows or closes, and one marked for a final stroke starts that in ENDED.
The lines have injectors of their own, each fitted, and are at most three, as R10 to R12 and R115 give.
The clock that a timed event leaves is the model's choice (log 1). -/
def Obligations.TickDoses : Prop :=
  (∀ (s : State) (i : LaneNo) (raw : BitVec 12) (d : Nat) (c : VenCfg) (r : CompRecord),
    (s.lane i).tick = some d → s.venCfg i = some c → (s.stage i).compartmentOpen = true → s.stage i ≠ .closing →
    s.record i = some r → (s.stage i).flowing = true ∨ c.lane.level < 2 →
    r.additives.length ≤ 3 → (r.additives.map (·.injector)).Nodup → (∀ a ∈ r.additives, (s.injCfg a.injector).isSome = true) →
    let ca := ((s.lane i).piu.cntA - (s.lane i).piu.snapA).toNat
    let cb := ((s.lane i).piu.cntB - (s.lane i).piu.snapB).toNat
    let pulses := if c.lane.level = 0 then ca else max ca cb
    let dg := (pulses * 100 * meterFactor c.curve (s.lane i).ven.q + (s.lane i).ven.grossCarry) / c.lane.k
    let mark (old : Bool) (due stroke : Nat) : Bool :=
      if 2 * (stroke * 1000) ≤ due then true else if due < stroke * 1000 then false else old
    let strokes (a : AdditiveLine) (x : InjectorCfg) : Prop := (s.stage i).flowing = true ∧ a.live = true ∧
      a.faultMark = false ∧ (s.inj a.injector).phase = .idle ∧ x.stroke * 1000 ≤ a.due + dg * a.ratio
    ∃ t r', exec (.meteringTick i raw) s = .next t ∧ t.record i = some r' ∧ r'.additives.length = r.additives.length ∧
      (∀ (n : Nat) (a : AdditiveLine) (x : InjectorCfg), r.additives[n]? = some a → s.injCfg a.injector = some x →
        let accrued : AdditiveLine := { a with
          due := a.due + dg * a.ratio, totalDue := a.totalDue + dg * a.ratio
          backlog := mark a.backlog (a.due + dg * a.ratio) x.stroke }
        (a.live = false → r'.additives[n]? = some a) ∧
        (a.live = true → ¬strokes a x → r'.additives[n]? = some accrued) ∧
        (strokes a x →
          r'.additives[n]? = some { accrued with
            due := accrued.due - x.stroke * 1000, commanded := a.commanded + 1
            backlog := mark accrued.backlog (accrued.due - x.stroke * 1000) x.stroke } ∧
          t.inj a.injector = { s.inj a.injector with
            phase := .driving, startTime := max s.now d, window := .opened false, serving := some ⟨i, n⟩
            spacingOver := false, driveDue := some (max s.now d + x.drive * 1000)
            spacingDue := some (max s.now d + 60000 / x.rate * 1000), windowDue := none })) ∧
      (∀ j : InjNo, (∀ a ∈ r.additives, ∀ x, s.injCfg a.injector = some x → strokes a x → a.injector ≠ j) →
        t.inj j = s.inj j) ∧
      (let active := r'.additives.filter fun a => a.live && !a.faultMark
       let limits := active.filterMap fun a => (s.injCfg a.injector).map fun x => x.rate * x.stroke / a.ratio
       (t.lane i).limit = limits.min?.map fun m => if active.any (·.backlog) then m * 9 / 10 else m)) ∧
  (∀ (s : State) (j : InjNo) (i : LaneNo) (d n : Nat) (a : AdditiveLine) (x : InjectorCfg),
    s.Calm → (s.inj j).spacingDue = some d → (s.inj j).window = .closed → (s.inj j).phase = .spacing →
    (s.inj j).faultPending = false → s.injLane j = some i → s.injCfg j = some x →
    s.additive i n = some a → a.injector = j → a.live = true → a.faultMark = false →
    (s.additives i).length ≤ 3 → ((s.additives i).map (·.injector)).Nodup →
    ((s.stage i).flowing = true ∨ s.stage i = .closing) ∧ x.stroke * 1000 ≤ a.due ∨
      s.stage i = .ended ∧ a.finalMark = true ∧ a.finalBegun = false →
    ∃ t a', exec (.spacingPeriodEnd j) s = .next t ∧ t.additive i n = some a' ∧
      a'.commanded = a.commanded + 1 ∧ a'.due = a.due - x.stroke * 1000 ∧ a'.live = true ∧ a'.totalDue = a.totalDue ∧
      a'.confirmed = a.confirmed ∧ (t.inj j).phase = .driving ∧ (t.inj j).window = .opened false ∧
      (t.inj j).serving = some ⟨i, n⟩ ∧ (t.inj j).driveDue = some (max s.now d + x.drive * 1000) ∧
      (t.inj j).spacingDue = some (max s.now d + 60000 / x.rate * 1000) ∧ t.stage i = s.stage i)

/-- R125, R126, R128: the closing timer ends a compartment with additive lines. A LIVE line without FAULT whose due is at least half
a stroke volume is given a final stroke, started at once on an idle injector, and after the one in progress otherwise. A line with
nothing left in progress is closed with its result; one with a stroke to be judged or a final stroke to come stays LIVE, and the
lane waits in ENDED with its line. With no line left LIVE the compartment is handed back in the same event, its line ENDED.
R128: the result of an additive line: target and delivered in µL, and the status by FAULT mark and tolerance. A line with nothing
due and nothing confirmed is OK, and with a tolerance of at most 100 % a line that delivered its target is OK, unless it is
marked FAULT.
That a line whose final stroke has not begun is not closed is the model's reading (log 10).
The clock that a timed event leaves is the model's choice (log 1). -/
def Obligations.DoseLinesClose : Prop :=
  (∀ (s : State) (i : LaneNo) (d k : Nat) (l : OrderLine) (r : CompRecord) (reason : EndReason),
    (s.lane i).closing = some d → s.stage i = .closing → (s.lane i).line = some k → s.lines[k]? = some l →
    l.record = some r → (s.lane i).closeReason = some reason → r.additives.length ≤ 3 →
    (r.additives.map (·.injector)).Nodup →
    (∀ a ∈ r.additives, (s.injCfg a.injector).isSome = true ∧ a.finalBegun = false) →
    (∀ j : LaneNo, j ≠ i → (s.lane j).line ≠ some k) →
    let gives (a : AdditiveLine) : Bool := a.live && !a.faultMark && decide (s.stroke a.injector * 1000 / 2 ≤ a.due)
    let unjudged (n : Nat) (a : AdditiveLine) : Prop :=
      (s.inj a.injector).serving = some ⟨i, n⟩ ∧ (s.inj a.injector).window ≠ .closed
    let closed (a : AdditiveLine) : AdditiveLine := { a with
      finalMark := false, live := false, backlog := false
      result := some (doseResult a.totalDue a.confirmed a.faultMark (s.stroke a.injector) s.tolerance) }
    ∃ t, exec (.closingTimerExpiry i) s = .next t ∧
      ((∃ n a, r.additives[n]? = some a ∧ a.live = true ∧ (gives a = true ∨ unjudged n a)) →
        t.stage i = .ended ∧ (t.lane i).line = some k ∧ (t.heldLine i).map (·.status) = some l.status ∧
        ∀ (n : Nat) (a : AdditiveLine), r.additives[n]? = some a →
          (gives a = true → (s.inj a.injector).phase = .idle → ∃ a' x, t.additive i n = some a' ∧
            s.injCfg a.injector = some x ∧ a'.live = true ∧ a'.finalMark = true ∧ a'.finalBegun = true ∧
            a'.commanded = a.commanded + 1 ∧ a'.due = a.due - s.stroke a.injector * 1000 ∧
            (t.inj a.injector).phase = .driving ∧ (t.inj a.injector).serving = some ⟨i, n⟩ ∧
            (t.inj a.injector).driveDue = some (max s.now d + x.drive * 1000)) ∧
          (gives a = true → (s.inj a.injector).phase ≠ .idle → t.additive i n = some { a with finalMark := true }) ∧
          (gives a = false → a.live = true → unjudged n a → t.additive i n = some { a with finalMark := false }) ∧
          (gives a = false → a.live = true → ¬unjudged n a → t.additive i n = some (closed a))) ∧
      ((∀ n a, r.additives[n]? = some a → a.live = true → gives a = false ∧ ¬unjudged n a) →
        ∃ l' r', t.lines[k]? = some l' ∧ l'.status = .ended reason ∧ l'.record = some r' ∧
          r'.additives = r.additives.map fun a => if a.live then closed a else { a with finalMark := false })) ∧
  (∀ (totalDue confirmed stroke tol : Nat) (fault : Bool), tol ≤ 100 →
     let r := doseResult totalDue confirmed fault stroke tol
     r.target = totalDue / 1000 ∧ r.delivered = confirmed * stroke ∧ (r.status = .fault ↔ fault = true) ∧
     (r.status = .ok ↔ fault = false ∧ r.target * (100 - tol) ≤ r.delivered * 100 ∧
       r.delivered * 100 ≤ r.target * (100 + tol)) ∧
     (r.status = .under ↔ fault = false ∧ r.delivered * 100 < r.target * (100 - tol)) ∧
     (fault = false → r.delivered = r.target → r.status = .ok))

/-- R57: the end of an open or close step: OPEN off, and HOLD on where the lane may energise its outputs.
R113, R114: the drive output turns off into SPACING with the window's 300 ms; at the end of the spacing period an injector
whose window is open stays in SPACING, and one whose window has closed returns to IDLE, or to FAULTED with its fault-pending
mark, when no stroke is due: the lane neither flows nor closes, or the injector faults, or no LIVE line of it without FAULT has
a due of a stroke volume (R117). (The injector's lane does not wait in ENDED.)
The clock that a timed event leaves is the model's choice (log 1). -/
def Obligations.StepAndStrokeTimers : Prop :=
  (∀ (s : State) (i : LaneNo) (x : ValveStep), s.Calm → (s.lane i).step = some x →
     Yields (.valveStepEnd i) s { s with
       now := max s.now x.due
       lanes := s.lanes.set i { s.lane i with step := none, openOut := false, holdOut := s.mayEnergise i } }) ∧
  (∀ (s : State) (j : InjNo), s.Calm →
     (∀ d : Nat, (s.inj j).driveDue = some d →
       Yields (.driveTimeEnd j) s { s with
         now := max s.now d
         injs := s.injs.set j { s.inj j with phase := .spacing, driveDue := none, windowDue := some (d + 300000) } }) ∧
     (∀ (d : Nat) (i : LaneNo), (s.inj j).spacingDue = some d → s.injLane j = some i → s.stage i ≠ .ended →
       ((s.inj j).window ≠ .closed →
         Yields (.spacingPeriodEnd j) s { s with
           now := max s.now d
           injs := s.injs.set j { s.inj j with spacingDue := none, spacingOver := true } }) ∧
       ((s.inj j).window = .closed → (s.inj j).phase = .spacing →
         ((s.stage i).flowing = true ∨ s.stage i = .closing → (s.inj j).faultPending = true ∨
           ∀ a ∈ s.additives i, a.injector = j → a.live = true → a.faultMark = false → a.due < s.stroke j * 1000) →
         Yields (.spacingPeriodEnd j) s { s with
           now := max s.now d
           injs := s.injs.set j { s.inj j with
             spacingDue := none, spacingOver := true, faultPending := false
             phase := if (s.inj j).faultPending then .faulted else .idle } })))

/-- R60, R62, R69, R70, R105, R109: the closing timer expires in CLOSING, on a compartment without additive lines. The record is
marked VALVE-LEAK and handed back in the same event: the line is ENDED with the reason of the close decision, the weighted
temperature is final, OVERRUN is marked past the limit, the totalizers advance by the record's volumes, and the learned overshoot
changes for PRESET only. With a WAITING line left in the trip and room in the store queue, the ENDED checkpoint and then the TOTAL
join it, and the lane leaves ENDED.
R23, R69, R174: in RELEASED, the hand-back of the last line that is not ENDED or REFUSED takes the trip to CLOSING with its end time,
and its note is begun; with another line left the slot stays and no note is begun. In CLOSING the last hand-back begins the note.
(For the note: no report is due, and none is being built.)
R59: ticks in CLOSING, without additive lines. A tick with a corrected pulse sets the quiet count to 0 and one without adds 1; the
lane stays in CLOSING with its reason and its timer. At the fourth without one in a row the lane ends without VALVE-LEAK, with
its timer stopped. The pulses are metered in full.
R72: a tick after which the lane stays in CLOSING offers one checkpoint of the line when its gross passes a whole multiple of
1,000,000 mL, and none otherwise. That a gross which lands on a multiple has passed it is the model's choice (log 17).
The clock that a timed event leaves is the model's choice (log 1). -/
def Obligations.CompartmentEnds : Prop :=
  (∀ (s : State) (i : LaneNo) (d k : Nat) (l : OrderLine) (r : CompRecord) (c : LaneCfg) (reason : EndReason),
    (s.lane i).closing = some d → s.stage i = .closing → (s.lane i).line = some k → s.lines[k]? = some l →
    l.record = some r → r.additives = [] → s.laneCfg i = some c → (s.lane i).closeReason = some reason →
    (∀ j : LaneNo, j ≠ i → (s.lane j).line ≠ some k) →
    let v := (s.lane i).ven
    let weighted : Int := if r.gross = 0 then
        (if v.window = [] then 1500 else max (-4000) (min 7000 (v.window.sum.tdiv v.window.length)))
      else v.sigma.tdiv r.gross.toNat
    ∃ t l' r', exec (.closingTimerExpiry i) s = .next t ∧ t.now = max s.now d ∧
      t.lines[k]? = some l' ∧ l'.status = .ended reason ∧ l'.record = some r' ∧
      r' = { r with
        endReason := some reason, pulseFault := (s.lane i).piu.fault, weighted := some weighted
        flags := { r.flags with
          valveLeak := true
          overrun := r.flags.overrun || decide (l.preset * 1000 + c.overrun * 1000 < r.gross.toNat) } } ∧
      (t.lane i).ven.totGross = v.totGross + r.gross ∧ (t.lane i).ven.totStd = v.totStd + r.std ∧
      (t.lane i).learned = (if reason = .preset
        then min (((s.lane i).learned + (r.gross.toNat - (s.lane i).grossAtClose) / 1000) / 2) 20
        else (s.lane i).learned) ∧
      t.ilm.faultMark = (if reason = .noFlow ∨ reason = .pulseFault ∨ reason = .additiveFault
        then s.ilm.faultMark.set i true else s.ilm.faultMark) ∧
      (∀ tr : Trip, s.pct.trip = some tr →
        let last : Prop := ∀ (m : Nat) (x : OrderLine), m ≠ k → tr.lines[m]? = some x →
          (∃ e, x.status = .ended e) ∨ ∃ e, x.status = .refused e
        (last → s.pct.slot = .released → t.pct.slot = .closing ∧ ∃ tr', t.pct.trip = some tr' ∧
          tr'.endTime = (if s.lif.timeSet then s.lif.time else 0) ∧
          tr'.flags.timeUnset = (tr.flags.timeUnset || !s.lif.timeSet)) ∧
        (last → s.pct.slot = .released ∨ s.pct.slot = .closing → s.Calm → s.ntb.build = none →
          ∃ b, t.ntb.build = some b ∧ b.number = s.ntb.next ∧ b.permit = tr.permit ∧ b.recovered = false) ∧
        (¬last → t.pct.slot = s.pct.slot ∧ (s.Calm → s.ntb.build = none → t.ntb.build = none))) ∧
      (∀ tr : Trip, s.Calm → s.pct.trip = some tr → (∃ m x, m ≠ k ∧ tr.lines[m]? = some x ∧ x.status = .waiting) →
        s.stp.flight.isSome = true → s.stp.queue.length < 11 →
        (∀ q ∈ s.stp.queue, ∀ bytes, q.req ≠ .checkpoint (k + 1) bytes) →
        (t.stage i = .idle ∨ t.stage i = .primed) ∧
        t.stp.queue = s.stp.queue ++
          [⟨.checkpoint (k + 1) (checkpointBytes tr.number (k + 1) 7 0 (endReasonCode reason) l.clamped r' weighted
              (v.totGross + r.gross) (v.totStd + r.std)), false⟩,
            ⟨.total i (v.totGross + r.gross) (v.totStd + r.std), false⟩])) ∧
  (∀ (s : State) (i : LaneNo) (raw : BitVec 12) (d k : Nat) (l : OrderLine) (r : CompRecord) (c : VenCfg) (reason : EndReason),
    (s.lane i).tick = some d → s.stage i = .closing → (s.lane i).line = some k → s.lines[k]? = some l →
    l.record = some r → r.additives = [] → s.venCfg i = some c → (s.lane i).closeReason = some reason →
    (∀ j : LaneNo, j ≠ i → (s.lane j).line ≠ some k) →
    let a := ((s.lane i).piu.cntA - (s.lane i).piu.snapA).toNat
    let b := ((s.lane i).piu.cntB - (s.lane i).piu.snapB).toNat
    let pulses := if c.lane.level = 0 then a else max a b
    let dg := (pulses * 100 * meterFactor c.curve (s.lane i).ven.q + (s.lane i).ven.grossCarry) / c.lane.k
    let quiet := if pulses = 0 then (s.lane i).quiet + 1 else 0
    ∃ t l' r', exec (.meteringTick i raw) s = .next t ∧ t.lines[k]? = some l' ∧ l'.record = some r' ∧
      r'.flags.valveLeak = r.flags.valveLeak ∧
      (r.gross.toNat + dg < 281474976710656 → r'.gross.toNat = r.gross.toNat + dg) ∧
      (quiet < 4 → t.stage i = .closing ∧ (t.lane i).quiet = quiet ∧ (t.lane i).closing = (s.lane i).closing ∧
        (t.lane i).closeReason = some reason ∧ (t.lane i).line = some k ∧ l'.status = l.status ∧
        (t.lane i).openOut = (s.lane i).openOut ∧ (t.lane i).holdOut = (s.lane i).holdOut ∧ s.TickCheckpoint t i) ∧
      (4 ≤ quiet → t.stage i ≠ .closing ∧ (t.lane i).closing = none ∧ l'.status = .ended reason ∧
        r'.endReason = some reason))

/-- R75 to R77, R83, R84: a rising edge is counted and captured whatever the lane's stage. Where the phase watcher runs, an A edge
becomes the pending one; the one before it, within its limit, is judged followed when its first B edge came before half the
period, and then the run count is 0; the third in a row judged not followed sets the mark and returns the count to 0; past its
limit it is dropped unjudged. Of two edges of one lane at the same timer value A comes first, whichever command came first: the B
edge follows the arriving A edge and not the one before.
R83: a pending A edge older than its limit is dropped unjudged, and the run count returns to 0.
R75: an edge command of a lane that does not count has no effect.
That the clock follows the capture value, that a dropped edge returns the run count at the drop, that every lane counts until the
image has been loaded, that a command of a lane that does not count has no effect, and that an edge command counts whatever level
the model holds for the channel, none taken yet or high still, is the model's choice (log 24, log 35, log 34, log 26, log 12).
The clock that a timed event leaves is the model's choice (log 1). -/
def Obligations.MeterEdges : Prop :=
  (∀ (s : State) (i : LaneNo) (cap : Word32), s.fitted i = true ∨ s.sul.phase.beforeTables = true →
     let u : State := { s with now := s.now + (cap - BitVec.ofNat 32 s.now).toNat }
     let p := (s.lane i).piu
     let tied : Option Word32 := if p.lastB = some u.now then some cap else none
     let counted : Piu := { p with cntA := p.cntA + 1, capA := cap, levelA := some true }
     let pended : Piu := { counted with pendingA := some ⟨cap, tied, u.now + 1000000⟩ }
     (watches s i = false →
       Leaves (.risingEdge i .a cap) s { u with lanes := s.lanes.set i { s.lane i with piu := counted } }) ∧
     (watches s i = true → p.pendingA = none →
       Leaves (.risingEdge i .a cap) s { u with lanes := s.lanes.set i { s.lane i with piu := pended } }) ∧
     (∀ e : PendingEdge, watches s i = true → p.pendingA = some e →
       let first := if e.firstB = tied then none else e.firstB
       let followed : Prop := ∃ b, first = some b ∧ 2 * (b - e.capture).toNat < (cap - e.capture).toNat
       (e.due < u.now ∨ followed → Leaves (.risingEdge i .a cap) s { u with lanes := s.lanes.set i { s.lane i with
         piu := { pended with run := 0 } } }) ∧
       (u.now ≤ e.due → ¬followed → Leaves (.risingEdge i .a cap) s { u with lanes := s.lanes.set i { s.lane i with
         piu := { pended with
           run := if p.run + 1 = 3 then 0 else p.run + 1
           mark := p.mark || decide (p.run + 1 = 3) } } })) ∧
     Leaves (.risingEdge i .b cap) s { u with lanes := s.lanes.set i { s.lane i with
       piu := { p with
         cntB := p.cntB + 1, capB := cap, levelB := some true
         lastB := if watches s i = true then some u.now else p.lastB
         pendingA := if watches s i = true
           then p.pendingA.map fun e => { e with firstB := some (e.firstB.getD cap) } else p.pendingA } } }) ∧
  (∀ (s : State) (i : LaneNo) (cap : Word32),
     s.fitted i = false → s.sul.phase.beforeTables = false →
       exec (.risingEdge i .a cap) s = .next s ∧ exec (.risingEdge i .b cap) s = .next s) ∧
  (∀ (s : State) (i : LaneNo) (e : PendingEdge), (s.lane i).piu.pendingA = some e →
     Leaves (.pendingAEdgeTimeout i) s { s with
       now := max s.now e.due
       lanes := s.lanes.set i { s.lane i with piu := { (s.lane i).piu with pendingA := none, run := 0 } } })

/-- R114, R121: a feedback pulse of a fitted injector after start-up is taken in an open window. With the window closed it is
unexpected: it marks the record of the injector's lane INJECTOR-LEAK while a compartment is open, and in ENDED while an additive
line of the injector is LIVE, and is not recorded otherwise. No count, due or injector state changes. The input of an unfitted
injector is not read.
The mark in ENDED is that of Table 6-2 (section 6.9), taken against R121's sentence that with no compartment open the pulse is not
recorded: the model's choice (log 40). So is that a pulse at a level that is active already has no effect (log 26). -/
def Obligations.FeedbackPulse : Prop :=
  (∀ (s : State) (j : InjNo), s.sul.done = true → (s.injCfg j).isSome = true → (s.inj j).level = false →
    (∀ taken : Bool, (s.inj j).window = .opened taken →
      Leaves (.feedbackPulse j) s { s with injs := s.injs.set j { s.inj j with level := true, window := .opened true } }) ∧
    (∀ i : LaneNo, (s.inj j).window = .closed → s.injLane j = some i →
      let u : State := { s with injs := s.injs.set j { s.inj j with level := true } }
      let marks : Prop := (s.stage i).compartmentOpen = true ∨
        (s.stage i = .ended ∧ ∃ a ∈ s.additives i, a.live = true ∧ a.injector = j)
      (marks → Leaves (.feedbackPulse j) s (u.modFlags i fun f => { f with injectorLeak := true })) ∧
      (¬marks → Leaves (.feedbackPulse j) s u))) ∧
  (∀ (s : State) (j : InjNo), (s.inj j).level = true ∨ (s.sul.done = true ∧ s.injCfg j = none) →
    exec (.feedbackPulse j) s = .next s)

/-- R114, R119, R120: the window closes and the stroke is judged for the LIVE line it serves. A pulse confirms it and clears the
misses; none adds a miss. The third miss in a row sets the FAULT mark and the injector faults when its cycle ends; on a
mandatory line a flowing lane closes with ADDITIVE-FAULT, and offers a checkpoint of its line (R72; Safety.lean, State.Checkpoints);
on an optional one no lane changes its stage. (The injector's lane does not wait in ENDED.)
R113, R117, R120: with the spacing period not ended the injector stays in SPACING. With it ended the judgement ends the cycle: the
injector is FAULTED with its fault-pending mark cleared; or the line's next stroke starts, when its lane flows or closes, it is not
marked FAULT and its due is at least a stroke volume; or the injector is IDLE. (The lane's lines have injectors of their own.)
A pending final stroke is not part of this statement (log 10).
The clock that a timed event leaves is the model's choice (log 1). -/
def Obligations.StrokeJudged : Prop :=
  (∀ (s : State) (j : InjNo) (d k : Nat) (i : LaneNo) (a : AdditiveLine),
    (s.inj j).windowDue = some d → (s.inj j).serving = some ⟨i, k⟩ → s.additive i k = some a → a.live = true →
    (s.inj j).spacingOver = false → s.injLane j = some i → s.stage i ≠ .ended →
    ∃ t a', exec (.feedbackWindowClose j) s = .next t ∧ t.now = max s.now d ∧ t.additive i k = some a' ∧
      (t.inj j).window = .closed ∧ (t.inj j).windowDue = none ∧ (t.inj j).phase = (s.inj j).phase ∧
      a'.commanded = a.commanded ∧ a'.due = a.due ∧ a'.totalDue = a.totalDue ∧ a'.live = true ∧
      ((s.inj j).window = .opened true → a'.confirmed = a.confirmed + 1 ∧ a'.misses = 0 ∧
        a'.faultMark = a.faultMark ∧ t.stage i = s.stage i) ∧
      ((s.inj j).window ≠ .opened true → a'.confirmed = a.confirmed ∧ a'.misses = a.misses + 1 ∧
        (a.misses ≠ 2 → a'.faultMark = a.faultMark ∧ (t.inj j).faultPending = (s.inj j).faultPending ∧
          t.stage i = s.stage i) ∧
        (a.misses = 2 → a'.faultMark = true ∧ a'.backlog = false ∧ (t.inj j).faultPending = true ∧
          (a.mandatory = false → t.stage i = s.stage i) ∧
          (a.mandatory = true → (s.stage i).flowing = true → t.stage i = .closing ∧
            (t.lane i).closeReason = some .additiveFault ∧ (t.lane i).openOut = false ∧ (t.lane i).holdOut = false ∧
            s.Checkpoints t [i])))) ∧
  (∀ (s : State) (j : InjNo) (d k : Nat) (i : LaneNo) (a : AdditiveLine) (x : InjectorCfg),
    (s.inj j).windowDue = some d → (s.inj j).serving = some ⟨i, k⟩ → s.additive i k = some a → a.live = true →
    (s.inj j).spacingOver = true → (s.inj j).phase = .spacing → s.injLane j = some i → s.stage i ≠ .ended →
    s.injCfg j = some x → a.injector = j → (s.additives i).length ≤ 3 → ((s.additives i).map (·.injector)).Nodup →
    let pulse : Prop := (s.inj j).window = .opened true
    let faults : Prop := (s.inj j).faultPending = true ∨ (¬pulse ∧ a.misses = 2)
    let next : Prop := a.faultMark = false ∧ ((s.stage i).flowing = true ∨ s.stage i = .closing) ∧ x.stroke * 1000 ≤ a.due
    ∃ t a', exec (.feedbackWindowClose j) s = .next t ∧ t.now = max s.now d ∧ t.additive i k = some a' ∧ a'.live = true ∧
      a'.confirmed = (if pulse then a.confirmed + 1 else a.confirmed) ∧ a'.misses = (if pulse then 0 else a.misses + 1) ∧
      a'.faultMark = (a.faultMark || decide (¬pulse ∧ a.misses = 2)) ∧ (t.inj j).faultPending = false ∧
      (faults → (t.inj j).phase = .faulted) ∧ (¬faults → ¬next → (t.inj j).phase = .idle) ∧
      (faults ∨ ¬next → (t.inj j).window = .closed ∧ (t.inj j).windowDue = none ∧ a'.commanded = a.commanded ∧
        a'.due = a.due) ∧
      (¬faults → next → a'.commanded = a.commanded + 1 ∧ a'.due = a.due - x.stroke * 1000 ∧
        t.inj j = { s.inj j with
          phase := .driving, startTime := max s.now d, window := .opened false, spacingOver := false
          driveDue := some (max s.now d + x.drive * 1000)
          spacingDue := some (max s.now d + 60000 / x.rate * 1000), windowDue := none }))

/-! ### Header sharing -/

/-- R131, R132, R135, R137 to R140: a share tick. On each header used own demand is the sum of the wanted rates of its lanes; the
allotment is the fair grant in RUN, the smaller of demand and capacity in ALONE, and the isolation share in the other link
states; each lane on it gets its fair share of the allotment, its setpoint falls to it at once, and the entry is in the
STATUS slot (Safety.lean, State.Allots). The tick restarts.
R141, R153: where on some header used the own demand just formed differs from the one that the last own STATUS carried by more than
a tenth of that, or just one of the two is 0, a STATUS is asked for: in RUN and ALONE it is due at once when 100 ms have passed since
the last own STATUS or none has been sent, and at the end of those 100 ms otherwise. One that is due or current already meets the
request. With no such difference, and in the other link states, no request is made (Safety.lean, State.Announces).
R136: the max-min fair division used in both places: no claimant gets more than it asks, together they get no more than the
capacity, and when they ask for no more than the capacity each gets what it asks. When they ask for more there is one level that
cuts the demands: every claimant gets the smaller of its demand and the level, and what is left of the capacity is less than 1 for
each claimant cut. A larger demand gets no smaller grant.
The clock that a timed event leaves is the model's choice (log 1). -/
def Obligations.SharesAreFair : Prop :=
  (∀ (s : State) (d : Nat), s.hsu.tick = some d →
    ∃ t, exec .shareTick s = .next t ∧ t.now = max s.now d ∧ t.hsu.tick = some (d + 500000) ∧
      t.lif.link = s.lif.link ∧ t.lif.peers = s.lif.peers ∧ s.Allots t ∧ s.Announces t) ∧
  (∀ (capacity : Nat) (demands : List Nat),
    ((demands.map (fairGrant capacity demands)).sum ≤ capacity) ∧
    (∀ d ∈ demands, fairGrant capacity demands d ≤ d) ∧
    (demands.sum ≤ capacity → ∀ d ∈ demands, fairGrant capacity demands d = d) ∧
    (capacity < demands.sum → ∃ level, (∀ d ∈ demands, fairGrant capacity demands d = min d level) ∧
      capacity < (demands.map (fairGrant capacity demands)).sum + (demands.filter (level < ·)).length) ∧
    (∀ d ∈ demands, ∀ e ∈ demands, d ≤ e → fairGrant capacity demands d ≤ fairGrant capacity demands e))

/-! ### The rack line and the printer -/

/-- R146: the line's receiver. From a quiet line, the levels of a frame's bytes back to back, 8 µs to the bit and then recessive for
long enough, give those bytes as one frame without a framing error, and the line is quiet. A frame under way when sampling begins
gives none, and a quiet line follows. A dominant level at the middle of a stop bit marks a framing error, and the mark stays
with the frame.
R146 to R149, R160: a microsecond with no command waiting and no event due. While the line is sampled the receiver and the counts
of recessive, dominant and driven time follow its level, and outside that nothing of the Line Interface changes. The end of a
frame is FRAME_DROPPED when the frame fails the test of R147, own echo while an own attempt is on the line, CONFLICT for own
number, and otherwise the frame's command, and no such command joins otherwise. A bit of an own attempt that reads otherwise at the
middle of its time is a COLLISION. An ACCESS_ATTEMPT with the quiet so far joins while no attempt is on the line and a frame waits
whose gap is complete: 10 bit times for an urgent STATUS in RUN or ALONE, otherwise 10 + 2 × station, 64 more after an own
frame (R148, R150). 5 ms dominant is a held line, and 20 ms recessive its end.
One sample in a microsecond, the order of these events and the lengthened gap's end are the model's choice (log 1, 30, 18). -/
def Obligations.LineReceiver : Prop :=
  (∀ (bytes : List Byte) (n q : Nat) (r : Receiver), bytes ≠ [] → r.phase = .quiet → 72 ≤ n →
    ∃ q', receiverRun (bitLevels (frameLevels bytes) ++ List.replicate n false) q r =
      ({ phase := .quiet }, q', [(false, bytes)])) ∧
  (∀ (bytes : List Byte) (k n : Nat) (r : Receiver), r.phase = .ignoring → 80 ≤ n →
    ∃ q', receiverRun ((bitLevels (frameLevels bytes)).drop k ++ List.replicate n false) 0 r =
      ({ phase := .quiet }, q', [])) ∧
  (∀ (dominant : Bool) (q : Nat) (r : Receiver),
    (r.phase = .inByte 76 → (receive dominant r).framing = (r.framing || dominant)) ∧
    (r.framing = true → r.phase = .between ∨ (∃ pos, r.phase = .inByte pos) →
      (∀ f, (receiverTick dominant q r).2 = some f → f.1 = true) ∧
      ((receiverTick dominant q r).2 = none → (receiverTick dominant q r).1.framing = true ∧
        ((receiverTick dominant q r).1.phase = .between ∨ ∃ pos, (receiverTick dominant q r).1.phase = .inByte pos)))) ∧
  (∀ s : State, s.pending = [] → dueEvents s = [] → ∃ t, step s = .next t ∧
    let recessive := if s.pins.line then 0 else s.lif.recessive + 1
    let dominant := if s.pins.line then s.lif.dominant + 1 else 0
    let rx := receiverTick s.pins.line recessive s.lif.rx
    let heard (c : Instr) : Prop := s.samples = true ∧ ∃ framing raw, rx.2 = some (framing, raw) ∧
      match acceptFrame framing raw with
      | none => c = .frameDropped framing raw
      | some (sender, p) =>
        if s.lif.onLine.isSome = true then c = .ownEcho
        else if sender = s.lif.station then c = .conflict else c = frameCommand sender p
    (s.samples = true → t.lif = { s.lif with
      sent := if s.lif.onLine.isSome then s.lif.sent + 1 else 0
      recessive := recessive, dominant := dominant, rx := rx.1 }) ∧
    (s.samples = false → t.lif = s.lif) ∧
    (∀ c : Instr, heard c → c ∈ t.pending) ∧
    (∀ c ∈ t.pending, ((∃ sender p, c = frameCommand sender p) ∨ (∃ framing raw, c = .frameDropped framing raw) ∨
      c = .ownEcho ∨ c = .conflict) → heard c) ∧
    (.collision ∈ t.pending ↔ s.samples = true ∧ ∃ p b, s.lif.onLine = some p ∧
      (frameLevels (frameBytes s.lif.station p))[s.lif.sent / 8]? = some b ∧ s.lif.sent % 8 = 4 ∧ b ≠ s.pins.line) ∧
    (.heldLineDetected ∈ t.pending ↔ s.samples = true ∧ 5000 ≤ dominant ∧
      (s.lif.link = .listen ∨ s.lif.link = .join ∨ s.lif.link = .run ∨ s.lif.link = .alone)) ∧
    (.heldLineEnd ∈ t.pending ↔ s.samples = true ∧ 20000 ≤ recessive ∧ s.lif.link = .heldLine) ∧
    (let gap := 10 + 2 * s.lif.station + (if s.lif.ownLast then 64 else 0)
     let urgent : Prop := s.lif.due = .urgent ∨ s.lif.current.any (·.urgent) = true
     let waits (bits : Nat) : Prop :=
       (s.lif.link = .join ∧ s.lif.current ≠ none ∧ gap ≤ bits) ∨
       ((s.lif.link = .run ∨ s.lif.link = .alone) ∧
         ((urgent ∧ 10 ≤ bits) ∨
           ((s.lif.current ≠ none ∨ s.lif.due = .normal ∨ s.lif.fifo ≠ []) ∧ ¬urgent ∧ gap ≤ bits)))
     ∀ quiet : Nat, .accessAttempt quiet ∈ t.pending ↔
       s.samples = true ∧ s.lif.onLine = none ∧ quiet = recessive / 8 ∧ waits quiet))

/-- R147, R212, Table 12-4: the bytes of an acceptable frame pass acceptance, and read back as the same sender and payload.
R1, R212, Table 12-14: the reader port's messages. The port takes just the bytes of a CARD of at most 255 bytes, a WRITE-DONE or a
WRITE-FAIL: the kind, the contents length, the contents and their check. Messages that follow each other at an empty port, each as
long as its contents length says, taken or not, give the event of each in order and leave the port empty (log 47). A WRITE is kind 4 with the 13 bytes of a stamp, and a
REFUSED kind 5 with the reason's code, each with its check. -/
def Obligations.FramesReadBack : Prop :=
  (∀ (sender : Nat) (p : Payload), frameOk sender p = true → acceptFrame false (frameBytes sender p) = some (sender, p)) ∧
  (∀ raw : List Byte, readerMessageOk raw = true ↔ ∃ (kind : Byte) (contents : List Byte),
    contents.length ≤ 255 ∧ (kind = 1 ∨ ((kind = 2 ∨ kind = 3) ∧ contents = [])) ∧
    raw = withCrc (kind :: BitVec.ofNat 8 contents.length :: contents)) ∧
  (∀ (now : Nat) (raws : List (List Byte)), (∀ raw ∈ raws, 2 ≤ raw.length ∧ raw.length = fieldNat raw 1 1 + 4) →
    portRun now raws.flatten {} = ({}, raws.map messageEvent)) ∧
  (∀ stamp : List Byte, stamp.length = 13 →
    let b := writeMessage stamp
    b.length = 17 ∧ fieldNat b 0 1 = 4 ∧ fieldNat b 1 1 = 13 ∧ field b 2 13 = stamp ∧ fieldNat b 15 2 = crc16 (b.take 15)) ∧
  (∀ r : CardRefusal,
    let b := refusedMessage r
    b.length = 5 ∧ fieldNat b 0 1 = 5 ∧ fieldNat b 1 1 = 1 ∧ fieldNat b 3 2 = crc16 (b.take 3) ∧
    fieldNat b 2 1 = match r with
      | .length => 1 | .format => 2 | .check => 3 | .bayFault => 4 | .leakAlarm => 5 | .expired => 6 | .notYetValid => 7
      | .noLines => 8 | .inUse => 9 | .lineBusy => 10)

/-- R154, R159, R162: an acceptable peer frame of a kind other than STATUS makes its station's entry FRESH with age 0 and its flag
and demands unchanged, creates no entry, adopts no time, and restarts the ALONE timer in RUN; in ALONE it returns the link to
RUN. In DOWN and HELD-LINE it is not taken.
R154: RELEASE, NOTE-READY and NOTE-PART of a peer are delivered to no block. In the link states that stay (LISTEN, JOIN, RUN,
MUTE) nothing changes but the sender's entry, the lengthened gap of an own last frame, and in RUN the ALONE timer.
The lengthened gap ends with a peer frame: the model's choice (log 18). -/
def Obligations.PeerFramesRefresh : Prop :=
  (∀ (c : Instr) (sender : Nat) (s : State), c.wf = true → s.sul.done = true → sender ≠ s.lif.station →
     ((∃ permit, c = .claim sender permit) ∨ (∃ permit claimant, c = .held sender permit claimant) ∨
       (∃ permit, c = .release sender permit) ∨ (∃ note permit, c = .noteReady sender note permit) ∨
       (∃ target note, c = .noteAsk sender target note) ∨
       (∃ requester note index count isPresent bytes, c = .notePart sender requester note index count isPresent bytes)) →
     (s.lif.link ≠ .down → s.lif.link ≠ .heldLine →
       ∃ t, exec c s = .next t ∧
         t.lif.peers = s.lif.peers.map (fun e =>
           if e.station = sender then { e with age := .fresh, heardAt := s.now } else e) ∧
         t.lif.time = s.lif.time ∧ t.lif.timeSet = s.lif.timeSet ∧ t.now = s.now ∧ t.injs = s.injs ∧
         (s.lif.link = .run ∨ s.lif.link = .alone → t.lif.link = .run ∧ t.lif.alone = some (s.now + 3000000)) ∧
         (s.lif.link ≠ .run → s.lif.link ≠ .alone → t.lif.link = s.lif.link ∧ t.lif.alone = s.lif.alone)) ∧
     (s.lif.link = .down ∨ s.lif.link = .heldLine → Leaves c s s)) ∧
  (∀ (c : Instr) (sender : Nat) (s : State), c.wf = true → s.sul.done = true → sender ≠ s.lif.station → s.Calm →
     ((∃ permit, c = .release sender permit) ∨ (∃ note permit, c = .noteReady sender note permit) ∨
       (∃ requester note index count isPresent bytes, c = .notePart sender requester note index count isPresent bytes)) →
     s.lif.link = .listen ∨ s.lif.link = .join ∨ s.lif.link = .run ∨ s.lif.link = .mute →
     Yields c s { s with lif := { s.lif with
       ownLast := false
       peers := s.lif.peers.map fun e => if e.station = sender then { e with age := .fresh, heardAt := s.now } else e
       alone := if s.lif.link = .run then some (s.now + 3000000) else s.lif.alone } })

/-- R35, R140, R159, R162, R166: an acceptable peer STATUS. The station's entry is FRESH with the frame's halt flag and the header and
demand of its entries, and every other station's entry stays. The ALONE timer restarts in RUN, and in ALONE the link is RUN again.
In DOWN and HELD-LINE the frame is not taken. Rack time is adopted when the time-set flag is set and own time is unset, or the frame's
time lies 2 to 86,400 s ahead; the second timer then restarts; otherwise it stays. A halt that this starts suspends every
flowing lane, and each of them offers a checkpoint of its line (R72; Safety.lean, State.Checkpoints). -/
def Obligations.StatusHeard : Prop :=
  ∀ (s : State) (sender : Nat) (link flags : Byte) (time : Word32) (entries : List HeaderEntry),
    Instr.wf (.status sender link flags time entries) = true → s.sul.done = true → sender ≠ s.lif.station →
    (s.lif.link = .down ∨ s.lif.link = .heldLine → Leaves (.status sender link flags time entries) s s) ∧
    (s.lif.link ≠ .down → s.lif.link ≠ .heldLine →
    let adopt : Prop := hasBit flags.toNat 1 = true ∧ (s.lif.timeSet = false ∨
      (s.lif.time.toNat + 2 ≤ time.toNat ∧ time.toNat ≤ s.lif.time.toNat + 86400))
    ∃ t, exec (.status sender link flags time entries) s = .next t ∧
      t.peer sender = some ⟨sender, .fresh, s.now, hasBit flags.toNat 0, entries.map fun e => ⟨e.header, e.demand⟩⟩ ∧
      (∀ station : Nat, station ≠ sender → t.peer station = s.peer station) ∧
      (adopt → t.lif.time = time ∧ t.lif.timeSet = true ∧ t.lif.second = some (s.now + 1000000)) ∧
      (¬adopt → t.lif.time = s.lif.time ∧ t.lif.timeSet = s.lif.timeSet ∧ t.lif.second = s.lif.second) ∧
      t.pct.slot = s.pct.slot ∧
      (s.lif.link = .run ∨ s.lif.link = .alone → t.lif.link = .run ∧ t.lif.alone = some (s.now + 3000000)) ∧
      (s.lif.link ≠ .run → s.lif.link ≠ .alone → t.lif.link = s.lif.link ∧ t.lif.alone = s.lif.alone) ∧
      s.Checkpoints t (if hasBit flags.toNat 0 = true ∧ s.halted = false then s.flowingLanes else []) ∧
      (hasBit flags.toNat 0 = true → s.halted = false → ∀ (i : LaneNo) (left : LeftStage),
        (s.stage i).flowing = true → leftOf (s.stage i) = some left →
        t.stage i = .suspended .halt left ∧ (t.lane i).setpoint = 0 ∧ (t.lane i).openOut = false ∧
          (t.lane i).holdOut = false))

/-- R15, R17, R20: a CLAIM or a HELD of another station. While CLAIMING with own CLAIM not heard back, a CLAIM for the trip's permit
refuses the trip with IN-USE; while CLAIMING a HELD for it does, heard back or not and whatever station it names. A station
that holds the permit answers a CLAIM with HELD(permit, that station). A HELD outside CLAIMING on its permit, and a CLAIM with the
slot EMPTY or CHECKING or for another permit, is not taken by Permit Control: the slot, the trip, the reader port and the FIFO
stay.
R14, R15, R17, R151: a trip so refused whose own CLAIM has not been heard back has it withdrawn, wherever it waits. It leaves Permit
Control's kept frames. Set aside, or current with no attempt on the line, it is discarded; an attempt of it that has begun runs to
its end, and the frame is marked withdrawn. It leaves the transmit FIFO, and the room that this makes is taken by the kept frames in
their order. Every other frame waits as it did. A HELD that refuses the trip after the CLAIM has been heard back withdraws nothing. -/
def Obligations.ClaimsHeard : Prop :=
  (∀ (s : State) (sender : Nat) (permit : Word32) (claimant : Nat) (tr : Trip),
    Instr.wf (.held sender permit claimant) = true → s.sul.done = true → sender ≠ s.lif.station →
    s.lif.link ≠ .down → s.lif.link ≠ .heldLine → s.pct.trip = some tr →
    let claim : TxFrame := .claim permit
    let waits (before after : Option Current) (begun : Prop) : Prop :=
      (∀ c : Current, before = some c → c.frame = claim →
        (begun → after = some { c with withdrawn := true }) ∧ (¬begun → after = none)) ∧
      ((∀ c : Current, before = some c → c.frame ≠ claim) → after = before)
    let withdraws (t : State) : Prop :=
      waits s.lif.current t.lif.current (s.lif.onLine ≠ none) ∧ waits s.lif.setAside t.lif.setAside False ∧
      t.lif.onLine = s.lif.onLine ∧
      ∀ kept : List TxFrame,
        ((claim ∉ s.pct.held ∧ kept = s.pct.held) ∨
          ∃ a b, s.pct.held = a ++ claim :: b ∧ claim ∉ a ∧ kept = a ++ b) →
        s.Calm →
        (claim ∉ s.lif.fifo → t.lif.fifo = s.lif.fifo ∧ t.pct.held = kept) ∧
        ∀ a b : List TxFrame, s.lif.fifo = a ++ claim :: b → claim ∉ a → s.lif.fifo.length ≤ 6 → s.lif.link ≠ .mute →
          s.ntb.heldReady = none → (∀ image n, s.ntb.serving ≠ .sending image n) →
          let room := 6 - (a ++ b).length
          t.lif.fifo = a ++ b ++ kept.take room ∧ t.pct.held = kept.drop room
    (s.pct.slot = .claiming → s.pct.heard = false → tr.permit = permit →
      ∃ t, exec (.claim sender permit) s = .next t ∧ t.pct.slot = .empty ∧ t.pct.trip = none ∧
        t.outbox = s.outbox ++ [.reader (refusedMessage .inUse)] ∧ t.pct.pendingStamp = s.pct.pendingStamp ∧
        withdraws t) ∧
    (s.pct.slot = .claiming → tr.permit = permit →
      ∃ t, exec (.held sender permit claimant) s = .next t ∧ t.pct.slot = .empty ∧ t.pct.trip = none ∧
        t.outbox = s.outbox ++ [.reader (refusedMessage .inUse)] ∧ t.pct.pendingStamp = s.pct.pendingStamp ∧
        (s.pct.heard = false → withdraws t) ∧
        (s.pct.heard = true → s.Calm → t.lif.fifo = s.lif.fifo ∧ t.pct.held = s.pct.held ∧
          t.lif.current = s.lif.current ∧ t.lif.setAside = s.lif.setAside ∧ t.lif.onLine = s.lif.onLine)) ∧
    (s.pct.slot = .authorized ∨ s.pct.slot = .released ∨ s.pct.slot = .closing ∨ s.pct.slot = .awaitStamp ∨
        (s.pct.slot = .claiming ∧ s.pct.heard = true) → tr.permit = permit → s.Calm →
      .held permit sender ∉ s.pct.held → s.lif.link ≠ .mute → s.lif.fifo.length < 6 →
      ∃ t, exec (.claim sender permit) s = .next t ∧ t.lif.fifo = s.lif.fifo ++ [.held permit sender] ∧
        t.pct.slot = s.pct.slot ∧ t.pct.trip = s.pct.trip ∧ t.outbox = s.outbox)) ∧
  (∀ (s : State) (sender : Nat) (permit : Word32) (claimant : Nat),
    Instr.wf (.held sender permit claimant) = true → s.sul.done = true → sender ≠ s.lif.station → s.Calm →
    s.lif.link ≠ .down → s.lif.link ≠ .heldLine →
    (s.pct.slot ≠ .claiming ∨ s.pct.trip.map (·.permit) ≠ some permit →
      ∃ t, exec (.held sender permit claimant) s = .next t ∧ { t.pct with idleTimer := none } = { s.pct with idleTimer := none } ∧
        t.outbox = s.outbox ∧ t.lif.fifo = s.lif.fifo) ∧
    (s.pct.slot = .empty ∨ s.pct.slot = .checking ∨ s.pct.trip.map (·.permit) ≠ some permit →
      ∃ t, exec (.claim sender permit) s = .next t ∧ { t.pct with idleTimer := none } = { s.pct with idleTimer := none } ∧
        t.outbox = s.outbox ∧ t.lif.fifo = s.lif.fifo))

/-- R154, R184 to R186: a NOTE-ASK for own number in RUN and ALONE. Met by an idle Note Builder with no ask waiting, a note number
that is not sealed is answered with the one ABSENT segment at once, held while the FIFO is full; for a sealed one the Store Port is
asked for the first page of the note's slot, and reads it at once when it is free and otherwise after the reads that wait. Met by a
busy one, the ask joins the queue's tail. With four asks waiting, or with the same ask waiting, the ask is dropped, as is one for
another station or outside RUN and ALONE. -/
def Obligations.NoteAsked : Prop :=
  ∀ (s : State) (sender target : Nat) (note : Word32),
    Instr.wf (.noteAsk sender target note) = true → s.sul.done = true → sender ≠ s.lif.station → s.Calm →
    (s.lif.link = .run ∨ s.lif.link = .alone → target = s.lif.station →
      (s.ntb.asks = [] → s.ntb.serving = .idle →
        (note.toNat = 0 ∨ s.ntb.next ≤ note.toNat →
          ∃ t, exec (.noteAsk sender target note) s = .next t ∧ (s.stp.port ≠ .idle → t.stp = s.stp) ∧
            (s.lif.fifo.length < 6 → t.ntb = s.ntb ∧
              t.lif.fifo = s.lif.fifo ++ [.notePart sender note 0 1 false []]) ∧
            (6 ≤ s.lif.fifo.length → t.lif.fifo = s.lif.fifo ∧
              t.ntb = { s.ntb with asks := [⟨sender, note⟩], serving := .sending none 0 })) ∧
        (note.toNat ≠ 0 → note.toNat < s.ntb.next →
          let read : ReadReq := ⟨.ask, 128 + 4 * (note.toNat % 240)⟩
          ∃ t, exec (.noteAsk sender target note) s = .next t ∧ t.lif.fifo = s.lif.fifo ∧
            t.ntb = { s.ntb with asks := [⟨sender, note⟩], serving := .reading [] 0 } ∧
            (s.stp.port = .idle → s.stp.reads = [] → s.stp.flight = none →
              t.stp.port = .reading read ∧ t.stp.reads = []) ∧
            (s.stp.port ≠ .idle → t.stp.port = s.stp.port ∧ t.stp.reads = s.stp.reads ++ [read]))) ∧
      (s.ntb.serving ≠ .idle → s.ntb.asks.length < 4 → ⟨sender, note⟩ ∉ s.ntb.asks →
        ∃ t, exec (.noteAsk sender target note) s = .next t ∧ t.lif.fifo = s.lif.fifo ∧
          t.ntb = { s.ntb with asks := s.ntb.asks ++ [⟨sender, note⟩] })) ∧
    (4 ≤ s.ntb.asks.length ∨ ⟨sender, note⟩ ∈ s.ntb.asks ∨ target ≠ s.lif.station ∨ s.lif.link = .listen ∨
        s.lif.link = .join ∨ s.lif.link = .mute ∨ s.lif.link = .down ∨ s.lif.link = .heldLine →
      ∃ t, exec (.noteAsk sender target note) s = .next t ∧ t.ntb = s.ntb ∧ t.lif.fifo = s.lif.fifo)

/-- R185, R186: a page of the head ask's slot has been read. The first page of a note with a length in 34..498 has the further pages
read that the length requires. After the last one a note that passes the test of a present note is answered by its segments, of 48
bytes each but the last, and any other by the one ABSENT segment. They go to the transmit FIFO as far as it takes them, and the
rest waits. An ask answered whole leaves the queue, and the next one's first page is asked for. In MUTE the segments are taken and
discarded.
R183, R180, R181: a page of the newest note's slot has been read for a reprint, and its further pages are read in the same way. A
present note joins the print queue with the reprint mark: alone it begins to print, behind one entry it waits, and of two it
replaces the waiting one, with SKIPPED requested for a print that is no reprint. A note that is not present makes no entry.
R196: the first page of the slot of a NOTE-STATUS in flight has been read. With a note tag, the request's number and a length in
34..498 the write of the one byte of its status field begins; otherwise the request is done with no write, and the next one
leaves the queue.
R188: reads are served in the order asked, and a write that waits comes after the read just completed.
The place of a NOTE-STATUS's read in the read list, and that no further page is read for a length outside 34..498, is the model's
choice (log 6, log 46). -/
def Obligations.PagesRead : Prop :=
  ∀ (s : State) (owner : Reader) (n : Nat), s.Calm → s.stp.port = .reading ⟨owner, n⟩ → n < 2048 →
    let page := readPage s.store n
    let len := fieldNat page 5 2
    let further : Nat := if 34 ≤ len ∧ len ≤ 498 then (len + 127) / 128 - 1 else 0
    let read : Stp := { s.stp with lastRead := true }
    let whole (number : Nat) (bytes : List Byte) : Option (List Byte) :=
      if notePresent number bytes = true then some (bytes.take (fieldNat bytes 5 2)) else none
    let asks (u : State) (page count : Nat) : Prop := Yields .pageReadComplete s u ∧
      (s.stp.reads = [] → s.stp.flight.bind (·.steps.head?) = none → ∀ t, exec .pageReadComplete s = .next t →
        t.stp.port = .reading ⟨owner, page⟩ ∧ t.stp.reads = (List.range (count - 1)).map fun k => ⟨owner, page + 1 + k⟩)
    (∀ (a : Ask) (rest : List Ask) (bytes : List Byte) (left : Nat), owner = .ask → s.ntb.asks = a :: rest →
      s.ntb.serving = .reading bytes left →
      let base := 128 + 4 * (a.note.toNat % 240)
      let more := if bytes = [] then further else left - 1
      let image := whole a.note.toNat (bytes ++ page)
      let frames : List TxFrame := match image with
        | none => [.notePart a.requester a.note 0 1 false []]
        | some b => (List.range ((b.length + 47) / 48)).map fun k =>
          .notePart a.requester a.note k ((b.length + 47) / 48) true (field b (48 * k) 48)
      let room := 6 - s.lif.fifo.length
      (more ≠ 0 → bytes = [] →
        asks { s with stp := read, ntb := { s.ntb with serving := .reading page more } } (base + 1) more) ∧
      (more ≠ 0 → bytes ≠ [] → Yields .pageReadComplete s { s with
        stp := read, ntb := { s.ntb with serving := .reading (bytes ++ page) more } }) ∧
      (more = 0 → s.lif.link ≠ .down → s.lif.link ≠ .mute →
        (room < frames.length → Yields .pageReadComplete s { s with
          stp := read, lif := { s.lif with fifo := s.lif.fifo ++ frames.take room }
          ntb := { s.ntb with serving := .sending image room } }) ∧
        (frames.length ≤ room → rest = [] → Yields .pageReadComplete s { s with
          stp := read, lif := { s.lif with fifo := s.lif.fifo ++ frames }
          ntb := { s.ntb with asks := [], serving := .idle } }) ∧
        (frames.length ≤ room → ∀ b : Ask, rest.head? = some b → b.note.toNat ≠ 0 → b.note.toNat < s.ntb.next →
          asks { s with
            stp := read, lif := { s.lif with fifo := s.lif.fifo ++ frames }
            ntb := { s.ntb with asks := rest, serving := .reading [] 0 } } (128 + 4 * (b.note.toNat % 240)) 1)) ∧
      (more = 0 → s.lif.link = .mute → rest = [] → Yields .pageReadComplete s { s with
        stp := read, ntb := { s.ntb with asks := [], serving := .idle } })) ∧
    (∀ r : ReprintRead, owner = .reprint → s.ntb.reprint = some r →
      let more := if r.bytes = [] then further else r.left - 1
      let done : Ntb := { s.ntb with reprint := none }
      let reads : State := { s with
        stp := read, ntb := { s.ntb with reprint := some { r with bytes := r.bytes ++ page, left := more } } }
      (more ≠ 0 → r.bytes = [] → asks reads (128 + 4 * (r.number % 240) + 1) more) ∧
      (more ≠ 0 → r.bytes ≠ [] → Yields .pageReadComplete s reads) ∧
      (more = 0 → whole r.number (r.bytes ++ page) = none → Yields .pageReadComplete s { s with stp := read, ntb := done }) ∧
      (∀ image : List Byte, more = 0 → whole r.number (r.bytes ++ page) = some image →
        let e : PrintEntry := ⟨image, r.number, true⟩
        (s.ntb.prints = [] → s.sul.done = true → s.ntb.port.wire = none →
          ∃ t, exec .pageReadComplete s = .next t ∧ t.ntb.prints = [e] ∧ t.ntb.reprint = none ∧
            t.ntb.port.wire.toList ++ t.ntb.port.chars = noteText image true ∧
            t.ntb.port.timer = (if s.ntb.port.busy then some (s.now + 30000000) else none)) ∧
        (∀ h : PrintEntry, s.ntb.prints = [h] → Yields .pageReadComplete s { s with
          stp := read, ntb := { done with prints := [h, e] } }) ∧
        (∀ h w : PrintEntry, s.ntb.prints = [h, w] →
          (w.reprint = true → Yields .pageReadComplete s { s with stp := read, ntb := { done with prints := [h, e] } }) ∧
          (w.reprint = false →
            ∃ t, exec .pageReadComplete s = .next t ∧ t.ntb.prints = [h, e] ∧ t.ntb.reprint = none ∧
              (s.ntb.statusList = [] → s.stp.queue.length < 12 → s.stp.flight.isSome = true →
                t.stp.queue = s.stp.queue ++ [⟨.noteStatus w.number .print 3, false⟩]))))) ∧
    (∀ (f : Flight) (note : Nat) (fld : StatusField) (code : Nat), owner = .noteStatus → s.stp.flight = some f →
      f.item.req = .noteStatus note fld code →
      let off := len - (match fld with
        | .stamp => 4
        | .print => 3)
      let w : PageWrite := ⟨128 + 4 * (note % 240) + off / 128, off % 128, [BitVec.ofNat 8 code]⟩
      let found : Prop := fieldNat page 0 1 = 0x4E ∧ fieldNat page 1 4 = note ∧ 34 ≤ len ∧ len ≤ 498
      (found → Yields .pageReadComplete s { s with
          stp := { read with flight := some { f with steps := [w], reading := false } } } ∧
        ∀ t, exec .pageReadComplete s = .next t → t.stp.port = .writing w (s.now + 5000) ∧ t.stp.reads = s.stp.reads) ∧
      (¬found → (s.stp.queue = [] → Yields .pageReadComplete s { s with stp := { read with flight := none } }) ∧
        ∃ t, exec .pageReadComplete s = .next t ∧ t.store = s.store ∧
          t.stp.flight = s.stp.queue.head?.map (flightOf s.stp.copies)))

/-- R16, R131, R151, R153, R154, R158: own echo. A CLAIM heard back, withdrawn or not, goes to Permit Control: while CLAIMING on its
permit, not heard back yet, it starts the 400 ms claim window, and otherwise it is not taken. A STATUS heard back in RUN or ALONE is
recorded as sent with its demands, meets every request and restarts the period timer; a STATUS in JOIN completes the join, with
own allotment worked out anew under RUN; a frame of another kind is done. The set-aside frame is current again.
That an echo with no attempt on the line has no effect, that own frame lengthens the next gap, and that the echo of a withdrawn
CLAIM starts the window of a slot CLAIMING anew on the same permit, is the model's choice (log 26, log 18, log 37). -/
def Obligations.OwnEcho : Prop :=
  ∀ s : State,
    let done (l : Lif) : Lif := { l with onLine := none, ownLast := true, current := l.setAside, setAside := none }
    (s.lif.onLine = none → exec .ownEcho s = .next s) ∧
    (∀ permit : Word32, s.Calm → s.lif.onLine = some (.claim permit) →
      (s.pct.slot = .claiming → s.pct.heard = false → s.pct.trip.map (·.permit) = some permit →
        Yields .ownEcho s { s with
          pct := { s.pct with heard := true, claimWindow := some (s.now + 400000) }, lif := done s.lif }) ∧
      (s.pct.slot ≠ .claiming ∨ s.pct.heard = true ∨ s.pct.trip.map (·.permit) ≠ some permit →
        Yields .ownEcho s { s with lif := done s.lif })) ∧
    (∀ (link flags : Byte) (time : Word32) (entries : List HeaderEntry), s.Calm →
      s.lif.onLine = some (.status link flags time entries) → s.lif.link = .run ∨ s.lif.link = .alone →
      Yields .ownEcho s { s with lif := { done s.lif with
        lastStatus := some s.now, lastSent := entries, due := .none, spacing := none
        period := some (s.now + 500000) } }) ∧
    (∀ (link flags : Byte) (time : Word32) (entries : List HeaderEntry),
      s.lif.onLine = some (.status link flags time entries) → s.lif.link = .join →
      ∃ t, exec .ownEcho s = .next t ∧ t.lif.link = .run ∧ t.lif.alone = some (s.now + 3000000) ∧
        t.lif.period = some (s.now + 500000) ∧ t.lif.lastStatus = some s.now ∧ t.lif.lastSent = entries ∧
        t.lif.current = s.lif.setAside ∧ t.lif.setAside = none ∧ t.lif.onLine = none ∧ t.lif.peers = s.lif.peers ∧
        s.Allots t) ∧
    (∀ p : Payload, s.Calm → s.lif.onLine = some p → (∀ a b c d, p ≠ .status a b c d) → (∀ a, p ≠ .claim a) →
      Yields .ownEcho s { s with lif := done s.lif })

/-- R18, R19, R149, R151: an attempt meets a collision, or in RUN and ALONE the echo of a completed one is dropped. Below the eighth the
frame stays current with its count one greater. At the eighth it is discarded and the set-aside frame is current again: a STATUS
meets every request, a CLAIM of a trip still CLAIMING on it refuses the trip with LINE-BUSY, and any other frame goes
without a report. A withdrawn CLAIM is discarded at once, without a report.
R158: in JOIN a collision below the eighth counts the same way. The eighth, and a dropped echo, end the try: the next of three has
a fresh STATUS with no collision, and after the third the link is MUTE with cause ECHO, nothing left to send, and a trip CLAIMING
whose CLAIM has not been heard back refused with LINE-BUSY.
That a dropped echo lengthens the next gap and a collision leaves it is the model's choice (log 18). -/
def Obligations.Collisions : Prop :=
  ∀ (s : State) (p : Payload) (cur : Current) (c : Instr), s.lif.onLine = some p → s.lif.current = some cur →
    (c = .collision ∨ ∃ framing raw, c = .frameDropped framing raw ∧ acceptFrame framing raw = none) →
    let own : Bool := if c = .collision then s.lif.ownLast else true
    let again : State := { s with lif := { s.lif with
      ownLast := own, onLine := none, current := some { cur with collisions := cur.collisions + 1 } } }
    let gone : State := { s with lif := { s.lif with
      ownLast := own, onLine := none, current := s.lif.setAside, setAside := none } }
    (s.Calm → s.lif.link = .run ∨ s.lif.link = .alone →
      (cur.withdrawn = true → Yields c s gone) ∧
      (cur.withdrawn = false → cur.collisions < 7 → Yields c s again) ∧
      (cur.withdrawn = false → cur.collisions = 7 →
        (cur.frame = .status →
          Yields c s { gone with lif := { gone.lif with due := .none, spacing := none, period := some (s.now + 500000) } }) ∧
        (∀ (permit : Word32) (tr : Trip), cur.frame = .claim permit → s.pct.slot = .claiming → s.pct.heard = false →
          s.pct.trip = some tr → tr.permit = permit →
          ∃ t, exec c s = .next t ∧ t.pct.slot = .empty ∧ t.pct.trip = none ∧
            t.outbox = s.outbox ++ [.reader (refusedMessage .lineBusy)] ∧ t.lif.current = s.lif.setAside ∧ t.lif.onLine = none) ∧
        (cur.frame ≠ .status → (∀ permit, cur.frame ≠ .claim permit) → Yields c s gone))) ∧
    (s.lif.link = .join → cur.frame = .status → cur.withdrawn = false →
      (s.Calm → c = .collision → cur.collisions < 7 → Yields c s again) ∧
      (c ≠ .collision ∨ cur.collisions = 7 →
        (s.Calm → s.lif.joinTries < 3 → Yields c s { s with lif := { s.lif with
          ownLast := own, onLine := none, current := some { frame := .status }, joinTries := s.lif.joinTries + 1 } }) ∧
        (3 ≤ s.lif.joinTries →
          ∃ t, exec c s = .next t ∧ t.lif.link = .mute ∧ t.lif.muteCause = some .echo ∧ t.lif.fifo = [] ∧
            t.lif.current = none ∧ t.lif.setAside = none ∧ t.lif.onLine = none ∧ t.lif.due = .none ∧
            t.lif.period = none ∧ t.lif.alone = none ∧ t.lif.peers = s.lif.peers ∧ s.Allots t ∧
            (s.pct.slot = .claiming → s.pct.heard = false → s.pct.trip.isSome = true →
              t.pct.slot = .empty ∧ t.pct.trip = none ∧ t.outbox = s.outbox ++ [.reader (refusedMessage .lineBusy)]))))

/-- R148, R150, R152, R158: an access with nothing on the line, in RUN, ALONE or JOIN. An urgent STATUS needs plain quiet of 10 bit
times, any other frame the access gap of 10 + 2 × station number, 64 longer after an own frame. An urgent STATUS sets a current
frame of another kind aside and makes a current STATUS urgent. Otherwise a current frame comes first, then a STATUS that is due,
then the FIFO's head, which leaves the FIFO. A STATUS carries the slot's contents as they stand. JOIN sends its STATUS alone.
Below the gap, and with no frame to send, nothing begins. In DOWN, LISTEN, HELD-LINE and MUTE nothing is sent.
The length of the quiet as an operand is the model's choice (log 18). -/
def Obligations.AccessAttempt : Prop :=
  ∀ (s : State) (quiet : Nat), s.Calm → s.lif.onLine = none →
    let gap := 10 + 2 * s.lif.station + (if s.lif.ownLast then 64 else 0)
    let status : Payload :=
      .status (BitVec.ofNat 8 (if s.lif.link = .run then 3 else if s.lif.link = .join then 2 else 4))
        (BitVec.ofNat 8 ((if s.ilm.rstop then 1 else 0) + (if s.lif.timeSet then 2 else 0) +
          (if s.pct.slot ≠ .empty then 8 else 0) + 16))
        (if s.lif.timeSet then s.lif.time else 0) s.lif.slot
    let sends (cur : Current) (p : Payload) (l : Lif) : Prop :=
      Yields (.accessAttempt quiet) s { s with lif := { l with current := some cur, onLine := some p, sent := 0 } }
    (s.lif.link = .run ∨ s.lif.link = .alone →
      (s.lif.due = .urgent → 10 ≤ quiet →
        (s.lif.current = none → sends { frame := .status, urgent := true } status s.lif) ∧
        (∀ cur : Current, s.lif.current = some cur →
          (cur.frame = .status → sends { cur with urgent := true } status s.lif) ∧
          (cur.frame ≠ .status →
            sends { frame := .status, urgent := true } status { s.lif with setAside := some cur }))) ∧
      (∀ cur : Current, s.lif.due ≠ .urgent → s.lif.current = some cur →
        (if cur.urgent then 10 else gap) ≤ quiet →
        sends cur (if cur.frame = .status then status else txPayload s cur.frame) s.lif) ∧
      (s.lif.current = none → s.lif.due = .normal → gap ≤ quiet → sends { frame := .status } status s.lif) ∧
      (∀ (f : TxFrame) (rest : List TxFrame), s.lif.current = none → s.lif.due = .none → s.lif.fifo = f :: rest →
        f ≠ .status → gap ≤ quiet → s.pct.held = [] → s.ntb.heldReady = none → s.ntb.serving = .idle →
        sends { frame := f } (txPayload s f) { s.lif with fifo := rest }) ∧
      (quiet < 10 ∨ (quiet < gap ∧ s.lif.due ≠ .urgent ∧ ∀ cur, s.lif.current = some cur → cur.urgent = false) →
        Yields (.accessAttempt quiet) s s) ∧
      (s.lif.due = .none → s.lif.current = none → s.lif.fifo = [] → Yields (.accessAttempt quiet) s s)) ∧
    (s.lif.link = .join →
      (∀ cur : Current, s.lif.current = some cur → cur.frame = .status →
        (gap ≤ quiet → sends cur status s.lif) ∧ (quiet < gap → Yields (.accessAttempt quiet) s s)) ∧
      (s.lif.current = none → Yields (.accessAttempt quiet) s s)) ∧
    (s.lif.link = .down ∨ s.lif.link = .listen ∨ s.lif.link = .heldLine ∨ s.lif.link = .mute →
      Yields (.accessAttempt quiet) s s)

/-- R153, R165: the STATUS period timer and the spacing timer make a STATUS due in RUN and ALONE; the second timer adds 1 to a
rack time below its greatest value and restarts.
R163: ageing. A FRESH entry becomes STALE at 2 s; a STALE one becomes SILENT at 6 s if it carried a demand above 0 or the halt
flag, and is removed otherwise; a SILENT one without the halt flag is removed at 30 s, and with it is kept. Each event touches
its own station's entries only, in LISTEN, JOIN, RUN, ALONE and MUTE.
The clock that a timed event leaves is the model's choice (log 1). -/
def Obligations.LineTimers : Prop :=
  (∀ (s : State) (d : Nat), s.Calm →
    (s.lif.period = some d → s.lif.link = .run ∨ s.lif.link = .alone → s.lif.due = .none →
      Yields .statusPeriodExpiry s { s with now := max s.now d, lif := { s.lif with period := none, due := .normal } }) ∧
    (s.lif.spacing = some d → s.lif.link = .run ∨ s.lif.link = .alone → s.lif.due = .none →
      Yields .statusSpacingExpiry s { s with now := max s.now d, lif := { s.lif with spacing := none, due := .normal } }) ∧
    (s.lif.second = some d →
      Yields .secondTimer s { s with now := max s.now d, lif := { s.lif with
        second := some (d + 1000000)
        time := if s.lif.time = BitVec.allOnes 32 then s.lif.time else s.lif.time + 1 } })) ∧
  (∀ (s : State) (station : Nat) (e : Peer), s.Calm → s.lif.link ≠ .down → s.lif.link ≠ .heldLine →
    s.peer station = some e →
    let later (d : Nat) (peers : List Peer) : State := { s with now := max s.now d, lif := { s.lif with peers := peers } }
    let aged (a : Age) : List Peer := s.lif.peers.map fun x => if x.station = station then { x with age := a } else x
    let gone : List Peer := s.lif.peers.filter fun x => decide (x.station ≠ station)
    let keeps : Prop := e.halt = true ∨ ∃ x ∈ e.entries, 0 < x.demand
    (e.age = .fresh → Yields (.freshToStale station) s (later (e.heardAt + 2000000) (aged .stale))) ∧
    (e.age = .stale → keeps → Yields (.staleToSilent station) s (later (e.heardAt + 6000000) (aged .silent))) ∧
    (e.age = .stale → ¬keeps → Yields (.staleToSilent station) s (later (e.heardAt + 6000000) gone)) ∧
    (e.age = .silent → e.halt = false → Yields (.silentRemoval station) s (later (e.heardAt + 30000000) gone)) ∧
    (e.age = .silent → e.halt = true → exec (.silentRemoval station) s = .next s))

/-- R18, R131, R151, R157 to R161: the link's own events. The LISTEN window ends in JOIN with its first try; the ALONE timer in ALONE; a held
line clears the peer table, stops the timers and keeps rack time, and its end is LISTEN with a new window (none under the
listen-only strap); a conflict is MUTE with nothing left to send and the peer table kept. The entry to HELD-LINE or MUTE
withdraws a CLAIM that has not been heard back, wherever it waits, and refuses its trip with LINE-BUSY. With each change of the link state own
allotment and the shares are worked out anew under the new state; at the entry to ALONE the request for a STATUS follows from the
demands as at a share tick (R141, R153).
That these events have no effect in the other states, or with their timer stopped, is the model's choice (log 26), and so is that
the entry to HELD-LINE ends an attempt of that CLAIM and discards it, which R151 has run to its end (log 20).
The clock that a timed event leaves is the model's choice (log 1). -/
def Obligations.LinkEvents : Prop :=
  ∀ s : State,
    (∀ d : Nat, s.lif.listen = some d → s.lif.link = .listen →
      ∃ t, exec .listenWindowExpiry s = .next t ∧ t.now = max s.now d ∧ t.lif.link = .join ∧ t.lif.joinTries = 1 ∧
        t.lif.current = some { frame := .status } ∧ t.lif.listen = none ∧ t.lif.peers = s.lif.peers ∧ s.Allots t) ∧
    (∀ d : Nat, s.lif.alone = some d → s.lif.link = .run →
      ∃ t, exec .aloneTimerExpiry s = .next t ∧ t.now = max s.now d ∧ t.lif.link = .alone ∧ t.lif.alone = none ∧
        t.lif.peers = s.lif.peers ∧ t.lif.period = s.lif.period ∧ s.Allots t ∧ s.Announces t) ∧
    (s.lif.link = .listen ∨ s.lif.link = .join ∨ s.lif.link = .run ∨ s.lif.link = .alone →
      (∃ t, exec .heldLineDetected s = .next t ∧ t.lif.link = .heldLine ∧ t.lif.peers = [] ∧ t.lif.listen = none ∧
        t.lif.alone = none ∧ t.lif.period = none ∧ t.lif.time = s.lif.time ∧ t.lif.timeSet = s.lif.timeSet ∧
        t.lif.second = s.lif.second ∧ s.Allots t) ∧
      (s.sul.done = true →
        ∃ t, exec .conflict s = .next t ∧ t.lif.link = .mute ∧ t.lif.muteCause = some .conflict ∧ t.lif.fifo = [] ∧
          t.lif.current = none ∧ t.lif.setAside = none ∧ t.lif.due = .none ∧ t.lif.period = none ∧
          t.lif.alone = none ∧ t.lif.peers = s.lif.peers ∧ t.lif.time = s.lif.time ∧ s.Allots t) ∧
      (∀ (c : Instr) (tr : Trip), c = .heldLineDetected ∨ (c = .conflict ∧ s.sul.done = true) →
        s.pct.slot = .claiming → s.pct.heard = false → s.pct.trip = some tr →
        ∃ t, exec c s = .next t ∧ t.pct.slot = .empty ∧ t.pct.trip = none ∧
          t.outbox = s.outbox ++ [.reader (refusedMessage .lineBusy)] ∧
          (s.Calm → s.pct.held = [] ∨ s.pct.held = [.claim tr.permit] → s.ntb.heldReady = none → s.ntb.serving = .idle →
            t.pct.held = [] ∧
            (c = .heldLineDetected →
              (.claim tr.permit ∉ s.lif.fifo → t.lif.fifo = s.lif.fifo) ∧
              (∀ a b : List TxFrame, s.lif.fifo = a ++ .claim tr.permit :: b → .claim tr.permit ∉ a → t.lif.fifo = a ++ b) ∧
              (∀ cur : Current, s.lif.current = some cur → cur.frame = .claim tr.permit → t.lif.current = none) ∧
              (∀ cur : Current, s.lif.setAside = some cur → cur.frame = .claim tr.permit → t.lif.setAside = none))))) ∧
    (s.lif.link = .heldLine →
      ∃ t, exec .heldLineEnd s = .next t ∧ t.lif.link = .listen ∧ t.lif.peers = s.lif.peers ∧
        t.lif.listen = (if s.lif.listenOnly then none else some (s.now + 1500000)) ∧ s.Allots t) ∧
    (s.lif.listen = none → exec .listenWindowExpiry s = .next s) ∧
    (s.lif.alone = none → exec .aloneTimerExpiry s = .next s) ∧
    (s.lif.link = .down ∨ s.lif.link = .heldLine ∨ s.lif.link = .mute →
      exec .heldLineDetected s = .next s ∧ Leaves .conflict s s) ∧
    (s.lif.link ≠ .heldLine → exec .heldLineEnd s = .next s)

/-- R170 to R175: the trip's entry to CLOSING, by STOP or the trip idle timer, with every line then ENDED or REFUSED begins the
trip's note: its image is filled from the final records and the totals after them, with stamp status PENDING and print status
QUEUED. The pages, of 128 bytes each, are the image in order, filled out with zero bytes.
R171 to R173, R212, R213: a note of up to eight lines with up to three additive lines each has its tag, number, length, station,
permit, driver, tanker, times, flags and line count in their places, its two statuses and its check in its last four bytes, is
present under the test of R185, and its lane totals read back. Line after line, with its additive lines behind it, it holds the
fields of Table 12-6 (with the codes of the pulse fault, of the end reason and of a refusal, the temperature 8000 hex when absent
and every flag in its bit) and of Table 12-7; a volume past its field is the field's greatest value. -/
def Obligations.NoteBytes : Prop :=
  (∀ (c : Instr) (s : State) (tr : Trip), s.sul.done = true → s.pct.slot = .released → s.pct.trip = some tr →
    s.Calm → s.ntb.build = none →
    (c = .stop ∧ s.ilm.stopKey = false ∧ s.anyFlowing = false ∧ s.anyClosing = false ∨
      ∃ d, c = .tripIdleTimerExpiry ∧ s.pct.idleTimer = some d) →
    ∃ t tr', exec c s = .next t ∧ t.pct.trip = some tr' ∧
      (t.allFinished = false → t.ntb.build = none) ∧
      (t.allFinished = true → ∃ b, t.ntb.build = some b ∧ b.recovered = false ∧ b.number = s.ntb.next ∧
        b.permit = tr.permit ∧ b.endTime = tr'.endTime ∧ b.pages = (noteLength tr'.lines + 127) / 128 ∧
        b.loaded = (tr'.lines.filter (·.record.isSome)).length ∧
        b.image = noteImage { number := s.ntb.next, station := s.lif.station, permit := tr.permit, driver := tr.driver
                              tanker := tr.tanker, startTime := tr.startTime, endTime := tr'.endTime, flags := tr'.flags }
          tr'.lines t.totals 1 1)) ∧
  (∀ (image : List Byte) (page : Nat), 1 ≤ page →
    (pageBytes image page).length = 128 ∧
    ∀ k < 128, (pageBytes image page)[k]? = some ((image[128 * (page - 1) + k]?).getD 0)) ∧
  (∀ (h : NoteHead) (lines : List OrderLine) (totals : LaneNo → Word48 × Word48) (stamp print : Nat),
    h.number < 4294967296 → h.station < 256 → stamp < 256 → print < 256 → lines.length ≤ 8 →
    (∀ l ∈ lines, (additivesOf l).length ≤ 3) →
    let b := noteImage h lines totals stamp print
    let size := noteLength lines
    34 ≤ size ∧ size ≤ 498 ∧ b.length = size ∧ fieldNat b 0 1 = 0x4E ∧ fieldNat b 1 4 = h.number ∧ fieldNat b 5 2 = size ∧
    fieldNat b 7 1 = h.station ∧ fieldWord b 8 = h.permit ∧ fieldWord b 12 = h.driver ∧ fieldWord b 16 = h.tanker ∧
    fieldWord b 20 = h.startTime ∧ fieldWord b 24 = h.endTime ∧ tripFlagsOf (fieldNat b 28 1) = h.flags ∧
    fieldNat b 29 1 / 16 = lines.length ∧
    fieldNat b (size - 4) 1 = stamp ∧ fieldNat b (size - 3) 1 = print ∧
    fieldNat b (size - 2) 2 = crc16 (b.take (size - 4)) ∧ notePresent h.number b = true ∧
    noteTotals b = ((lanesUsed lines).map fun i => (i, totals i)) ∧
    (∀ (k : Nat) (l : OrderLine) (reason : Nat), lines[k]? = some l →
      (match l.status with
        | .ended .preset => some 1 | .ended .driver => some 2 | .ended .lapse => some 3 | .ended .arm => some 4
        | .ended .halt => some 5 | .ended .noFlow => some 6 | .ended .pulseFault => some 7 | .ended .additiveFault => some 8
        | .ended .powerLost => some 9 | .ended .notLoaded => some 10
        | .refused .compartmentInvalid => some 17 | .refused .duplicateCompartment => some 18
        | .refused .productNotAtBay => some 19 | .refused .classNotPermitted => some 20 | .refused .presetTooSmall => some 21
        | .refused .recipeWithdrawn => some 22 | .refused .recipeNotServable => some 23
        | _ => none) = some reason →
      let r := l.record.getD {}
      l.compartment < 256 → l.product < 256 → l.preset < 65536 → r.corrected < 65536 →
      (∀ f, r.pulseFault = some f → ∀ n, f.code ≠ .other n) → (∀ x, r.weighted = some x → -32768 ≤ x ∧ x < 32768) →
      let o := 30 + ((lines.take k).map fun m => 22 + 10 * (additivesOf m).length).sum
      fieldNat b o 1 = l.compartment ∧ fieldNat b (o + 1) 1 = l.product ∧
      fieldNat b (o + 2) 1 = 16 * ((l.lane.map fun i => i.val + 1).getD 0) +
        (match r.pulseFault.map (·.code) with
          | some .aMissing => 1 | some .bMissing => 2 | some .phaseReversed => 3 | some .difference => 4 | _ => 0) ∧
      fieldNat b (o + 3) 1 = 4 * reason + (additivesOf l).length ∧ fieldNat b (o + 4) 2 = l.preset ∧
      fieldNat b (o + 6) 4 = min r.gross.toNat 4294967295 ∧ fieldNat b (o + 10) 4 = min r.std.toNat 4294967295 ∧
      (r.weighted = none → fieldNat b (o + 14) 2 = 0x8000) ∧
      (∀ x, r.weighted = some x → (fieldNat b (o + 14) 2 : Int) = if x < 0 then 65536 + x else x) ∧
      (∀ n < 16, (fieldNat b (o + 16) 2).testBit n = [l.clamped, r.flags.overrun, r.flags.valveLeak, r.flags.tempHeld,
        r.flags.tempDefault, r.flags.tempClamped, r.flags.overspeed, r.flags.phaseReversed, r.flags.lapseInClosing,
        r.flags.injectorLeak].getD n false) ∧
      fieldNat b (o + 18) 2 = r.corrected ∧
      fieldNat b (o + 20) 2 = ((r.pulseFault.map fun f => min (f.gross / 1000) 65535).getD 0) ∧
      ∀ (j : Nat) (a : AdditiveLine) (x : DoseResult), (additivesOf l)[j]? = some a → a.result = some x → a.ratio < 8192 →
        let p := o + 22 + 10 * j
        fieldNat b p 2 = (if a.mandatory then 32768 else 0) +
          8192 * (match x.status with
            | .ok => 0 | .under => 1 | .over => 2 | .fault => 3) + a.ratio ∧
        fieldNat b (p + 2) 4 = a.injector.val * 536870912 + min x.target 134217727 ∧
        fieldNat b (p + 6) 4 = min x.delivered 134217727))

/-- R192, R198, R212: a checkpoint whose values fit their fields reads back under its trip number: stage, end reason, volumes,
temperature, flags, count and the additive lines' counts and marks; the results, the pulse fault and the totals only when ENDED.
R193: the marker's head reads back while OPEN, and not once it is CLOSED, which changes its state and its check alone; its order
lines read back with their dose entries.
R194, R212: a totals copy reads back.
R187, R194, R196: when a request is done and no read waits, the next one's first page write begins: a checkpoint at its line's page,
a TOTAL at the copy other than the one last written with a count one greater, an open marker at page 69 before 68, a closed one
at page 68, and a note page at its slot.
The clock that a timed event leaves is the model's choice (log 1). -/
def Obligations.RecordBytes : Prop :=
  (∀ (number line stage suspend : Nat) (reason : EndReason) (clamped : Bool) (r : CompRecord) (temp : Int) (gross std : Word48),
    number < 4294967296 → 2 ≤ stage → stage ≤ 7 → (∀ n, reason ≠ .other n) →
    r.gross.toNat < 4294967296 → r.std.toNat < 4294967296 → r.corrected < 65536 → -32768 ≤ temp → temp < 32768 →
    r.additives.length ≤ 3 →
    (∀ a ∈ r.additives, a.ratio < 8192 ∧ a.totalDue < 281474976710656 ∧ a.commanded < 4294967296 ∧ a.confirmed < 4294967296 ∧
      ∀ x, a.result = some x → x.target < 134217728 ∧ x.delivered < 134217728) →
    (∀ f, r.pulseFault = some f → (∀ n, f.code ≠ .other n) ∧ f.gross < 4294967296) →
    checkpointOf number (checkpointBytes number line stage suspend (endReasonCode reason) clamped r temp gross std) = some {
      stage := stage, reason := reason
      record := { gross := r.gross, std := r.std, corrected := r.corrected, flags := r.flags, weighted := some temp
                  pulseFault := if stage = 7 then r.pulseFault else none
                  additives := r.additives.map fun a =>
                    { injector := a.injector, ratio := a.ratio, mandatory := a.mandatory, totalDue := a.totalDue
                      commanded := a.commanded, confirmed := a.confirmed, faultMark := a.faultMark, live := false
                      result := if stage = 7 then some (a.result.getD ⟨0, 0, .ok⟩) else none } }
      totGross := if stage = 7 then gross else 0, totStd := if stage = 7 then std else 0 }) ∧
  (∀ (t : Trip) (rest : List Byte), t.number < 4294967296 → t.capacities.length ≤ 8 → t.lines.length ≤ 8 →
    (∀ l ∈ t.lines, l.compartment < 256 ∧ l.product < 256 ∧ l.preset < 65536 ∧ l.recipe < 256 ∧ l.doses.length ≤ 3 ∧
      ∀ d ∈ l.doses, d.ratio < 8192) →
    markerOf (markHead t ++ rest) = some { head := markHead t, number := t.number, permit := t.permit, driver := t.driver
                                           tanker := t.tanker, flags := t.flags, startTime := t.startTime
                                           count := t.lines.length } ∧
    markerOf (closeHead (markHead t) ++ rest) = none ∧
    (∀ k, k ≠ 1 → k < 47 → (closeHead (markHead t))[k]? = (markHead t)[k]?) ∧
    markLinesOk t.number (markLines t ++ rest) = true ∧
    ∀ (k : Nat) (l : OrderLine), t.lines[k]? = some l →
      (l.status = .waiting → markLineOf (markLines t ++ rest) k = { l with record := none }) ∧
      (∀ r, l.status = .refused r → (∀ n, r ≠ .other n) → markLineOf (markLines t ++ rest) k = { l with record := none })) ∧
  (∀ (lane : LaneNo) (count : Nat) (gross std : Word48) (head rest : List Byte), count < 4294967296 →
    totalsOf lane (head ++ totalsBytes lane count gross std ++ rest) head.length = some (count, gross, std)) ∧
  (∀ (s : State) (w : PageWrite) (due : Nat) (f : Flight) (q : QItem) (rest : List QItem), s.Calm →
    s.stp.port = .writing w due → w.inRange → s.stp.flight = some f → f.steps.tail = [] →
    (∀ n p b, f.item.req ≠ .notePage n p b) → (∀ l g x, f.item.req ≠ .total l g x) →
    s.stp.queue = q :: rest → s.stp.reads = [] →
    ∃ t, exec .pageWriteComplete s = .next t ∧
      let begins (page offset : Nat) (bytes : List Byte) : Prop :=
        t.stp.port = .writing ⟨page, offset, bytes⟩ (max s.now due + 5000)
      match q.req with
      | .checkpoint line record => begins (69 + line) 0 record
      | .total lane g x =>
        begins (64 + lane.val) (if s.stp.copies[lane].isB then 0 else 64) (totalsBytes lane (s.stp.copies[lane].count + 1) g x)
      | .markOpen lines head => begins 69 0 lines ∧ ∃ f', t.stp.flight = some f' ∧ f'.steps = [⟨69, 0, lines⟩, ⟨68, 0, head⟩]
      | .markClosed head => begins 68 0 head
      | .notePage note page bytes => begins (128 + 4 * (note % 240) + (page - 1)) 0 bytes
      | .noteStatus note _ _ => t.stp.port = .reading ⟨.noteStatus, 128 + 4 * (note % 240)⟩)

/-- R179, R181: the printer port. A character that has been sent is followed by the next while BUSY is released, and by none while
it is asserted; the last one completes the print with PRINTED for its note. BUSY asserted during a print starts the 30 s
timer, its release stops it and sends the next character; the timer's expiry abandons the print with FAILED.
A BUSY command that is no change has no effect: the model's choice (log 26). The list of characters sent is the model's own field
(log 29).
The clock that a timed event leaves is the model's choice (log 1). -/
def Obligations.PrinterPort : Prop :=
  ∀ s : State, s.Calm →
    (∀ (x y : Char) (rest : List Char), s.ntb.port.wire = some x → s.ntb.port.chars = y :: rest →
      Yields .characterSent s { s with
        outbox := s.outbox ++ [.printed x]
        ntb := { s.ntb with port := { s.ntb.port with
          wire := if s.ntb.port.busy then none else some y
          chars := if s.ntb.port.busy then y :: rest else rest } } }) ∧
    (∀ (x : Char) (h : PrintEntry), s.ntb.port.wire = some x → s.ntb.port.chars = [] → s.ntb.prints = [h] →
      ∃ t, exec .characterSent s = .next t ∧ t.outbox = s.outbox ++ [.printed x] ∧ t.ntb.prints = [] ∧
        t.ntb.port.wire = none ∧ t.ntb.port.timer = none ∧
        (s.ntb.statusList = [] → s.stp.queue.length < 12 → s.stp.flight.isSome = true →
          t.stp.queue = s.stp.queue ++ [⟨.noteStatus h.number .print 2, false⟩])) ∧
    (∀ (d : Nat) (h : PrintEntry), s.ntb.port.timer = some d → s.ntb.prints = [h] →
      ∃ t, exec .busyTimerExpiry s = .next t ∧ t.now = max s.now d ∧ t.ntb.prints = [] ∧ t.ntb.port.chars = [] ∧
        t.ntb.port.timer = none ∧
        (s.ntb.statusList = [] → s.stp.queue.length < 12 → s.stp.flight.isSome = true →
          t.stp.queue = s.stp.queue ++ [⟨.noteStatus h.number .print 4, false⟩])) ∧
    (s.ntb.port.busy = false →
      Yields (.busyChange true) s { s with ntb := { s.ntb with port := { s.ntb.port with
        busy := true
        timer := if s.sul.done = true ∧ s.ntb.prints ≠ [] then some (s.now + 30000000) else s.ntb.port.timer } } }) ∧
    (∀ (y : Char) (rest : List Char), s.ntb.port.busy = true → s.ntb.port.wire = none → s.ntb.port.chars = y :: rest →
      Yields (.busyChange false) s { s with ntb := { s.ntb with port := { s.ntb.port with
        busy := false, timer := none, wire := some y, chars := rest } } }) ∧
    (∀ asserted : Bool, s.ntb.port.busy = asserted → exec (.busyChange asserted) s = .next s)

/-! ### Laws that every step keeps -/

/-- R187: the store stays in canonical form within its 256 KiB, through every step from every state that has it so. -/
def Obligations.StoreStaysCanonical : Prop :=
  ∀ s t : State, s.StoreOk → step s = .next t → t.StoreOk

/-- R14, R21, R151, R168, R184, R189, R190: no queue grows past its size, and no two CHECKPOINT requests for one order line wait
together. -/
def Obligations.QueuesStayWithinSizes : Prop :=
  (∀ s t : State, s.QueueOk → step s = .next t → t.QueueOk) ∧ (∀ s t : State, s.ListsOk → step s = .next t → t.ListsOk)

/-- R29: through every step a lane output is on only with the permissive set whole, no latch set for the lane, no rack halt in
force and the lane in LOW-FLOW, FULL-FLOW or SLOWDOWN. -/
def Obligations.OutputsStaySafe : Prop :=
  ∀ s t : State, s.OutputsOk → step s = .next t → t.OutputsOk

/-- R2, R3, R162, R189, R209 to R211: through every step the trip record is held just while the slot is not EMPTY, the peer table
stays in station order without own station, the start-up sequence stays in its order, and no report is left due.
R1: the card reader's port times a gap just while it holds bytes of a message, and it holds no whole message.
R23: the trip idle timer runs just while the slot is RELEASED and no lane flows or closes. A step that brings this about starts it at
600 s; one that keeps it so leaves it running to the same moment. -/
def Obligations.BookkeepingKept : Prop :=
  ∀ s t : State, step s = .next t →
    (s.SlotOk → t.SlotOk) ∧ (s.PeersOk → t.PeersOk) ∧ (s.StartOk → t.StartOk) ∧ (s.noReportDue → t.noReportDue) ∧
    (s.IdleOk → t.IdleOk) ∧ (s.PortOk → t.PortOk) ∧
    (s.IdleOk → ∀ d : Nat, t.pct.idleTimer = some d →
      s.pct.idleTimer = some d ∨ (s.pct.idleTimer = none ∧ d = t.now + 600000000))
end

