-- ==== Sys2Proof/Laws/Checkpoint.lean ====
section
/-! SUPPORT. Checkpoints (R72): the record that a lane offers is the one the statements speak of, and what an offer of it does to the
store write queue while a write is in flight (R189, R190). -/

namespace Sys2Proof.Machine

/-- R105: the weighted temperature as a checkpoint carries it. -/
theorem tempNow_eq (v : Ven) (r : CompRecord) : tempNow v r = r.weighted.getD (if r.gross = 0 then
      (if v.window = [] then 1500 else max (-4000) (min 7000 (v.window.sum.tdiv v.window.length)))
    else v.sigma.tdiv r.gross.toNat) := by
  have zero : (r.gross = 0) ↔ r.gross.toNat = 0 := ⟨fun h => by rw [h]; rfl, fun h => BitVec.eq_of_toNat_eq h⟩
  unfold tempNow weightedTemp
  congr 1
  by_cases h : r.gross = 0
  · rw [if_pos h, if_pos (zero.1 h)]
    cases hw : v.window with
    | nil => rfl
    | cons a w => simp [filtered, clampTemp]
  · rw [if_neg h, if_neg (fun e => h (zero.2 e))]

/-- R192: the codes of a checkpoint by its lane's stage. -/
theorem checkCodes_eq (l : Lane) :
    l.checkCodes = (stageCode l.stage, suspendByte l.stage, checkReason l.stage l.closeReason) := by
  unfold Lane.checkCodes
  cases l.stage with
  | suspended c x => cases c <;> cases x <;> rfl
  | _ => rfl

/-- R72, R192: what a lane offers is the checkpoint of the line it holds. -/
theorem checkpointNow_eq (s : State) (i : LaneNo) : s.checkpointNow i = s.checkpoint i := by
  unfold State.checkpointNow State.checkpoint State.record State.heldLine State.lines
  cases s.pct.trip with
  | none => rfl
  | some t =>
    cases (s.lane i).line with
    | none => rfl
    | some k =>
      simp only [Option.map_some, Option.getD_some, Option.bind_some, Option.bind_eq_bind]
      cases t.lines[k]? with
      | none => rfl
      | some l => cases hr : l.record <;> simp [hr, tempNow_eq, checkCodes_eq]

/-- R190: the replacement of the one waiting checkpoint of a line, in place. -/
theorem replaceCheckpoint_eq (q : QItem) (k : Nat) (line : checkLine q.req = some k) (queue : List QItem)
    (apart : checkpointsApart queue) :
    replaceCheckpoint q queue = queue.map fun x => if checkLine x.req = some k then q else x := by
  induction queue with
  | nil => rfl
  | cons x rest ih =>
    obtain ⟨first, others⟩ := List.pairwise_cons.1 apart
    unfold replaceCheckpoint
    rw [line, List.map_cons]
    by_cases h : checkLine x.req = some k
    · rw [if_pos h, if_pos h]
      congr 1
      refine (List.map_id rest).symm.trans (List.map_congr_left fun y hy => ?_)
      rw [if_neg fun e => first y hy (by rw [h]; rfl) (h.trans e.symm)]; rfl
    · rw [if_neg h, if_neg h, ih others]

/-- With a request in flight no other starts. -/
theorem startNext_busy (s : State) (flight : s.stp.flight.isSome = true) : startNext s = s := by
  unfold startNext
  cases h : s.stp.flight with
  | none => simp [h] at flight
  | some f => rfl

/-- R189, R190: the offer of a CHECKPOINT request while a write is in flight. -/
theorem enqueue_checkpoint (k : Nat) (bytes : List Byte) (s : State) (apart : checkpointsApart s.stp.queue)
    (flight : s.stp.flight.isSome = true) :
    (enqueue ⟨.checkpoint k bytes, false⟩ s).2 = s.modStp fun p => { p with queue := withCheckpoint p.queue (k, bytes) } := by
  have line : checkLine (QItem.mk (.checkpoint k bytes) false).req = some k := rfl
  have busy (t : State) (h : t.stp.flight = s.stp.flight) : startNext t = t := startNext_busy t (h ▸ flight)
  unfold enqueue sameLineWaits
  rw [line, Option.isSome_some, Bool.true_and]
  by_cases h : (s.stp.queue.any fun x => decide (checkLine x.req = some k)) = true
  · rw [if_pos h]
    simp only [State.modStp, withCheckpoint, if_pos h, replaceCheckpoint_eq _ k line _ apart]
  · rw [if_neg h]
    by_cases room : s.stp.queue.length < Config.queueSize
    · rw [if_pos room]
      refine (busy (s.modStp fun p => { p with queue := p.queue ++ [_] }) rfl).trans ?_
      simp only [State.modStp, withCheckpoint, if_neg h, if_pos (show s.stp.queue.length < 12 from room)]
    · rw [if_neg room]
      simp only [State.modStp, withCheckpoint, if_neg h, if_neg (show ¬s.stp.queue.length < 12 from room)]

/-- R72, R189, R190: while a write is in flight, the offer of a checkpoint changes the store write queue alone. -/
theorem offerCheckpoint_eq (i : LaneNo) (s : State) (ok : s.QueueOk) (flight : s.stp.flight.isSome = true) :
    offerCheckpoint i s = s.modStp fun p => { p with queue := (s.checkpoint i).toList.foldl withCheckpoint p.queue } := by
  unfold offerCheckpoint
  rw [checkpointNow_eq]
  cases s.checkpoint i with
  | none => rfl
  | some c => exact enqueue_checkpoint c.1 c.2 s ok.2 flight

end Sys2Proof.Machine
end

