-- ==== Sys2Proof/Laws/State.lean ====
section
/-! SUPPORT. One lemma per field per update of the state record, so that no proof unfolds an update. -/

namespace Sys2Proof.Machine

variable (s : State)

@[simp] theorem modPct_now (f : Pct → Pct) : (s.modPct f).now = s.now := rfl
@[simp] theorem modPct_pct (f : Pct → Pct) : (s.modPct f).pct = f s.pct := rfl
@[simp] theorem modPct_ilm (f : Pct → Pct) : (s.modPct f).ilm = s.ilm := rfl
@[simp] theorem modPct_lanes (f : Pct → Pct) : (s.modPct f).lanes = s.lanes := rfl
@[simp] theorem modPct_injs (f : Pct → Pct) : (s.modPct f).injs = s.injs := rfl
@[simp] theorem modPct_hsu (f : Pct → Pct) : (s.modPct f).hsu = s.hsu := rfl
@[simp] theorem modPct_lif (f : Pct → Pct) : (s.modPct f).lif = s.lif := rfl
@[simp] theorem modPct_ntb (f : Pct → Pct) : (s.modPct f).ntb = s.ntb := rfl
@[simp] theorem modPct_stp (f : Pct → Pct) : (s.modPct f).stp = s.stp := rfl
@[simp] theorem modPct_sul (f : Pct → Pct) : (s.modPct f).sul = s.sul := rfl
@[simp] theorem modPct_cfg (f : Pct → Pct) : (s.modPct f).cfg = s.cfg := rfl
@[simp] theorem modPct_store (f : Pct → Pct) : (s.modPct f).store = s.store := rfl
@[simp] theorem modPct_free (f : Pct → Pct) : (s.modPct f).free = s.free := rfl
@[simp] theorem modPct_crd (f : Pct → Pct) : (s.modPct f).crd = s.crd := rfl
@[simp] theorem modPct_outbox (f : Pct → Pct) : (s.modPct f).outbox = s.outbox := rfl
@[simp] theorem modPct_pending (f : Pct → Pct) : (s.modPct f).pending = s.pending := rfl
@[simp] theorem modPct_pins (f : Pct → Pct) : (s.modPct f).pins = s.pins := rfl

@[simp] theorem modIlm_now (f : Ilm → Ilm) : (s.modIlm f).now = s.now := rfl
@[simp] theorem modIlm_pct (f : Ilm → Ilm) : (s.modIlm f).pct = s.pct := rfl
@[simp] theorem modIlm_ilm (f : Ilm → Ilm) : (s.modIlm f).ilm = f s.ilm := rfl
@[simp] theorem modIlm_lanes (f : Ilm → Ilm) : (s.modIlm f).lanes = s.lanes := rfl
@[simp] theorem modIlm_injs (f : Ilm → Ilm) : (s.modIlm f).injs = s.injs := rfl
@[simp] theorem modIlm_hsu (f : Ilm → Ilm) : (s.modIlm f).hsu = s.hsu := rfl
@[simp] theorem modIlm_lif (f : Ilm → Ilm) : (s.modIlm f).lif = s.lif := rfl
@[simp] theorem modIlm_ntb (f : Ilm → Ilm) : (s.modIlm f).ntb = s.ntb := rfl
@[simp] theorem modIlm_stp (f : Ilm → Ilm) : (s.modIlm f).stp = s.stp := rfl
@[simp] theorem modIlm_sul (f : Ilm → Ilm) : (s.modIlm f).sul = s.sul := rfl
@[simp] theorem modIlm_cfg (f : Ilm → Ilm) : (s.modIlm f).cfg = s.cfg := rfl
@[simp] theorem modIlm_store (f : Ilm → Ilm) : (s.modIlm f).store = s.store := rfl
@[simp] theorem modIlm_free (f : Ilm → Ilm) : (s.modIlm f).free = s.free := rfl
@[simp] theorem modIlm_crd (f : Ilm → Ilm) : (s.modIlm f).crd = s.crd := rfl
@[simp] theorem modIlm_outbox (f : Ilm → Ilm) : (s.modIlm f).outbox = s.outbox := rfl
@[simp] theorem modIlm_pending (f : Ilm → Ilm) : (s.modIlm f).pending = s.pending := rfl
@[simp] theorem modIlm_pins (f : Ilm → Ilm) : (s.modIlm f).pins = s.pins := rfl

@[simp] theorem modHsu_now (f : Hsu → Hsu) : (s.modHsu f).now = s.now := rfl
@[simp] theorem modHsu_pct (f : Hsu → Hsu) : (s.modHsu f).pct = s.pct := rfl
@[simp] theorem modHsu_ilm (f : Hsu → Hsu) : (s.modHsu f).ilm = s.ilm := rfl
@[simp] theorem modHsu_lanes (f : Hsu → Hsu) : (s.modHsu f).lanes = s.lanes := rfl
@[simp] theorem modHsu_injs (f : Hsu → Hsu) : (s.modHsu f).injs = s.injs := rfl
@[simp] theorem modHsu_hsu (f : Hsu → Hsu) : (s.modHsu f).hsu = f s.hsu := rfl
@[simp] theorem modHsu_lif (f : Hsu → Hsu) : (s.modHsu f).lif = s.lif := rfl
@[simp] theorem modHsu_ntb (f : Hsu → Hsu) : (s.modHsu f).ntb = s.ntb := rfl
@[simp] theorem modHsu_stp (f : Hsu → Hsu) : (s.modHsu f).stp = s.stp := rfl
@[simp] theorem modHsu_sul (f : Hsu → Hsu) : (s.modHsu f).sul = s.sul := rfl
@[simp] theorem modHsu_cfg (f : Hsu → Hsu) : (s.modHsu f).cfg = s.cfg := rfl
@[simp] theorem modHsu_store (f : Hsu → Hsu) : (s.modHsu f).store = s.store := rfl
@[simp] theorem modHsu_free (f : Hsu → Hsu) : (s.modHsu f).free = s.free := rfl
@[simp] theorem modHsu_crd (f : Hsu → Hsu) : (s.modHsu f).crd = s.crd := rfl
@[simp] theorem modHsu_outbox (f : Hsu → Hsu) : (s.modHsu f).outbox = s.outbox := rfl
@[simp] theorem modHsu_pending (f : Hsu → Hsu) : (s.modHsu f).pending = s.pending := rfl
@[simp] theorem modHsu_pins (f : Hsu → Hsu) : (s.modHsu f).pins = s.pins := rfl

@[simp] theorem modLif_now (f : Lif → Lif) : (s.modLif f).now = s.now := rfl
@[simp] theorem modLif_pct (f : Lif → Lif) : (s.modLif f).pct = s.pct := rfl
@[simp] theorem modLif_ilm (f : Lif → Lif) : (s.modLif f).ilm = s.ilm := rfl
@[simp] theorem modLif_lanes (f : Lif → Lif) : (s.modLif f).lanes = s.lanes := rfl
@[simp] theorem modLif_injs (f : Lif → Lif) : (s.modLif f).injs = s.injs := rfl
@[simp] theorem modLif_hsu (f : Lif → Lif) : (s.modLif f).hsu = s.hsu := rfl
@[simp] theorem modLif_lif (f : Lif → Lif) : (s.modLif f).lif = f s.lif := rfl
@[simp] theorem modLif_ntb (f : Lif → Lif) : (s.modLif f).ntb = s.ntb := rfl
@[simp] theorem modLif_stp (f : Lif → Lif) : (s.modLif f).stp = s.stp := rfl
@[simp] theorem modLif_sul (f : Lif → Lif) : (s.modLif f).sul = s.sul := rfl
@[simp] theorem modLif_cfg (f : Lif → Lif) : (s.modLif f).cfg = s.cfg := rfl
@[simp] theorem modLif_store (f : Lif → Lif) : (s.modLif f).store = s.store := rfl
@[simp] theorem modLif_free (f : Lif → Lif) : (s.modLif f).free = s.free := rfl
@[simp] theorem modLif_crd (f : Lif → Lif) : (s.modLif f).crd = s.crd := rfl
@[simp] theorem modLif_outbox (f : Lif → Lif) : (s.modLif f).outbox = s.outbox := rfl
@[simp] theorem modLif_pending (f : Lif → Lif) : (s.modLif f).pending = s.pending := rfl
@[simp] theorem modLif_pins (f : Lif → Lif) : (s.modLif f).pins = s.pins := rfl

@[simp] theorem modNtb_now (f : Ntb → Ntb) : (s.modNtb f).now = s.now := rfl
@[simp] theorem modNtb_pct (f : Ntb → Ntb) : (s.modNtb f).pct = s.pct := rfl
@[simp] theorem modNtb_ilm (f : Ntb → Ntb) : (s.modNtb f).ilm = s.ilm := rfl
@[simp] theorem modNtb_lanes (f : Ntb → Ntb) : (s.modNtb f).lanes = s.lanes := rfl
@[simp] theorem modNtb_injs (f : Ntb → Ntb) : (s.modNtb f).injs = s.injs := rfl
@[simp] theorem modNtb_hsu (f : Ntb → Ntb) : (s.modNtb f).hsu = s.hsu := rfl
@[simp] theorem modNtb_lif (f : Ntb → Ntb) : (s.modNtb f).lif = s.lif := rfl
@[simp] theorem modNtb_ntb (f : Ntb → Ntb) : (s.modNtb f).ntb = f s.ntb := rfl
@[simp] theorem modNtb_stp (f : Ntb → Ntb) : (s.modNtb f).stp = s.stp := rfl
@[simp] theorem modNtb_sul (f : Ntb → Ntb) : (s.modNtb f).sul = s.sul := rfl
@[simp] theorem modNtb_cfg (f : Ntb → Ntb) : (s.modNtb f).cfg = s.cfg := rfl
@[simp] theorem modNtb_store (f : Ntb → Ntb) : (s.modNtb f).store = s.store := rfl
@[simp] theorem modNtb_free (f : Ntb → Ntb) : (s.modNtb f).free = s.free := rfl
@[simp] theorem modNtb_crd (f : Ntb → Ntb) : (s.modNtb f).crd = s.crd := rfl
@[simp] theorem modNtb_outbox (f : Ntb → Ntb) : (s.modNtb f).outbox = s.outbox := rfl
@[simp] theorem modNtb_pending (f : Ntb → Ntb) : (s.modNtb f).pending = s.pending := rfl
@[simp] theorem modNtb_pins (f : Ntb → Ntb) : (s.modNtb f).pins = s.pins := rfl

@[simp] theorem modStp_now (f : Stp → Stp) : (s.modStp f).now = s.now := rfl
@[simp] theorem modStp_pct (f : Stp → Stp) : (s.modStp f).pct = s.pct := rfl
@[simp] theorem modStp_ilm (f : Stp → Stp) : (s.modStp f).ilm = s.ilm := rfl
@[simp] theorem modStp_lanes (f : Stp → Stp) : (s.modStp f).lanes = s.lanes := rfl
@[simp] theorem modStp_injs (f : Stp → Stp) : (s.modStp f).injs = s.injs := rfl
@[simp] theorem modStp_hsu (f : Stp → Stp) : (s.modStp f).hsu = s.hsu := rfl
@[simp] theorem modStp_lif (f : Stp → Stp) : (s.modStp f).lif = s.lif := rfl
@[simp] theorem modStp_ntb (f : Stp → Stp) : (s.modStp f).ntb = s.ntb := rfl
@[simp] theorem modStp_stp (f : Stp → Stp) : (s.modStp f).stp = f s.stp := rfl
@[simp] theorem modStp_sul (f : Stp → Stp) : (s.modStp f).sul = s.sul := rfl
@[simp] theorem modStp_cfg (f : Stp → Stp) : (s.modStp f).cfg = s.cfg := rfl
@[simp] theorem modStp_store (f : Stp → Stp) : (s.modStp f).store = s.store := rfl
@[simp] theorem modStp_free (f : Stp → Stp) : (s.modStp f).free = s.free := rfl
@[simp] theorem modStp_crd (f : Stp → Stp) : (s.modStp f).crd = s.crd := rfl
@[simp] theorem modStp_outbox (f : Stp → Stp) : (s.modStp f).outbox = s.outbox := rfl
@[simp] theorem modStp_pending (f : Stp → Stp) : (s.modStp f).pending = s.pending := rfl
@[simp] theorem modStp_pins (f : Stp → Stp) : (s.modStp f).pins = s.pins := rfl

@[simp] theorem modSul_now (f : Sul → Sul) : (s.modSul f).now = s.now := rfl
@[simp] theorem modSul_pct (f : Sul → Sul) : (s.modSul f).pct = s.pct := rfl
@[simp] theorem modSul_ilm (f : Sul → Sul) : (s.modSul f).ilm = s.ilm := rfl
@[simp] theorem modSul_lanes (f : Sul → Sul) : (s.modSul f).lanes = s.lanes := rfl
@[simp] theorem modSul_injs (f : Sul → Sul) : (s.modSul f).injs = s.injs := rfl
@[simp] theorem modSul_hsu (f : Sul → Sul) : (s.modSul f).hsu = s.hsu := rfl
@[simp] theorem modSul_lif (f : Sul → Sul) : (s.modSul f).lif = s.lif := rfl
@[simp] theorem modSul_ntb (f : Sul → Sul) : (s.modSul f).ntb = s.ntb := rfl
@[simp] theorem modSul_stp (f : Sul → Sul) : (s.modSul f).stp = s.stp := rfl
@[simp] theorem modSul_sul (f : Sul → Sul) : (s.modSul f).sul = f s.sul := rfl
@[simp] theorem modSul_cfg (f : Sul → Sul) : (s.modSul f).cfg = s.cfg := rfl
@[simp] theorem modSul_store (f : Sul → Sul) : (s.modSul f).store = s.store := rfl
@[simp] theorem modSul_free (f : Sul → Sul) : (s.modSul f).free = s.free := rfl
@[simp] theorem modSul_crd (f : Sul → Sul) : (s.modSul f).crd = s.crd := rfl
@[simp] theorem modSul_outbox (f : Sul → Sul) : (s.modSul f).outbox = s.outbox := rfl
@[simp] theorem modSul_pending (f : Sul → Sul) : (s.modSul f).pending = s.pending := rfl
@[simp] theorem modSul_pins (f : Sul → Sul) : (s.modSul f).pins = s.pins := rfl

@[simp] theorem modLane_now (i : LaneNo) (f : Lane → Lane) : (s.modLane i f).now = s.now := rfl
@[simp] theorem modLane_pct (i : LaneNo) (f : Lane → Lane) : (s.modLane i f).pct = s.pct := rfl
@[simp] theorem modLane_ilm (i : LaneNo) (f : Lane → Lane) : (s.modLane i f).ilm = s.ilm := rfl
@[simp] theorem modLane_lanes (i : LaneNo) (f : Lane → Lane) : (s.modLane i f).lanes = s.lanes.set i (f s.lanes[i]) := rfl
@[simp] theorem modLane_injs (i : LaneNo) (f : Lane → Lane) : (s.modLane i f).injs = s.injs := rfl
@[simp] theorem modLane_hsu (i : LaneNo) (f : Lane → Lane) : (s.modLane i f).hsu = s.hsu := rfl
@[simp] theorem modLane_lif (i : LaneNo) (f : Lane → Lane) : (s.modLane i f).lif = s.lif := rfl
@[simp] theorem modLane_ntb (i : LaneNo) (f : Lane → Lane) : (s.modLane i f).ntb = s.ntb := rfl
@[simp] theorem modLane_stp (i : LaneNo) (f : Lane → Lane) : (s.modLane i f).stp = s.stp := rfl
@[simp] theorem modLane_sul (i : LaneNo) (f : Lane → Lane) : (s.modLane i f).sul = s.sul := rfl
@[simp] theorem modLane_cfg (i : LaneNo) (f : Lane → Lane) : (s.modLane i f).cfg = s.cfg := rfl
@[simp] theorem modLane_store (i : LaneNo) (f : Lane → Lane) : (s.modLane i f).store = s.store := rfl
@[simp] theorem modLane_free (i : LaneNo) (f : Lane → Lane) : (s.modLane i f).free = s.free := rfl
@[simp] theorem modLane_crd (i : LaneNo) (f : Lane → Lane) : (s.modLane i f).crd = s.crd := rfl
@[simp] theorem modLane_outbox (i : LaneNo) (f : Lane → Lane) : (s.modLane i f).outbox = s.outbox := rfl
@[simp] theorem modLane_pending (i : LaneNo) (f : Lane → Lane) : (s.modLane i f).pending = s.pending := rfl
@[simp] theorem modLane_pins (i : LaneNo) (f : Lane → Lane) : (s.modLane i f).pins = s.pins := rfl

@[simp] theorem modPiu_now (i : LaneNo) (f : Piu → Piu) : (s.modPiu i f).now = s.now := rfl
@[simp] theorem modPiu_pct (i : LaneNo) (f : Piu → Piu) : (s.modPiu i f).pct = s.pct := rfl
@[simp] theorem modPiu_ilm (i : LaneNo) (f : Piu → Piu) : (s.modPiu i f).ilm = s.ilm := rfl
@[simp] theorem modPiu_injs (i : LaneNo) (f : Piu → Piu) : (s.modPiu i f).injs = s.injs := rfl
@[simp] theorem modPiu_hsu (i : LaneNo) (f : Piu → Piu) : (s.modPiu i f).hsu = s.hsu := rfl
@[simp] theorem modPiu_lif (i : LaneNo) (f : Piu → Piu) : (s.modPiu i f).lif = s.lif := rfl
@[simp] theorem modPiu_ntb (i : LaneNo) (f : Piu → Piu) : (s.modPiu i f).ntb = s.ntb := rfl
@[simp] theorem modPiu_stp (i : LaneNo) (f : Piu → Piu) : (s.modPiu i f).stp = s.stp := rfl
@[simp] theorem modPiu_sul (i : LaneNo) (f : Piu → Piu) : (s.modPiu i f).sul = s.sul := rfl
@[simp] theorem modPiu_cfg (i : LaneNo) (f : Piu → Piu) : (s.modPiu i f).cfg = s.cfg := rfl
@[simp] theorem modPiu_store (i : LaneNo) (f : Piu → Piu) : (s.modPiu i f).store = s.store := rfl
@[simp] theorem modPiu_free (i : LaneNo) (f : Piu → Piu) : (s.modPiu i f).free = s.free := rfl
@[simp] theorem modPiu_crd (i : LaneNo) (f : Piu → Piu) : (s.modPiu i f).crd = s.crd := rfl
@[simp] theorem modPiu_outbox (i : LaneNo) (f : Piu → Piu) : (s.modPiu i f).outbox = s.outbox := rfl
@[simp] theorem modPiu_pending (i : LaneNo) (f : Piu → Piu) : (s.modPiu i f).pending = s.pending := rfl
@[simp] theorem modPiu_pins (i : LaneNo) (f : Piu → Piu) : (s.modPiu i f).pins = s.pins := rfl

@[simp] theorem modVen_now (i : LaneNo) (f : Ven → Ven) : (s.modVen i f).now = s.now := rfl
@[simp] theorem modVen_pct (i : LaneNo) (f : Ven → Ven) : (s.modVen i f).pct = s.pct := rfl
@[simp] theorem modVen_ilm (i : LaneNo) (f : Ven → Ven) : (s.modVen i f).ilm = s.ilm := rfl
@[simp] theorem modVen_injs (i : LaneNo) (f : Ven → Ven) : (s.modVen i f).injs = s.injs := rfl
@[simp] theorem modVen_hsu (i : LaneNo) (f : Ven → Ven) : (s.modVen i f).hsu = s.hsu := rfl
@[simp] theorem modVen_lif (i : LaneNo) (f : Ven → Ven) : (s.modVen i f).lif = s.lif := rfl
@[simp] theorem modVen_ntb (i : LaneNo) (f : Ven → Ven) : (s.modVen i f).ntb = s.ntb := rfl
@[simp] theorem modVen_stp (i : LaneNo) (f : Ven → Ven) : (s.modVen i f).stp = s.stp := rfl
@[simp] theorem modVen_sul (i : LaneNo) (f : Ven → Ven) : (s.modVen i f).sul = s.sul := rfl
@[simp] theorem modVen_cfg (i : LaneNo) (f : Ven → Ven) : (s.modVen i f).cfg = s.cfg := rfl
@[simp] theorem modVen_store (i : LaneNo) (f : Ven → Ven) : (s.modVen i f).store = s.store := rfl
@[simp] theorem modVen_free (i : LaneNo) (f : Ven → Ven) : (s.modVen i f).free = s.free := rfl
@[simp] theorem modVen_crd (i : LaneNo) (f : Ven → Ven) : (s.modVen i f).crd = s.crd := rfl
@[simp] theorem modVen_outbox (i : LaneNo) (f : Ven → Ven) : (s.modVen i f).outbox = s.outbox := rfl
@[simp] theorem modVen_pending (i : LaneNo) (f : Ven → Ven) : (s.modVen i f).pending = s.pending := rfl
@[simp] theorem modVen_pins (i : LaneNo) (f : Ven → Ven) : (s.modVen i f).pins = s.pins := rfl

@[simp] theorem modInj_now (j : InjNo) (f : Injector → Injector) : (s.modInj j f).now = s.now := rfl
@[simp] theorem modInj_pct (j : InjNo) (f : Injector → Injector) : (s.modInj j f).pct = s.pct := rfl
@[simp] theorem modInj_ilm (j : InjNo) (f : Injector → Injector) : (s.modInj j f).ilm = s.ilm := rfl
@[simp] theorem modInj_lanes (j : InjNo) (f : Injector → Injector) : (s.modInj j f).lanes = s.lanes := rfl
@[simp] theorem modInj_injs (j : InjNo) (f : Injector → Injector) : (s.modInj j f).injs = s.injs.set j (f s.injs[j]) := rfl
@[simp] theorem modInj_hsu (j : InjNo) (f : Injector → Injector) : (s.modInj j f).hsu = s.hsu := rfl
@[simp] theorem modInj_lif (j : InjNo) (f : Injector → Injector) : (s.modInj j f).lif = s.lif := rfl
@[simp] theorem modInj_ntb (j : InjNo) (f : Injector → Injector) : (s.modInj j f).ntb = s.ntb := rfl
@[simp] theorem modInj_stp (j : InjNo) (f : Injector → Injector) : (s.modInj j f).stp = s.stp := rfl
@[simp] theorem modInj_sul (j : InjNo) (f : Injector → Injector) : (s.modInj j f).sul = s.sul := rfl
@[simp] theorem modInj_cfg (j : InjNo) (f : Injector → Injector) : (s.modInj j f).cfg = s.cfg := rfl
@[simp] theorem modInj_store (j : InjNo) (f : Injector → Injector) : (s.modInj j f).store = s.store := rfl
@[simp] theorem modInj_free (j : InjNo) (f : Injector → Injector) : (s.modInj j f).free = s.free := rfl
@[simp] theorem modInj_crd (j : InjNo) (f : Injector → Injector) : (s.modInj j f).crd = s.crd := rfl
@[simp] theorem modInj_outbox (j : InjNo) (f : Injector → Injector) : (s.modInj j f).outbox = s.outbox := rfl
@[simp] theorem modInj_pending (j : InjNo) (f : Injector → Injector) : (s.modInj j f).pending = s.pending := rfl
@[simp] theorem modInj_pins (j : InjNo) (f : Injector → Injector) : (s.modInj j f).pins = s.pins := rfl

@[simp] theorem modTrip_now (f : Trip → Trip) : (s.modTrip f).now = s.now := rfl
@[simp] theorem modTrip_ilm (f : Trip → Trip) : (s.modTrip f).ilm = s.ilm := rfl
@[simp] theorem modTrip_lanes (f : Trip → Trip) : (s.modTrip f).lanes = s.lanes := rfl
@[simp] theorem modTrip_injs (f : Trip → Trip) : (s.modTrip f).injs = s.injs := rfl
@[simp] theorem modTrip_hsu (f : Trip → Trip) : (s.modTrip f).hsu = s.hsu := rfl
@[simp] theorem modTrip_lif (f : Trip → Trip) : (s.modTrip f).lif = s.lif := rfl
@[simp] theorem modTrip_ntb (f : Trip → Trip) : (s.modTrip f).ntb = s.ntb := rfl
@[simp] theorem modTrip_stp (f : Trip → Trip) : (s.modTrip f).stp = s.stp := rfl
@[simp] theorem modTrip_sul (f : Trip → Trip) : (s.modTrip f).sul = s.sul := rfl
@[simp] theorem modTrip_cfg (f : Trip → Trip) : (s.modTrip f).cfg = s.cfg := rfl
@[simp] theorem modTrip_store (f : Trip → Trip) : (s.modTrip f).store = s.store := rfl
@[simp] theorem modTrip_free (f : Trip → Trip) : (s.modTrip f).free = s.free := rfl
@[simp] theorem modTrip_crd (f : Trip → Trip) : (s.modTrip f).crd = s.crd := rfl
@[simp] theorem modTrip_outbox (f : Trip → Trip) : (s.modTrip f).outbox = s.outbox := rfl
@[simp] theorem modTrip_pending (f : Trip → Trip) : (s.modTrip f).pending = s.pending := rfl
@[simp] theorem modTrip_pins (f : Trip → Trip) : (s.modTrip f).pins = s.pins := rfl

@[simp] theorem modLine_now (k : Nat) (f : OrderLine → OrderLine) : (s.modLine k f).now = s.now := rfl
@[simp] theorem modLine_ilm (k : Nat) (f : OrderLine → OrderLine) : (s.modLine k f).ilm = s.ilm := rfl
@[simp] theorem modLine_lanes (k : Nat) (f : OrderLine → OrderLine) : (s.modLine k f).lanes = s.lanes := rfl
@[simp] theorem modLine_injs (k : Nat) (f : OrderLine → OrderLine) : (s.modLine k f).injs = s.injs := rfl
@[simp] theorem modLine_hsu (k : Nat) (f : OrderLine → OrderLine) : (s.modLine k f).hsu = s.hsu := rfl
@[simp] theorem modLine_lif (k : Nat) (f : OrderLine → OrderLine) : (s.modLine k f).lif = s.lif := rfl
@[simp] theorem modLine_ntb (k : Nat) (f : OrderLine → OrderLine) : (s.modLine k f).ntb = s.ntb := rfl
@[simp] theorem modLine_stp (k : Nat) (f : OrderLine → OrderLine) : (s.modLine k f).stp = s.stp := rfl
@[simp] theorem modLine_sul (k : Nat) (f : OrderLine → OrderLine) : (s.modLine k f).sul = s.sul := rfl
@[simp] theorem modLine_cfg (k : Nat) (f : OrderLine → OrderLine) : (s.modLine k f).cfg = s.cfg := rfl
@[simp] theorem modLine_store (k : Nat) (f : OrderLine → OrderLine) : (s.modLine k f).store = s.store := rfl
@[simp] theorem modLine_free (k : Nat) (f : OrderLine → OrderLine) : (s.modLine k f).free = s.free := rfl
@[simp] theorem modLine_crd (k : Nat) (f : OrderLine → OrderLine) : (s.modLine k f).crd = s.crd := rfl
@[simp] theorem modLine_outbox (k : Nat) (f : OrderLine → OrderLine) : (s.modLine k f).outbox = s.outbox := rfl
@[simp] theorem modLine_pending (k : Nat) (f : OrderLine → OrderLine) : (s.modLine k f).pending = s.pending := rfl
@[simp] theorem modLine_pins (k : Nat) (f : OrderLine → OrderLine) : (s.modLine k f).pins = s.pins := rfl

@[simp] theorem modTripFlags_now (f : TripFlags → TripFlags) : (s.modTripFlags f).now = s.now := rfl
@[simp] theorem modTripFlags_ilm (f : TripFlags → TripFlags) : (s.modTripFlags f).ilm = s.ilm := rfl
@[simp] theorem modTripFlags_lanes (f : TripFlags → TripFlags) : (s.modTripFlags f).lanes = s.lanes := rfl
@[simp] theorem modTripFlags_injs (f : TripFlags → TripFlags) : (s.modTripFlags f).injs = s.injs := rfl
@[simp] theorem modTripFlags_hsu (f : TripFlags → TripFlags) : (s.modTripFlags f).hsu = s.hsu := rfl
@[simp] theorem modTripFlags_lif (f : TripFlags → TripFlags) : (s.modTripFlags f).lif = s.lif := rfl
@[simp] theorem modTripFlags_ntb (f : TripFlags → TripFlags) : (s.modTripFlags f).ntb = s.ntb := rfl
@[simp] theorem modTripFlags_stp (f : TripFlags → TripFlags) : (s.modTripFlags f).stp = s.stp := rfl
@[simp] theorem modTripFlags_sul (f : TripFlags → TripFlags) : (s.modTripFlags f).sul = s.sul := rfl
@[simp] theorem modTripFlags_cfg (f : TripFlags → TripFlags) : (s.modTripFlags f).cfg = s.cfg := rfl
@[simp] theorem modTripFlags_store (f : TripFlags → TripFlags) : (s.modTripFlags f).store = s.store := rfl
@[simp] theorem modTripFlags_free (f : TripFlags → TripFlags) : (s.modTripFlags f).free = s.free := rfl
@[simp] theorem modTripFlags_crd (f : TripFlags → TripFlags) : (s.modTripFlags f).crd = s.crd := rfl
@[simp] theorem modTripFlags_outbox (f : TripFlags → TripFlags) : (s.modTripFlags f).outbox = s.outbox := rfl
@[simp] theorem modTripFlags_pending (f : TripFlags → TripFlags) : (s.modTripFlags f).pending = s.pending := rfl
@[simp] theorem modTripFlags_pins (f : TripFlags → TripFlags) : (s.modTripFlags f).pins = s.pins := rfl

@[simp] theorem emit_now (o : Output) : (s.emit o).now = s.now := rfl
@[simp] theorem emit_pct (o : Output) : (s.emit o).pct = s.pct := rfl
@[simp] theorem emit_ilm (o : Output) : (s.emit o).ilm = s.ilm := rfl
@[simp] theorem emit_lanes (o : Output) : (s.emit o).lanes = s.lanes := rfl
@[simp] theorem emit_injs (o : Output) : (s.emit o).injs = s.injs := rfl
@[simp] theorem emit_hsu (o : Output) : (s.emit o).hsu = s.hsu := rfl
@[simp] theorem emit_lif (o : Output) : (s.emit o).lif = s.lif := rfl
@[simp] theorem emit_ntb (o : Output) : (s.emit o).ntb = s.ntb := rfl
@[simp] theorem emit_stp (o : Output) : (s.emit o).stp = s.stp := rfl
@[simp] theorem emit_sul (o : Output) : (s.emit o).sul = s.sul := rfl
@[simp] theorem emit_cfg (o : Output) : (s.emit o).cfg = s.cfg := rfl
@[simp] theorem emit_store (o : Output) : (s.emit o).store = s.store := rfl
@[simp] theorem emit_free (o : Output) : (s.emit o).free = s.free := rfl
@[simp] theorem emit_crd (o : Output) : (s.emit o).crd = s.crd := rfl
@[simp] theorem emit_outbox (o : Output) : (s.emit o).outbox = s.outbox ++ [o] := rfl
@[simp] theorem emit_pending (o : Output) : (s.emit o).pending = s.pending := rfl
@[simp] theorem emit_pins (o : Output) : (s.emit o).pins = s.pins := rfl

@[simp] theorem reach_now (d : Nat) : (s.reach d).now = max s.now d := rfl
@[simp] theorem reach_pct (d : Nat) : (s.reach d).pct = s.pct := rfl
@[simp] theorem reach_ilm (d : Nat) : (s.reach d).ilm = s.ilm := rfl
@[simp] theorem reach_lanes (d : Nat) : (s.reach d).lanes = s.lanes := rfl
@[simp] theorem reach_injs (d : Nat) : (s.reach d).injs = s.injs := rfl
@[simp] theorem reach_hsu (d : Nat) : (s.reach d).hsu = s.hsu := rfl
@[simp] theorem reach_lif (d : Nat) : (s.reach d).lif = s.lif := rfl
@[simp] theorem reach_ntb (d : Nat) : (s.reach d).ntb = s.ntb := rfl
@[simp] theorem reach_stp (d : Nat) : (s.reach d).stp = s.stp := rfl
@[simp] theorem reach_sul (d : Nat) : (s.reach d).sul = s.sul := rfl
@[simp] theorem reach_cfg (d : Nat) : (s.reach d).cfg = s.cfg := rfl
@[simp] theorem reach_store (d : Nat) : (s.reach d).store = s.store := rfl
@[simp] theorem reach_free (d : Nat) : (s.reach d).free = s.free := rfl
@[simp] theorem reach_crd (d : Nat) : (s.reach d).crd = s.crd := rfl
@[simp] theorem reach_outbox (d : Nat) : (s.reach d).outbox = s.outbox := rfl
@[simp] theorem reach_pending (d : Nat) : (s.reach d).pending = s.pending := rfl
@[simp] theorem reach_pins (d : Nat) : (s.reach d).pins = s.pins := rfl

@[simp] theorem reachCapture_now (c : Word32) : (s.reachCapture c).now = s.now + (c - s.captureTimer).toNat := rfl
@[simp] theorem reachCapture_pct (c : Word32) : (s.reachCapture c).pct = s.pct := rfl
@[simp] theorem reachCapture_ilm (c : Word32) : (s.reachCapture c).ilm = s.ilm := rfl
@[simp] theorem reachCapture_lanes (c : Word32) : (s.reachCapture c).lanes = s.lanes := rfl
@[simp] theorem reachCapture_injs (c : Word32) : (s.reachCapture c).injs = s.injs := rfl
@[simp] theorem reachCapture_hsu (c : Word32) : (s.reachCapture c).hsu = s.hsu := rfl
@[simp] theorem reachCapture_lif (c : Word32) : (s.reachCapture c).lif = s.lif := rfl
@[simp] theorem reachCapture_ntb (c : Word32) : (s.reachCapture c).ntb = s.ntb := rfl
@[simp] theorem reachCapture_stp (c : Word32) : (s.reachCapture c).stp = s.stp := rfl
@[simp] theorem reachCapture_sul (c : Word32) : (s.reachCapture c).sul = s.sul := rfl
@[simp] theorem reachCapture_cfg (c : Word32) : (s.reachCapture c).cfg = s.cfg := rfl
@[simp] theorem reachCapture_store (c : Word32) : (s.reachCapture c).store = s.store := rfl
@[simp] theorem reachCapture_free (c : Word32) : (s.reachCapture c).free = s.free := rfl
@[simp] theorem reachCapture_crd (c : Word32) : (s.reachCapture c).crd = s.crd := rfl
@[simp] theorem reachCapture_outbox (c : Word32) : (s.reachCapture c).outbox = s.outbox := rfl
@[simp] theorem reachCapture_pending (c : Word32) : (s.reachCapture c).pending = s.pending := rfl
@[simp] theorem reachCapture_pins (c : Word32) : (s.reachCapture c).pins = s.pins := rfl

@[simp] theorem modHeld_now (i : LaneNo) (f : OrderLine → OrderLine) : (s.modHeld i f).now = s.now := by
  unfold State.modHeld; split <;> rfl
@[simp] theorem modHeld_ilm (i : LaneNo) (f : OrderLine → OrderLine) : (s.modHeld i f).ilm = s.ilm := by
  unfold State.modHeld; split <;> rfl
@[simp] theorem modHeld_lanes (i : LaneNo) (f : OrderLine → OrderLine) : (s.modHeld i f).lanes = s.lanes := by
  unfold State.modHeld; split <;> rfl
@[simp] theorem modHeld_injs (i : LaneNo) (f : OrderLine → OrderLine) : (s.modHeld i f).injs = s.injs := by
  unfold State.modHeld; split <;> rfl
@[simp] theorem modHeld_hsu (i : LaneNo) (f : OrderLine → OrderLine) : (s.modHeld i f).hsu = s.hsu := by
  unfold State.modHeld; split <;> rfl
@[simp] theorem modHeld_lif (i : LaneNo) (f : OrderLine → OrderLine) : (s.modHeld i f).lif = s.lif := by
  unfold State.modHeld; split <;> rfl
@[simp] theorem modHeld_ntb (i : LaneNo) (f : OrderLine → OrderLine) : (s.modHeld i f).ntb = s.ntb := by
  unfold State.modHeld; split <;> rfl
@[simp] theorem modHeld_stp (i : LaneNo) (f : OrderLine → OrderLine) : (s.modHeld i f).stp = s.stp := by
  unfold State.modHeld; split <;> rfl
@[simp] theorem modHeld_sul (i : LaneNo) (f : OrderLine → OrderLine) : (s.modHeld i f).sul = s.sul := by
  unfold State.modHeld; split <;> rfl
@[simp] theorem modHeld_cfg (i : LaneNo) (f : OrderLine → OrderLine) : (s.modHeld i f).cfg = s.cfg := by
  unfold State.modHeld; split <;> rfl
@[simp] theorem modHeld_store (i : LaneNo) (f : OrderLine → OrderLine) : (s.modHeld i f).store = s.store := by
  unfold State.modHeld; split <;> rfl
@[simp] theorem modHeld_free (i : LaneNo) (f : OrderLine → OrderLine) : (s.modHeld i f).free = s.free := by
  unfold State.modHeld; split <;> rfl
@[simp] theorem modHeld_crd (i : LaneNo) (f : OrderLine → OrderLine) : (s.modHeld i f).crd = s.crd := by
  unfold State.modHeld; split <;> rfl
@[simp] theorem modHeld_outbox (i : LaneNo) (f : OrderLine → OrderLine) : (s.modHeld i f).outbox = s.outbox := by
  unfold State.modHeld; split <;> rfl
@[simp] theorem modHeld_pending (i : LaneNo) (f : OrderLine → OrderLine) : (s.modHeld i f).pending = s.pending := by
  unfold State.modHeld; split <;> rfl
@[simp] theorem modHeld_pins (i : LaneNo) (f : OrderLine → OrderLine) : (s.modHeld i f).pins = s.pins := by
  unfold State.modHeld; split <;> rfl

@[simp] theorem modRecord_now (i : LaneNo) (f : CompRecord → CompRecord) : (s.modRecord i f).now = s.now := modHeld_now s i _
@[simp] theorem modRecord_ilm (i : LaneNo) (f : CompRecord → CompRecord) : (s.modRecord i f).ilm = s.ilm := modHeld_ilm s i _
@[simp] theorem modRecord_lanes (i : LaneNo) (f : CompRecord → CompRecord) : (s.modRecord i f).lanes = s.lanes := modHeld_lanes s i _
@[simp] theorem modRecord_injs (i : LaneNo) (f : CompRecord → CompRecord) : (s.modRecord i f).injs = s.injs := modHeld_injs s i _
@[simp] theorem modRecord_hsu (i : LaneNo) (f : CompRecord → CompRecord) : (s.modRecord i f).hsu = s.hsu := modHeld_hsu s i _
@[simp] theorem modRecord_lif (i : LaneNo) (f : CompRecord → CompRecord) : (s.modRecord i f).lif = s.lif := modHeld_lif s i _
@[simp] theorem modRecord_ntb (i : LaneNo) (f : CompRecord → CompRecord) : (s.modRecord i f).ntb = s.ntb := modHeld_ntb s i _
@[simp] theorem modRecord_stp (i : LaneNo) (f : CompRecord → CompRecord) : (s.modRecord i f).stp = s.stp := modHeld_stp s i _
@[simp] theorem modRecord_sul (i : LaneNo) (f : CompRecord → CompRecord) : (s.modRecord i f).sul = s.sul := modHeld_sul s i _
@[simp] theorem modRecord_cfg (i : LaneNo) (f : CompRecord → CompRecord) : (s.modRecord i f).cfg = s.cfg := modHeld_cfg s i _
@[simp] theorem modRecord_store (i : LaneNo) (f : CompRecord → CompRecord) : (s.modRecord i f).store = s.store := modHeld_store s i _
@[simp] theorem modRecord_free (i : LaneNo) (f : CompRecord → CompRecord) : (s.modRecord i f).free = s.free := modHeld_free s i _
@[simp] theorem modRecord_crd (i : LaneNo) (f : CompRecord → CompRecord) : (s.modRecord i f).crd = s.crd := modHeld_crd s i _
@[simp] theorem modRecord_outbox (i : LaneNo) (f : CompRecord → CompRecord) : (s.modRecord i f).outbox = s.outbox := modHeld_outbox s i _
@[simp] theorem modRecord_pending (i : LaneNo) (f : CompRecord → CompRecord) : (s.modRecord i f).pending = s.pending := modHeld_pending s i _
@[simp] theorem modRecord_pins (i : LaneNo) (f : CompRecord → CompRecord) : (s.modRecord i f).pins = s.pins := modHeld_pins s i _

@[simp] theorem modFlags_now (i : LaneNo) (f : CompFlags → CompFlags) : (s.modFlags i f).now = s.now := modRecord_now s i _
@[simp] theorem modFlags_ilm (i : LaneNo) (f : CompFlags → CompFlags) : (s.modFlags i f).ilm = s.ilm := modRecord_ilm s i _
@[simp] theorem modFlags_lanes (i : LaneNo) (f : CompFlags → CompFlags) : (s.modFlags i f).lanes = s.lanes := modRecord_lanes s i _
@[simp] theorem modFlags_injs (i : LaneNo) (f : CompFlags → CompFlags) : (s.modFlags i f).injs = s.injs := modRecord_injs s i _
@[simp] theorem modFlags_hsu (i : LaneNo) (f : CompFlags → CompFlags) : (s.modFlags i f).hsu = s.hsu := modRecord_hsu s i _
@[simp] theorem modFlags_lif (i : LaneNo) (f : CompFlags → CompFlags) : (s.modFlags i f).lif = s.lif := modRecord_lif s i _
@[simp] theorem modFlags_ntb (i : LaneNo) (f : CompFlags → CompFlags) : (s.modFlags i f).ntb = s.ntb := modRecord_ntb s i _
@[simp] theorem modFlags_stp (i : LaneNo) (f : CompFlags → CompFlags) : (s.modFlags i f).stp = s.stp := modRecord_stp s i _
@[simp] theorem modFlags_sul (i : LaneNo) (f : CompFlags → CompFlags) : (s.modFlags i f).sul = s.sul := modRecord_sul s i _
@[simp] theorem modFlags_cfg (i : LaneNo) (f : CompFlags → CompFlags) : (s.modFlags i f).cfg = s.cfg := modRecord_cfg s i _
@[simp] theorem modFlags_store (i : LaneNo) (f : CompFlags → CompFlags) : (s.modFlags i f).store = s.store := modRecord_store s i _
@[simp] theorem modFlags_free (i : LaneNo) (f : CompFlags → CompFlags) : (s.modFlags i f).free = s.free := modRecord_free s i _
@[simp] theorem modFlags_crd (i : LaneNo) (f : CompFlags → CompFlags) : (s.modFlags i f).crd = s.crd := modRecord_crd s i _
@[simp] theorem modFlags_outbox (i : LaneNo) (f : CompFlags → CompFlags) : (s.modFlags i f).outbox = s.outbox := modRecord_outbox s i _
@[simp] theorem modFlags_pending (i : LaneNo) (f : CompFlags → CompFlags) : (s.modFlags i f).pending = s.pending := modRecord_pending s i _
@[simp] theorem modFlags_pins (i : LaneNo) (f : CompFlags → CompFlags) : (s.modFlags i f).pins = s.pins := modRecord_pins s i _

@[simp] theorem modAdditive_now (i : LaneNo) (k : Nat) (f : AdditiveLine → AdditiveLine) : (s.modAdditive i k f).now = s.now := modRecord_now s i _
@[simp] theorem modAdditive_ilm (i : LaneNo) (k : Nat) (f : AdditiveLine → AdditiveLine) : (s.modAdditive i k f).ilm = s.ilm := modRecord_ilm s i _
@[simp] theorem modAdditive_lanes (i : LaneNo) (k : Nat) (f : AdditiveLine → AdditiveLine) : (s.modAdditive i k f).lanes = s.lanes := modRecord_lanes s i _
@[simp] theorem modAdditive_injs (i : LaneNo) (k : Nat) (f : AdditiveLine → AdditiveLine) : (s.modAdditive i k f).injs = s.injs := modRecord_injs s i _
@[simp] theorem modAdditive_hsu (i : LaneNo) (k : Nat) (f : AdditiveLine → AdditiveLine) : (s.modAdditive i k f).hsu = s.hsu := modRecord_hsu s i _
@[simp] theorem modAdditive_lif (i : LaneNo) (k : Nat) (f : AdditiveLine → AdditiveLine) : (s.modAdditive i k f).lif = s.lif := modRecord_lif s i _
@[simp] theorem modAdditive_ntb (i : LaneNo) (k : Nat) (f : AdditiveLine → AdditiveLine) : (s.modAdditive i k f).ntb = s.ntb := modRecord_ntb s i _
@[simp] theorem modAdditive_stp (i : LaneNo) (k : Nat) (f : AdditiveLine → AdditiveLine) : (s.modAdditive i k f).stp = s.stp := modRecord_stp s i _
@[simp] theorem modAdditive_sul (i : LaneNo) (k : Nat) (f : AdditiveLine → AdditiveLine) : (s.modAdditive i k f).sul = s.sul := modRecord_sul s i _
@[simp] theorem modAdditive_cfg (i : LaneNo) (k : Nat) (f : AdditiveLine → AdditiveLine) : (s.modAdditive i k f).cfg = s.cfg := modRecord_cfg s i _
@[simp] theorem modAdditive_store (i : LaneNo) (k : Nat) (f : AdditiveLine → AdditiveLine) : (s.modAdditive i k f).store = s.store := modRecord_store s i _
@[simp] theorem modAdditive_free (i : LaneNo) (k : Nat) (f : AdditiveLine → AdditiveLine) : (s.modAdditive i k f).free = s.free := modRecord_free s i _
@[simp] theorem modAdditive_crd (i : LaneNo) (k : Nat) (f : AdditiveLine → AdditiveLine) : (s.modAdditive i k f).crd = s.crd := modRecord_crd s i _
@[simp] theorem modAdditive_outbox (i : LaneNo) (k : Nat) (f : AdditiveLine → AdditiveLine) : (s.modAdditive i k f).outbox = s.outbox := modRecord_outbox s i _
@[simp] theorem modAdditive_pending (i : LaneNo) (k : Nat) (f : AdditiveLine → AdditiveLine) : (s.modAdditive i k f).pending = s.pending := modRecord_pending s i _
@[simp] theorem modAdditive_pins (i : LaneNo) (k : Nat) (f : AdditiveLine → AdditiveLine) : (s.modAdditive i k f).pins = s.pins := modRecord_pins s i _

/-- Reading the lane that was changed. -/
@[simp] theorem modLane_lane_self (i : LaneNo) (f : Lane → Lane) : (s.modLane i f).lane i = f (s.lane i) := by
  simp [State.lane]

/-- Reading another lane than the one that was changed. -/
theorem modLane_lane_ne (i j : LaneNo) (h : i ≠ j) (f : Lane → Lane) : (s.modLane i f).lane j = s.lane j := by
  have : i.val ≠ j.val := fun e => h (Fin.ext e)
  simp [State.lane, this]

/-- Reading the injector that was changed. -/
@[simp] theorem modInj_inj_self (j : InjNo) (f : Injector → Injector) : (s.modInj j f).inj j = f (s.inj j) := by
  simp [State.inj]

/-- Reading another injector than the one that was changed. -/
theorem modInj_inj_ne (i j : InjNo) (h : i ≠ j) (f : Injector → Injector) : (s.modInj i f).inj j = s.inj j := by
  have : i.val ≠ j.val := fun e => h (Fin.ext e)
  simp [State.inj, this]

end Sys2Proof.Machine
end

