-- ==== Sys2Proof/Laws/Kept.lean ====
section
/-! SUPPORT. What no shared operation changes: the tables, the store, the supply of free values, the waiting commands,
the input pins and the card reader's port (`State.kept`), one lemma per operation. -/

namespace Sys2Proof.Machine

variable (s : State)

@[simp] theorem modPct_kept (f : Pct → Pct) : (s.modPct f).kept = s.kept := rfl
@[simp] theorem modIlm_kept (f : Ilm → Ilm) : (s.modIlm f).kept = s.kept := rfl
@[simp] theorem modHsu_kept (f : Hsu → Hsu) : (s.modHsu f).kept = s.kept := rfl
@[simp] theorem modLif_kept (f : Lif → Lif) : (s.modLif f).kept = s.kept := rfl
@[simp] theorem modNtb_kept (f : Ntb → Ntb) : (s.modNtb f).kept = s.kept := rfl
@[simp] theorem modStp_kept (f : Stp → Stp) : (s.modStp f).kept = s.kept := rfl
@[simp] theorem modSul_kept (f : Sul → Sul) : (s.modSul f).kept = s.kept := rfl
@[simp] theorem modLane_kept (i : LaneNo) (f : Lane → Lane) : (s.modLane i f).kept = s.kept := rfl
@[simp] theorem modPiu_kept (i : LaneNo) (f : Piu → Piu) : (s.modPiu i f).kept = s.kept := rfl
@[simp] theorem modVen_kept (i : LaneNo) (f : Ven → Ven) : (s.modVen i f).kept = s.kept := rfl
@[simp] theorem modInj_kept (j : InjNo) (f : Injector → Injector) : (s.modInj j f).kept = s.kept := rfl
@[simp] theorem emit_kept (o : Output) : (s.emit o).kept = s.kept := rfl
@[simp] theorem reach_kept (d : Nat) : (s.reach d).kept = s.kept := rfl
@[simp] theorem reachCapture_kept (c : Word32) : (s.reachCapture c).kept = s.kept := rfl
@[simp] theorem modTrip_kept (f : Trip → Trip) : (s.modTrip f).kept = s.kept := rfl
@[simp] theorem modLine_kept (k : Nat) (f : OrderLine → OrderLine) : (s.modLine k f).kept = s.kept := rfl
@[simp] theorem modTripFlags_kept (f : TripFlags → TripFlags) : (s.modTripFlags f).kept = s.kept := rfl

@[simp] theorem modHeld_kept (i : LaneNo) (f : OrderLine → OrderLine) : (s.modHeld i f).kept = s.kept := by
  unfold State.modHeld; split <;> simp

@[simp] theorem modRecord_kept (i : LaneNo) (f : CompRecord → CompRecord) : (s.modRecord i f).kept = s.kept := by
  simp [State.modRecord]

@[simp] theorem modFlags_kept (i : LaneNo) (f : CompFlags → CompFlags) : (s.modFlags i f).kept = s.kept := by
  simp [State.modFlags]

@[simp] theorem modAdditive_kept (i : LaneNo) (k : Nat) (f : AdditiveLine → AdditiveLine) :
    (s.modAdditive i k f).kept = s.kept := by simp [State.modAdditive]

/-- A choice between two states that keep the same. -/
@[simp] theorem ite_kept (c : Prop) [Decidable c] (a b : State) :
    (if c then a else b).kept = if c then a.kept else b.kept := by split <;> rfl

/-- A fold of operations that each keep. -/
theorem foldl_kept {α : Type} (f : State → α → State) (h : ∀ t a, (f t a).kept = t.kept) (l : List α) (s : State) :
    (l.foldl f s).kept = s.kept := by
  induction l generalizing s with
  | nil => rfl
  | cons a rest ih => rw [List.foldl_cons, ih, h]

@[simp] theorem eachLane_kept (f : LaneNo → State → State) (h : ∀ i t, (f i t).kept = t.kept) :
    (s.eachLane f).kept = s.kept := foldl_kept _ (fun t i => h i t) _ _

@[simp] theorem askRead_kept (owner : Reader) (page : Nat) (s : State) : (askRead owner page s).kept = s.kept := rfl

@[simp] theorem askPages_kept (owner : Reader) (page n : Nat) (s : State) :
    (askPages owner page n s).kept = s.kept := by
  induction n generalizing page s with
  | zero => rfl
  | succ n ih => simp [askPages, ih]

@[simp] theorem askStatusRead_kept (q : QItem) (s : State) : (askStatusRead q s).kept = s.kept := by
  unfold askStatusRead
  split <;> simp

@[simp] theorem startNext_kept (s : State) : (startNext s).kept = s.kept := by
  unfold startNext
  split <;> simp

@[simp] theorem enqueue_kept (q : QItem) (s : State) : (enqueue q s).2.kept = s.kept := by
  unfold enqueue
  repeat' split
  all_goals simp

theorem enqueue_kept_of {q : QItem} {s t : State} {b : Bool} (h : enqueue q s = (b, t)) : t.kept = s.kept := by
  have e := enqueue_kept q s
  rwa [h] at e

@[simp] theorem portKick_kept (s : State) : (portKick s).kept = s.kept := by
  unfold portKick
  repeat' split
  all_goals simp

@[simp] theorem flightDone_kept (s : State) : (flightDone s).kept = s.kept := by simp [flightDone]

@[simp] theorem recordCopy_kept (req : WriteReq) (s : State) : (recordCopy req s).kept = s.kept := by
  unfold recordCopy
  split <;> simp

@[simp] theorem offerFrame_kept (f : TxFrame) (s : State) : (offerFrame f s).2.kept = s.kept := by
  unfold offerFrame
  repeat' split
  all_goals simp

theorem offerFrame_kept_of {f : TxFrame} {s t : State} {b : Bool} (h : offerFrame f s = (b, t)) : t.kept = s.kept := by
  have e := offerFrame_kept f s
  rwa [h] at e

@[simp] theorem requestUrgent_kept (s : State) : (requestUrgent s).kept = s.kept := by simp [requestUrgent]

@[simp] theorem statusDueNow_kept (s : State) : (statusDueNow s).kept = s.kept := by simp [statusDueNow]

@[simp] theorem requestChange_kept (s : State) : (requestChange s).kept = s.kept := by
  unfold requestChange
  repeat' split
  all_goals simp

@[simp] theorem statusMet_kept (s : State) : (statusMet s).kept = s.kept := rfl

@[simp] theorem beginAttempt_kept (quiet : Nat) (s : State) : (beginAttempt quiet s).kept = s.kept := by
  unfold beginAttempt
  repeat' split
  all_goals rfl

@[simp] theorem nextCurrent_kept (s : State) : (nextCurrent s).kept = s.kept := rfl

@[simp] theorem withdrawFrame_kept (permit : Word32) (s : State) : (withdrawFrame permit s).kept = s.kept := rfl

@[simp] theorem tablePeer_kept (sender : Nat) (p : Payload) (s : State) :
    (tablePeer sender p s).kept = s.kept := by
  unfold tablePeer
  split <;> simp

@[simp] theorem adoptRackTime_kept (p : Payload) (s : State) : (adoptRackTime p s).kept = s.kept := by
  unfold adoptRackTime
  split <;> simp

@[simp] theorem retarget_kept (i : LaneNo) (s : State) : (retarget i s).kept = s.kept := rfl

@[simp] theorem rise_kept (i : LaneNo) (s : State) : (rise i s).kept = s.kept := by
  unfold rise
  split <;> simp

@[simp] theorem outputsOff_kept (i : LaneNo) (s : State) : (outputsOff i s).kept = s.kept := rfl

@[simp] theorem steerNow_kept (i : LaneNo) (s : State) : (steerNow i s).kept = s.kept := by simp [steerNow]

@[simp] theorem offerCheckpoint_kept (i : LaneNo) (s : State) : (offerCheckpoint i s).kept = s.kept := by
  unfold offerCheckpoint
  split <;> simp

@[simp] theorem setStage_kept (i : LaneNo) (st : Stage) (s : State) : (setStage i st s).kept = s.kept := rfl

@[simp] theorem setStatus_kept (i : LaneNo) (st : LineStatus) (s : State) : (setStatus i st s).kept = s.kept := by simp [setStatus]

@[simp] theorem closeDecision_kept (i : LaneNo) (reason : EndReason) (s : State) :
    (closeDecision i reason s).kept = s.kept := rfl

@[simp] theorem takeFault_kept (i : LaneNo) (reason : EndReason) (s : State) :
    (takeFault i reason s).kept = s.kept := by
  unfold takeFault
  split <;> simp

@[simp] theorem suspendFlowing_kept (i : LaneNo) (cause : Cause) (left : LeftStage) (s : State) :
    (suspendFlowing i cause left s).kept = s.kept := by simp [suspendFlowing]

@[simp] theorem suspendPrimed_kept (i : LaneNo) (s : State) : (suspendPrimed i s).kept = s.kept := by simp [suspendPrimed]

@[simp] theorem suspendLane_kept (i : LaneNo) (cause : Cause) (s : State) :
    (suspendLane i cause s).kept = s.kept := by
  unfold suspendLane
  split <;> simp

@[simp] theorem toIdle_kept (i : LaneNo) (s : State) : (toIdle i s).kept = s.kept := rfl

@[simp] theorem primingCheck_kept (i : LaneNo) (s : State) : (primingCheck i s).kept = s.kept := by
  unfold primingCheck
  repeat' split
  all_goals simp

@[simp] theorem giveLimit_kept (i : LaneNo) (s : State) : (giveLimit i s).kept = s.kept := by simp [giveLimit]

@[simp] theorem eachInjOf_kept (i : LaneNo) (f : InjNo → State → State) (h : ∀ j t, (f j t).kept = t.kept)
    (s : State) : (eachInjOf i f s).kept = s.kept := foldl_kept _ (fun t j => by simp [h]) _ _

@[simp] theorem renewInjectors_kept (i : LaneNo) (s : State) : (renewInjectors i s).kept = s.kept := by
  unfold renewInjectors
  exact eachInjOf_kept i _ (fun j t => modInj_kept t j renewInjector) s

@[simp] theorem startStroke_kept (final : Bool) (i : LaneNo) (k : Nat) (j : InjNo) (s : State) :
    (startStroke final i k j s).kept = s.kept := by
  unfold startStroke
  split <;> simp

@[simp] theorem considerLine_kept (i : LaneNo) (k : Nat) (s : State) : (considerLine i k s).kept = s.kept := by
  unfold considerLine
  split <;> simp

@[simp] theorem considerLane_kept (i : LaneNo) (s : State) : (considerLane i s).kept = s.kept := by simp [considerLane, foldl_kept]

@[simp] theorem dosePass_kept (i : LaneNo) (dg : Nat) (s : State) : (dosePass i dg s).kept = s.kept := by simp [dosePass]

@[simp] theorem tryEndCycle_kept (j : InjNo) (s : State) : (tryEndCycle j s).kept = s.kept := by
  unfold tryEndCycle
  repeat' split
  all_goals simp [foldl_kept]

@[simp] theorem orderFault_kept (i : LaneNo) (s : State) : (orderFault i s).kept = s.kept := by simp [orderFault]

@[simp] theorem injectorFault_kept (sv : Serving) (j : InjNo) (mandatory : Bool) (s : State) :
    (injectorFault sv j mandatory s).kept = s.kept := by simp [injectorFault]

@[simp] theorem judge_kept (j : InjNo) (pulse : Bool) (s : State) : (judge j pulse s).kept = s.kept := by
  unfold judge
  split
  · rfl
  · dsimp only
    split
    · simp
    · split <;> simp

@[simp] theorem decideFinal_kept (i : LaneNo) (s : State) : (decideFinal i s).kept = s.kept := by simp [decideFinal]

@[simp] theorem tryCloseLine_kept (i : LaneNo) (k : Nat) (s : State) : (tryCloseLine i k s).kept = s.kept := by
  unfold tryCloseLine
  split <;> simp

@[simp] theorem tryCloseLines_kept (i : LaneNo) (s : State) : (tryCloseLines i s).kept = s.kept := by simp [tryCloseLines, foldl_kept]

@[simp] theorem closeAllLines_kept (i : LaneNo) (s : State) : (closeAllLines i s).kept = s.kept := by
  unfold closeAllLines
  dsimp only
  rw [foldl_kept _ (fun t j => modInj_kept t j _)]
  simp

@[simp] theorem offerPages_kept (n : Nat) (s : State) : (offerPages n s).kept = s.kept := by
  induction n generalizing s with
  | zero => rfl
  | succ n ih =>
    rw [offerPages]
    repeat' split
    all_goals first | rfl | simp_all [enqueue_kept_of ‹_›]

@[simp] theorem beginNote_kept (h : NoteHead) (lines : List OrderLine) (recovered : Bool) (s : State) :
    (beginNote h lines recovered s).kept = s.kept := by simp [beginNote]

@[simp] theorem tryBuild_kept (s : State) : (tryBuild s).kept = s.kept := by
  unfold tryBuild
  split <;> simp

@[simp] theorem joinStatus_kept (r : StatusReq) (s : State) : (joinStatus r s).kept = s.kept := by simp [joinStatus]

@[simp] theorem requestStatus_kept (note : Nat) (f : StatusField) (code : Nat) (s : State) :
    (requestStatus note f code s).kept = s.kept := by
  unfold requestStatus
  repeat' split
  all_goals first | simp; done | simp [enqueue_kept_of ‹_›]

@[simp] theorem offerStatuses_kept (n : Nat) (s : State) : (offerStatuses n s).kept = s.kept := by
  induction n generalizing s with
  | zero => rfl
  | succ n ih =>
    rw [offerStatuses]
    repeat' split
    all_goals first | rfl | simp_all [enqueue_kept_of ‹_›]

@[simp] theorem ntbFreeSlot_kept (s : State) : (ntbFreeSlot s).kept = s.kept := by simp [ntbFreeSlot]

@[simp] theorem sendNext_kept (s : State) : (sendNext s).kept = s.kept := by
  unfold sendNext
  split <;> simp

@[simp] theorem beginPrint_kept (s : State) : (beginPrint s).kept = s.kept := by
  unfold beginPrint
  split <;> simp

@[simp] theorem joinPrints_kept (e : PrintEntry) (s : State) : (joinPrints e s).kept = s.kept := by
  unfold joinPrints
  split <;> simp

@[simp] theorem finishPrint_kept (code : Nat) (s : State) : (finishPrint code s).kept = s.kept := by
  unfold finishPrint
  split <;> simp

@[simp] theorem noteReady_kept (note permit : Word32) (s : State) : (noteReady note permit s).kept = s.kept := by
  unfold noteReady
  repeat' split
  all_goals first | rfl | simp [offerFrame_kept_of ‹_›]

@[simp] theorem offerReady_kept (s : State) : (offerReady s).kept = s.kept := by
  unfold offerReady
  repeat' split
  all_goals first | rfl | simp [offerFrame_kept_of ‹_›]

@[simp] theorem serve_kept (n : Nat) (s : State) : (serve n s).kept = s.kept := by
  induction n generalizing s with
  | zero => rfl
  | succ n ih =>
    rw [serve]
    repeat' split
    all_goals first | rfl | simp_all [offerFrame_kept_of ‹_›] | simp_all

@[simp] theorem takeAsk_kept (a : Ask) (s : State) : (takeAsk a s).kept = s.kept := by
  unfold takeAsk
  repeat' split
  all_goals simp

@[simp] theorem ntbRoom_kept (s : State) : (ntbRoom s).kept = s.kept := by
  unfold ntbRoom
  dsimp only
  split <;> simp

@[simp] theorem askPage_kept (page : List Byte) (s : State) : (askPage page s).kept = s.kept := by
  unfold askPage
  split <;> simp

@[simp] theorem askReprint_kept (s : State) : (askReprint s).kept = s.kept := by simp [askReprint]

@[simp] theorem reprintPage_kept (page : List Byte) (s : State) : (reprintPage page s).kept = s.kept := by
  unfold reprintPage
  repeat' split
  all_goals simp

@[simp] theorem pctSend_kept (f : TxFrame) (s : State) : (pctSend f s).kept = s.kept := by
  unfold pctSend
  repeat' split
  all_goals first | rfl | simp [offerFrame_kept_of ‹_›]

@[simp] theorem pctRoom_kept (n : Nat) (s : State) : (pctRoom n s).kept = s.kept := by
  induction n generalizing s with
  | zero => rfl
  | succ n ih =>
    rw [pctRoom]
    repeat' split
    all_goals first | rfl | simp_all [offerFrame_kept_of ‹_›]

@[simp] theorem pctMark_kept (r : WriteReq) (s : State) : (pctMark r s).kept = s.kept := by
  unfold pctMark
  repeat' split
  all_goals first | simp; done | simp [enqueue_kept_of ‹_›]

@[simp] theorem pctFreeSlot_kept (n : Nat) (s : State) : (pctFreeSlot n s).kept = s.kept := by
  induction n generalizing s with
  | zero => rfl
  | succ n ih =>
    rw [pctFreeSlot]
    repeat' split
    all_goals first | rfl | simp_all [enqueue_kept_of ‹_›]

@[simp] theorem refusalPulse_kept (s : State) : (refusalPulse s).kept = s.kept := by simp [refusalPulse]

@[simp] theorem refuseCard_kept (r : CardRefusal) (s : State) : (refuseCard r s).kept = s.kept := by simp [refuseCard]

@[simp] theorem refuseTrip_kept (r : CardRefusal) (s : State) : (refuseTrip r s).kept = s.kept := by simp [refuseTrip]

@[simp] theorem enterAuthorized_kept (s : State) : (enterAuthorized s).kept = s.kept := by simp [enterAuthorized]

@[simp] theorem startClaim_kept (permit : Word32) (s : State) : (startClaim permit s).kept = s.kept := by simp [startClaim]

@[simp] theorem refreshLamps_kept (s : State) : (refreshLamps s).kept = s.kept := by simp [refreshLamps]

@[simp] theorem takeTrip_kept (t : Trip) (s : State) : (takeTrip t s).kept = s.kept := by
  unfold takeTrip
  repeat' split
  all_goals simp

@[simp] theorem withdrawClaim_kept (permit : Word32) (s : State) : (withdrawClaim permit s).kept = s.kept := rfl

@[simp] theorem hearClaim_kept (sender : Nat) (permit : Word32) (s : State) :
    (hearClaim sender permit s).kept = s.kept := by simp [hearClaim]

@[simp] theorem hearHeld_kept (permit : Word32) (s : State) : (hearHeld permit s).kept = s.kept := by simp [hearHeld]

@[simp] theorem claimEcho_kept (permit : Word32) (s : State) : (claimEcho permit s).kept = s.kept := by simp [claimEcho]

@[simp] theorem claimDiscarded_kept (permit : Word32) (s : State) : (claimDiscarded permit s).kept = s.kept := by simp [claimDiscarded]

@[simp] theorem claimCutOff_kept (s : State) : (claimCutOff s).kept = s.kept := by
  unfold claimCutOff
  split <;> simp

@[simp] theorem slotEmpty_kept (s : State) : (slotEmpty s).kept = s.kept := rfl

@[simp] theorem sendWrite_kept (kind : WriteOf) (stamp : Stamp) (s : State) :
    (sendWrite kind stamp s).kept = s.kept := rfl

@[simp] theorem writeTripStamp_kept (s : State) : (writeTripStamp s).kept = s.kept := by
  unfold writeTripStamp
  split <;> simp

@[simp] theorem writePending_kept (s : State) : (writePending s).kept = s.kept := by
  unfold writePending
  split <;> simp

@[simp] theorem stampToPending_kept (s : State) : (stampToPending s).kept = s.kept := rfl

@[simp] theorem clearPending_kept (s : State) : (clearPending s).kept = s.kept := rfl

@[simp] theorem lapsePending_kept (s : State) : (lapsePending s).kept = s.kept := by
  unfold lapsePending
  split <;> simp

@[simp] theorem endWrite_kept (s : State) : (endWrite s).kept = s.kept := rfl

@[simp] theorem writeSucceeded_kept (s : State) : (writeSucceeded s).kept = s.kept := by
  unfold writeSucceeded
  repeat' split
  all_goals simp

@[simp] theorem writeFailed_kept (s : State) : (writeFailed s).kept = s.kept := by
  unfold writeFailed
  split <;> simp

@[simp] theorem displacePending_kept (s : State) : (displacePending s).kept = s.kept := by
  unfold displacePending
  split <;> simp

@[simp] theorem noteSealed_kept (b : Build) (s : State) : (noteSealed b s).kept = s.kept := by
  unfold noteSealed
  split <;> simp

@[simp] theorem release_kept (s : State) : (release s).kept = s.kept := by
  unfold release
  split <;> simp

@[simp] theorem openCompartment_kept (i : LaneNo) (s : State) : (openCompartment i s).kept = s.kept := by simp [openCompartment]

@[simp] theorem enterFlowing_kept (i : LaneNo) (st : Stage) (s : State) : (enterFlowing i st s).kept = s.kept := by simp [enterFlowing]

@[simp] theorem resumeOpen_kept (i : LaneNo) (s : State) : (resumeOpen i s).kept = s.kept := by
  unfold resumeOpen
  repeat' split
  all_goals simp

@[simp] theorem startLane_kept (i : LaneNo) (s : State) : (startLane i s).kept = s.kept := by
  unfold startLane
  repeat' split
  all_goals simp

@[simp] theorem offerTotal_kept (i : LaneNo) (gross std : Word48) (s : State) :
    (offerTotal i gross std s).kept = s.kept := by
  unfold offerTotal
  repeat' split
  all_goals first | rfl | simp [enqueue_kept_of ‹_›]

@[simp] theorem offerWaiting_kept (i : LaneNo) (s : State) : (offerWaiting i s).kept = s.kept := by
  unfold offerWaiting
  repeat' split
  all_goals first | simp; done | simp [enqueue_kept_of ‹_›]

@[simp] theorem offerAfter_kept (i : LaneNo) (s : State) : (offerAfter i s).kept = s.kept := by
  unfold offerAfter
  split <;> simp

@[simp] theorem handOver_kept (i : LaneNo) (reason : EndReason) (s : State) :
    (handOver i reason s).kept = s.kept := by
  unfold handOver
  split <;> simp

@[simp] theorem endSuspended_kept (i : LaneNo) (s : State) : (endSuspended i s).kept = s.kept := by
  unfold endSuspended
  split <;> simp

@[simp] theorem closeLineOf_kept (k : Nat) (s : State) : (closeLineOf k s).kept = s.kept := by
  unfold closeLineOf
  repeat' split
  all_goals simp

@[simp] theorem enterClosing_kept (s : State) : (enterClosing s).kept = s.kept := by simp [enterClosing, foldl_kept]

@[simp] theorem reportFault_kept (i : LaneNo) (reason : EndReason) (s : State) :
    (reportFault i reason s).kept = s.kept := by simp [reportFault]

@[simp] theorem handBack_kept (i : LaneNo) (s : State) : (handBack i s).kept = s.kept := by simp [handBack]

@[simp] theorem closeDoses_kept (i : LaneNo) (s : State) : (closeDoses i s).kept = s.kept := by simp [closeDoses]

@[simp] theorem learnOvershoot_kept (i : LaneNo) (s : State) : (learnOvershoot i s).kept = s.kept := by simp [learnOvershoot]

@[simp] theorem enterEnded_kept (i : LaneNo) (s : State) : (enterEnded i s).kept = s.kept := by simp [enterEnded]

@[simp] theorem giveShare_kept (i : LaneNo) (share : Nat) (s : State) : (giveShare i share s).kept = s.kept := rfl

@[simp] theorem giveShares_kept (h allotment : Nat) (s : State) : (giveShares h allotment s).kept = s.kept := by
  unfold giveShares
  exact foldl_kept _ (fun t i => giveShare_kept i _ t) _ _

@[simp] theorem setShare_kept (h : Nat) (x : Share) (s : State) : (setShare h x s).kept = s.kept := rfl

@[simp] theorem computeHeader_kept (h : Nat) (s : State) : (computeHeader h s).kept = s.kept := by
  unfold computeHeader
  repeat' split
  all_goals simp

@[simp] theorem computeShares_kept (s : State) : (computeShares s).kept = s.kept := by simp [computeShares, foldl_kept]

@[simp] theorem suspendAll_kept (cause : Cause) (s : State) : (suspendAll cause s).kept = s.kept := by simp [suspendAll]

@[simp] theorem haltEdge_kept (before : Bool) (s : State) : (haltEdge before s).kept = s.kept := by simp [haltEdge]

@[simp] theorem setLink_kept (l : Link) (s : State) : (setLink l s).kept = s.kept := by
  unfold setLink
  split <;> simp

@[simp] theorem enterListen_kept (s : State) : (enterListen s).kept = s.kept := by simp [enterListen]

@[simp] theorem enterMute_kept (cause : MuteCause) (s : State) : (enterMute cause s).kept = s.kept := by simp [enterMute]

@[simp] theorem enterJoin_kept (s : State) : (enterJoin s).kept = s.kept := by simp [enterJoin]

@[simp] theorem joinFailed_kept (s : State) : (joinFailed s).kept = s.kept := by simp [joinFailed]

@[simp] theorem enterHeldLine_kept (s : State) : (enterHeldLine s).kept = s.kept := by simp [enterHeldLine]

@[simp] theorem enterRun_kept (s : State) : (enterRun s).kept = s.kept := by simp [enterRun]

@[simp] theorem discardFrame_kept (c : Current) (s : State) : (discardFrame c s).kept = s.kept := by
  unfold discardFrame
  split <;> simp

@[simp] theorem collided_kept (s : State) : (collided s).kept = s.kept := by
  unfold collided
  split <;> simp

@[simp] theorem echoDropped_kept (s : State) : (echoDropped s).kept = s.kept := by simp [echoDropped]

@[simp] theorem statusSent_kept (entries : List HeaderEntry) (s : State) :
    (statusSent entries s).kept = s.kept := rfl

@[simp] theorem ownEchoOf_kept (p : Payload) (s : State) : (ownEchoOf p s).kept = s.kept := by
  unfold ownEchoOf
  split <;> simp

@[simp] theorem conflictHeard_kept (s : State) : (conflictHeard s).kept = s.kept := by
  unfold conflictHeard
  split <;> simp

@[simp] theorem peerHeard_kept (s : State) : (peerHeard s).kept = s.kept := by
  unfold peerHeard
  split <;> simp

@[simp] theorem takePeer_kept (sender : Nat) (p : Payload) (deliver : State → State)
    (h : ∀ t, (deliver t).kept = t.kept) (s : State) : (takePeer sender p deliver s).kept = s.kept := by
  simp [takePeer, h]

@[simp] theorem peerFrame_kept (sender : Nat) (p : Payload) (deliver : State → State)
    (h : ∀ t, (deliver t).kept = t.kept) (s : State) : (peerFrame sender p deliver s).kept = s.kept := by
  unfold peerFrame
  repeat' split
  all_goals simp [h]

@[simp] theorem sulOffer_kept (r : WriteReq) (s : State) : (sulOffer r s).kept = s.kept := by
  unfold sulOffer
  repeat' split
  all_goals first | rfl | simp [enqueue_kept_of ‹_›]

@[simp] theorem sulFreeSlot_kept (n : Nat) (s : State) : (sulFreeSlot n s).kept = s.kept := by
  induction n generalizing s with
  | zero => rfl
  | succ n ih =>
    rw [sulFreeSlot]
    repeat' split
    all_goals first | rfl | simp_all [enqueue_kept_of ‹_›]

@[simp] theorem setTotals_kept (i : LaneNo) (g t : Word48) (s : State) : (setTotals i g t s).kept = s.kept := rfl

@[simp] theorem totalsPage_kept (k : Nat) (page : List Byte) (s : State) :
    (totalsPage k page s).kept = s.kept := by simp [totalsPage]

@[simp] theorem nextSlot_kept (slot : Nat) (s : State) : (nextSlot slot s).kept = s.kept := by simp [nextSlot]

@[simp] theorem slotRead_kept (slot : Nat) (bytes : List Byte) (s : State) :
    (slotRead slot bytes s).kept = s.kept := by simp [slotRead]

@[simp] theorem slotFirst_kept (slot : Nat) (page : List Byte) (s : State) :
    (slotFirst slot page s).kept = s.kept := by simp [slotFirst]

@[simp] theorem slotNext_kept (slot left : Nat) (page : List Byte) (s : State) :
    (slotNext slot left page s).kept = s.kept := by simp [slotNext]

@[simp] theorem toSettle_kept (s : State) : (toSettle s).kept = s.kept := rfl

@[simp] theorem raiseTotals_kept (i : LaneNo) (g t : Word48) (s : State) :
    (raiseTotals i g t s).kept = s.kept := rfl

@[simp] theorem offerTotals_kept (s : State) : (offerTotals s).kept = s.kept := by simp [offerTotals]

@[simp] theorem settleSealed_kept (m : Marker) (note : List Byte) (s : State) :
    (settleSealed m note s).kept = s.kept := by
  have e : ((noteTotals note).foldl (fun u (i, g, x) => raiseTotals i g x u) s).kept = s.kept :=
    foldl_kept _ (fun t a => by simp) _ _
  simp [settleSealed, e]

@[simp] theorem passOne_kept (c : Option CheckRec) (l : OrderLine) (s : State) :
    (passOne c l s).kept = s.kept := by
  unfold passOne
  split <;> simp

@[simp] theorem passTwo_kept (number k : Nat) (s : State) : (passTwo number k s).kept = s.kept := by
  unfold passTwo
  repeat' split
  all_goals simp

@[simp] theorem rebuilt_kept (m : Marker) (s : State) : (rebuilt m s).kept = s.kept := by simp [rebuilt, foldl_kept]

@[simp] theorem nextCheck_kept (m : Marker) (start : Nat) (s : State) : (nextCheck m start s).kept = s.kept := by
  unfold nextCheck
  split <;> simp

@[simp] theorem checkPage_kept (m : Marker) (line : Nat) (page : List Byte) (s : State) :
    (checkPage m line page s).kept = s.kept := by
  unfold checkPage
  dsimp only
  split
  · simp
  · simp

@[simp] theorem sealedRead_kept (bytes : List Byte) (s : State) : (sealedRead bytes s).kept = s.kept := by
  unfold sealedRead
  split <;> simp

@[simp] theorem sealedFirst_kept (page : List Byte) (s : State) : (sealedFirst page s).kept = s.kept := by
  unfold sealedFirst
  split <;> simp

@[simp] theorem sealedNext_kept (left : Nat) (page : List Byte) (s : State) :
    (sealedNext left page s).kept = s.kept := by simp [sealedNext]

@[simp] theorem markHeadPage_kept (page : List Byte) (s : State) : (markHeadPage page s).kept = s.kept := by
  unfold markHeadPage
  split <;> simp

@[simp] theorem markLinesPage_kept (page : List Byte) (s : State) : (markLinesPage page s).kept = s.kept := by
  unfold markLinesPage
  split <;> simp

@[simp] theorem recoveryNote_kept (s : State) : (recoveryNote s).kept = s.kept := by
  unfold recoveryNote
  split <;> simp

@[simp] theorem recoverySealed_kept (s : State) : (recoverySealed s).kept = s.kept := by
  unfold recoverySealed
  split <;> simp

@[simp] theorem startLanes_kept (s : State) : (startLanes s).kept = s.kept := by simp [startLanes]

@[simp] theorem completeFault_kept (s : State) : (completeFault s).kept = s.kept := by simp [completeFault]

@[simp] theorem completeNormal_kept (s : State) : (completeNormal s).kept = s.kept := by simp [completeNormal]

@[simp] theorem reportFreeSlot_kept (s : State) : (reportFreeSlot s).kept = s.kept := by simp [reportFreeSlot]

@[simp] theorem reportRoom_kept (s : State) : (reportRoom s).kept = s.kept := by simp [reportRoom]

@[simp] theorem idleTimer_kept (s : State) : (idleTimer s).kept = s.kept := by
  unfold idleTimer
  repeat' split
  all_goals simp

@[simp] theorem settle_kept (s : State) : (settle s).kept = s.kept := by simp [settle]

@[simp] theorem pulseStep_kept (i : LaneNo) (pt : PulseTick) (s : State) : (pulseStep i pt s).kept = s.kept := by
  unfold pulseStep
  split <;> simp

@[simp] theorem volumeStep_kept (i : LaneNo) (p : Pass) (s : State) : (volumeStep i p s).kept = s.kept := by simp [volumeStep]

@[simp] theorem stageStep_kept (c : LaneCfg) (i : LaneNo) (s : State) : (stageStep c i s).kept = s.kept := by simp [stageStep]

@[simp] theorem closingStep_kept (i : LaneNo) (pulses : Nat) (s : State) :
    (closingStep i pulses s).kept = s.kept := by simp [closingStep]

@[simp] theorem checkStep_kept (c : LaneCfg) (i : LaneNo) (pulses : Nat) (s : State) :
    (checkStep c i pulses s).kept = s.kept := by simp [checkStep]

@[simp] theorem noFlowStep_kept (i : LaneNo) (pulses : Nat) (d : Steer) (s : State) :
    (noFlowStep i pulses d s).kept = s.kept := by simp [noFlowStep]

@[simp] theorem steerStep_kept (i : LaneNo) (pulses : Nat) (s : State) : (steerStep i pulses s).kept = s.kept := by simp [steerStep]

@[simp] theorem checkpointStep_kept (i : LaneNo) (before : Stage) (gross : Nat) (s : State) :
    (checkpointStep i before gross s).kept = s.kept := by simp [checkpointStep]

@[simp] theorem compartmentPass_kept (i : LaneNo) (c : VenCfg) (raw : Nat) (s : State) :
    (compartmentPass i c raw s).kept = s.kept := by simp [compartmentPass]

@[simp] theorem leakReport_kept (before after : Nat) (s : State) : (leakReport before after s).kept = s.kept := by simp [leakReport]

@[simp] theorem leakLanePass_kept (i : LaneNo) (c : VenCfg) (raw : Nat) (s : State) :
    (leakLanePass i c raw s).kept = s.kept := by simp [leakLanePass]

@[simp] theorem lanePass_kept (i : LaneNo) (raw : Nat) (s : State) : (lanePass i raw s).kept = s.kept := by
  unfold lanePass
  split <;> simp

@[simp] theorem statusPage_kept (page : List Byte) (s : State) : (statusPage page s).kept = s.kept := by
  unfold statusPage
  repeat' split
  all_goals simp

@[simp] theorem sealNote_kept (b : Build) (s : State) : (sealNote b s).kept = s.kept := by simp [sealNote]

@[simp] theorem reportDone_kept (q : QItem) (s : State) : (reportDone q s).kept = s.kept := by
  unfold reportDone
  repeat' split
  all_goals simp

@[simp] theorem stepDone_kept (s : State) : (stepDone s).kept = s.kept := by
  unfold stepDone
  split <;> simp

@[simp] theorem claimWindowEnd_kept (s : State) : (claimWindowEnd s).kept = s.kept := by simp [claimWindowEnd]

@[simp] theorem unprime_kept (i : LaneNo) (s : State) : (unprime i s).kept = s.kept := by simp [unprime]

@[simp] theorem authEnd_kept (s : State) : (authEnd s).kept = s.kept := by
  unfold authEnd
  split <;> simp

@[simp] theorem idleEnd_kept (s : State) : (idleEnd s).kept = s.kept := by simp [idleEnd]

@[simp] theorem stampWindowEnd_kept (s : State) : (stampWindowEnd s).kept = s.kept := by simp [stampWindowEnd]

@[simp] theorem lifetimeEnd_kept (s : State) : (lifetimeEnd s).kept = s.kept := by simp [lifetimeEnd]

@[simp] theorem lapseLane_kept (i : LaneNo) (s : State) : (lapseLane i s).kept = s.kept := by simp [lapseLane]

@[simp] theorem markLapse_kept (i : LaneNo) (s : State) : (markLapse i s).kept = s.kept := by simp [markLapse]

@[simp] theorem permissiveDrop_kept (s : State) : (permissiveDrop s).kept = s.kept := by simp [permissiveDrop]

@[simp] theorem dropOutputs_kept (i : LaneNo) (s : State) : (dropOutputs i s).kept = s.kept := by simp [dropOutputs]

@[simp] theorem permissiveEffect_kept (good : Bool) (s : State) : (permissiveEffect good s).kept = s.kept := by simp [permissiveEffect]

@[simp] theorem latchLane_kept (i : LaneNo) (s : State) : (latchLane i s).kept = s.kept := rfl

@[simp] theorem armLost_kept (i : LaneNo) (s : State) : (armLost i s).kept = s.kept := by
  unfold armLost
  split <;> simp

@[simp] theorem startEffect_kept (s : State) : (startEffect s).kept = s.kept := by
  unfold startEffect
  split <;> simp

@[simp] theorem stopEffect_kept (s : State) : (stopEffect s).kept = s.kept := by simp [stopEffect]

@[simp] theorem clearLeak_kept (i : LaneNo) (s : State) : (clearLeak i s).kept = s.kept := rfl

@[simp] theorem ackEffect_kept (s : State) : (ackEffect s).kept = s.kept := by
  rw [ackEffect, eachLane_kept _ clearLeak clearLeak_kept]
  rfl

@[simp] theorem takeOverride_kept (s : State) : (takeOverride s).kept = s.kept := rfl

@[simp] theorem holdEffect_kept (s : State) : (holdEffect s).kept = s.kept := by
  unfold holdEffect
  dsimp only
  repeat' split
  all_goals simp

@[simp] theorem endStep_kept (i : LaneNo) (s : State) : (endStep i s).kept = s.kept := rfl

@[simp] theorem valveLeak_kept (i : LaneNo) (s : State) : (valveLeak i s).kept = s.kept := by simp [valveLeak]

@[simp] theorem edgeA_kept (i : LaneNo) (cap : Word32) (s : State) : (edgeA i cap s).kept = s.kept := rfl

@[simp] theorem edgeB_kept (i : LaneNo) (cap : Word32) (s : State) : (edgeB i cap s).kept = s.kept := rfl

@[simp] theorem unexpected_kept (j : InjNo) (s : State) : (unexpected j s).kept = s.kept := by
  unfold unexpected
  split <;> simp

@[simp] theorem pulseTaken_kept (j : InjNo) (s : State) : (pulseTaken j s).kept = s.kept := by
  unfold pulseTaken
  split <;> simp

@[simp] theorem windowEnd_kept (j : InjNo) (s : State) : (windowEnd j s).kept = s.kept := by
  unfold windowEnd
  split <;> simp

@[simp] theorem hearAsk_kept (sender target : Nat) (note : Word32) (s : State) :
    (hearAsk sender target note s).kept = s.kept := by simp [hearAsk]

@[simp] theorem aloneEnd_kept (s : State) : (aloneEnd s).kept = s.kept := by
  unfold aloneEnd
  dsimp only
  split <;> simp

@[simp] theorem listenEnd_kept (s : State) : (listenEnd s).kept = s.kept := by simp [listenEnd]

@[simp] theorem mapPeer_kept (station : Nat) (f : Peer → Peer) (s : State) : (mapPeer station f s).kept = s.kept := rfl

@[simp] theorem dropPeer_kept (station : Nat) (s : State) : (dropPeer station s).kept = s.kept := rfl

@[simp] theorem busyAsserted_kept (s : State) : (busyAsserted s).kept = s.kept := rfl

@[simp] theorem busyReleased_kept (s : State) : (busyReleased s).kept = s.kept := by simp [busyReleased]

@[simp] theorem characterGone_kept (s : State) : (characterGone s).kept = s.kept := by
  unfold characterGone
  dsimp only
  split <;> simp

end Sys2Proof.Machine
end

