-- ==== Sys2Proof/Laws/Slot.lean ====
section
/-! SUPPORT. Which operations leave the trip slot and the presence of its record as they are, one lemma per operation; the
few that change them are told apart by what they leave. -/

namespace Sys2Proof.Machine

/-- The trip slot's state, and whether a trip record is held. -/
def State.slotHeld (s : State) : Slot × Bool := (s.pct.slot, s.pct.trip.isSome)

variable (s : State)

@[simp] theorem modIlm_slotHeld (f : Ilm → Ilm) : (s.modIlm f).slotHeld = s.slotHeld := rfl
@[simp] theorem modHsu_slotHeld (f : Hsu → Hsu) : (s.modHsu f).slotHeld = s.slotHeld := rfl
@[simp] theorem modLif_slotHeld (f : Lif → Lif) : (s.modLif f).slotHeld = s.slotHeld := rfl
@[simp] theorem modNtb_slotHeld (f : Ntb → Ntb) : (s.modNtb f).slotHeld = s.slotHeld := rfl
@[simp] theorem modStp_slotHeld (f : Stp → Stp) : (s.modStp f).slotHeld = s.slotHeld := rfl
@[simp] theorem modSul_slotHeld (f : Sul → Sul) : (s.modSul f).slotHeld = s.slotHeld := rfl
@[simp] theorem modLane_slotHeld (i : LaneNo) (f : Lane → Lane) : (s.modLane i f).slotHeld = s.slotHeld := rfl
@[simp] theorem modPiu_slotHeld (i : LaneNo) (f : Piu → Piu) : (s.modPiu i f).slotHeld = s.slotHeld := rfl
@[simp] theorem modVen_slotHeld (i : LaneNo) (f : Ven → Ven) : (s.modVen i f).slotHeld = s.slotHeld := rfl
@[simp] theorem modInj_slotHeld (j : InjNo) (f : Injector → Injector) : (s.modInj j f).slotHeld = s.slotHeld := rfl
@[simp] theorem emit_slotHeld (o : Output) : (s.emit o).slotHeld = s.slotHeld := rfl
@[simp] theorem reach_slotHeld (d : Nat) : (s.reach d).slotHeld = s.slotHeld := rfl
@[simp] theorem reachCapture_slotHeld (c : Word32) : (s.reachCapture c).slotHeld = s.slotHeld := rfl

/-- A change of Permit Control that leaves slot and trip. -/
theorem modPct_slotHeld (f : Pct → Pct) (h : (f s.pct).slot = s.pct.slot ∧ (f s.pct).trip.isSome = s.pct.trip.isSome) :
    (s.modPct f).slotHeld = s.slotHeld := by
  simp [State.slotHeld, h]

@[simp] theorem modTrip_slotHeld (f : Trip → Trip) : (s.modTrip f).slotHeld = s.slotHeld := by
  simp [State.modTrip, State.slotHeld]

@[simp] theorem modLine_slotHeld (k : Nat) (f : OrderLine → OrderLine) : (s.modLine k f).slotHeld = s.slotHeld := by
  simp [State.modLine]

@[simp] theorem modTripFlags_slotHeld (f : TripFlags → TripFlags) : (s.modTripFlags f).slotHeld = s.slotHeld := by
  simp [State.modTripFlags]

@[simp] theorem modHeld_slotHeld (i : LaneNo) (f : OrderLine → OrderLine) : (s.modHeld i f).slotHeld = s.slotHeld := by
  unfold State.modHeld; split <;> simp

@[simp] theorem modRecord_slotHeld (i : LaneNo) (f : CompRecord → CompRecord) : (s.modRecord i f).slotHeld = s.slotHeld := by
  simp [State.modRecord]

@[simp] theorem modFlags_slotHeld (i : LaneNo) (f : CompFlags → CompFlags) : (s.modFlags i f).slotHeld = s.slotHeld := by
  simp [State.modFlags]

@[simp] theorem modAdditive_slotHeld (i : LaneNo) (k : Nat) (f : AdditiveLine → AdditiveLine) :
    (s.modAdditive i k f).slotHeld = s.slotHeld := by simp [State.modAdditive]

/-- A choice between two states. -/
@[simp] theorem ite_slotHeld (c : Prop) [Decidable c] (a b : State) :
    (if c then a else b).slotHeld = if c then a.slotHeld else b.slotHeld := by split <;> rfl

theorem foldl_slotHeld {α : Type} (f : State → α → State) (h : ∀ t a, (f t a).slotHeld = t.slotHeld) (l : List α)
    (s : State) : (l.foldl f s).slotHeld = s.slotHeld := by
  induction l generalizing s with
  | nil => rfl
  | cons a rest ih => rw [List.foldl_cons, ih, h]

@[simp] theorem eachLane_slotHeld (f : LaneNo → State → State) (h : ∀ i t, (f i t).slotHeld = t.slotHeld) :
    (s.eachLane f).slotHeld = s.slotHeld := foldl_slotHeld _ (fun t i => h i t) _ _

@[simp] theorem askRead_slotHeld (owner : Reader) (page : Nat) (s : State) :
    (askRead owner page s).slotHeld = s.slotHeld := rfl

@[simp] theorem askPages_slotHeld (owner : Reader) (page n : Nat) (s : State) :
    (askPages owner page n s).slotHeld = s.slotHeld := by
  induction n generalizing page s with
  | zero => rfl
  | succ n ih => simp [askPages, ih]

@[simp] theorem askStatusRead_slotHeld (q : QItem) (s : State) : (askStatusRead q s).slotHeld = s.slotHeld := by
  unfold askStatusRead
  split <;> simp

@[simp] theorem startNext_slotHeld (s : State) : (startNext s).slotHeld = s.slotHeld := by
  unfold startNext
  split <;> simp

@[simp] theorem enqueue_slotHeld (q : QItem) (s : State) : (enqueue q s).2.slotHeld = s.slotHeld := by
  unfold enqueue
  repeat' split
  all_goals simp

theorem enqueue_slotHeld_of {q : QItem} {s t : State} {b : Bool} (h : enqueue q s = (b, t)) : t.slotHeld = s.slotHeld := by
  have e := enqueue_slotHeld q s
  rwa [h] at e

@[simp] theorem portKick_slotHeld (s : State) : (portKick s).slotHeld = s.slotHeld := by
  unfold portKick
  repeat' split
  all_goals simp

@[simp] theorem flightDone_slotHeld (s : State) : (flightDone s).slotHeld = s.slotHeld := by simp [flightDone]

@[simp] theorem recordCopy_slotHeld (req : WriteReq) (s : State) : (recordCopy req s).slotHeld = s.slotHeld := by
  unfold recordCopy
  split <;> simp

@[simp] theorem offerFrame_slotHeld (f : TxFrame) (s : State) : (offerFrame f s).2.slotHeld = s.slotHeld := by
  unfold offerFrame
  repeat' split
  all_goals simp

theorem offerFrame_slotHeld_of {f : TxFrame} {s t : State} {b : Bool} (h : offerFrame f s = (b, t)) : t.slotHeld = s.slotHeld := by
  have e := offerFrame_slotHeld f s
  rwa [h] at e

@[simp] theorem requestUrgent_slotHeld (s : State) : (requestUrgent s).slotHeld = s.slotHeld := by simp [requestUrgent]

@[simp] theorem statusDueNow_slotHeld (s : State) : (statusDueNow s).slotHeld = s.slotHeld := by simp [statusDueNow]

@[simp] theorem requestChange_slotHeld (s : State) : (requestChange s).slotHeld = s.slotHeld := by
  unfold requestChange
  repeat' split
  all_goals simp

@[simp] theorem statusMet_slotHeld (s : State) : (statusMet s).slotHeld = s.slotHeld := rfl

@[simp] theorem beginAttempt_slotHeld (quiet : Nat) (s : State) :
    (beginAttempt quiet s).slotHeld = s.slotHeld := by
  unfold beginAttempt
  repeat' split
  all_goals rfl

@[simp] theorem nextCurrent_slotHeld (s : State) : (nextCurrent s).slotHeld = s.slotHeld := rfl

@[simp] theorem withdrawFrame_slotHeld (permit : Word32) (s : State) :
    (withdrawFrame permit s).slotHeld = s.slotHeld := rfl

@[simp] theorem tablePeer_slotHeld (sender : Nat) (p : Payload) (s : State) :
    (tablePeer sender p s).slotHeld = s.slotHeld := by
  unfold tablePeer
  split <;> simp

@[simp] theorem adoptRackTime_slotHeld (p : Payload) (s : State) : (adoptRackTime p s).slotHeld = s.slotHeld := by
  unfold adoptRackTime
  split <;> simp

@[simp] theorem retarget_slotHeld (i : LaneNo) (s : State) : (retarget i s).slotHeld = s.slotHeld := rfl

@[simp] theorem rise_slotHeld (i : LaneNo) (s : State) : (rise i s).slotHeld = s.slotHeld := by
  unfold rise
  split <;> simp

@[simp] theorem outputsOff_slotHeld (i : LaneNo) (s : State) : (outputsOff i s).slotHeld = s.slotHeld := rfl

@[simp] theorem steerNow_slotHeld (i : LaneNo) (s : State) : (steerNow i s).slotHeld = s.slotHeld := by simp [steerNow]

@[simp] theorem offerCheckpoint_slotHeld (i : LaneNo) (s : State) :
    (offerCheckpoint i s).slotHeld = s.slotHeld := by
  unfold offerCheckpoint
  split <;> simp

@[simp] theorem setStage_slotHeld (i : LaneNo) (st : Stage) (s : State) :
    (setStage i st s).slotHeld = s.slotHeld := rfl

@[simp] theorem setStatus_slotHeld (i : LaneNo) (st : LineStatus) (s : State) :
    (setStatus i st s).slotHeld = s.slotHeld := by simp [setStatus]

@[simp] theorem closeDecision_slotHeld (i : LaneNo) (reason : EndReason) (s : State) :
    (closeDecision i reason s).slotHeld = s.slotHeld := rfl

@[simp] theorem takeFault_slotHeld (i : LaneNo) (reason : EndReason) (s : State) :
    (takeFault i reason s).slotHeld = s.slotHeld := by
  unfold takeFault
  split <;> simp

@[simp] theorem suspendFlowing_slotHeld (i : LaneNo) (cause : Cause) (left : LeftStage) (s : State) :
    (suspendFlowing i cause left s).slotHeld = s.slotHeld := by simp [suspendFlowing]

@[simp] theorem suspendPrimed_slotHeld (i : LaneNo) (s : State) : (suspendPrimed i s).slotHeld = s.slotHeld := by simp [suspendPrimed]

@[simp] theorem suspendLane_slotHeld (i : LaneNo) (cause : Cause) (s : State) :
    (suspendLane i cause s).slotHeld = s.slotHeld := by
  unfold suspendLane
  split <;> simp

@[simp] theorem toIdle_slotHeld (i : LaneNo) (s : State) : (toIdle i s).slotHeld = s.slotHeld := rfl

@[simp] theorem primingCheck_slotHeld (i : LaneNo) (s : State) : (primingCheck i s).slotHeld = s.slotHeld := by
  unfold primingCheck
  repeat' split
  all_goals simp

@[simp] theorem giveLimit_slotHeld (i : LaneNo) (s : State) : (giveLimit i s).slotHeld = s.slotHeld := by simp [giveLimit]

@[simp] theorem eachInjOf_slotHeld (i : LaneNo) (f : InjNo → State → State) (h : ∀ j t, (f j t).slotHeld = t.slotHeld)
    (s : State) : (eachInjOf i f s).slotHeld = s.slotHeld := foldl_slotHeld _ (fun t j => by simp [h]) _ _

@[simp] theorem renewInjectors_slotHeld (i : LaneNo) (s : State) : (renewInjectors i s).slotHeld = s.slotHeld := by
  unfold renewInjectors
  exact eachInjOf_slotHeld i _ (fun j t => modInj_slotHeld t j renewInjector) s

@[simp] theorem startStroke_slotHeld (final : Bool) (i : LaneNo) (k : Nat) (j : InjNo) (s : State) :
    (startStroke final i k j s).slotHeld = s.slotHeld := by
  unfold startStroke
  split <;> simp

@[simp] theorem considerLine_slotHeld (i : LaneNo) (k : Nat) (s : State) :
    (considerLine i k s).slotHeld = s.slotHeld := by
  unfold considerLine
  split <;> simp

@[simp] theorem considerLane_slotHeld (i : LaneNo) (s : State) : (considerLane i s).slotHeld = s.slotHeld := by simp [considerLane, foldl_slotHeld]

@[simp] theorem dosePass_slotHeld (i : LaneNo) (dg : Nat) (s : State) :
    (dosePass i dg s).slotHeld = s.slotHeld := by simp [dosePass]

@[simp] theorem tryEndCycle_slotHeld (j : InjNo) (s : State) : (tryEndCycle j s).slotHeld = s.slotHeld := by
  unfold tryEndCycle
  repeat' split
  all_goals simp [foldl_slotHeld]

@[simp] theorem orderFault_slotHeld (i : LaneNo) (s : State) : (orderFault i s).slotHeld = s.slotHeld := by simp [orderFault]

@[simp] theorem injectorFault_slotHeld (sv : Serving) (j : InjNo) (mandatory : Bool) (s : State) :
    (injectorFault sv j mandatory s).slotHeld = s.slotHeld := by simp [injectorFault]

@[simp] theorem judge_slotHeld (j : InjNo) (pulse : Bool) (s : State) : (judge j pulse s).slotHeld = s.slotHeld := by
  unfold judge
  split
  · rfl
  · dsimp only
    split
    · simp
    · split <;> simp

@[simp] theorem decideFinal_slotHeld (i : LaneNo) (s : State) : (decideFinal i s).slotHeld = s.slotHeld := by simp [decideFinal]

@[simp] theorem tryCloseLine_slotHeld (i : LaneNo) (k : Nat) (s : State) :
    (tryCloseLine i k s).slotHeld = s.slotHeld := by
  unfold tryCloseLine
  split <;> simp

@[simp] theorem tryCloseLines_slotHeld (i : LaneNo) (s : State) : (tryCloseLines i s).slotHeld = s.slotHeld := by simp [tryCloseLines, foldl_slotHeld]

@[simp] theorem closeAllLines_slotHeld (i : LaneNo) (s : State) : (closeAllLines i s).slotHeld = s.slotHeld := by
  unfold closeAllLines
  dsimp only
  rw [foldl_slotHeld _ (fun t j => modInj_slotHeld t j _)]
  simp

@[simp] theorem offerPages_slotHeld (n : Nat) (s : State) : (offerPages n s).slotHeld = s.slotHeld := by
  induction n generalizing s with
  | zero => rfl
  | succ n ih =>
    rw [offerPages]
    repeat' split
    all_goals first | rfl | simp_all [enqueue_slotHeld_of ‹_›]

@[simp] theorem beginNote_slotHeld (h : NoteHead) (lines : List OrderLine) (recovered : Bool) (s : State) :
    (beginNote h lines recovered s).slotHeld = s.slotHeld := by simp [beginNote]

@[simp] theorem tryBuild_slotHeld (s : State) : (tryBuild s).slotHeld = s.slotHeld := by
  unfold tryBuild
  split <;> simp

@[simp] theorem joinStatus_slotHeld (r : StatusReq) (s : State) : (joinStatus r s).slotHeld = s.slotHeld := by simp [joinStatus]

@[simp] theorem requestStatus_slotHeld (note : Nat) (f : StatusField) (code : Nat) (s : State) :
    (requestStatus note f code s).slotHeld = s.slotHeld := by
  unfold requestStatus
  repeat' split
  all_goals first | simp; done | simp [enqueue_slotHeld_of ‹_›]

@[simp] theorem offerStatuses_slotHeld (n : Nat) (s : State) : (offerStatuses n s).slotHeld = s.slotHeld := by
  induction n generalizing s with
  | zero => rfl
  | succ n ih =>
    rw [offerStatuses]
    repeat' split
    all_goals first | rfl | simp_all [enqueue_slotHeld_of ‹_›]

@[simp] theorem ntbFreeSlot_slotHeld (s : State) : (ntbFreeSlot s).slotHeld = s.slotHeld := by simp [ntbFreeSlot]

@[simp] theorem sendNext_slotHeld (s : State) : (sendNext s).slotHeld = s.slotHeld := by
  unfold sendNext
  split <;> simp

@[simp] theorem beginPrint_slotHeld (s : State) : (beginPrint s).slotHeld = s.slotHeld := by
  unfold beginPrint
  split <;> simp

@[simp] theorem joinPrints_slotHeld (e : PrintEntry) (s : State) : (joinPrints e s).slotHeld = s.slotHeld := by
  unfold joinPrints
  split <;> simp

@[simp] theorem finishPrint_slotHeld (code : Nat) (s : State) : (finishPrint code s).slotHeld = s.slotHeld := by
  unfold finishPrint
  split <;> simp

@[simp] theorem noteReady_slotHeld (note permit : Word32) (s : State) :
    (noteReady note permit s).slotHeld = s.slotHeld := by
  unfold noteReady
  repeat' split
  all_goals first | rfl | simp [offerFrame_slotHeld_of ‹_›]

@[simp] theorem offerReady_slotHeld (s : State) : (offerReady s).slotHeld = s.slotHeld := by
  unfold offerReady
  repeat' split
  all_goals first | rfl | simp [offerFrame_slotHeld_of ‹_›]

@[simp] theorem serve_slotHeld (n : Nat) (s : State) : (serve n s).slotHeld = s.slotHeld := by
  induction n generalizing s with
  | zero => rfl
  | succ n ih =>
    rw [serve]
    repeat' split
    all_goals first | rfl | simp_all [offerFrame_slotHeld_of ‹_›] | simp_all

@[simp] theorem takeAsk_slotHeld (a : Ask) (s : State) : (takeAsk a s).slotHeld = s.slotHeld := by
  unfold takeAsk
  repeat' split
  all_goals simp

@[simp] theorem ntbRoom_slotHeld (s : State) : (ntbRoom s).slotHeld = s.slotHeld := by
  unfold ntbRoom
  dsimp only
  split <;> simp

@[simp] theorem askPage_slotHeld (page : List Byte) (s : State) : (askPage page s).slotHeld = s.slotHeld := by
  unfold askPage
  split <;> simp

@[simp] theorem askReprint_slotHeld (s : State) : (askReprint s).slotHeld = s.slotHeld := by simp [askReprint]

@[simp] theorem reprintPage_slotHeld (page : List Byte) (s : State) :
    (reprintPage page s).slotHeld = s.slotHeld := by
  unfold reprintPage
  repeat' split
  all_goals simp

@[simp] theorem refreshLamps_slotHeld (s : State) : (refreshLamps s).slotHeld = s.slotHeld := by simp [refreshLamps]

@[simp] theorem pctSend_slotHeld (f : TxFrame) (s : State) : (pctSend f s).slotHeld = s.slotHeld := by
  unfold pctSend
  repeat' split
  all_goals first | simp; done | simp [modPct_slotHeld, offerFrame_slotHeld_of ‹_›]

@[simp] theorem pctRoom_slotHeld (n : Nat) (s : State) : (pctRoom n s).slotHeld = s.slotHeld := by
  induction n generalizing s with
  | zero => rfl
  | succ n ih =>
    rw [pctRoom]
    repeat' split
    all_goals first | rfl | simp_all [modPct_slotHeld, offerFrame_slotHeld_of ‹_›]

@[simp] theorem pctMark_slotHeld (r : WriteReq) (s : State) : (pctMark r s).slotHeld = s.slotHeld := by
  unfold pctMark
  repeat' split
  all_goals first | simp [modPct_slotHeld]; done | simp [modPct_slotHeld, enqueue_slotHeld_of ‹_›]

@[simp] theorem pctFreeSlot_slotHeld (n : Nat) (s : State) : (pctFreeSlot n s).slotHeld = s.slotHeld := by
  induction n generalizing s with
  | zero => rfl
  | succ n ih =>
    rw [pctFreeSlot]
    repeat' split
    all_goals first | rfl | simp_all [modPct_slotHeld, enqueue_slotHeld_of ‹_›]

@[simp] theorem refusalPulse_slotHeld (s : State) : (refusalPulse s).slotHeld = s.slotHeld := by simp [refusalPulse]

@[simp] theorem refuseCard_slotHeld (r : CardRefusal) (s : State) : (refuseCard r s).slotHeld = s.slotHeld := by simp [refuseCard]

@[simp] theorem withdrawClaim_slotHeld (permit : Word32) (s : State) :
    (withdrawClaim permit s).slotHeld = s.slotHeld := rfl

@[simp] theorem claimEcho_slotHeld (permit : Word32) (s : State) : (claimEcho permit s).slotHeld = s.slotHeld := by simp [claimEcho, modPct_slotHeld]

@[simp] theorem sendWrite_slotHeld (kind : WriteOf) (stamp : Stamp) (s : State) :
    (sendWrite kind stamp s).slotHeld = s.slotHeld := rfl

@[simp] theorem writeTripStamp_slotHeld (s : State) : (writeTripStamp s).slotHeld = s.slotHeld := by
  unfold writeTripStamp
  split <;> simp [modPct_slotHeld]

@[simp] theorem writePending_slotHeld (s : State) : (writePending s).slotHeld = s.slotHeld := by
  unfold writePending
  split <;> simp

@[simp] theorem clearPending_slotHeld (s : State) : (clearPending s).slotHeld = s.slotHeld := rfl

@[simp] theorem lapsePending_slotHeld (s : State) : (lapsePending s).slotHeld = s.slotHeld := by
  unfold lapsePending
  split <;> simp

@[simp] theorem endWrite_slotHeld (s : State) : (endWrite s).slotHeld = s.slotHeld := rfl

@[simp] theorem displacePending_slotHeld (s : State) : (displacePending s).slotHeld = s.slotHeld := by
  unfold displacePending
  split <;> simp [modPct_slotHeld]

@[simp] theorem openCompartment_slotHeld (i : LaneNo) (s : State) :
    (openCompartment i s).slotHeld = s.slotHeld := by simp [openCompartment]

@[simp] theorem enterFlowing_slotHeld (i : LaneNo) (st : Stage) (s : State) :
    (enterFlowing i st s).slotHeld = s.slotHeld := by simp [enterFlowing]

@[simp] theorem resumeOpen_slotHeld (i : LaneNo) (s : State) : (resumeOpen i s).slotHeld = s.slotHeld := by
  unfold resumeOpen
  repeat' split
  all_goals simp

@[simp] theorem startLane_slotHeld (i : LaneNo) (s : State) : (startLane i s).slotHeld = s.slotHeld := by
  unfold startLane
  repeat' split
  all_goals simp

@[simp] theorem offerTotal_slotHeld (i : LaneNo) (gross std : Word48) (s : State) :
    (offerTotal i gross std s).slotHeld = s.slotHeld := by
  unfold offerTotal
  repeat' split
  all_goals first | rfl | simp [enqueue_slotHeld_of ‹_›]

@[simp] theorem offerWaiting_slotHeld (i : LaneNo) (s : State) : (offerWaiting i s).slotHeld = s.slotHeld := by
  unfold offerWaiting
  repeat' split
  all_goals first | simp; done | simp [enqueue_slotHeld_of ‹_›]

@[simp] theorem offerAfter_slotHeld (i : LaneNo) (s : State) : (offerAfter i s).slotHeld = s.slotHeld := by
  unfold offerAfter
  split <;> simp

@[simp] theorem handOver_slotHeld (i : LaneNo) (reason : EndReason) (s : State) :
    (handOver i reason s).slotHeld = s.slotHeld := by
  unfold handOver
  split <;> simp

@[simp] theorem endSuspended_slotHeld (i : LaneNo) (s : State) : (endSuspended i s).slotHeld = s.slotHeld := by
  unfold endSuspended
  split <;> simp

@[simp] theorem closeLineOf_slotHeld (k : Nat) (s : State) : (closeLineOf k s).slotHeld = s.slotHeld := by
  unfold closeLineOf
  repeat' split
  all_goals simp

@[simp] theorem reportFault_slotHeld (i : LaneNo) (reason : EndReason) (s : State) :
    (reportFault i reason s).slotHeld = s.slotHeld := by simp [reportFault]

@[simp] theorem learnOvershoot_slotHeld (i : LaneNo) (s : State) : (learnOvershoot i s).slotHeld = s.slotHeld := by simp [learnOvershoot]

@[simp] theorem giveShare_slotHeld (i : LaneNo) (share : Nat) (s : State) :
    (giveShare i share s).slotHeld = s.slotHeld := rfl

@[simp] theorem giveShares_slotHeld (h allotment : Nat) (s : State) : (giveShares h allotment s).slotHeld = s.slotHeld := by
  unfold giveShares
  exact foldl_slotHeld _ (fun t i => giveShare_slotHeld i _ t) _ _

@[simp] theorem setShare_slotHeld (h : Nat) (x : Share) (s : State) : (setShare h x s).slotHeld = s.slotHeld := rfl

@[simp] theorem computeHeader_slotHeld (h : Nat) (s : State) : (computeHeader h s).slotHeld = s.slotHeld := by
  unfold computeHeader
  repeat' split
  all_goals simp

@[simp] theorem computeShares_slotHeld (s : State) : (computeShares s).slotHeld = s.slotHeld := by simp [computeShares, foldl_slotHeld]

@[simp] theorem suspendAll_slotHeld (cause : Cause) (s : State) : (suspendAll cause s).slotHeld = s.slotHeld := by simp [suspendAll]

@[simp] theorem haltEdge_slotHeld (before : Bool) (s : State) : (haltEdge before s).slotHeld = s.slotHeld := by simp [haltEdge]

@[simp] theorem statusSent_slotHeld (entries : List HeaderEntry) (s : State) :
    (statusSent entries s).slotHeld = s.slotHeld := rfl

@[simp] theorem sulOffer_slotHeld (r : WriteReq) (s : State) : (sulOffer r s).slotHeld = s.slotHeld := by
  unfold sulOffer
  repeat' split
  all_goals first | rfl | simp [enqueue_slotHeld_of ‹_›]

@[simp] theorem sulFreeSlot_slotHeld (n : Nat) (s : State) : (sulFreeSlot n s).slotHeld = s.slotHeld := by
  induction n generalizing s with
  | zero => rfl
  | succ n ih =>
    rw [sulFreeSlot]
    repeat' split
    all_goals first | rfl | simp_all [enqueue_slotHeld_of ‹_›]

@[simp] theorem dropPiu_slotHeld (i : LaneNo) (s : State) : (dropPiu i s).slotHeld = s.slotHeld := by simp [dropPiu]

@[simp] theorem dropUnfitted_slotHeld (s : State) : (dropUnfitted s).slotHeld = s.slotHeld := by simp [dropUnfitted]

@[simp] theorem configFaultAt_slotHeld (code entry : Nat) (s : State) :
    (configFaultAt code entry s).slotHeld = s.slotHeld := dropUnfitted_slotHeld _

@[simp] theorem readStraps_slotHeld (straps : BitVec 5) (listenOnly : Bool) (s : State) :
    (readStraps straps listenOnly s).slotHeld = s.slotHeld := by simp [readStraps]

@[simp] theorem imageRead_slotHeld (bytes : List Byte) (s : State) :
    (imageRead bytes s).slotHeld = s.slotHeld := by
  unfold imageRead
  split
  · simp
  · rw [askRead_slotHeld, modSul_slotHeld, dropUnfitted_slotHeld]; rfl

@[simp] theorem headerPage_slotHeld (page : List Byte) (s : State) :
    (headerPage page s).slotHeld = s.slotHeld := by
  unfold headerPage
  split <;> simp

@[simp] theorem imagePage_slotHeld (last : Nat) (page : List Byte) (s : State) :
    (imagePage last page s).slotHeld = s.slotHeld := by simp [imagePage]

@[simp] theorem setTotals_slotHeld (i : LaneNo) (g t : Word48) (s : State) :
    (setTotals i g t s).slotHeld = s.slotHeld := rfl

@[simp] theorem totalsPage_slotHeld (k : Nat) (page : List Byte) (s : State) :
    (totalsPage k page s).slotHeld = s.slotHeld := by simp [totalsPage]

@[simp] theorem nextSlot_slotHeld (slot : Nat) (s : State) : (nextSlot slot s).slotHeld = s.slotHeld := by simp [nextSlot]

@[simp] theorem slotRead_slotHeld (slot : Nat) (bytes : List Byte) (s : State) :
    (slotRead slot bytes s).slotHeld = s.slotHeld := by simp [slotRead]

@[simp] theorem slotFirst_slotHeld (slot : Nat) (page : List Byte) (s : State) :
    (slotFirst slot page s).slotHeld = s.slotHeld := by simp [slotFirst]

@[simp] theorem slotNext_slotHeld (slot left : Nat) (page : List Byte) (s : State) :
    (slotNext slot left page s).slotHeld = s.slotHeld := by simp [slotNext]

@[simp] theorem toSettle_slotHeld (s : State) : (toSettle s).slotHeld = s.slotHeld := rfl

@[simp] theorem raiseTotals_slotHeld (i : LaneNo) (g t : Word48) (s : State) :
    (raiseTotals i g t s).slotHeld = s.slotHeld := rfl

@[simp] theorem offerTotals_slotHeld (s : State) : (offerTotals s).slotHeld = s.slotHeld := by simp [offerTotals]

@[simp] theorem settleSealed_slotHeld (m : Marker) (note : List Byte) (s : State) :
    (settleSealed m note s).slotHeld = s.slotHeld := by
  have e : ((noteTotals note).foldl (fun u (i, g, x) => raiseTotals i g x u) s).slotHeld = s.slotHeld :=
    foldl_slotHeld _ (fun t a => by simp) _ _
  simp [settleSealed, e]

@[simp] theorem passOne_slotHeld (c : Option CheckRec) (l : OrderLine) (s : State) :
    (passOne c l s).slotHeld = s.slotHeld := by
  unfold passOne
  split <;> simp

@[simp] theorem passTwo_slotHeld (number k : Nat) (s : State) : (passTwo number k s).slotHeld = s.slotHeld := by
  unfold passTwo
  repeat' split
  all_goals simp

@[simp] theorem rebuilt_slotHeld (m : Marker) (s : State) : (rebuilt m s).slotHeld = s.slotHeld := by simp [rebuilt, foldl_slotHeld]

@[simp] theorem nextCheck_slotHeld (m : Marker) (start : Nat) (s : State) :
    (nextCheck m start s).slotHeld = s.slotHeld := by
  unfold nextCheck
  split <;> simp

@[simp] theorem checkPage_slotHeld (m : Marker) (line : Nat) (page : List Byte) (s : State) :
    (checkPage m line page s).slotHeld = s.slotHeld := by
  unfold checkPage
  dsimp only
  split
  · simp
  · simp

@[simp] theorem sealedRead_slotHeld (bytes : List Byte) (s : State) :
    (sealedRead bytes s).slotHeld = s.slotHeld := by
  unfold sealedRead
  split <;> simp

@[simp] theorem sealedFirst_slotHeld (page : List Byte) (s : State) :
    (sealedFirst page s).slotHeld = s.slotHeld := by
  unfold sealedFirst
  split <;> simp

@[simp] theorem sealedNext_slotHeld (left : Nat) (page : List Byte) (s : State) :
    (sealedNext left page s).slotHeld = s.slotHeld := by simp [sealedNext]

@[simp] theorem markHeadPage_slotHeld (page : List Byte) (s : State) :
    (markHeadPage page s).slotHeld = s.slotHeld := by
  unfold markHeadPage
  split <;> simp

@[simp] theorem markLinesPage_slotHeld (page : List Byte) (s : State) :
    (markLinesPage page s).slotHeld = s.slotHeld := by
  unfold markLinesPage
  split <;> simp

@[simp] theorem sulPage_slotHeld (page : List Byte) (s : State) : (sulPage page s).slotHeld = s.slotHeld := by
  unfold sulPage
  repeat' split
  all_goals simp

@[simp] theorem recoveryNote_slotHeld (s : State) : (recoveryNote s).slotHeld = s.slotHeld := by
  unfold recoveryNote
  split <;> simp

@[simp] theorem recoverySealed_slotHeld (s : State) : (recoverySealed s).slotHeld = s.slotHeld := by
  unfold recoverySealed
  split <;> simp

@[simp] theorem startLanes_slotHeld (s : State) : (startLanes s).slotHeld = s.slotHeld := by simp [startLanes]

@[simp] theorem completeFault_slotHeld (s : State) : (completeFault s).slotHeld = s.slotHeld := by simp [completeFault]

@[simp] theorem reportFreeSlot_slotHeld (s : State) : (reportFreeSlot s).slotHeld = s.slotHeld := by simp [reportFreeSlot]

@[simp] theorem reportRoom_slotHeld (s : State) : (reportRoom s).slotHeld = s.slotHeld := by simp [reportRoom]

@[simp] theorem idleTimer_slotHeld (s : State) : (idleTimer s).slotHeld = s.slotHeld := by
  unfold idleTimer
  repeat' split
  all_goals simp [modPct_slotHeld]

@[simp] theorem settle_slotHeld (s : State) : (settle s).slotHeld = s.slotHeld := by simp [settle]

@[simp] theorem pulseStep_slotHeld (i : LaneNo) (pt : PulseTick) (s : State) :
    (pulseStep i pt s).slotHeld = s.slotHeld := by
  unfold pulseStep
  split <;> simp

@[simp] theorem volumeStep_slotHeld (i : LaneNo) (p : Pass) (s : State) :
    (volumeStep i p s).slotHeld = s.slotHeld := by simp [volumeStep]

@[simp] theorem stageStep_slotHeld (c : LaneCfg) (i : LaneNo) (s : State) :
    (stageStep c i s).slotHeld = s.slotHeld := by simp [stageStep]

@[simp] theorem noFlowStep_slotHeld (i : LaneNo) (pulses : Nat) (d : Steer) (s : State) :
    (noFlowStep i pulses d s).slotHeld = s.slotHeld := by simp [noFlowStep]

@[simp] theorem steerStep_slotHeld (i : LaneNo) (pulses : Nat) (s : State) :
    (steerStep i pulses s).slotHeld = s.slotHeld := by simp [steerStep]

@[simp] theorem checkpointStep_slotHeld (i : LaneNo) (before : Stage) (gross : Nat) (s : State) :
    (checkpointStep i before gross s).slotHeld = s.slotHeld := by simp [checkpointStep]

@[simp] theorem leakReport_slotHeld (before after : Nat) (s : State) :
    (leakReport before after s).slotHeld = s.slotHeld := by simp [leakReport]

@[simp] theorem leakLanePass_slotHeld (i : LaneNo) (c : VenCfg) (raw : Nat) (s : State) :
    (leakLanePass i c raw s).slotHeld = s.slotHeld := by simp [leakLanePass]

@[simp] theorem statusPage_slotHeld (page : List Byte) (s : State) :
    (statusPage page s).slotHeld = s.slotHeld := by
  unfold statusPage
  repeat' split
  all_goals simp

@[simp] theorem deliverPage_slotHeld (owner : Reader) (page : List Byte) (s : State) :
    (deliverPage owner page s).slotHeld = s.slotHeld := by
  unfold deliverPage
  split <;> simp

@[simp] theorem unprime_slotHeld (i : LaneNo) (s : State) : (unprime i s).slotHeld = s.slotHeld := by simp [unprime]

@[simp] theorem lifetimeEnd_slotHeld (s : State) : (lifetimeEnd s).slotHeld = s.slotHeld := by simp [lifetimeEnd, modPct_slotHeld]

@[simp] theorem lapseLane_slotHeld (i : LaneNo) (s : State) : (lapseLane i s).slotHeld = s.slotHeld := by simp [lapseLane]

@[simp] theorem markLapse_slotHeld (i : LaneNo) (s : State) : (markLapse i s).slotHeld = s.slotHeld := by simp [markLapse]

@[simp] theorem permissiveDrop_slotHeld (s : State) : (permissiveDrop s).slotHeld = s.slotHeld := by simp [permissiveDrop]

@[simp] theorem dropOutputs_slotHeld (i : LaneNo) (s : State) : (dropOutputs i s).slotHeld = s.slotHeld := by simp [dropOutputs]

@[simp] theorem permissiveEffect_slotHeld (good : Bool) (s : State) :
    (permissiveEffect good s).slotHeld = s.slotHeld := by simp [permissiveEffect]

@[simp] theorem latchLane_slotHeld (i : LaneNo) (s : State) : (latchLane i s).slotHeld = s.slotHeld := rfl

@[simp] theorem armLost_slotHeld (i : LaneNo) (s : State) : (armLost i s).slotHeld = s.slotHeld := by
  unfold armLost
  split <;> simp

@[simp] theorem clearLeak_slotHeld (i : LaneNo) (s : State) : (clearLeak i s).slotHeld = s.slotHeld := rfl

@[simp] theorem ackEffect_slotHeld (s : State) : (ackEffect s).slotHeld = s.slotHeld := rfl

@[simp] theorem takeOverride_slotHeld (s : State) : (takeOverride s).slotHeld = s.slotHeld := by simp [takeOverride]

@[simp] theorem holdEffect_slotHeld (s : State) : (holdEffect s).slotHeld = s.slotHeld := by
  unfold holdEffect
  dsimp only
  repeat' split
  all_goals simp

@[simp] theorem endStep_slotHeld (i : LaneNo) (s : State) : (endStep i s).slotHeld = s.slotHeld := rfl

@[simp] theorem edgeA_slotHeld (i : LaneNo) (cap : Word32) (s : State) :
    (edgeA i cap s).slotHeld = s.slotHeld := rfl

@[simp] theorem edgeB_slotHeld (i : LaneNo) (cap : Word32) (s : State) :
    (edgeB i cap s).slotHeld = s.slotHeld := rfl

@[simp] theorem unexpected_slotHeld (j : InjNo) (s : State) : (unexpected j s).slotHeld = s.slotHeld := by
  unfold unexpected
  split <;> simp

@[simp] theorem pulseTaken_slotHeld (j : InjNo) (s : State) : (pulseTaken j s).slotHeld = s.slotHeld := by
  unfold pulseTaken
  split <;> simp

@[simp] theorem hearAsk_slotHeld (sender target : Nat) (note : Word32) (s : State) :
    (hearAsk sender target note s).slotHeld = s.slotHeld := by simp [hearAsk]

@[simp] theorem mapPeer_slotHeld (station : Nat) (f : Peer → Peer) (s : State) : (mapPeer station f s).slotHeld = s.slotHeld := rfl

@[simp] theorem dropPeer_slotHeld (station : Nat) (s : State) : (dropPeer station s).slotHeld = s.slotHeld := rfl

@[simp] theorem busyAsserted_slotHeld (s : State) : (busyAsserted s).slotHeld = s.slotHeld := rfl

@[simp] theorem busyReleased_slotHeld (s : State) : (busyReleased s).slotHeld = s.slotHeld := by simp [busyReleased]

@[simp] theorem characterGone_slotHeld (s : State) : (characterGone s).slotHeld = s.slotHeld := by
  unfold characterGone
  dsimp only
  split <;> simp

end Sys2Proof.Machine
end

