-- ==== Sys2Proof/Laws/Settle.lean ====
section
/-! SUPPORT. What the end of an event leaves (log 31): no report due, and everything as it was but what `State.steady` and
`State.apart` leave out. -/

namespace Sys2Proof.Machine

/-! ### What the reports may change: `State.steady` -/

theorem modLane_steady (s : State) (i : LaneNo) (f : Lane → Lane) (h : ∀ l, (f l).steady = l.steady) :
    (s.modLane i f).steady = s.steady := by
  have e : (s.lanes.set i (f s.lanes[i])).map Lane.steady = s.lanes.map Lane.steady := by
    ext j hj : 1
    simp only [Vector.getElem_map, Vector.getElem_set]
    split
    · rename_i hij; subst hij; exact h _
    · rfl
  simp only [State.steady, State.modLane, e]

@[simp] theorem modStp_steady (s : State) (f : Stp → Stp) : (s.modStp f).steady = s.steady := rfl

@[simp] theorem ite_steady (c : Prop) [Decidable c] (a b : State) :
    (if c then a else b).steady = if c then a.steady else b.steady := by split <;> rfl

theorem foldl_steady {α : Type} (f : State → α → State) (h : ∀ t a, (f t a).steady = t.steady) (l : List α) (s : State) :
    (l.foldl f s).steady = s.steady := by
  induction l generalizing s with
  | nil => rfl
  | cons a rest ih => rw [List.foldl_cons, ih, h]

@[simp] theorem eachLane_steady (f : LaneNo → State → State) (h : ∀ i t, (f i t).steady = t.steady) (s : State) :
    (s.eachLane f).steady = s.steady := foldl_steady _ (fun t i => h i t) _ _

@[simp] theorem askRead_steady (owner : Reader) (page : Nat) (s : State) : (askRead owner page s).steady = s.steady := rfl

@[simp] theorem askStatusRead_steady (q : QItem) (s : State) : (askStatusRead q s).steady = s.steady := by
  unfold askStatusRead
  split <;> simp

@[simp] theorem startNext_steady (s : State) : (startNext s).steady = s.steady := by
  unfold startNext
  split <;> simp

@[simp] theorem enqueue_steady (q : QItem) (s : State) : (enqueue q s).2.steady = s.steady := by
  unfold enqueue
  repeat' split
  all_goals simp

theorem enqueue_steady_of {q : QItem} {s t : State} {b : Bool} (h : enqueue q s = (b, t)) : t.steady = s.steady := by
  have e := enqueue_steady q s
  rwa [h] at e

@[simp] theorem offerFrame_steady (f : TxFrame) (s : State) : (offerFrame f s).2.steady = s.steady := by
  unfold offerFrame
  repeat' split
  all_goals rfl

theorem offerFrame_steady_of {f : TxFrame} {s t : State} {b : Bool} (h : offerFrame f s = (b, t)) :
    t.steady = s.steady := by
  have e := offerFrame_steady f s
  rwa [h] at e

@[simp] theorem portKick_steady (s : State) : (portKick s).steady = s.steady := by
  unfold portKick
  repeat' split
  all_goals rfl

@[simp] theorem retarget_steady (i : LaneNo) (s : State) : (retarget i s).steady = s.steady :=
  modLane_steady s i _ fun _ => rfl

@[simp] theorem outputsOff_steady (i : LaneNo) (s : State) : (outputsOff i s).steady = s.steady :=
  modLane_steady s i _ fun _ => rfl

@[simp] theorem setStage_steady (i : LaneNo) (st : Stage) (s : State) : (setStage i st s).steady = s.steady := by
  rw [setStage, retarget_steady]
  exact modLane_steady s i _ fun _ => rfl

@[simp] theorem toIdle_steady (i : LaneNo) (s : State) : (toIdle i s).steady = s.steady := by
  rw [toIdle, setStage_steady, outputsOff_steady]
  exact modLane_steady s i _ fun _ => rfl

@[simp] theorem primingCheck_steady (i : LaneNo) (s : State) : (primingCheck i s).steady = s.steady := by
  unfold primingCheck
  split
  · split
    · rfl
    · exact modLane_steady s i _ fun _ => rfl
  · rfl

@[simp] theorem offerTotal_steady (i : LaneNo) (g x : Word48) (s : State) : (offerTotal i g x s).steady = s.steady := by
  unfold offerTotal
  split
  · rename_i t e
    rw [primingCheck_steady, toIdle_steady, ← enqueue_steady_of e]
    exact modLane_steady t i _ fun _ => rfl
  · rename_i t e
    rw [← enqueue_steady_of e]
    exact modLane_steady t i _ fun _ => rfl

@[simp] theorem offerWaiting_steady (i : LaneNo) (s : State) : (offerWaiting i s).steady = s.steady := by
  unfold offerWaiting
  split
  · split
    · rename_i t e
      rw [offerTotal_steady, enqueue_steady_of e]
    · rename_i t e
      exact enqueue_steady_of e
  · exact offerTotal_steady _ _ _ _
  · rfl

@[simp] theorem offerAfter_steady (i : LaneNo) (s : State) : (offerAfter i s).steady = s.steady := by
  unfold offerAfter
  split <;> simp

@[simp] theorem offerPages_steady (n : Nat) (s : State) : (offerPages n s).steady = s.steady := by
  induction n generalizing s with
  | zero => rfl
  | succ n ih =>
    rw [offerPages]
    repeat' split
    · rfl
    · rename_i t e
      rw [ih, ← enqueue_steady_of e]
      rfl
    · rename_i t e
      exact enqueue_steady_of e
    · rfl

@[simp] theorem beginNote_steady (h : NoteHead) (lines : List OrderLine) (recovered : Bool) (s : State) :
    (beginNote h lines recovered s).steady = s.steady := by
  unfold beginNote
  dsimp only
  rw [offerPages_steady]
  rfl

@[simp] theorem offerStatuses_steady (n : Nat) (s : State) : (offerStatuses n s).steady = s.steady := by
  induction n generalizing s with
  | zero => rfl
  | succ n ih =>
    rw [offerStatuses]
    repeat' split
    · rfl
    · rename_i t e
      rw [ih, ← enqueue_steady_of e]
      rfl
    · rename_i t e
      exact enqueue_steady_of e

@[simp] theorem ntbFreeSlot_steady (s : State) : (ntbFreeSlot s).steady = s.steady := by simp [ntbFreeSlot]

@[simp] theorem offerReady_steady (s : State) : (offerReady s).steady = s.steady := by
  unfold offerReady
  repeat' split
  · rfl
  · rename_i t e
    rw [← offerFrame_steady_of e]
    rfl
  · rename_i t e
    exact offerFrame_steady_of e

@[simp] theorem serve_steady (n : Nat) (s : State) : (serve n s).steady = s.steady := by
  induction n generalizing s with
  | zero => rfl
  | succ n ih =>
    rw [serve]
    repeat' split
    · rfl
    · rw [ih]; rfl
    · rfl
    · rfl
    · rfl
    · rename_i t e
      exact offerFrame_steady_of e
    · rename_i t e _
      rw [ih, ← offerFrame_steady_of e]
      rfl
    · rename_i t e _
      rw [ih, ← offerFrame_steady_of e]
      rfl

@[simp] theorem ntbRoom_steady (s : State) : (ntbRoom s).steady = s.steady := by
  unfold ntbRoom
  dsimp only
  split <;> simp

@[simp] theorem pctRoom_steady (n : Nat) (s : State) : (pctRoom n s).steady = s.steady := by
  induction n generalizing s with
  | zero => rfl
  | succ n ih =>
    rw [pctRoom]
    repeat' split
    · rfl
    · rename_i t e
      rw [ih, ← offerFrame_steady_of e]
      rfl
    · rename_i t e
      exact offerFrame_steady_of e

@[simp] theorem pctFreeSlot_steady (n : Nat) (s : State) : (pctFreeSlot n s).steady = s.steady := by
  induction n generalizing s with
  | zero => rfl
  | succ n ih =>
    rw [pctFreeSlot]
    repeat' split
    · rfl
    · rename_i t e
      rw [ih, ← enqueue_steady_of e]
      rfl
    · rename_i t e
      exact enqueue_steady_of e

@[simp] theorem sulFreeSlot_steady (n : Nat) (s : State) : (sulFreeSlot n s).steady = s.steady := by
  induction n generalizing s with
  | zero => rfl
  | succ n ih =>
    rw [sulFreeSlot]
    repeat' split
    · rfl
    · rename_i t e
      rw [ih, ← enqueue_steady_of e]
      rfl
    · rename_i t e
      exact enqueue_steady_of e

@[simp] theorem recoveryNote_steady (s : State) : (recoveryNote s).steady = s.steady := by
  unfold recoveryNote
  split
  · rfl
  · split
    · rw [beginNote_steady]; rfl
    · rfl

@[simp] theorem refreshLamps_steady (s : State) : (refreshLamps s).steady = s.steady := by
  unfold refreshLamps
  split <;> rfl

@[simp] theorem reportFreeSlot_steady (s : State) : (reportFreeSlot s).steady = s.steady := by
  unfold reportFreeSlot
  split
  · simp
  · rfl

@[simp] theorem reportRoom_steady (s : State) : (reportRoom s).steady = s.steady := by
  unfold reportRoom
  split
  · rw [ntbRoom_steady, pctRoom_steady]; rfl
  · rfl

@[simp] theorem idleTimer_steady (s : State) : (idleTimer s).steady = s.steady := by
  unfold idleTimer
  repeat' split
  all_goals rfl

/-- The end of an event changes nothing but offers held, the lanes that leave ENDED, the lamps, the trip idle timer and the
store port. -/
@[simp] theorem settle_steady (s : State) : (settle s).steady = s.steady := by simp [settle]

/-! ### An event that leaves no report due: `State.apart` -/

@[simp] theorem portKick_apart (s : State) : (portKick s).apart = s.apart := by
  unfold portKick
  repeat' split
  all_goals rfl

@[simp] theorem refreshLamps_apart (s : State) : (refreshLamps s).apart = s.apart := by
  unfold refreshLamps
  split <;> rfl

@[simp] theorem idleTimer_apart (s : State) : (idleTimer s).apart = s.apart := by
  unfold idleTimer
  repeat' split
  all_goals rfl

theorem recoveryNote_none {s : State} (h : s.sul.recovery ≠ .offering) : recoveryNote s = s := by
  unfold recoveryNote
  split
  · rfl
  · rw [if_neg fun e => h e.1]

theorem reportFreeSlot_none {s : State} (h : s.stp.departed = false) : reportFreeSlot s = s := by
  rw [reportFreeSlot, h]; rfl

theorem reportRoom_none {s : State} (h : s.lif.roomFreed = false) : reportRoom s = s := by
  rw [reportRoom, h]; rfl

/-- With no report due, the end of an event is the idle timer, the lamps and the store port. -/
theorem settle_calm {s : State} (h : s.Calm) : settle s = portKick (refreshLamps (idleTimer s)) := by
  rw [settle, reportFreeSlot_none h.1.1, recoveryNote_none h.2, reportFreeSlot_none h.1.1, reportRoom_none h.1.2]

/-- With no report due, the end of an event changes nothing but the lamps, the trip idle timer and the store port. -/
theorem settle_apart {s : State} (h : s.Calm) : (settle s).apart = s.apart := by rw [settle_calm h]; simp

/-- A command whose effect leaves no report due yields that effect. -/
theorem yields_of_finish {c : Instr} {s u : State} (h : exec c s = finish u) (calm : u.Calm) : Yields c s u :=
  ⟨settle u, h, settle_apart calm⟩

/-! ### Lanes that are not in ENDED -/

@[simp] theorem askStatusRead_lanes (q : QItem) (s : State) : (askStatusRead q s).lanes = s.lanes := by
  unfold askStatusRead
  split <;> rfl

@[simp] theorem startNext_lanes (s : State) : (startNext s).lanes = s.lanes := by
  unfold startNext
  split <;> simp

@[simp] theorem enqueue_lanes (q : QItem) (s : State) : (enqueue q s).2.lanes = s.lanes := by
  unfold enqueue
  repeat' split
  all_goals simp

theorem enqueue_lanes_of {q : QItem} {s t : State} {b : Bool} (h : enqueue q s = (b, t)) : t.lanes = s.lanes := by
  have e := enqueue_lanes q s
  rwa [h] at e

@[simp] theorem offerFrame_lanes (f : TxFrame) (s : State) : (offerFrame f s).2.lanes = s.lanes := by
  unfold offerFrame
  repeat' split
  all_goals rfl

theorem offerFrame_lanes_of {f : TxFrame} {s t : State} {b : Bool} (h : offerFrame f s = (b, t)) : t.lanes = s.lanes := by
  have e := offerFrame_lanes f s
  rwa [h] at e

@[simp] theorem offerPages_lanes (n : Nat) (s : State) : (offerPages n s).lanes = s.lanes := by
  induction n generalizing s with
  | zero => rfl
  | succ n ih =>
    rw [offerPages]
    repeat' split
    all_goals first | (simp [ih]; done) | simp [ih, enqueue_lanes_of ‹_›]

@[simp] theorem offerStatuses_lanes (n : Nat) (s : State) : (offerStatuses n s).lanes = s.lanes := by
  induction n generalizing s with
  | zero => rfl
  | succ n ih =>
    rw [offerStatuses]
    repeat' split
    all_goals first | (simp [ih]; done) | simp [ih, enqueue_lanes_of ‹_›]

@[simp] theorem ntbFreeSlot_lanes (s : State) : (ntbFreeSlot s).lanes = s.lanes := by simp [ntbFreeSlot]

@[simp] theorem pctFreeSlot_lanes (n : Nat) (s : State) : (pctFreeSlot n s).lanes = s.lanes := by
  induction n generalizing s with
  | zero => rfl
  | succ n ih =>
    rw [pctFreeSlot]
    repeat' split
    all_goals first | (simp [ih]; done) | simp [ih, enqueue_lanes_of ‹_›]

@[simp] theorem sulFreeSlot_lanes (n : Nat) (s : State) : (sulFreeSlot n s).lanes = s.lanes := by
  induction n generalizing s with
  | zero => rfl
  | succ n ih =>
    rw [sulFreeSlot]
    repeat' split
    all_goals first | (simp [ih]; done) | simp [ih, enqueue_lanes_of ‹_›]

@[simp] theorem pctRoom_lanes (n : Nat) (s : State) : (pctRoom n s).lanes = s.lanes := by
  induction n generalizing s with
  | zero => rfl
  | succ n ih =>
    rw [pctRoom]
    repeat' split
    all_goals first | (simp [ih]; done) | simp [ih, offerFrame_lanes_of ‹_›]

@[simp] theorem offerReady_lanes (s : State) : (offerReady s).lanes = s.lanes := by
  unfold offerReady
  repeat' split
  all_goals first | (simp; done) | simp [offerFrame_lanes_of ‹_›]

@[simp] theorem serve_lanes (n : Nat) (s : State) : (serve n s).lanes = s.lanes := by
  induction n generalizing s with
  | zero => rfl
  | succ n ih =>
    rw [serve]
    repeat' split
    all_goals first | (simp [ih, askRead]; done) | simp [ih, offerFrame_lanes_of ‹_›]

@[simp] theorem ntbRoom_lanes (s : State) : (ntbRoom s).lanes = s.lanes := by
  unfold ntbRoom
  dsimp only
  split <;> simp

@[simp] theorem reportRoom_lanes (s : State) : (reportRoom s).lanes = s.lanes := by
  unfold reportRoom
  split <;> simp

@[simp] theorem recoveryNote_lanes (s : State) : (recoveryNote s).lanes = s.lanes := by
  unfold recoveryNote
  split
  · rfl
  · split
    · simp [beginNote]
    · rfl

@[simp] theorem idleTimer_lanes (s : State) : (idleTimer s).lanes = s.lanes := by
  unfold idleTimer
  repeat' split
  all_goals rfl

@[simp] theorem refreshLamps_lanes (s : State) : (refreshLamps s).lanes = s.lanes := by
  unfold refreshLamps
  split <;> rfl

@[simp] theorem portKick_lanes (s : State) : (portKick s).lanes = s.lanes := by
  unfold portKick
  repeat' split
  all_goals rfl

theorem lane_of_lanes {s t : State} (h : t.lanes = s.lanes) (i : LaneNo) : t.lane i = s.lane i := by
  simp only [State.lane, h]

theorem primingCheck_lane_ne {i j : LaneNo} (ne : i ≠ j) (s : State) : (primingCheck i s).lane j = s.lane j := by
  unfold primingCheck
  repeat' split
  all_goals simp [modLane_lane_ne, ne]

theorem toIdle_lane_ne {i j : LaneNo} (ne : i ≠ j) (s : State) : (toIdle i s).lane j = s.lane j := by
  simp [toIdle, setStage, retarget, outputsOff, modLane_lane_ne, ne]

theorem offerTotal_lane_ne {i j : LaneNo} (ne : i ≠ j) (g x : Word48) (s : State) :
    (offerTotal i g x s).lane j = s.lane j := by
  unfold offerTotal
  split
  · rename_i t e
    rw [primingCheck_lane_ne ne, toIdle_lane_ne ne, modLane_lane_ne _ _ _ ne, lane_of_lanes (enqueue_lanes_of e)]
  · rename_i t e
    rw [modLane_lane_ne _ _ _ ne, lane_of_lanes (enqueue_lanes_of e)]

theorem offerAfter_lane_ne {i j : LaneNo} (ne : i ≠ j) (s : State) : (offerAfter i s).lane j = s.lane j := by
  unfold offerAfter
  split
  · unfold offerWaiting
    split
    · split
      · rename_i t e
        rw [offerTotal_lane_ne ne, lane_of_lanes (enqueue_lanes_of e)]
      · rename_i t e
        exact lane_of_lanes (enqueue_lanes_of e) j
    · exact offerTotal_lane_ne ne _ _ _
    · rfl
  · rfl

/-- A held offer leaves a lane that is not in ENDED as it is. -/
theorem offerAfter_lane {j : LaneNo} {s : State} (h : s.stage j ≠ .ended) (i : LaneNo) :
    (offerAfter i s).lane j = s.lane j := by
  by_cases ne : i = j
  · subst ne
    rw [offerAfter, if_neg h]
  · exact offerAfter_lane_ne ne s

theorem foldl_offerAfter_lane {j : LaneNo} (l : List LaneNo) {s : State} (h : s.stage j ≠ .ended) :
    (l.foldl (fun t i => offerAfter i t) s).lane j = s.lane j := by
  induction l generalizing s with
  | nil => rfl
  | cons i rest ih =>
    have e := offerAfter_lane h i
    rw [List.foldl_cons, ih (by rw [State.stage, e]; exact h), e]

theorem reportFreeSlot_lane {j : LaneNo} {s : State} (h : s.stage j ≠ .ended) : (reportFreeSlot s).lane j = s.lane j := by
  unfold reportFreeSlot
  split
  · rw [lane_of_lanes (sulFreeSlot_lanes _ _), lane_of_lanes (ntbFreeSlot_lanes _), lane_of_lanes (pctFreeSlot_lanes _ _)]
    exact foldl_offerAfter_lane allLanes (s := s.modStp _) h
  · rfl

/-- The end of an event leaves a lane that is not in ENDED as it is. -/
theorem settle_lane {j : LaneNo} {s : State} (h : s.stage j ≠ .ended) : (settle s).lane j = s.lane j := by
  have e := reportFreeSlot_lane h
  have k : (recoveryNote (reportFreeSlot s)).lane j = s.lane j := by rw [lane_of_lanes (recoveryNote_lanes _), e]
  rw [settle, lane_of_lanes (portKick_lanes _), lane_of_lanes (refreshLamps_lanes _), lane_of_lanes (idleTimer_lanes _),
    lane_of_lanes (reportRoom_lanes _), reportFreeSlot_lane (by rw [State.stage, k]; exact h), k]

/-- A command leaves its effect, but for what the reports at the end of an event may change. -/
theorem leaves_of_finish {c : Instr} {s u : State} (h : exec c s = finish u) : Leaves c s u :=
  ⟨settle u, h, settle_steady u, fun _ ne => settle_lane ne⟩

end Sys2Proof.Machine
end

