-- ==== Sys2Proof/Laws/Store.lean ====
section
/-! SUPPORT. The store's memory: what a read gives after a write, and that every memory operation keeps the canonical
form (R187, R188). -/

namespace Sys2Proof.Machine

theorem readByte_below {m : List Host.Cell} {low addr : Nat} (h : wfFrom low m = true) (lt : addr < low) :
    readByte m addr = erased := by
  induction m generalizing low with
  | nil => rfl
  | cons c rest ih =>
    obtain ⟨a, b⟩ := c
    simp only [wfFrom, Bool.and_eq_true, decide_eq_true_eq] at h
    simp only [readByte]
    rw [if_neg (by omega)]
    exact ih h.2 (by omega)

/-- A write to an address is read back there. -/
theorem readByte_writeByte_self {m : List Host.Cell} {low : Nat} (h : wfFrom low m = true) (addr : Nat) (v : Byte) :
    readByte (writeByte m addr v) addr = v := by
  induction m generalizing low with
  | nil => by_cases hv : v = erased <;> simp [writeByte, readByte, hv]
  | cons c rest ih =>
    obtain ⟨a, b⟩ := c
    simp only [wfFrom, Bool.and_eq_true, decide_eq_true_eq] at h
    simp only [writeByte]
    split
    · rw [readByte, if_neg (by omega)]; exact ih h.2
    · split
      · split
        · rename_i ha hv; rw [hv]; exact readByte_below h.2 (by omega)
        · simp [readByte]
      · split
        · rename_i hv
          rw [readByte, if_neg (by omega), hv]; exact readByte_below h.2 (by omega)
        · simp [readByte]

/-- A write leaves every other address as it was. -/
theorem readByte_writeByte_ne (m : List Host.Cell) {addr x : Nat} (v : Byte) (ne : x ≠ addr) :
    readByte (writeByte m addr v) x = readByte m x := by
  have ne' : addr ≠ x := Ne.symm ne
  induction m with
  | nil => by_cases hv : v = erased <;> simp [writeByte, readByte, hv, ne']
  | cons c rest ih =>
    obtain ⟨a, b⟩ := c
    simp only [writeByte]
    repeat' split
    all_goals simp_all [readByte]

theorem wfFrom_mono {m : List Host.Cell} {low low' : Nat} (h : wfFrom low m = true) (le : low' ≤ low) :
    wfFrom low' m = true := by
  cases m with
  | nil => rfl
  | cons c rest =>
    obtain ⟨a, b⟩ := c
    simp only [wfFrom, Bool.and_eq_true, decide_eq_true_eq] at h ⊢
    exact ⟨⟨⟨by omega, h.1.1.2⟩, h.1.2⟩, h.2⟩

theorem wfFrom_writeByte {m : List Host.Cell} {low addr : Nat} (h : wfFrom low m = true) (ge : low ≤ addr)
    (lt : addr < 262144) (v : Byte) : wfFrom low (writeByte m addr v) = true := by
  induction m generalizing low with
  | nil => by_cases hv : v = erased <;> simp [writeByte, wfFrom, hv, ge, lt]
  | cons c rest ih =>
    obtain ⟨a, b⟩ := c
    have hw := h
    simp only [wfFrom, Bool.and_eq_true, decide_eq_true_eq] at h
    simp only [writeByte]
    split
    · simp only [wfFrom, Bool.and_eq_true, decide_eq_true_eq]
      exact ⟨h.1, ih h.2 (by omega)⟩
    · split
      · rename_i ha
        split
        · exact wfFrom_mono h.2 (by omega)
        · rename_i hv
          simp only [wfFrom, Bool.and_eq_true, decide_eq_true_eq]
          exact ⟨⟨⟨ge, lt⟩, hv⟩, ha ▸ h.2⟩
      · split
        · exact hw
        · rename_i hv
          simp only [wfFrom, Bool.and_eq_true, decide_eq_true_eq]
          exact ⟨⟨⟨ge, lt⟩, hv⟩, ⟨⟨by omega, h.1.1.2⟩, h.1.2⟩, h.2⟩

/-- Writing one byte keeps the canonical form. -/
theorem wf_writeByte {m : List Host.Cell} (h : Memory.wf m = true) {addr : Nat} (lt : addr < 262144) (v : Byte) :
    Memory.wf (writeByte m addr v) = true := wfFrom_writeByte h (Nat.zero_le _) lt v

/-- Writing bytes keeps the canonical form. -/
theorem wf_writeBytes {m : List Host.Cell} (h : Memory.wf m = true) {addr : Nat} {bytes : List Byte}
    (le : addr + bytes.length ≤ 262144) : Memory.wf (writeBytes m addr bytes) = true := by
  induction bytes generalizing m addr with
  | nil => exact h
  | cons b rest ih =>
    simp only [List.length_cons] at le
    exact ih (wf_writeByte h (by omega) b) (by omega)

/-- Bytes written leave every other address as it was. -/
theorem readByte_writeBytes_out (m : List Host.Cell) {addr x : Nat} {bytes : List Byte}
    (out : x < addr ∨ addr + bytes.length ≤ x) : readByte (writeBytes m addr bytes) x = readByte m x := by
  induction bytes generalizing m addr with
  | nil => rfl
  | cons b rest ih =>
    simp only [List.length_cons] at out
    rw [writeBytes, ih _ (by omega), readByte_writeByte_ne _ _ (by omega)]

/-- Bytes written are read back. -/
theorem readBytes_writeBytes {m : List Host.Cell} (h : Memory.wf m = true) {addr : Nat} {bytes : List Byte}
    (le : addr + bytes.length ≤ 262144) : readBytes (writeBytes m addr bytes) addr bytes.length = bytes := by
  induction bytes generalizing m addr with
  | nil => rfl
  | cons b rest ih =>
    simp only [List.length_cons] at le
    rw [List.length_cons, readBytes, writeBytes]
    refine congrArg₂ List.cons ?_ (ih (wf_writeByte h (by omega) b) (by omega))
    rw [readByte_writeBytes_out _ (by omega)]
    exact readByte_writeByte_self h addr b

/-- A page write inside the memory keeps the canonical form. -/
theorem wf_applyWrite {m : List Host.Cell} (h : Memory.wf m = true) {w : PageWrite} (inside : w.inRange = true) :
    Memory.wf (applyWrite m w) = true := by
  simp only [PageWrite.inRange, Bool.and_eq_true, decide_eq_true_eq] at inside
  have pages : pageCount = 2048 := rfl
  exact wf_writeBytes h (by omega)

/-- A page write changes the loaded bytes only. -/
theorem readByte_applyWrite_out (m : List Host.Cell) (w : PageWrite) {x : Nat}
    (out : x < w.page * 128 + w.offset ∨ w.page * 128 + w.offset + w.bytes.length ≤ x) :
    readByte (applyWrite m w) x = readByte m x := readByte_writeBytes_out m out

/-- A read of whole bytes has the length asked for. -/
theorem length_readBytes (m : List Host.Cell) (addr n : Nat) : (readBytes m addr n).length = n := by
  induction n generalizing addr with
  | zero => rfl
  | succ n ih => simp [readBytes, ih]

theorem length_readPage (m : List Host.Cell) (page : Nat) : (readPage m page).length = 128 := length_readBytes _ _ _

/-- What RESET leaves of the store is in canonical form (R191). -/
theorem wf_storeAfterReset {s : State} (h : s.StoreOk) : Memory.wf (storeAfterReset s) = true := by
  unfold storeAfterReset
  split
  · split
    · rename_i w _ _ hw
      refine wf_applyWrite h ?_
      simpa [PageWrite.inRange, freeBytes] using hw
    · exact h
  · exact h

end Sys2Proof.Machine
end

