-- ==== Sys2Proof/Laws/StpLaw.lean ====
section
/-! SUPPORT. Operations reach the Store Port only by offers to its write queue and by asking for page reads: a property of the
Store Port that these two keep is kept by every operation but those of the port itself. -/

set_option linter.unusedVariables false
set_option linter.unusedSimpArgs false
set_option linter.unusedTactic false
set_option linter.unreachableTactic false

namespace Sys2Proof.Machine

/-- A property of the Store Port that offers and read requests keep. -/
structure StpLaw (Q : Stp → Prop) : Prop where
  offers : ∀ q s, Q s.stp → Q (enqueue q s).2.stp
  reads  : ∀ (p : Stp) (r : List ReadReq), Q p → Q { p with reads := r }

/-- The Store Port of a state has a property. -/
def State.StpHas (s : State) (Q : Stp → Prop) : Prop := Q s.stp

variable {Q : Stp → Prop}

@[simp] theorem modPct_stpHas (s : State) (f : Pct → Pct) : (s.modPct f).StpHas Q ↔ s.StpHas Q := Iff.rfl
@[simp] theorem modIlm_stpHas (s : State) (f : Ilm → Ilm) : (s.modIlm f).StpHas Q ↔ s.StpHas Q := Iff.rfl
@[simp] theorem modHsu_stpHas (s : State) (f : Hsu → Hsu) : (s.modHsu f).StpHas Q ↔ s.StpHas Q := Iff.rfl
@[simp] theorem modLif_stpHas (s : State) (f : Lif → Lif) : (s.modLif f).StpHas Q ↔ s.StpHas Q := Iff.rfl
@[simp] theorem modNtb_stpHas (s : State) (f : Ntb → Ntb) : (s.modNtb f).StpHas Q ↔ s.StpHas Q := Iff.rfl
@[simp] theorem modSul_stpHas (s : State) (f : Sul → Sul) : (s.modSul f).StpHas Q ↔ s.StpHas Q := Iff.rfl
@[simp] theorem modLane_stpHas (s : State) (i : LaneNo) (f : Lane → Lane) :
    (s.modLane i f).StpHas Q ↔ s.StpHas Q := Iff.rfl
@[simp] theorem modPiu_stpHas (s : State) (i : LaneNo) (f : Piu → Piu) :
    (s.modPiu i f).StpHas Q ↔ s.StpHas Q := Iff.rfl
@[simp] theorem modVen_stpHas (s : State) (i : LaneNo) (f : Ven → Ven) :
    (s.modVen i f).StpHas Q ↔ s.StpHas Q := Iff.rfl
@[simp] theorem modInj_stpHas (s : State) (j : InjNo) (f : Injector → Injector) :
    (s.modInj j f).StpHas Q ↔ s.StpHas Q := Iff.rfl
@[simp] theorem emit_stpHas (s : State) (o : Output) : (s.emit o).StpHas Q ↔ s.StpHas Q := Iff.rfl
@[simp] theorem reach_stpHas (s : State) (d : Nat) : (s.reach d).StpHas Q ↔ s.StpHas Q := Iff.rfl
@[simp] theorem reachCapture_stpHas (s : State) (c : Word32) : (s.reachCapture c).StpHas Q ↔ s.StpHas Q := Iff.rfl
@[simp] theorem modTrip_stpHas (s : State) (f : Trip → Trip) : (s.modTrip f).StpHas Q ↔ s.StpHas Q := Iff.rfl
@[simp] theorem modLine_stpHas (s : State) (k : Nat) (f : OrderLine → OrderLine) :
    (s.modLine k f).StpHas Q ↔ s.StpHas Q := Iff.rfl
@[simp] theorem modTripFlags_stpHas (s : State) (f : TripFlags → TripFlags) :
    (s.modTripFlags f).StpHas Q ↔ s.StpHas Q := Iff.rfl
@[simp] theorem modHeld_stpHas (s : State) (i : LaneNo) (f : OrderLine → OrderLine) :
    (s.modHeld i f).StpHas Q ↔ s.StpHas Q := by unfold State.modHeld; split <;> simp
@[simp] theorem modRecord_stpHas (s : State) (i : LaneNo) (f : CompRecord → CompRecord) :
    (s.modRecord i f).StpHas Q ↔ s.StpHas Q := by simp [State.modRecord]
@[simp] theorem modFlags_stpHas (s : State) (i : LaneNo) (f : CompFlags → CompFlags) :
    (s.modFlags i f).StpHas Q ↔ s.StpHas Q := by simp [State.modFlags]
@[simp] theorem modAdditive_stpHas (s : State) (i : LaneNo) (k : Nat) (f : AdditiveLine → AdditiveLine) :
    (s.modAdditive i k f).StpHas Q ↔ s.StpHas Q := by simp [State.modAdditive]

theorem foldl_stpHas {α : Type} (f : State → α → State) (h : ∀ t a, t.StpHas Q → (f t a).StpHas Q) (l : List α)
    {s : State} (hs : s.StpHas Q) : (l.foldl f s).StpHas Q := by
  induction l generalizing s with
  | nil => exact hs
  | cons a rest ih => exact ih (h s a hs)

theorem eachLane_stpHas (f : LaneNo → State → State) (h : ∀ i t, t.StpHas Q → (f i t).StpHas Q) {s : State}
    (hs : s.StpHas Q) : (s.eachLane f).StpHas Q := foldl_stpHas _ (fun t i => h i t) _ hs

theorem enqueue_stpHas (law : StpLaw Q) (q : QItem) {s : State} (h : s.StpHas Q) : (enqueue q s).2.StpHas Q :=
  law.offers q s h

theorem enqueue_stpHas_of (law : StpLaw Q) {q : QItem} {s t : State} {b : Bool} (e : enqueue q s = (b, t))
    (h : s.StpHas Q) : t.StpHas Q := by
  have k := law.offers q s h
  rwa [e] at k

theorem askRead_stpHas (law : StpLaw Q) (o : Reader) (page : Nat) {s : State} (h : s.StpHas Q) :
    (askRead o page s).StpHas Q := law.reads _ _ h

theorem offerFrame_stpHas (f : TxFrame) {s : State} (h : s.StpHas Q) : (offerFrame f s).2.StpHas Q := by
  unfold offerFrame
  repeat' split
  all_goals exact h

theorem offerFrame_stpHas_of {f : TxFrame} {s t : State} {b : Bool} (e : offerFrame f s = (b, t)) (h : s.StpHas Q) :
    t.StpHas Q := by
  have k := offerFrame_stpHas f h
  rwa [e] at k

theorem askPages_stpHas (law : StpLaw Q) (o : Reader) (page n : Nat) {s : State} (h : s.StpHas Q) :
    (askPages o page n s).StpHas Q := by
  induction n generalizing page s with
  | zero => exact h
  | succ n ih => exact ih _ (askRead_stpHas law _ _ h)

theorem requestUrgent_stpHas (law : StpLaw Q) {s : State} (h : s.StpHas Q) :
    (requestUrgent s).StpHas Q := by 
  unfold requestUrgent
  repeat' split
  all_goals exact h

theorem statusDueNow_stpHas (law : StpLaw Q) {s : State} (h : s.StpHas Q) :
    (statusDueNow s).StpHas Q := by 
  unfold statusDueNow
  repeat' split
  all_goals exact h

theorem requestChange_stpHas (law : StpLaw Q) {s : State} (h : s.StpHas Q) :
    (requestChange s).StpHas Q := by 
  unfold requestChange
  repeat' split
  all_goals simp [h, statusDueNow_stpHas law]

theorem statusMet_stpHas (law : StpLaw Q) {s : State} (h : s.StpHas Q) :
    (statusMet s).StpHas Q := by exact h

theorem beginAttempt_stpHas (law : StpLaw Q) (quiet : Nat) {s : State} (h : s.StpHas Q) :
    (beginAttempt quiet s).StpHas Q := by 
  unfold beginAttempt
  repeat' split
  all_goals exact h

theorem nextCurrent_stpHas (law : StpLaw Q) {s : State} (h : s.StpHas Q) :
    (nextCurrent s).StpHas Q := by exact h

theorem withdrawFrame_stpHas (law : StpLaw Q) (permit : Word32) {s : State} (h : s.StpHas Q) :
    (withdrawFrame permit s).StpHas Q := by exact h

theorem tablePeer_stpHas (law : StpLaw Q) (sender : Nat) (p : Payload) {s : State} (h : s.StpHas Q) :
    (tablePeer sender p s).StpHas Q := by 
  unfold tablePeer
  repeat' split
  all_goals exact h

theorem adoptRackTime_stpHas (law : StpLaw Q) (p : Payload) {s : State} (h : s.StpHas Q) :
    (adoptRackTime p s).StpHas Q := by 
  unfold adoptRackTime
  repeat' split
  all_goals exact h

theorem retarget_stpHas (law : StpLaw Q) (i : LaneNo) {s : State} (h : s.StpHas Q) :
    (retarget i s).StpHas Q := by exact h

theorem rise_stpHas (law : StpLaw Q) (i : LaneNo) {s : State} (h : s.StpHas Q) :
    (rise i s).StpHas Q := by 
  unfold rise
  repeat' split
  all_goals exact h

theorem outputsOff_stpHas (law : StpLaw Q) (i : LaneNo) {s : State} (h : s.StpHas Q) :
    (outputsOff i s).StpHas Q := by exact h

theorem steerNow_stpHas (law : StpLaw Q) (i : LaneNo) {s : State} (h : s.StpHas Q) :
    (steerNow i s).StpHas Q := by 
  unfold steerNow
  repeat' split
  all_goals exact h

theorem offerCheckpoint_stpHas (law : StpLaw Q) (i : LaneNo) {s : State} (h : s.StpHas Q) :
    (offerCheckpoint i s).StpHas Q := by 
  unfold offerCheckpoint
  repeat' split
  all_goals simp [h, enqueue_stpHas law]

theorem setStage_stpHas (law : StpLaw Q) (i : LaneNo) (st : Stage) {s : State} (h : s.StpHas Q) :
    (setStage i st s).StpHas Q := by exact h

theorem setStatus_stpHas (law : StpLaw Q) (i : LaneNo) (st : LineStatus) {s : State} (h : s.StpHas Q) :
    (setStatus i st s).StpHas Q := by simpa [setStatus] using h

theorem closeDecision_stpHas (law : StpLaw Q) (i : LaneNo) (reason : EndReason) {s : State} (h : s.StpHas Q) :
    (closeDecision i reason s).StpHas Q := by exact h

theorem takeFault_stpHas (law : StpLaw Q) (i : LaneNo) (reason : EndReason) {s : State} (h : s.StpHas Q) :
    (takeFault i reason s).StpHas Q := by 
  unfold takeFault
  repeat' split
  all_goals simp [h, closeDecision_stpHas law, setStatus_stpHas law]

theorem suspendFlowing_stpHas (law : StpLaw Q) (i : LaneNo) (cause : Cause) (left : LeftStage) {s : State} (h : s.StpHas Q) :
    (suspendFlowing i cause left s).StpHas Q := by exact offerCheckpoint_stpHas law _ (setStage_stpHas law _ _ (setStatus_stpHas law _ _ (outputsOff_stpHas law _ h)))

theorem suspendPrimed_stpHas (law : StpLaw Q) (i : LaneNo) {s : State} (h : s.StpHas Q) :
    (suspendPrimed i s).StpHas Q := by simp [suspendPrimed, h, setStage_stpHas law, setStatus_stpHas law]

theorem suspendLane_stpHas (law : StpLaw Q) (i : LaneNo) (cause : Cause) {s : State} (h : s.StpHas Q) :
    (suspendLane i cause s).StpHas Q := by 
  unfold suspendLane
  repeat' split
  all_goals simp [h, suspendPrimed_stpHas law, suspendFlowing_stpHas law]

theorem toIdle_stpHas (law : StpLaw Q) (i : LaneNo) {s : State} (h : s.StpHas Q) :
    (toIdle i s).StpHas Q := by exact h

theorem primingCheck_stpHas (law : StpLaw Q) (i : LaneNo) {s : State} (h : s.StpHas Q) :
    (primingCheck i s).StpHas Q := by 
  unfold primingCheck
  repeat' split
  all_goals exact h

theorem giveLimit_stpHas (law : StpLaw Q) (i : LaneNo) {s : State} (h : s.StpHas Q) :
    (giveLimit i s).StpHas Q := by 
  unfold giveLimit
  repeat' split
  all_goals exact h

theorem eachInjOf_stpHas (i : LaneNo) (f : InjNo → State → State) (hf : ∀ j t, t.StpHas Q → (f j t).StpHas Q)
    {s : State} (h : s.StpHas Q) : (eachInjOf i f s).StpHas Q := by
  refine foldl_stpHas _ (fun t j ht => ?_) _ h
  split
  · exact hf j t ht
  · exact ht

theorem renewInjectors_stpHas (law : StpLaw Q) (i : LaneNo) {s : State} (h : s.StpHas Q) :
    (renewInjectors i s).StpHas Q := by
  exact eachInjOf_stpHas i _ (fun j t ht => (modInj_stpHas t j renewInjector).2 ht) h

theorem startStroke_stpHas (law : StpLaw Q) (final : Bool) (i : LaneNo) (k : Nat) (j : InjNo) {s : State} (h : s.StpHas Q) :
    (startStroke final i k j s).StpHas Q := by 
  unfold startStroke
  repeat' split
  all_goals simp [h, giveLimit_stpHas law]

theorem considerLine_stpHas (law : StpLaw Q) (i : LaneNo) (k : Nat) {s : State} (h : s.StpHas Q) :
    (considerLine i k s).StpHas Q := by 
  unfold considerLine
  repeat' split
  all_goals simp [h, startStroke_stpHas law]

theorem considerLane_stpHas (law : StpLaw Q) (i : LaneNo) {s : State} (h : s.StpHas Q) :
    (considerLane i s).StpHas Q := by 
  unfold considerLane
  repeat' split
  all_goals repeat (first | exact h | apply considerLine_stpHas law | simp only [modPct_stpHas, modIlm_stpHas, modHsu_stpHas, modLif_stpHas, modNtb_stpHas, modSul_stpHas, modLane_stpHas, modPiu_stpHas, modVen_stpHas, modInj_stpHas, emit_stpHas, modTrip_stpHas, modLine_stpHas, modTripFlags_stpHas, modHeld_stpHas, modRecord_stpHas, modFlags_stpHas, modAdditive_stpHas])

theorem dosePass_stpHas (law : StpLaw Q) (i : LaneNo) (dg : Nat) {s : State} (h : s.StpHas Q) :
    (dosePass i dg s).StpHas Q := by simp [dosePass, h, considerLane_stpHas law, giveLimit_stpHas law]

theorem tryEndCycle_stpHas (law : StpLaw Q) (j : InjNo) {s : State} (h : s.StpHas Q) :
    (tryEndCycle j s).StpHas Q := by
  unfold tryEndCycle
  dsimp only
  split
  · split
    · exact h
    · refine foldl_stpHas _ (fun t k ht => ?_) _ h
      split
      · exact considerLine_stpHas law _ _ ht
      · exact ht
  · exact h

theorem orderFault_stpHas (law : StpLaw Q) (i : LaneNo) {s : State} (h : s.StpHas Q) :
    (orderFault i s).StpHas Q := by 
  unfold orderFault
  dsimp only
  repeat' split
  all_goals repeat (first | exact h | apply takeFault_stpHas law | apply offerCheckpoint_stpHas law | simp only [modPct_stpHas, modIlm_stpHas, modHsu_stpHas, modLif_stpHas, modNtb_stpHas, modSul_stpHas, modLane_stpHas, modPiu_stpHas, modVen_stpHas, modInj_stpHas, emit_stpHas, modTrip_stpHas, modLine_stpHas, modTripFlags_stpHas, modHeld_stpHas, modRecord_stpHas, modFlags_stpHas, modAdditive_stpHas])

theorem injectorFault_stpHas (law : StpLaw Q) (sv : Serving) (j : InjNo) (mandatory : Bool) {s : State} (h : s.StpHas Q) :
    (injectorFault sv j mandatory s).StpHas Q := by 
  unfold injectorFault
  repeat' split
  all_goals simp [h, orderFault_stpHas law, giveLimit_stpHas law]

theorem judge_stpHas (law : StpLaw Q) (j : InjNo) (pulse : Bool) {s : State} (h : s.StpHas Q) :
    (judge j pulse s).StpHas Q := by 
  unfold judge
  dsimp only
  repeat' split
  all_goals repeat (first | exact h | apply injectorFault_stpHas law | simp only [modPct_stpHas, modIlm_stpHas, modHsu_stpHas, modLif_stpHas, modNtb_stpHas, modSul_stpHas, modLane_stpHas, modPiu_stpHas, modVen_stpHas, modInj_stpHas, emit_stpHas, modTrip_stpHas, modLine_stpHas, modTripFlags_stpHas, modHeld_stpHas, modRecord_stpHas, modFlags_stpHas, modAdditive_stpHas])

theorem decideFinal_stpHas (law : StpLaw Q) (i : LaneNo) {s : State} (h : s.StpHas Q) :
    (decideFinal i s).StpHas Q := by simpa [decideFinal] using h

theorem tryCloseLine_stpHas (law : StpLaw Q) (i : LaneNo) (k : Nat) {s : State} (h : s.StpHas Q) :
    (tryCloseLine i k s).StpHas Q := by 
  unfold tryCloseLine
  repeat' split
  all_goals simp [h]

theorem tryCloseLines_stpHas (law : StpLaw Q) (i : LaneNo) {s : State} (h : s.StpHas Q) :
    (tryCloseLines i s).StpHas Q := by exact giveLimit_stpHas law _ (foldl_stpHas _ (fun t k ht => tryCloseLine_stpHas law _ _ ht) _ h)

theorem closeAllLines_stpHas (law : StpLaw Q) (i : LaneNo) {s : State} (h : s.StpHas Q) :
    (closeAllLines i s).StpHas Q := by 
  unfold closeAllLines
  dsimp only
  refine foldl_stpHas _ (fun t a ht => ?_) _ ?_
  · repeat (first | exact ht | simp only [modPct_stpHas, modIlm_stpHas, modHsu_stpHas, modLif_stpHas, modNtb_stpHas, modSul_stpHas, modLane_stpHas, modPiu_stpHas, modVen_stpHas, modInj_stpHas, emit_stpHas, modTrip_stpHas, modLine_stpHas, modTripFlags_stpHas, modHeld_stpHas, modRecord_stpHas, modFlags_stpHas, modAdditive_stpHas])
  · repeat (first | exact h | simp only [modPct_stpHas, modIlm_stpHas, modHsu_stpHas, modLif_stpHas, modNtb_stpHas, modSul_stpHas, modLane_stpHas, modPiu_stpHas, modVen_stpHas, modInj_stpHas, emit_stpHas, modTrip_stpHas, modLine_stpHas, modTripFlags_stpHas, modHeld_stpHas, modRecord_stpHas, modFlags_stpHas, modAdditive_stpHas])

theorem offerPages_stpHas (law : StpLaw Q) (n : Nat) {s : State} (h : s.StpHas Q) : (offerPages n s).StpHas Q := by
  induction n generalizing s with
  | zero => exact h
  | succ n ih =>
    rw [offerPages]
    repeat' split
    all_goals first
      | exact h
      | exact enqueue_stpHas_of law ‹_› h
      | exact ih (by simpa using enqueue_stpHas_of law ‹_› h)

theorem beginNote_stpHas (law : StpLaw Q) (hd : NoteHead) (lines : List OrderLine) (recovered : Bool) {s : State} (h : s.StpHas Q) :
    (beginNote hd lines recovered s).StpHas Q := by simp [beginNote, h, offerPages_stpHas law]

theorem tryBuild_stpHas (law : StpLaw Q) {s : State} (h : s.StpHas Q) :
    (tryBuild s).StpHas Q := by 
  unfold tryBuild
  repeat' split
  all_goals simp [h, beginNote_stpHas law]

theorem joinStatus_stpHas (law : StpLaw Q) (r : StatusReq) {s : State} (h : s.StpHas Q) :
    (joinStatus r s).StpHas Q := by 
  unfold joinStatus
  repeat' split
  all_goals exact h

theorem requestStatus_stpHas (law : StpLaw Q) (note : Nat) (f : StatusField) (code : Nat) {s : State} (h : s.StpHas Q) :
    (requestStatus note f code s).StpHas Q := by 
  unfold requestStatus
  repeat' split
  all_goals repeat (first | exact h | exact enqueue_stpHas_of law ‹_› h | apply joinStatus_stpHas law | apply enqueue_stpHas law | simp only [modPct_stpHas, modIlm_stpHas, modHsu_stpHas, modLif_stpHas, modNtb_stpHas, modSul_stpHas, modLane_stpHas, modPiu_stpHas, modVen_stpHas, modInj_stpHas, emit_stpHas, modTrip_stpHas, modLine_stpHas, modTripFlags_stpHas, modHeld_stpHas, modRecord_stpHas, modFlags_stpHas, modAdditive_stpHas])

theorem offerStatuses_stpHas (law : StpLaw Q) (n : Nat) {s : State} (h : s.StpHas Q) : (offerStatuses n s).StpHas Q := by
  induction n generalizing s with
  | zero => exact h
  | succ n ih =>
    rw [offerStatuses]
    repeat' split
    all_goals first
      | exact h
      | exact enqueue_stpHas_of law ‹_› h
      | exact ih (by simpa using enqueue_stpHas_of law ‹_› h)

theorem ntbFreeSlot_stpHas (law : StpLaw Q) {s : State} (h : s.StpHas Q) :
    (ntbFreeSlot s).StpHas Q := by simp [ntbFreeSlot, h, offerPages_stpHas law, offerStatuses_stpHas law]

theorem sendNext_stpHas (law : StpLaw Q) {s : State} (h : s.StpHas Q) :
    (sendNext s).StpHas Q := by 
  unfold sendNext
  repeat' split
  all_goals exact h

theorem beginPrint_stpHas (law : StpLaw Q) {s : State} (h : s.StpHas Q) :
    (beginPrint s).StpHas Q := by 
  unfold beginPrint
  repeat' split
  all_goals simp [h, sendNext_stpHas law]

theorem joinPrints_stpHas (law : StpLaw Q) (e : PrintEntry) {s : State} (h : s.StpHas Q) :
    (joinPrints e s).StpHas Q := by 
  unfold joinPrints
  repeat' split
  all_goals simp [h, beginPrint_stpHas law, requestStatus_stpHas law]

theorem finishPrint_stpHas (law : StpLaw Q) (code : Nat) {s : State} (h : s.StpHas Q) :
    (finishPrint code s).StpHas Q := by 
  unfold finishPrint
  repeat' split
  all_goals simp [h, beginPrint_stpHas law, requestStatus_stpHas law]

theorem noteReady_stpHas (law : StpLaw Q) (note permit : Word32) {s : State} (h : s.StpHas Q) :
    (noteReady note permit s).StpHas Q := by 
  unfold noteReady
  repeat' split
  all_goals repeat (first | exact h | exact offerFrame_stpHas_of ‹_› h | apply offerFrame_stpHas | simp only [modPct_stpHas, modIlm_stpHas, modHsu_stpHas, modLif_stpHas, modNtb_stpHas, modSul_stpHas, modLane_stpHas, modPiu_stpHas, modVen_stpHas, modInj_stpHas, emit_stpHas, modTrip_stpHas, modLine_stpHas, modTripFlags_stpHas, modHeld_stpHas, modRecord_stpHas, modFlags_stpHas, modAdditive_stpHas])

theorem offerReady_stpHas (law : StpLaw Q) {s : State} (h : s.StpHas Q) :
    (offerReady s).StpHas Q := by 
  unfold offerReady
  repeat' split
  all_goals repeat (first | exact h | exact offerFrame_stpHas_of ‹_› h | apply noteReady_stpHas law | apply offerFrame_stpHas | simp only [modPct_stpHas, modIlm_stpHas, modHsu_stpHas, modLif_stpHas, modNtb_stpHas, modSul_stpHas, modLane_stpHas, modPiu_stpHas, modVen_stpHas, modInj_stpHas, emit_stpHas, modTrip_stpHas, modLine_stpHas, modTripFlags_stpHas, modHeld_stpHas, modRecord_stpHas, modFlags_stpHas, modAdditive_stpHas])

theorem serve_stpHas (law : StpLaw Q) (n : Nat) {s : State} (h : s.StpHas Q) : (serve n s).StpHas Q := by
  induction n generalizing s with
  | zero => exact h
  | succ n ih =>
    rw [serve]
    repeat' split
    · exact h
    · exact ih h
    · exact askRead_stpHas law _ _ h
    · exact h
    · exact h
    · rename_i e
      exact offerFrame_stpHas_of e h
    · rename_i e _
      exact ih (by simpa using offerFrame_stpHas_of e h)
    · rename_i e _
      exact ih (by simpa using offerFrame_stpHas_of e h)

theorem takeAsk_stpHas (law : StpLaw Q) (a : Ask) {s : State} (h : s.StpHas Q) :
    (takeAsk a s).StpHas Q := by 
  unfold takeAsk
  repeat' split
  all_goals simp [h, serve_stpHas law]

theorem ntbRoom_stpHas (law : StpLaw Q) {s : State} (h : s.StpHas Q) :
    (ntbRoom s).StpHas Q := by 
  unfold ntbRoom
  dsimp only
  repeat' split
  all_goals repeat (first | exact h | apply serve_stpHas law | apply offerReady_stpHas law | simp only [modPct_stpHas, modIlm_stpHas, modHsu_stpHas, modLif_stpHas, modNtb_stpHas, modSul_stpHas, modLane_stpHas, modPiu_stpHas, modVen_stpHas, modInj_stpHas, emit_stpHas, modTrip_stpHas, modLine_stpHas, modTripFlags_stpHas, modHeld_stpHas, modRecord_stpHas, modFlags_stpHas, modAdditive_stpHas])

theorem askPage_stpHas (law : StpLaw Q) (page : List Byte) {s : State} (h : s.StpHas Q) :
    (askPage page s).StpHas Q := by 
  unfold askPage
  dsimp only
  repeat' split
  all_goals repeat (first | exact h | apply askPages_stpHas law | apply serve_stpHas law | simp only [modPct_stpHas, modIlm_stpHas, modHsu_stpHas, modLif_stpHas, modNtb_stpHas, modSul_stpHas, modLane_stpHas, modPiu_stpHas, modVen_stpHas, modInj_stpHas, emit_stpHas, modTrip_stpHas, modLine_stpHas, modTripFlags_stpHas, modHeld_stpHas, modRecord_stpHas, modFlags_stpHas, modAdditive_stpHas])

theorem askReprint_stpHas (law : StpLaw Q) {s : State} (h : s.StpHas Q) :
    (askReprint s).StpHas Q := by 
  unfold askReprint
  repeat' split
  all_goals simp [h, askRead_stpHas law]

theorem reprintPage_stpHas (law : StpLaw Q) (page : List Byte) {s : State} (h : s.StpHas Q) :
    (reprintPage page s).StpHas Q := by 
  unfold reprintPage
  dsimp only
  repeat' split
  all_goals repeat (first | exact h | apply askPages_stpHas law | apply joinPrints_stpHas law | simp only [modPct_stpHas, modIlm_stpHas, modHsu_stpHas, modLif_stpHas, modNtb_stpHas, modSul_stpHas, modLane_stpHas, modPiu_stpHas, modVen_stpHas, modInj_stpHas, emit_stpHas, modTrip_stpHas, modLine_stpHas, modTripFlags_stpHas, modHeld_stpHas, modRecord_stpHas, modFlags_stpHas, modAdditive_stpHas])

theorem pctSend_stpHas (law : StpLaw Q) (f : TxFrame) {s : State} (h : s.StpHas Q) :
    (pctSend f s).StpHas Q := by 
  unfold pctSend
  repeat' split
  all_goals repeat (first | exact h | exact offerFrame_stpHas_of ‹_› h | apply offerFrame_stpHas | simp only [modPct_stpHas, modIlm_stpHas, modHsu_stpHas, modLif_stpHas, modNtb_stpHas, modSul_stpHas, modLane_stpHas, modPiu_stpHas, modVen_stpHas, modInj_stpHas, emit_stpHas, modTrip_stpHas, modLine_stpHas, modTripFlags_stpHas, modHeld_stpHas, modRecord_stpHas, modFlags_stpHas, modAdditive_stpHas])

theorem pctRoom_stpHas (law : StpLaw Q) (n : Nat) {s : State} (h : s.StpHas Q) : (pctRoom n s).StpHas Q := by
  induction n generalizing s with
  | zero => exact h
  | succ n ih =>
    rw [pctRoom]
    repeat' split
    all_goals first
      | exact h
      | exact offerFrame_stpHas_of ‹_› h
      | exact ih (by simpa using offerFrame_stpHas_of ‹_› h)

theorem pctMark_stpHas (law : StpLaw Q) (r : WriteReq) {s : State} (h : s.StpHas Q) :
    (pctMark r s).StpHas Q := by
  unfold pctMark
  dsimp only
  repeat' split
  all_goals first
    | exact h
    | exact enqueue_stpHas_of law ‹_› h
    | exact (modPct_stpHas _ _).2 (enqueue_stpHas_of law ‹_› h)

theorem pctFreeSlot_stpHas (law : StpLaw Q) (n : Nat) {s : State} (h : s.StpHas Q) : (pctFreeSlot n s).StpHas Q := by
  induction n generalizing s with
  | zero => exact h
  | succ n ih =>
    rw [pctFreeSlot]
    repeat' split
    all_goals first
      | exact h
      | exact enqueue_stpHas_of law ‹_› h
      | exact ih (by simpa using enqueue_stpHas_of law ‹_› h)

theorem refusalPulse_stpHas (law : StpLaw Q) {s : State} (h : s.StpHas Q) :
    (refusalPulse s).StpHas Q := by 
  unfold refusalPulse
  repeat' split
  all_goals exact h

theorem refuseCard_stpHas (law : StpLaw Q) (r : CardRefusal) {s : State} (h : s.StpHas Q) :
    (refuseCard r s).StpHas Q := by simp [refuseCard, h, refusalPulse_stpHas law]

theorem refuseTrip_stpHas (law : StpLaw Q) (r : CardRefusal) {s : State} (h : s.StpHas Q) :
    (refuseTrip r s).StpHas Q := by simp [refuseTrip, h, refuseCard_stpHas law]

theorem enterAuthorized_stpHas (law : StpLaw Q) {s : State} (h : s.StpHas Q) :
    (enterAuthorized s).StpHas Q := by 
  unfold enterAuthorized
  repeat' split
  all_goals repeat (first | exact h | apply primingCheck_stpHas law | simp only [modPct_stpHas, modIlm_stpHas, modHsu_stpHas, modLif_stpHas, modNtb_stpHas, modSul_stpHas, modLane_stpHas, modPiu_stpHas, modVen_stpHas, modInj_stpHas, emit_stpHas, modTrip_stpHas, modLine_stpHas, modTripFlags_stpHas, modHeld_stpHas, modRecord_stpHas, modFlags_stpHas, modAdditive_stpHas])

theorem startClaim_stpHas (law : StpLaw Q) (permit : Word32) {s : State} (h : s.StpHas Q) :
    (startClaim permit s).StpHas Q := by 
  unfold startClaim
  repeat' split
  all_goals simp [h, pctSend_stpHas law, enterAuthorized_stpHas law]

theorem refreshLamps_stpHas (law : StpLaw Q) {s : State} (h : s.StpHas Q) :
    (refreshLamps s).StpHas Q := by 
  unfold refreshLamps
  repeat' split
  all_goals exact h

theorem takeTrip_stpHas (law : StpLaw Q) (t : Trip) {s : State} (h : s.StpHas Q) :
    (takeTrip t s).StpHas Q := by 
  unfold takeTrip
  dsimp only
  repeat' split
  all_goals repeat (first | exact h | apply refuseTrip_stpHas law | apply startClaim_stpHas law | apply refreshLamps_stpHas law | simp only [modPct_stpHas, modIlm_stpHas, modHsu_stpHas, modLif_stpHas, modNtb_stpHas, modSul_stpHas, modLane_stpHas, modPiu_stpHas, modVen_stpHas, modInj_stpHas, emit_stpHas, modTrip_stpHas, modLine_stpHas, modTripFlags_stpHas, modHeld_stpHas, modRecord_stpHas, modFlags_stpHas, modAdditive_stpHas])

theorem withdrawClaim_stpHas (law : StpLaw Q) (permit : Word32) {s : State} (h : s.StpHas Q) :
    (withdrawClaim permit s).StpHas Q := by exact h

theorem hearClaim_stpHas (law : StpLaw Q) (sender : Nat) (permit : Word32) {s : State} (h : s.StpHas Q) :
    (hearClaim sender permit s).StpHas Q := by 
  unfold hearClaim
  repeat' split
  all_goals simp [h, withdrawClaim_stpHas law, refuseTrip_stpHas law, pctSend_stpHas law]

theorem hearHeld_stpHas (law : StpLaw Q) (permit : Word32) {s : State} (h : s.StpHas Q) :
    (hearHeld permit s).StpHas Q := by 
  unfold hearHeld
  repeat' split
  all_goals simp [h, withdrawClaim_stpHas law, refuseTrip_stpHas law]

theorem claimEcho_stpHas (law : StpLaw Q) (permit : Word32) {s : State} (h : s.StpHas Q) :
    (claimEcho permit s).StpHas Q := by 
  unfold claimEcho
  repeat' split
  all_goals exact h

theorem claimDiscarded_stpHas (law : StpLaw Q) (permit : Word32) {s : State} (h : s.StpHas Q) :
    (claimDiscarded permit s).StpHas Q := by 
  unfold claimDiscarded
  repeat' split
  all_goals simp [h, refuseTrip_stpHas law]

theorem claimCutOff_stpHas (law : StpLaw Q) {s : State} (h : s.StpHas Q) :
    (claimCutOff s).StpHas Q := by 
  unfold claimCutOff
  repeat' split
  all_goals simp [h, withdrawClaim_stpHas law, refuseTrip_stpHas law]

theorem slotEmpty_stpHas (law : StpLaw Q) {s : State} (h : s.StpHas Q) :
    (slotEmpty s).StpHas Q := by exact h

theorem sendWrite_stpHas (law : StpLaw Q) (kind : WriteOf) (stamp : Stamp) {s : State} (h : s.StpHas Q) :
    (sendWrite kind stamp s).StpHas Q := by exact h

theorem writeTripStamp_stpHas (law : StpLaw Q) {s : State} (h : s.StpHas Q) :
    (writeTripStamp s).StpHas Q := by 
  unfold writeTripStamp
  repeat' split
  all_goals exact h

theorem writePending_stpHas (law : StpLaw Q) {s : State} (h : s.StpHas Q) :
    (writePending s).StpHas Q := by 
  unfold writePending
  repeat' split
  all_goals exact h

theorem stampToPending_stpHas (law : StpLaw Q) {s : State} (h : s.StpHas Q) :
    (stampToPending s).StpHas Q := by exact h

theorem clearPending_stpHas (law : StpLaw Q) {s : State} (h : s.StpHas Q) :
    (clearPending s).StpHas Q := by exact h

theorem lapsePending_stpHas (law : StpLaw Q) {s : State} (h : s.StpHas Q) :
    (lapsePending s).StpHas Q := by 
  unfold lapsePending
  repeat' split
  all_goals simp [h, clearPending_stpHas law, requestStatus_stpHas law]

theorem endWrite_stpHas (law : StpLaw Q) {s : State} (h : s.StpHas Q) :
    (endWrite s).StpHas Q := by exact h

theorem writeSucceeded_stpHas (law : StpLaw Q) {s : State} (h : s.StpHas Q) :
    (writeSucceeded s).StpHas Q := by
  unfold writeSucceeded
  repeat' split
  · exact h
  · exact h
  · exact requestStatus_stpHas law _ _ _ h
  · exact h
  · exact requestStatus_stpHas law _ _ _ h
  · exact requestStatus_stpHas law _ _ _ h

theorem writeFailed_stpHas (law : StpLaw Q) {s : State} (h : s.StpHas Q) :
    (writeFailed s).StpHas Q := by 
  unfold writeFailed
  repeat' split
  all_goals simp [h, stampToPending_stpHas law, lapsePending_stpHas law, endWrite_stpHas law]

theorem displacePending_stpHas (law : StpLaw Q) {s : State} (h : s.StpHas Q) :
    (displacePending s).StpHas Q := by 
  unfold displacePending
  repeat' split
  all_goals simp [h, lapsePending_stpHas law]

theorem noteSealed_stpHas (law : StpLaw Q) (b : Build) {s : State} (h : s.StpHas Q) :
    (noteSealed b s).StpHas Q := by 
  unfold noteSealed
  repeat' split
  all_goals repeat (first | exact h | apply displacePending_stpHas law | apply pctSend_stpHas law | apply release_stpHas law | apply pctMark_stpHas law | simp only [modPct_stpHas, modIlm_stpHas, modHsu_stpHas, modLif_stpHas, modNtb_stpHas, modSul_stpHas, modLane_stpHas, modPiu_stpHas, modVen_stpHas, modInj_stpHas, emit_stpHas, modTrip_stpHas, modLine_stpHas, modTripFlags_stpHas, modHeld_stpHas, modRecord_stpHas, modFlags_stpHas, modAdditive_stpHas])

theorem release_stpHas (law : StpLaw Q) {s : State} (h : s.StpHas Q) :
    (release s).StpHas Q := by 
  unfold release
  repeat' split
  all_goals simp [h, pctMark_stpHas law]

theorem openCompartment_stpHas (law : StpLaw Q) (i : LaneNo) {s : State} (h : s.StpHas Q) :
    (openCompartment i s).StpHas Q := by 
  exact offerCheckpoint_stpHas law _ (steerNow_stpHas law _ (retarget_stpHas law _ (giveLimit_stpHas law _
    (renewInjectors_stpHas law _ ((modLane_stpHas _ _ _).2 ((modHeld_stpHas _ _ _).2 h))))))

theorem enterFlowing_stpHas (law : StpLaw Q) (i : LaneNo) (st : Stage) {s : State} (h : s.StpHas Q) :
    (enterFlowing i st s).StpHas Q := by simp [enterFlowing, h, steerNow_stpHas law, retarget_stpHas law]

theorem resumeOpen_stpHas (law : StpLaw Q) (i : LaneNo) {s : State} (h : s.StpHas Q) :
    (resumeOpen i s).StpHas Q := by
  unfold resumeOpen
  dsimp only
  split
  · exact h
  · refine offerCheckpoint_stpHas law _ ?_
    split
    · exact closeDecision_stpHas law _ _ (setStatus_stpHas law _ _ h)
    · exact enterFlowing_stpHas law _ _ (setStatus_stpHas law _ _ h)

theorem startLane_stpHas (law : StpLaw Q) (i : LaneNo) {s : State} (h : s.StpHas Q) :
    (startLane i s).StpHas Q := by 
  unfold startLane
  repeat' split
  all_goals simp [h, openCompartment_stpHas law, resumeOpen_stpHas law]

theorem offerTotal_stpHas (law : StpLaw Q) (i : LaneNo) (gross std : Word48) {s : State} (h : s.StpHas Q) :
    (offerTotal i gross std s).StpHas Q := by
  unfold offerTotal
  split
  · exact primingCheck_stpHas law _ (toIdle_stpHas law _ ((modLane_stpHas _ _ _).2 (enqueue_stpHas_of law ‹_› h)))
  · exact (modLane_stpHas _ _ _).2 (enqueue_stpHas_of law ‹_› h)

theorem offerWaiting_stpHas (law : StpLaw Q) (i : LaneNo) {s : State} (h : s.StpHas Q) :
    (offerWaiting i s).StpHas Q := by 
  unfold offerWaiting
  repeat' split
  all_goals repeat (first | exact h | exact enqueue_stpHas_of law ‹_› h | apply enqueue_stpHas law | apply offerTotal_stpHas law | simp only [modPct_stpHas, modIlm_stpHas, modHsu_stpHas, modLif_stpHas, modNtb_stpHas, modSul_stpHas, modLane_stpHas, modPiu_stpHas, modVen_stpHas, modInj_stpHas, emit_stpHas, modTrip_stpHas, modLine_stpHas, modTripFlags_stpHas, modHeld_stpHas, modRecord_stpHas, modFlags_stpHas, modAdditive_stpHas])

theorem offerAfter_stpHas (law : StpLaw Q) (i : LaneNo) {s : State} (h : s.StpHas Q) :
    (offerAfter i s).StpHas Q := by
  unfold offerAfter
  split
  · exact offerWaiting_stpHas law i h
  · exact h

theorem handOver_stpHas (law : StpLaw Q) (i : LaneNo) (reason : EndReason) {s : State} (h : s.StpHas Q) :
    (handOver i reason s).StpHas Q := by 
  unfold handOver
  repeat' split
  all_goals simp [h, offerAfter_stpHas law, giveLimit_stpHas law]

theorem endSuspended_stpHas (law : StpLaw Q) (i : LaneNo) {s : State} (h : s.StpHas Q) :
    (endSuspended i s).StpHas Q := by 
  unfold endSuspended
  repeat' split
  all_goals simp [h, setStatus_stpHas law, closeAllLines_stpHas law, handOver_stpHas law, toIdle_stpHas law]

theorem closeLineOf_stpHas (law : StpLaw Q) (k : Nat) {s : State} (h : s.StpHas Q) :
    (closeLineOf k s).StpHas Q := by 
  unfold closeLineOf
  repeat' split
  all_goals simp [h, endSuspended_stpHas law, toIdle_stpHas law]

theorem enterClosing_stpHas (law : StpLaw Q) {s : State} (h : s.StpHas Q) :
    (enterClosing s).StpHas Q := by
  unfold enterClosing
  dsimp only
  exact tryBuild_stpHas law (foldl_stpHas _ (fun t k ht => closeLineOf_stpHas law _ ht) _ h)

theorem reportFault_stpHas (law : StpLaw Q) (i : LaneNo) (reason : EndReason) {s : State} (h : s.StpHas Q) :
    (reportFault i reason s).StpHas Q := by 
  unfold reportFault
  repeat' split
  all_goals exact h

theorem handBack_stpHas (law : StpLaw Q) (i : LaneNo) {s : State} (h : s.StpHas Q) :
    (handBack i s).StpHas Q := by 
  unfold handBack
  dsimp only
  repeat' split
  all_goals repeat (first | exact h | apply reportFault_stpHas law | apply handOver_stpHas law | apply enterClosing_stpHas law | apply tryBuild_stpHas law | simp only [modPct_stpHas, modIlm_stpHas, modHsu_stpHas, modLif_stpHas, modNtb_stpHas, modSul_stpHas, modLane_stpHas, modPiu_stpHas, modVen_stpHas, modInj_stpHas, emit_stpHas, modTrip_stpHas, modLine_stpHas, modTripFlags_stpHas, modHeld_stpHas, modRecord_stpHas, modFlags_stpHas, modAdditive_stpHas])

theorem closeDoses_stpHas (law : StpLaw Q) (i : LaneNo) {s : State} (h : s.StpHas Q) :
    (closeDoses i s).StpHas Q := by
  unfold closeDoses
  dsimp only
  repeat' split
  · exact handBack_stpHas law _ (tryCloseLines_stpHas law _ h)
  · exact tryCloseLines_stpHas law _ h
  · exact h

theorem learnOvershoot_stpHas (law : StpLaw Q) (i : LaneNo) {s : State} (h : s.StpHas Q) :
    (learnOvershoot i s).StpHas Q := by 
  unfold learnOvershoot
  repeat' split
  all_goals exact h

theorem enterEnded_stpHas (law : StpLaw Q) (i : LaneNo) {s : State} (h : s.StpHas Q) :
    (enterEnded i s).StpHas Q := by
  unfold enterEnded
  exact closeDoses_stpHas law _ (considerLane_stpHas law _ (decideFinal_stpHas law _
    ((modLane_stpHas _ _ _).2 ((modRecord_stpHas _ _ _).2 (learnOvershoot_stpHas law _ h)))))

theorem giveShare_stpHas (law : StpLaw Q) (i : LaneNo) (share : Nat) {s : State} (h : s.StpHas Q) :
    (giveShare i share s).StpHas Q := by exact h

theorem giveShares_stpHas (law : StpLaw Q) (hdr allotment : Nat) {s : State} (h : s.StpHas Q) :
    (giveShares hdr allotment s).StpHas Q := by exact foldl_stpHas _ (fun t i ht => giveShare_stpHas law _ _ ht) _ h

theorem setShare_stpHas (law : StpLaw Q) (hdr : Nat) (x : Share) {s : State} (h : s.StpHas Q) :
    (setShare hdr x s).StpHas Q := by exact h

theorem computeHeader_stpHas (law : StpLaw Q) (hdr : Nat) {s : State} (h : s.StpHas Q) :
    (computeHeader hdr s).StpHas Q := by 
  unfold computeHeader
  repeat' split
  all_goals simp [h, giveShares_stpHas law, setShare_stpHas law]

theorem computeShares_stpHas (law : StpLaw Q) {s : State} (h : s.StpHas Q) :
    (computeShares s).StpHas Q := by
  have e : (allHeaders.foldl (fun u k => computeHeader k u) s).StpHas Q :=
    foldl_stpHas _ (fun t k ht => computeHeader_stpHas law _ ht) _ h
  unfold computeShares
  dsimp only
  split
  · exact requestChange_stpHas law ((modLif_stpHas _ _).2 e)
  · exact (modLif_stpHas _ _).2 e

theorem suspendAll_stpHas (law : StpLaw Q) (cause : Cause) {s : State} (h : s.StpHas Q) :
    (suspendAll cause s).StpHas Q := by
  refine eachLane_stpHas _ (fun i t ht => ?_) h
  split
  · exact suspendLane_stpHas law _ _ ht
  · exact ht

theorem haltEdge_stpHas (law : StpLaw Q) (before : Bool) {s : State} (h : s.StpHas Q) :
    (haltEdge before s).StpHas Q := by 
  unfold haltEdge
  repeat' split
  all_goals simp [h, suspendAll_stpHas law]

theorem setLink_stpHas (law : StpLaw Q) (l : Link) {s : State} (h : s.StpHas Q) :
    (setLink l s).StpHas Q := by
  unfold setLink
  dsimp only
  split
  · exact claimCutOff_stpHas law (computeShares_stpHas law h)
  · exact claimCutOff_stpHas law (computeShares_stpHas law h)
  · exact computeShares_stpHas law h

theorem enterListen_stpHas (law : StpLaw Q) {s : State} (h : s.StpHas Q) :
    (enterListen s).StpHas Q := by simp [enterListen, h, setLink_stpHas law]

theorem enterMute_stpHas (law : StpLaw Q) (cause : MuteCause) {s : State} (h : s.StpHas Q) :
    (enterMute cause s).StpHas Q := by simp [enterMute, h, setLink_stpHas law]

theorem enterJoin_stpHas (law : StpLaw Q) {s : State} (h : s.StpHas Q) :
    (enterJoin s).StpHas Q := by simp [enterJoin, h, setLink_stpHas law]

theorem joinFailed_stpHas (law : StpLaw Q) {s : State} (h : s.StpHas Q) :
    (joinFailed s).StpHas Q := by 
  unfold joinFailed
  repeat' split
  all_goals simp [h, enterMute_stpHas law]

theorem enterHeldLine_stpHas (law : StpLaw Q) {s : State} (h : s.StpHas Q) :
    (enterHeldLine s).StpHas Q := by simp [enterHeldLine, h, setLink_stpHas law]

theorem enterRun_stpHas (law : StpLaw Q) {s : State} (h : s.StpHas Q) :
    (enterRun s).StpHas Q := by simp [enterRun, h, setLink_stpHas law]

theorem discardFrame_stpHas (law : StpLaw Q) (c : Current) {s : State} (h : s.StpHas Q) :
    (discardFrame c s).StpHas Q := by 
  unfold discardFrame
  repeat' split
  all_goals simp [h, claimDiscarded_stpHas law, joinFailed_stpHas law, statusMet_stpHas law, nextCurrent_stpHas law]

theorem collided_stpHas (law : StpLaw Q) {s : State} (h : s.StpHas Q) :
    (collided s).StpHas Q := by 
  unfold collided
  repeat' split
  all_goals simp [h, nextCurrent_stpHas law, discardFrame_stpHas law]

theorem echoDropped_stpHas (law : StpLaw Q) {s : State} (h : s.StpHas Q) :
    (echoDropped s).StpHas Q := by 
  unfold echoDropped
  repeat' split
  all_goals simp [h, joinFailed_stpHas law, collided_stpHas law]

theorem statusSent_stpHas (law : StpLaw Q) (entries : List HeaderEntry) {s : State} (h : s.StpHas Q) :
    (statusSent entries s).StpHas Q := by exact h

theorem ownEchoOf_stpHas (law : StpLaw Q) (p : Payload) {s : State} (h : s.StpHas Q) :
    (ownEchoOf p s).StpHas Q := by
  have d : ∀ u : State, u.StpHas Q →
      (nextCurrent (u.modLif fun l => { l with onLine := none, ownLast := true })).StpHas Q :=
    fun u hu => nextCurrent_stpHas law ((modLif_stpHas _ _).2 hu)
  unfold ownEchoOf
  dsimp only
  repeat' split
  · exact enterRun_stpHas law (d _ (statusSent_stpHas law _ h))
  · exact statusMet_stpHas law (d _ (statusSent_stpHas law _ h))
  · exact claimEcho_stpHas law _ (d s h)
  · exact d s h

theorem conflictHeard_stpHas (law : StpLaw Q) {s : State} (h : s.StpHas Q) :
    (conflictHeard s).StpHas Q := by 
  unfold conflictHeard
  repeat' split
  all_goals simp [h, enterMute_stpHas law]

theorem peerHeard_stpHas (law : StpLaw Q) {s : State} (h : s.StpHas Q) :
    (peerHeard s).StpHas Q := by 
  unfold peerHeard
  repeat' split
  all_goals simp [h, setLink_stpHas law]

theorem sulOffer_stpHas (law : StpLaw Q) (r : WriteReq) {s : State} (h : s.StpHas Q) :
    (sulOffer r s).StpHas Q := by 
  unfold sulOffer
  repeat' split
  all_goals repeat (first | exact h | exact enqueue_stpHas_of law ‹_› h | apply enqueue_stpHas law | simp only [modPct_stpHas, modIlm_stpHas, modHsu_stpHas, modLif_stpHas, modNtb_stpHas, modSul_stpHas, modLane_stpHas, modPiu_stpHas, modVen_stpHas, modInj_stpHas, emit_stpHas, modTrip_stpHas, modLine_stpHas, modTripFlags_stpHas, modHeld_stpHas, modRecord_stpHas, modFlags_stpHas, modAdditive_stpHas])

theorem sulFreeSlot_stpHas (law : StpLaw Q) (n : Nat) {s : State} (h : s.StpHas Q) : (sulFreeSlot n s).StpHas Q := by
  induction n generalizing s with
  | zero => exact h
  | succ n ih =>
    rw [sulFreeSlot]
    repeat' split
    all_goals first
      | exact h
      | exact enqueue_stpHas_of law ‹_› h
      | exact ih (by simpa using enqueue_stpHas_of law ‹_› h)

theorem dropUnfitted_stpHas {s : State} (h : s.StpHas Q) : (dropUnfitted s).StpHas Q :=
  eachLane_stpHas _ (fun i t ht => by unfold dropPiu; split <;> exact ht) h

theorem configFaultAt_stpHas (law : StpLaw Q) (code entry : Nat) {s : State} (h : s.StpHas Q) :
    (configFaultAt code entry s).StpHas Q := dropUnfitted_stpHas h

theorem imageRead_stpHas (law : StpLaw Q) (bytes : List Byte) {s : State} (h : s.StpHas Q) :
    (imageRead bytes s).StpHas Q := by
  unfold imageRead
  split
  · exact configFaultAt_stpHas law _ _ h
  · exact askRead_stpHas law _ _ ((modSul_stpHas _ _).2 (dropUnfitted_stpHas h))

theorem headerPage_stpHas (law : StpLaw Q) (page : List Byte) {s : State} (h : s.StpHas Q) :
    (headerPage page s).StpHas Q := by 
  unfold headerPage
  repeat' split
  all_goals simp [h, configFaultAt_stpHas law, askPages_stpHas law, imageRead_stpHas law]

theorem imagePage_stpHas (law : StpLaw Q) (last : Nat) (page : List Byte) {s : State} (h : s.StpHas Q) :
    (imagePage last page s).StpHas Q := by 
  unfold imagePage
  repeat' split
  all_goals simp [h, imageRead_stpHas law]

theorem setTotals_stpHas (law : StpLaw Q) (i : LaneNo) (g t : Word48) {s : State} (h : s.StpHas Q) :
    (setTotals i g t s).StpHas Q := by exact h

theorem nextSlot_stpHas (law : StpLaw Q) (slot : Nat) {s : State} (h : s.StpHas Q) :
    (nextSlot slot s).StpHas Q := by 
  unfold nextSlot
  repeat' split
  all_goals simp [h, askRead_stpHas law]

theorem slotRead_stpHas (law : StpLaw Q) (slot : Nat) (bytes : List Byte) {s : State} (h : s.StpHas Q) :
    (slotRead slot bytes s).StpHas Q := by 
  unfold slotRead
  dsimp only
  repeat' split
  all_goals repeat (first | exact h | apply nextSlot_stpHas law | apply sulOffer_stpHas law | simp only [modPct_stpHas, modIlm_stpHas, modHsu_stpHas, modLif_stpHas, modNtb_stpHas, modSul_stpHas, modLane_stpHas, modPiu_stpHas, modVen_stpHas, modInj_stpHas, emit_stpHas, modTrip_stpHas, modLine_stpHas, modTripFlags_stpHas, modHeld_stpHas, modRecord_stpHas, modFlags_stpHas, modAdditive_stpHas])

theorem slotFirst_stpHas (law : StpLaw Q) (slot : Nat) (page : List Byte) {s : State} (h : s.StpHas Q) :
    (slotFirst slot page s).StpHas Q := by 
  unfold slotFirst
  repeat' split
  all_goals simp [h, askPages_stpHas law, nextSlot_stpHas law, slotRead_stpHas law]

theorem slotNext_stpHas (law : StpLaw Q) (slot left : Nat) (page : List Byte) {s : State} (h : s.StpHas Q) :
    (slotNext slot left page s).StpHas Q := by 
  unfold slotNext
  repeat' split
  all_goals simp [h, slotRead_stpHas law]

theorem toSettle_stpHas (law : StpLaw Q) {s : State} (h : s.StpHas Q) :
    (toSettle s).StpHas Q := by exact h

theorem raiseTotals_stpHas (law : StpLaw Q) (i : LaneNo) (g t : Word48) {s : State} (h : s.StpHas Q) :
    (raiseTotals i g t s).StpHas Q := by exact h

theorem offerTotals_stpHas (law : StpLaw Q) {s : State} (h : s.StpHas Q) :
    (offerTotals s).StpHas Q := by
  refine eachLane_stpHas _ (fun i t ht => ?_) h
  split
  · exact ht
  · exact sulOffer_stpHas law _ ht

theorem settleSealed_stpHas (law : StpLaw Q) (m : Marker) (note : List Byte) {s : State} (h : s.StpHas Q) :
    (settleSealed m note s).StpHas Q := by
  unfold settleSealed
  exact toSettle_stpHas law (sulOffer_stpHas law _ (offerTotals_stpHas law
    (foldl_stpHas _ (fun t a ht => raiseTotals_stpHas law _ _ _ ht) _ h)))

theorem passOne_stpHas (law : StpLaw Q) (c : Option CheckRec) (l : OrderLine) {s : State} (h : s.StpHas Q) :
    (passOne c l s).StpHas Q := by 
  unfold passOne
  repeat' split
  all_goals exact h

theorem passTwo_stpHas (law : StpLaw Q) (number k : Nat) {s : State} (h : s.StpHas Q) :
    (passTwo number k s).StpHas Q := by 
  unfold passTwo
  repeat' split
  all_goals simp [h, sulOffer_stpHas law]

theorem rebuilt_stpHas (law : StpLaw Q) (m : Marker) {s : State} (h : s.StpHas Q) :
    (rebuilt m s).StpHas Q := by
  unfold rebuilt
  exact (modSul_stpHas _ _).2 (toSettle_stpHas law (offerTotals_stpHas law
    (foldl_stpHas _ (fun t k ht => passTwo_stpHas law _ _ ht) _ h)))

theorem nextCheck_stpHas (law : StpLaw Q) (m : Marker) (start : Nat) {s : State} (h : s.StpHas Q) :
    (nextCheck m start s).StpHas Q := by 
  unfold nextCheck
  repeat' split
  all_goals simp [h, rebuilt_stpHas law, askRead_stpHas law]

theorem checkPage_stpHas (law : StpLaw Q) (m : Marker) (line : Nat) (page : List Byte) {s : State} (h : s.StpHas Q) :
    (checkPage m line page s).StpHas Q := by
  unfold checkPage
  dsimp only
  split
  · exact rebuilt_stpHas law _ h
  · exact nextCheck_stpHas law _ _ (passOne_stpHas law _ _ h)

theorem sealedRead_stpHas (law : StpLaw Q) (bytes : List Byte) {s : State} (h : s.StpHas Q) :
    (sealedRead bytes s).StpHas Q := by 
  unfold sealedRead
  repeat' split
  all_goals simp [h, settleSealed_stpHas law, toSettle_stpHas law, nextCheck_stpHas law]

theorem sealedFirst_stpHas (law : StpLaw Q) (page : List Byte) {s : State} (h : s.StpHas Q) :
    (sealedFirst page s).StpHas Q := by 
  unfold sealedFirst
  repeat' split
  all_goals simp [h, askPages_stpHas law, sealedRead_stpHas law, toSettle_stpHas law]

theorem sealedNext_stpHas (law : StpLaw Q) (left : Nat) (page : List Byte) {s : State} (h : s.StpHas Q) :
    (sealedNext left page s).StpHas Q := by 
  unfold sealedNext
  repeat' split
  all_goals simp [h, sealedRead_stpHas law]

theorem markHeadPage_stpHas (law : StpLaw Q) (page : List Byte) {s : State} (h : s.StpHas Q) :
    (markHeadPage page s).StpHas Q := by 
  unfold markHeadPage
  repeat' split
  all_goals simp [h, askRead_stpHas law, toSettle_stpHas law]

theorem markLinesPage_stpHas (law : StpLaw Q) (page : List Byte) {s : State} (h : s.StpHas Q) :
    (markLinesPage page s).StpHas Q := by 
  unfold markLinesPage
  repeat' split
  all_goals simp [h, askRead_stpHas law, toSettle_stpHas law]

theorem recoveryNote_stpHas (law : StpLaw Q) {s : State} (h : s.StpHas Q) :
    (recoveryNote s).StpHas Q := by 
  unfold recoveryNote
  repeat' split
  all_goals simp [h, beginNote_stpHas law]

theorem recoverySealed_stpHas (law : StpLaw Q) {s : State} (h : s.StpHas Q) :
    (recoverySealed s).StpHas Q := by 
  unfold recoverySealed
  repeat' split
  all_goals simp [h, sulOffer_stpHas law]

theorem startLanes_stpHas (law : StpLaw Q) {s : State} (h : s.StpHas Q) :
    (startLanes s).StpHas Q := by
  refine eachLane_stpHas _ (fun i t ht => ?_) h
  split <;> exact ht

theorem completeFault_stpHas (law : StpLaw Q) {s : State} (h : s.StpHas Q) :
    (completeFault s).StpHas Q := by simp [completeFault, h, sendNext_stpHas law]

theorem completeNormal_stpHas (law : StpLaw Q) {s : State} (h : s.StpHas Q) :
    (completeNormal s).StpHas Q := by
  unfold completeNormal
  exact beginPrint_stpHas law (offerReady_stpHas law ((modHsu_stpHas _ _).2 (startLanes_stpHas law
    (enterListen_stpHas law ((modSul_stpHas _ _).2 h)))))

theorem reportRoom_stpHas (law : StpLaw Q) {s : State} (h : s.StpHas Q) :
    (reportRoom s).StpHas Q := by 
  unfold reportRoom
  repeat' split
  all_goals simp [h, ntbRoom_stpHas law, pctRoom_stpHas law]

theorem idleTimer_stpHas (law : StpLaw Q) {s : State} (h : s.StpHas Q) :
    (idleTimer s).StpHas Q := by 
  unfold idleTimer
  repeat' split
  all_goals exact h

theorem pulseStep_stpHas (law : StpLaw Q) (i : LaneNo) (pt : PulseTick) {s : State} (h : s.StpHas Q) :
    (pulseStep i pt s).StpHas Q := by 
  unfold pulseStep
  repeat' split
  all_goals simp [h, takeFault_stpHas law]

theorem volumeStep_stpHas (law : StpLaw Q) (i : LaneNo) (p : Pass) {s : State} (h : s.StpHas Q) :
    (volumeStep i p s).StpHas Q := by simpa [volumeStep] using h

theorem stageStep_stpHas (law : StpLaw Q) (c : LaneCfg) (i : LaneNo) {s : State} (h : s.StpHas Q) :
    (stageStep c i s).StpHas Q := by 
  unfold stageStep
  repeat' split
  all_goals exact h

theorem setQuiet_stpHas (i : LaneNo) (n : Nat) {s : State} (h : s.StpHas Q) :
    (s.modLane i fun l => { l with quiet := n }).StpHas Q := h

theorem closingStep_stpHas (law : StpLaw Q) (i : LaneNo) (pulses : Nat) {s : State} (h : s.StpHas Q) :
    (closingStep i pulses s).StpHas Q := by
  unfold closingStep
  dsimp only
  generalize (if pulses = 0 then (s.lane i).quiet + 1 else 0) = n
  split
  · exact enterEnded_stpHas law i (setQuiet_stpHas i n h)
  · exact setQuiet_stpHas i n h

theorem checkStep_stpHas (law : StpLaw Q) (c : LaneCfg) (i : LaneNo) (pulses : Nat) {s : State} (h : s.StpHas Q) :
    (checkStep c i pulses s).StpHas Q := by
  unfold checkStep
  repeat' split
  · exact stageStep_stpHas law _ _ h
  · exact closingStep_stpHas law _ _ h
  · exact h

theorem noFlowStep_stpHas (law : StpLaw Q) (i : LaneNo) (pulses : Nat) (d : Steer) {s : State} (h : s.StpHas Q) :
    (noFlowStep i pulses d s).StpHas Q := by 
  unfold noFlowStep
  dsimp only
  repeat' split
  all_goals repeat (first | exact h | apply closeDecision_stpHas law | simp only [modPct_stpHas, modIlm_stpHas, modHsu_stpHas, modLif_stpHas, modNtb_stpHas, modSul_stpHas, modLane_stpHas, modPiu_stpHas, modVen_stpHas, modInj_stpHas, emit_stpHas, modTrip_stpHas, modLine_stpHas, modTripFlags_stpHas, modHeld_stpHas, modRecord_stpHas, modFlags_stpHas, modAdditive_stpHas])

theorem steerStep_stpHas (law : StpLaw Q) (i : LaneNo) (pulses : Nat) {s : State} (h : s.StpHas Q) :
    (steerStep i pulses s).StpHas Q := by
  unfold steerStep
  dsimp only
  split
  · exact noFlowStep_stpHas law _ _ _ (steerNow_stpHas law _ (rise_stpHas law _ (retarget_stpHas law _ h)))
  · exact h

theorem checkpointStep_stpHas (law : StpLaw Q) (i : LaneNo) (before : Stage) (gross : Nat) {s : State} (h : s.StpHas Q) :
    (checkpointStep i before gross s).StpHas Q := by 
  unfold checkpointStep
  repeat' split
  all_goals simp [h, offerCheckpoint_stpHas law]

theorem compartmentPass_stpHas (law : StpLaw Q) (i : LaneNo) (c : VenCfg) (raw : Nat) {s : State} (h : s.StpHas Q) :
    (compartmentPass i c raw s).StpHas Q := by
  unfold compartmentPass
  exact checkpointStep_stpHas law _ _ _ (steerStep_stpHas law _ _ (checkStep_stpHas law _ _ _
    (dosePass_stpHas law _ _ (volumeStep_stpHas law _ _ (pulseStep_stpHas law _ _ h)))))

theorem leakReport_stpHas (law : StpLaw Q) (before after : Nat) {s : State} (h : s.StpHas Q) :
    (leakReport before after s).StpHas Q := by 
  unfold leakReport
  repeat' split
  all_goals exact h

theorem leakLanePass_stpHas (law : StpLaw Q) (i : LaneNo) (c : VenCfg) (raw : Nat) {s : State} (h : s.StpHas Q) :
    (leakLanePass i c raw s).StpHas Q := by simp [leakLanePass, h, leakReport_stpHas law]

theorem lanePass_stpHas (law : StpLaw Q) (i : LaneNo) (raw : Nat) {s : State} (h : s.StpHas Q) :
    (lanePass i raw s).StpHas Q := by 
  unfold lanePass
  repeat' split
  all_goals simp [h, compartmentPass_stpHas law, leakLanePass_stpHas law]

theorem sealNote_stpHas (law : StpLaw Q) (b : Build) {s : State} (h : s.StpHas Q) :
    (sealNote b s).StpHas Q := by 
  unfold sealNote
  repeat' split
  all_goals repeat (first | exact h | apply recoverySealed_stpHas law | apply noteReady_stpHas law | apply noteSealed_stpHas law | apply joinPrints_stpHas law | simp only [modPct_stpHas, modIlm_stpHas, modHsu_stpHas, modLif_stpHas, modNtb_stpHas, modSul_stpHas, modLane_stpHas, modPiu_stpHas, modVen_stpHas, modInj_stpHas, emit_stpHas, modTrip_stpHas, modLine_stpHas, modTripFlags_stpHas, modHeld_stpHas, modRecord_stpHas, modFlags_stpHas, modAdditive_stpHas])

theorem reportDone_stpHas (law : StpLaw Q) (q : QItem) {s : State} (h : s.StpHas Q) :
    (reportDone q s).StpHas Q := by 
  unfold reportDone
  repeat' split
  all_goals simp [h, sealNote_stpHas law]

theorem claimWindowEnd_stpHas (law : StpLaw Q) {s : State} (h : s.StpHas Q) :
    (claimWindowEnd s).StpHas Q := by 
  unfold claimWindowEnd
  repeat' split
  all_goals simp [h, enterAuthorized_stpHas law]

theorem unprime_stpHas (law : StpLaw Q) (i : LaneNo) {s : State} (h : s.StpHas Q) :
    (unprime i s).StpHas Q := by 
  unfold unprime
  repeat' split
  all_goals exact h

theorem authEnd_stpHas (law : StpLaw Q) {s : State} (h : s.StpHas Q) :
    (authEnd s).StpHas Q := by 
  unfold authEnd
  repeat' split
  all_goals repeat (first | exact h | apply pctSend_stpHas law | apply release_stpHas law | apply unprime_stpHas law | simp only [modPct_stpHas, modIlm_stpHas, modHsu_stpHas, modLif_stpHas, modNtb_stpHas, modSul_stpHas, modLane_stpHas, modPiu_stpHas, modVen_stpHas, modInj_stpHas, emit_stpHas, modTrip_stpHas, modLine_stpHas, modTripFlags_stpHas, modHeld_stpHas, modRecord_stpHas, modFlags_stpHas, modAdditive_stpHas])

theorem idleEnd_stpHas (law : StpLaw Q) {s : State} (h : s.StpHas Q) :
    (idleEnd s).StpHas Q := by 
  unfold idleEnd
  repeat' split
  all_goals simp [h, enterClosing_stpHas law, idleTimer_stpHas law]

theorem stampWindowEnd_stpHas (law : StpLaw Q) {s : State} (h : s.StpHas Q) :
    (stampWindowEnd s).StpHas Q := by 
  unfold stampWindowEnd
  repeat' split
  all_goals exact h

theorem lifetimeEnd_stpHas (law : StpLaw Q) {s : State} (h : s.StpHas Q) :
    (lifetimeEnd s).StpHas Q := by 
  unfold lifetimeEnd
  repeat' split
  all_goals simp [h, lapsePending_stpHas law]

theorem lapseLane_stpHas (law : StpLaw Q) (i : LaneNo) {s : State} (h : s.StpHas Q) :
    (lapseLane i s).StpHas Q := by 
  unfold lapseLane
  repeat' split
  all_goals simp [h, suspendLane_stpHas law]

theorem markLapse_stpHas (law : StpLaw Q) (i : LaneNo) {s : State} (h : s.StpHas Q) :
    (markLapse i s).StpHas Q := by 
  unfold markLapse
  repeat' split
  all_goals simp [h]

theorem permissiveDrop_stpHas (law : StpLaw Q) {s : State} (h : s.StpHas Q) :
    (permissiveDrop s).StpHas Q := by
  unfold permissiveDrop
  dsimp only
  split
  · exact eachLane_stpHas _ (fun i t ht => markLapse_stpHas law _ ht) h
  · exact eachLane_stpHas _ (fun i t ht => lapseLane_stpHas law _ ht)
      ((modIlm_stpHas _ _).2 (eachLane_stpHas _ (fun i t ht => markLapse_stpHas law _ ht) h))

theorem dropOutputs_stpHas (law : StpLaw Q) (i : LaneNo) {s : State} (h : s.StpHas Q) :
    (dropOutputs i s).StpHas Q := by 
  unfold dropOutputs
  repeat' split
  all_goals exact h

theorem permissiveEffect_stpHas (law : StpLaw Q) (good : Bool) {s : State} (h : s.StpHas Q) :
    (permissiveEffect good s).StpHas Q := by
  refine eachLane_stpHas _ (fun i t ht => dropOutputs_stpHas law _ ht) ?_
  split
  · exact permissiveDrop_stpHas law h
  · exact h

theorem latchLane_stpHas (law : StpLaw Q) (i : LaneNo) {s : State} (h : s.StpHas Q) :
    (latchLane i s).StpHas Q := by exact h

theorem armLost_stpHas (law : StpLaw Q) (i : LaneNo) {s : State} (h : s.StpHas Q) :
    (armLost i s).StpHas Q := by 
  unfold armLost
  repeat' split
  all_goals simp [h, latchLane_stpHas law, markLapse_stpHas law, suspendLane_stpHas law, toIdle_stpHas law]

theorem startEffect_stpHas (law : StpLaw Q) {s : State} (h : s.StpHas Q) :
    (startEffect s).StpHas Q := by 
  unfold startEffect
  repeat' split
  all_goals repeat (first | exact h | apply startLane_stpHas law | apply release_stpHas law | simp only [modPct_stpHas, modIlm_stpHas, modHsu_stpHas, modLif_stpHas, modNtb_stpHas, modSul_stpHas, modLane_stpHas, modPiu_stpHas, modVen_stpHas, modInj_stpHas, emit_stpHas, modTrip_stpHas, modLine_stpHas, modTripFlags_stpHas, modHeld_stpHas, modRecord_stpHas, modFlags_stpHas, modAdditive_stpHas])

theorem stopEffect_stpHas (law : StpLaw Q) {s : State} (h : s.StpHas Q) :
    (stopEffect s).StpHas Q := by 
  unfold stopEffect
  repeat' split
  all_goals simp [h, enterClosing_stpHas law, suspendAll_stpHas law]

theorem clearLeak_stpHas (law : StpLaw Q) (i : LaneNo) {s : State} (h : s.StpHas Q) :
    (clearLeak i s).StpHas Q := by exact h

theorem ackEffect_stpHas (law : StpLaw Q) {s : State} (h : s.StpHas Q) :
    (ackEffect s).StpHas Q := by exact h

theorem takeOverride_stpHas (law : StpLaw Q) {s : State} (h : s.StpHas Q) :
    (takeOverride s).StpHas Q := by exact h

theorem holdEffect_stpHas (law : StpLaw Q) {s : State} (h : s.StpHas Q) :
    (holdEffect s).StpHas Q := by
  unfold holdEffect
  dsimp only
  repeat' split
  · exact takeOverride_stpHas law h
  · exact askReprint_stpHas law h
  · exact h

theorem endStep_stpHas (law : StpLaw Q) (i : LaneNo) {s : State} (h : s.StpHas Q) :
    (endStep i s).StpHas Q := by exact h

theorem valveLeak_stpHas (law : StpLaw Q) (i : LaneNo) {s : State} (h : s.StpHas Q) :
    (valveLeak i s).StpHas Q := by 
  unfold valveLeak
  repeat' split
  all_goals simp [h, enterEnded_stpHas law]

theorem edgeA_stpHas (law : StpLaw Q) (i : LaneNo) (cap : Word32) {s : State} (h : s.StpHas Q) :
    (edgeA i cap s).StpHas Q := by exact h

theorem edgeB_stpHas (law : StpLaw Q) (i : LaneNo) (cap : Word32) {s : State} (h : s.StpHas Q) :
    (edgeB i cap s).StpHas Q := by exact h

theorem unexpected_stpHas (law : StpLaw Q) (j : InjNo) {s : State} (h : s.StpHas Q) :
    (unexpected j s).StpHas Q := by 
  unfold unexpected
  repeat' split
  all_goals simp [h]

theorem pulseTaken_stpHas (law : StpLaw Q) (j : InjNo) {s : State} (h : s.StpHas Q) :
    (pulseTaken j s).StpHas Q := by 
  unfold pulseTaken
  repeat' split
  all_goals simp [h, unexpected_stpHas law]

theorem windowEnd_stpHas (law : StpLaw Q) (j : InjNo) {s : State} (h : s.StpHas Q) :
    (windowEnd j s).StpHas Q := by 
  unfold windowEnd
  repeat' split
  all_goals repeat (first | exact h | apply tryEndCycle_stpHas law | apply judge_stpHas law | apply closeDoses_stpHas law | simp only [modPct_stpHas, modIlm_stpHas, modHsu_stpHas, modLif_stpHas, modNtb_stpHas, modSul_stpHas, modLane_stpHas, modPiu_stpHas, modVen_stpHas, modInj_stpHas, emit_stpHas, modTrip_stpHas, modLine_stpHas, modTripFlags_stpHas, modHeld_stpHas, modRecord_stpHas, modFlags_stpHas, modAdditive_stpHas])

theorem hearAsk_stpHas (law : StpLaw Q) (sender target : Nat) (note : Word32) {s : State} (h : s.StpHas Q) :
    (hearAsk sender target note s).StpHas Q := by 
  unfold hearAsk
  repeat' split
  all_goals simp [h, takeAsk_stpHas law]

theorem aloneEnd_stpHas (law : StpLaw Q) {s : State} (h : s.StpHas Q) :
    (aloneEnd s).StpHas Q := by
  unfold aloneEnd
  dsimp only
  split
  · exact setLink_stpHas law _ h
  · exact h

theorem listenEnd_stpHas (law : StpLaw Q) {s : State} (h : s.StpHas Q) :
    (listenEnd s).StpHas Q := by 
  unfold listenEnd
  repeat' split
  all_goals simp [h, enterJoin_stpHas law]

theorem dropPeer_stpHas (law : StpLaw Q) (station : Nat) {s : State} (h : s.StpHas Q) :
    (dropPeer station s).StpHas Q := by exact h

theorem busyAsserted_stpHas (law : StpLaw Q) {s : State} (h : s.StpHas Q) :
    (busyAsserted s).StpHas Q := by exact h

theorem busyReleased_stpHas (law : StpLaw Q) {s : State} (h : s.StpHas Q) :
    (busyReleased s).StpHas Q := by simp [busyReleased, h, sendNext_stpHas law]

theorem characterGone_stpHas (law : StpLaw Q) {s : State} (h : s.StpHas Q) :
    (characterGone s).StpHas Q := by 
  unfold characterGone
  dsimp only
  repeat' split
  all_goals repeat (first | exact h | apply finishPrint_stpHas law | apply sendNext_stpHas law | simp only [modPct_stpHas, modIlm_stpHas, modHsu_stpHas, modLif_stpHas, modNtb_stpHas, modSul_stpHas, modLane_stpHas, modPiu_stpHas, modVen_stpHas, modInj_stpHas, emit_stpHas, modTrip_stpHas, modLine_stpHas, modTripFlags_stpHas, modHeld_stpHas, modRecord_stpHas, modFlags_stpHas, modAdditive_stpHas])

theorem reportFreeSlot_stpHas (law : StpLaw Q) (clear : ∀ p, Q p → Q { p with departed := false }) {s : State}
    (h : s.StpHas Q) : (reportFreeSlot s).StpHas Q := by
  unfold reportFreeSlot
  split
  · exact sulFreeSlot_stpHas law _ (ntbFreeSlot_stpHas law (pctFreeSlot_stpHas law _
      (eachLane_stpHas _ (fun i t ht => offerAfter_stpHas law i ht) (clear _ h))))
  · exact h

/-! ### No report is left due -/

/-- A request that has left the queue is in flight. -/
def departedFlies (p : Stp) : Prop := p.departed = true → p.flight.isSome = true

/-- A write is in flight and no report is due. -/
def fliesQuietly (p : Stp) : Prop := p.flight.isSome = true ∧ p.departed = false

theorem startNext_flying {s : State} (h : s.stp.flight.isSome = true) : startNext s = s := by
  unfold startNext
  split
  · rename_i e _ ; rw [e] at h; exact absurd h (by decide)
  · rfl

theorem startNext_departed {s : State} (h : departedFlies s.stp) : departedFlies (startNext s).stp := by
  unfold startNext
  split
  · unfold askStatusRead
    split <;> exact fun _ => rfl
  · exact h

theorem departedFlies_law : StpLaw departedFlies where
  offers q s h := by
    unfold enqueue
    split
    · exact h
    · split
      · exact startNext_departed h
      · exact h
  reads p r h := h

theorem fliesQuietly_law : StpLaw fliesQuietly where
  offers q s h := by
    unfold enqueue
    split
    · exact h
    · split
      · rw [startNext_flying (by exact h.1)]; exact h
      · exact h
  reads p r h := h

/-- The second of two reports of a free slot leaves none due. -/
theorem reportFreeSlot_quiet {s : State} (h : departedFlies s.stp) : (reportFreeSlot s).stp.departed = false := by
  unfold reportFreeSlot
  split
  · rename_i d
    have k : (s.modStp fun p => { p with departed := false }).StpHas fliesQuietly := ⟨h d, rfl⟩
    have law := fliesQuietly_law
    exact (sulFreeSlot_stpHas law _ (ntbFreeSlot_stpHas law (pctFreeSlot_stpHas law _
      (eachLane_stpHas _ (fun i t ht => offerAfter_stpHas law i ht) k)))).2
  · rename_i d
    simpa using d

theorem reportFreeSlot_departed (s : State) : departedFlies (reportFreeSlot s).stp := by
  unfold reportFreeSlot
  split
  · have law := departedFlies_law
    have k : (s.modStp fun p => { p with departed := false }).StpHas departedFlies := fun e => Bool.noConfusion e
    exact sulFreeSlot_stpHas law _ (ntbFreeSlot_stpHas law (pctFreeSlot_stpHas law _
      (eachLane_stpHas _ (fun i t ht => offerAfter_stpHas law i ht) k)))
  · rename_i d
    exact fun e => absurd e d

@[simp] theorem offerFrame_roomFreed (f : TxFrame) (s : State) : (offerFrame f s).2.lif.roomFreed = s.lif.roomFreed := by
  unfold offerFrame
  repeat' split
  all_goals rfl

theorem offerFrame_roomFreed_of {f : TxFrame} {s t : State} {b : Bool} (h : offerFrame f s = (b, t)) :
    t.lif.roomFreed = s.lif.roomFreed := by
  have e := offerFrame_roomFreed f s
  rwa [h] at e

theorem pctRoom_roomFreed (n : Nat) (s : State) : (pctRoom n s).lif.roomFreed = s.lif.roomFreed := by
  induction n generalizing s with
  | zero => rfl
  | succ n ih =>
    rw [pctRoom]
    repeat' split
    · rfl
    · rename_i t e
      rw [ih, ← offerFrame_roomFreed_of e]; rfl
    · rename_i t e
      exact offerFrame_roomFreed_of e

theorem serve_roomFreed (n : Nat) (s : State) : (serve n s).lif.roomFreed = s.lif.roomFreed := by
  induction n generalizing s with
  | zero => rfl
  | succ n ih =>
    rw [serve]
    repeat' split
    · rfl
    · rw [ih]; rfl
    · rfl
    · rfl
    · rfl
    · rename_i t e
      exact offerFrame_roomFreed_of e
    · rename_i t e _
      rw [ih, ← offerFrame_roomFreed_of e]; rfl
    · rename_i t e _
      rw [ih, ← offerFrame_roomFreed_of e]; rfl

theorem offerReady_roomFreed (s : State) : (offerReady s).lif.roomFreed = s.lif.roomFreed := by
  unfold offerReady
  repeat' split
  · rfl
  · rename_i t e
    rw [← offerFrame_roomFreed_of e]; rfl
  · rename_i t e
    exact offerFrame_roomFreed_of e

theorem ntbRoom_roomFreed (s : State) : (ntbRoom s).lif.roomFreed = s.lif.roomFreed := by
  unfold ntbRoom
  dsimp only
  split
  · rw [serve_roomFreed, offerReady_roomFreed]
  · exact offerReady_roomFreed s

theorem reportRoom_roomFreed (s : State) : (reportRoom s).lif.roomFreed = false := by
  unfold reportRoom
  split
  · rw [ntbRoom_roomFreed, pctRoom_roomFreed]; rfl
  · rename_i h; simpa using h

theorem portKick_departed (s : State) : (portKick s).stp.departed = s.stp.departed := by
  unfold portKick
  repeat' split
  all_goals rfl

theorem portKick_lif (s : State) : (portKick s).lif = s.lif := by
  unfold portKick
  repeat' split
  all_goals rfl

theorem refreshLamps_stp (s : State) : (refreshLamps s).stp = s.stp := by unfold refreshLamps; split <;> rfl

theorem refreshLamps_lif (s : State) : (refreshLamps s).lif = s.lif := by unfold refreshLamps; split <;> rfl

theorem idleTimer_stp (s : State) : (idleTimer s).stp = s.stp := by
  unfold idleTimer
  repeat' split
  all_goals rfl

theorem idleTimer_lif (s : State) : (idleTimer s).lif = s.lif := by
  unfold idleTimer
  repeat' split
  all_goals rfl

theorem offerFrame_stp (f : TxFrame) (s : State) : (offerFrame f s).2.stp = s.stp := by
  unfold offerFrame
  repeat' split
  all_goals rfl

theorem offerFrame_stp_of {f : TxFrame} {s t : State} {b : Bool} (h : offerFrame f s = (b, t)) : t.stp = s.stp := by
  have e := offerFrame_stp f s
  rwa [h] at e

theorem pctRoom_stp (n : Nat) (s : State) : (pctRoom n s).stp = s.stp := by
  induction n generalizing s with
  | zero => rfl
  | succ n ih =>
    rw [pctRoom]
    repeat' split
    · rfl
    · rename_i t e
      rw [ih, ← offerFrame_stp_of e]; rfl
    · rename_i t e
      exact offerFrame_stp_of e

theorem offerReady_stp (s : State) : (offerReady s).stp = s.stp := by
  unfold offerReady
  repeat' split
  · rfl
  · rename_i t e
    rw [← offerFrame_stp_of e]; rfl
  · rename_i t e
    exact offerFrame_stp_of e

theorem serve_departed (n : Nat) (s : State) : (serve n s).stp.departed = s.stp.departed := by
  induction n generalizing s with
  | zero => rfl
  | succ n ih =>
    rw [serve]
    repeat' split
    · rfl
    · rw [ih]; rfl
    · rfl
    · rfl
    · rfl
    · rename_i t e
      rw [offerFrame_stp_of e]
    · rename_i t e _
      rw [ih, ← offerFrame_stp_of e]; rfl
    · rename_i t e _
      rw [ih, ← offerFrame_stp_of e]; rfl

theorem reportRoom_departed (s : State) : (reportRoom s).stp.departed = s.stp.departed := by
  unfold reportRoom
  split
  · unfold ntbRoom
    dsimp only
    split
    · rw [serve_departed, offerReady_stp, pctRoom_stp]; rfl
    · rw [offerReady_stp, pctRoom_stp]; rfl
  · rfl

/-- At the end of every event no report is due. -/
theorem settle_noReportDue (s : State) : (settle s).noReportDue := by
  have d : departedFlies (recoveryNote (reportFreeSlot s)).stp :=
    recoveryNote_stpHas departedFlies_law (show State.StpHas _ _ from reportFreeSlot_departed s)
  refine ⟨?_, ?_⟩
  · rw [settle, portKick_departed, refreshLamps_stp, idleTimer_stp]
    have q := reportFreeSlot_quiet d
    have flies := reportRoom_departed (reportFreeSlot (recoveryNote (reportFreeSlot s)))
    rw [flies]
    exact q
  · rw [settle, portKick_lif, refreshLamps_lif, idleTimer_lif]
    exact reportRoom_roomFreed _

end Sys2Proof.Machine
end

