-- ==== Sys2Proof/Laws/Tick.lean ====
section
/-! SUPPORT. What a step with an empty queue changes: one lemma per field for `microsecond`, and what `tick` can
do. -/

namespace Sys2Proof.Machine

variable (s : State)

/-! ### The levels that follow their pins -/

/-- What following the pins leaves alone: everything but the channel levels, the feedback levels and the keys' levels. -/
def State.besideLevels (s : State) : State :=
  { s with
    ilm := { s.ilm with startKey := false, stopKey := false }
    lanes := s.lanes.map fun l => { l with piu := { l.piu with levelA := none, levelB := none } }
    injs := s.injs.map fun x => { x with level := false } }

theorem followChannels_besideLevels (i : LaneNo) : (followChannels i s).besideLevels = s.besideLevels := by
  unfold followChannels
  split
  · simp only [State.besideLevels, State.modPiu, State.modLane, piuLevels, State.mk.injEq, true_and, and_true]
    ext k hk
    by_cases h : i.val = k <;> simp [h]
  · rfl

theorem feedback_besideLevels (j : InjNo) (p : Pin) :
    (if s.reads j then s.modInj j (feedbackAfter p) else s).besideLevels = s.besideLevels := by
  split
  · simp only [State.besideLevels, State.modInj, feedbackAfter, State.mk.injEq, true_and, and_true]
    ext k hk
    by_cases h : j.val = k <;> simp [h]
  · rfl

theorem feedbacks_besideLevels (pins : Vector Pin 8) (js : List InjNo) :
    ∀ t : State, (js.foldl (fun t j => if t.reads j then t.modInj j (feedbackAfter pins[j]) else t) t).besideLevels =
      t.besideLevels := by
  induction js with
  | nil => exact fun _ => rfl
  | cons j rest ih => exact fun t => (ih _).trans (feedback_besideLevels t j pins[j])

theorem modIlm_keys_besideLevels (a b : Ilm → Bool) :
    (s.modIlm fun m => { m with startKey := a m, stopKey := b m }).besideLevels = s.besideLevels := rfl

theorem followLevels_besideLevels : (followLevels s).besideLevels = s.besideLevels := by
  unfold followLevels
  rw [modIlm_keys_besideLevels, feedbacks_besideLevels]
  simp [State.eachLane, allLanes, followChannels_besideLevels]

/-- Following the pins leaves a part of the state alone that `besideLevels` keeps. -/
theorem followLevels_part {α : Type} (part : State → α) (h : ∀ t : State, part t.besideLevels = part t) :
    part (followLevels s) = part s := by rw [← h (followLevels s), followLevels_besideLevels, h]

@[simp] theorem followLevels_now : (followLevels s).now = s.now := followLevels_part s (·.now) fun _ => rfl
@[simp] theorem followLevels_crd : (followLevels s).crd = s.crd := followLevels_part s (·.crd) fun _ => rfl
@[simp] theorem followLevels_pct : (followLevels s).pct = s.pct := followLevels_part s (·.pct) fun _ => rfl
@[simp] theorem followLevels_hsu : (followLevels s).hsu = s.hsu := followLevels_part s (·.hsu) fun _ => rfl
@[simp] theorem followLevels_lif : (followLevels s).lif = s.lif := followLevels_part s (·.lif) fun _ => rfl
@[simp] theorem followLevels_ntb : (followLevels s).ntb = s.ntb := followLevels_part s (·.ntb) fun _ => rfl
@[simp] theorem followLevels_stp : (followLevels s).stp = s.stp := followLevels_part s (·.stp) fun _ => rfl
@[simp] theorem followLevels_sul : (followLevels s).sul = s.sul := followLevels_part s (·.sul) fun _ => rfl
@[simp] theorem followLevels_cfg : (followLevels s).cfg = s.cfg := followLevels_part s (·.cfg) fun _ => rfl
@[simp] theorem followLevels_store : (followLevels s).store = s.store := followLevels_part s (·.store) fun _ => rfl
@[simp] theorem followLevels_free : (followLevels s).free = s.free := followLevels_part s (·.free) fun _ => rfl
@[simp] theorem followLevels_outbox : (followLevels s).outbox = s.outbox := followLevels_part s (·.outbox) fun _ => rfl
@[simp] theorem followLevels_pins : (followLevels s).pins = s.pins := followLevels_part s (·.pins) fun _ => rfl
@[simp] theorem followLevels_pending : (followLevels s).pending = s.pending := followLevels_part s (·.pending) fun _ => rfl

/-! ### The card reader's port -/

/-- What the port can do with a byte: the byte ends its message, or it joins it and a gap is timed from it. -/
theorem CardPort.take_cases (b : Byte) (now : Nat) (p : CardPort) :
    (messageWhole (p.bytes ++ [b]) = true ∧ p.take b now = ({}, some (p.bytes ++ [b]))) ∨
    (messageWhole (p.bytes ++ [b]) = false ∧
      p.take b now = ({ bytes := p.bytes ++ [b], gap := some (now + Config.readerGap) }, none)) := by
  unfold CardPort.take
  cases h : messageWhole (p.bytes ++ [b])
  · exact .inr ⟨rfl, by simp [h]⟩
  · exact .inl ⟨rfl, by simp [h]⟩

/-! ### The microsecond -/

theorem followLine_eq : followLine s = { s with lif := if s.samples then lineTick s.pins.line s.lif else s.lif } := by
  unfold followLine
  split <;> rfl

@[simp] theorem microsecond_now : (microsecond s).now = s.now + 1 := by simp [microsecond, followLine_eq, State.later]
@[simp] theorem microsecond_crd : (microsecond s).crd = (cardInput s).1 := rfl
@[simp] theorem microsecond_pct : (microsecond s).pct = s.pct := by simp [microsecond, followLine_eq, State.later]
@[simp] theorem microsecond_hsu : (microsecond s).hsu = s.hsu := by simp [microsecond, followLine_eq, State.later]
@[simp] theorem microsecond_ntb : (microsecond s).ntb = s.ntb := by simp [microsecond, followLine_eq, State.later]
@[simp] theorem microsecond_stp : (microsecond s).stp = s.stp := by simp [microsecond, followLine_eq, State.later]
@[simp] theorem microsecond_sul : (microsecond s).sul = s.sul := by simp [microsecond, followLine_eq, State.later]
@[simp] theorem microsecond_cfg : (microsecond s).cfg = s.cfg := by simp [microsecond, followLine_eq, State.later]
@[simp] theorem microsecond_store : (microsecond s).store = s.store := by simp [microsecond, followLine_eq, State.later]
@[simp] theorem microsecond_free : (microsecond s).free = s.free := by simp [microsecond, followLine_eq, State.later]
@[simp] theorem microsecond_outbox : (microsecond s).outbox = s.outbox := by simp [microsecond, followLine_eq, State.later]
@[simp] theorem microsecond_pins : (microsecond s).pins = tickPins s := rfl
@[simp] theorem microsecond_pending : (microsecond s).pending = inputEvents s ++ lineInput s ++ (cardInput s).2 := rfl
@[simp] theorem microsecond_lif :
    (microsecond s).lif = if s.samples then lineTick s.pins.line s.lif else s.lif := by
  simp [microsecond, followLine_eq, State.later, State.samples]

/-- What a step with an empty queue can do: take up an event that is due, or let a microsecond pass. -/
theorem tick_cases :
    (∃ c rest, dueEvents s = c :: rest ∧ tick s = { s with pending := [c] }) ∨
    (dueEvents s = [] ∧ tick s = microsecond s) := by
  unfold tick
  cases h : dueEvents s with
  | nil => exact .inr ⟨rfl, rfl⟩
  | cons c rest => exact .inl ⟨c, rest, rfl, rfl⟩

end Sys2Proof.Machine
end

