-- ==== Sys2Proof/Tests/Slice0.lean ====
section
/-! SUPPORT. Tests: what WellFormed refuses, the spec's worked examples, and for each statement a state and operands that
meet the premises of its clauses, at the bounds of their ranges. -/

namespace Sys2Proof.Tests

-- One theorem is checked after the other: many kernel evaluations at once take a thread and its stack each.
set_option Elab.async false

open Sys2Proof Sys2Proof.Machine

/-! ### What is not well formed -/

/-- R1: a CARD message has at most 255 content bytes. -/
theorem test_wf_card : (Instr.card (List.replicate 255 0)).wf = true ∧ (Instr.card (List.replicate 256 0)).wf = false := by
  decide +kernel

/-- R1: a well-formed WRITE-DONE message is no discarded one; one with a broken check is. -/
theorem test_wf_discarded : (Instr.readerMessageDiscarded (withCrc [2, 0])).wf = false ∧
    (Instr.readerMessageDiscarded [2, 0, 0, 0]).wf = true := by decide +kernel

/-- R43: FLOW and ATTEND do not blink. -/
theorem test_wf_blink : (Instr.lampBlinkPhase .flow).wf = false ∧ (Instr.lampBlinkPhase .attend).wf = false ∧
    (Instr.lampBlinkPhase .ready).wf = true ∧ (Instr.lampBlinkPhase .card).wf = true := by decide

/-- R147: sender 0 and 25, a header twice, header 7, seven entries, a field too wide. -/
theorem test_wf_status : (Instr.status 0 3 0 0 []).wf = false ∧ (Instr.status 25 3 0 0 []).wf = false ∧
    (Instr.status 24 3 0 0 [⟨2, 65535, 0⟩, ⟨6, 0, 0⟩]).wf = true ∧
    (Instr.status 3 3 0 0 [⟨2, 1, 0⟩, ⟨2, 1, 0⟩]).wf = false ∧ (Instr.status 3 3 0 0 [⟨7, 1, 0⟩]).wf = false ∧
    (Instr.status 3 3 0 0 [⟨2, 65536, 0⟩]).wf = false ∧
    (Instr.status 3 3 0 0 [⟨1, 0, 0⟩, ⟨2, 0, 0⟩, ⟨3, 0, 0⟩, ⟨4, 0, 0⟩, ⟨5, 0, 0⟩, ⟨6, 0, 0⟩, ⟨1, 0, 0⟩]).wf = false := by decide

/-- R147: station numbers of the other frames, a segment index below its count, at most 48 segment bytes. -/
theorem test_wf_frames : (Instr.claim 0 1).wf = false ∧ (Instr.claim 1 1).wf = true ∧ (Instr.held 3 1 25).wf = false ∧
    (Instr.release 25 1).wf = false ∧ (Instr.noteReady 0 1 1).wf = false ∧ (Instr.noteAsk 3 0 1).wf = false ∧
    (Instr.notePart 3 7 1 1 1 true []).wf = false ∧ (Instr.notePart 3 7 1 0 1 true (List.replicate 49 0)).wf = false ∧
    (Instr.notePart 3 7 1 0 1 true (List.replicate 48 0)).wf = true := by decide

/-- R147: a frame that passes acceptance was not dropped; the same bytes with a framing error were. -/
theorem test_wf_dropped : (Instr.frameDropped false (frameBytes 4 (.claim 30771))).wf = false ∧
    (Instr.frameDropped true (frameBytes 4 (.claim 30771))).wf = true := by decide +kernel

/-- R148, R163: an access after plain quiet, and the station of an entry. -/
theorem test_wf_quiet : (Instr.accessAttempt 9).wf = false ∧ (Instr.accessAttempt 10).wf = true ∧
    (Instr.freshToStale 0).wf = false ∧ (Instr.staleToSilent 25).wf = false ∧ (Instr.silentRemoval 25).wf = false ∧
    (Instr.silentRemoval 24).wf = true := by decide

/-- The table gives no row any bits. -/
theorem test_decode_nothing : decodeTableWord 8 0x81 = none := rfl

/-! ### Worked examples of the spec -/

/-- R212: the check of the nine digits 1 to 9. -/
theorem test_crc : crc16 [0x31, 0x32, 0x33, 0x34, 0x35, 0x36, 0x37, 0x38, 0x39] = 0x29B1 := by decide +kernel

/-- 0.6.3: -7 div 2 is -3. -/
theorem test_div : (-7 : Int).tdiv 2 = -3 := by decide

/-- The curve, calibration and product of the worked example 5.14. -/
def curve514 : List PointCfg := [⟨200, 10055⟩, ⟨800, 10031⟩, ⟨1600, 10018⟩, ⟨3000, 10008⟩]
def temp514 : TempCfg := ⟨400, -4000, 3600, 8000⟩

/-- 5.4, 5.14: the meter factor at 2,445 L/min is 10,012. -/
theorem test_meter_factor : meterFactor curve514 2445 = 10012 ∧ meterFactor curve514 200 = 10055 ∧
    meterFactor curve514 6000 = 10008 := by decide

/-- 5.14 steps 2 to 7. -/
theorem test_tick_514 : meterVolume 1000 10012 37000 98250 = (10190, 69500) ∧ calibrate temp514 2144 = 2540 ∧
    filtered (joinWindow [2540, 2538, 2541, 2541] 2540) = some 2540 ∧ vcf 1200 43 2540 = 987474 ∧
    standardVolume 10190 987474 412000 = (10062, 772060) ∧ addSigma 5995188360 10190 2540 = 6021070960 ∧
    flowRate [10190, 10190, 10190, 10190] = 2445 ∧ weightedTemp 6021070960 2371430 [] = 2539 := by decide +kernel

/-- 4.8: ticks 2 to 4 of a failing B channel. -/
theorem test_channels_48 : correctedPulses 2 1021 1020 = 1021 ∧ pulseCondition 1021 1020 false 1 20 = none ∧
    pulseCondition 1020 1018 false 3 20 = none ∧ pulseCondition 1019 1016 false 6 20 = some .bMissing ∧
    addCorrected 6 (channelDifference 980 0) = 986 := by decide

/-- 3.16, 6.10: static limits, and nine tenths of one. -/
theorem test_limits : staticLimit 60 5000 120 = 2500 ∧ staticLimit 100 5000 2000 = 250 ∧ 250 * 9 / 10 = 225 ∧
    spacingPeriod 100 = 600000 := by decide

/-- 6.10: the backlog mark at 12,600,000, 5,500,000 and 4,400,000 nL of a 5,000 µL stroke. -/
theorem test_backlog : backlogAfter false 12600000 5000 = true ∧ backlogAfter true 5500000 5000 = true ∧
    backlogAfter true 4400000 5000 = false := by decide

/-- 7.5, 7.9, 7.10: fair division. -/
theorem test_fair : fairGrant 1666 [600, 2400] 600 = 600 ∧ fairGrant 1666 [600, 2400] 2400 = 1066 ∧
    fairGrant 6000 [2400, 2400, 2400, 1000] 2400 = 1666 ∧ fairGrant 6000 [2400, 2400, 1500, 1000] 2400 = 1750 := by
  decide +kernel

/-- 7.9: the band at 1,666 is 49, so that the valve holds within 1,617..1,715. -/
theorem test_steer : steer 1617 1666 = .hold ∧ steer 1616 1666 = .open ∧ steer 1715 1666 = .hold ∧
    steer 1716 1666 = .close := by decide

/-- R62: the learned overshoot is clamped to 20. -/
theorem test_learn : learn 8 7 = 7 ∧ learn 20 30 = 20 := by decide

/-- 1.9: access gaps of stations 4 and 11. -/
theorem test_gaps : accessGap { station := 4 } = 18 ∧ accessGap { station := 11 } = 32 ∧
    accessGap { station := 4, ownLast := true } = 82 := by decide

/-- R166: a peer's time 2 s to a day ahead is adopted. -/
theorem test_adopt : adoptTime true 100 101 = false ∧ adoptTime true 100 102 = true ∧ adoptTime true 100 86500 = true ∧
    adoptTime true 100 86501 = false ∧ adoptTime false 100 0 = true := by decide

/-! ### A small bay -/

/-- L1 with product 2 on H1, L2 with product 5 on H1, and injector 1 on L1. -/
def tables : Tables :=
  { bay := some ⟨5⟩
    headers := (Vector.replicate 6 none).set 0 (some ⟨6000, 4⟩)
    lanes := ((Vector.replicate 4 none).set 0 (some ⟨2, 1, 98250, 300, 150, 400, 600, 2400, 150, 25, 1, 20, 65535⟩)).set 1
      (some ⟨5, 1, 98250, 300, 150, 400, 600, 2400, 150, 25, 2, 20, 65535⟩)
    products := ((Vector.replicate 15 none).set 1 (some ⟨3, 1200, 43⟩)).set 4 (some ⟨4, 830, 0⟩)
    points := ((Vector.replicate 16 none).set 0 (some ⟨200, 10055⟩)).set 4 (some ⟨200, 10055⟩)
    temps := ((Vector.replicate 4 none).set 0 (some temp514)).set 1 (some temp514)
    injectors := (Vector.replicate 8 none).set 0 (some ⟨1, 5000, 60, 120⟩) }

/-- The bay of station 7 in RUN after start-up, its interlocks whole. -/
def bay : State :=
  { State.reset with
    ilm := { ground := true, overfill := true, vapour := true, estop := true, rstop := false, arm := Vector.replicate 4 true }
    lif := { link := .run, station := 7 }
    ntb := { next := 5 }
    sul := { phase := .complete, done := true }
    cfg := tables }

/-- An order line of L1. -/
def lineOf (st : LineStatus) (r : Option CompRecord) : OrderLine :=
  { compartment := 1, product := 2, preset := 5000, recipe := 0, lane := some 0, status := st, record := r }

/-- A trip of permit 17. -/
def tripOf (ls : List OrderLine) : Trip :=
  { permit := 17, driver := 1, tanker := 2, issueDay := 0, expiryDay := 60000, classSet := 0xFFFF, capacities := [8000]
    lines := ls }

/-- The bay with a trip in the slot. -/
def trip (slot : Slot) (ls : List OrderLine) : State := { bay with pct := { slot := slot, trip := some (tripOf ls) } }

/-- The bay with a trip in the slot and L1 in a stage on its first line; L1's tick runs. -/
def loading (slot : Slot) (st : Stage) (status : LineStatus) (r : CompRecord) : State :=
  { trip slot [lineOf status (some r)] with
    lanes := bay.lanes.set 0 { stage := st, line := some 0, tick := some 250000, share := 2400 } }

/-- The bay with a stamp pending for permit 17. -/
def stamped (slot : Slot) : State :=
  { bay with pct := { slot := slot, stamp := some ⟨[1], 4, 17⟩, pendingStamp := some ⟨[2], 3, 17⟩ } }

/-- A permit block of 84 bytes: permit 17, dates 0 and 60,000, class set all ones, one line of a compartment of 8,000 L. -/
def block (issue expiry preset count : Nat) : List Byte :=
  withCrc (permitTag ++ beBytes 4 17 ++ beBytes 8 0 ++ beBytes 2 issue ++ beBytes 2 expiry ++ beBytes 2 0xFFFF ++
    beBytes 1 1 ++ beBytes 1 count ++ beBytes 2 8000 ++ List.replicate 14 0 ++
    (beBytes 1 1 ++ beBytes 1 2 ++ beBytes 2 preset ++ beBytes 1 0) ++ List.replicate 35 0)

/-- The bay with the FIFO holding a number of frames. -/
def filled (n : Nat) : State := { bay with lif := { bay.lif with fifo := List.replicate n (.release 1) } }

/-- A command's next state has a property. -/
def after (c : Instr) (s : State) (p : State → Bool) : Bool :=
  match exec c s with
  | .next t => p t
  | _ => false

/-- A step's next state has a property. -/
def stepped (s : State) (p : State → Bool) : Bool :=
  match step s with
  | .next t => p t
  | _ => false

/-- What the reader is sent for a card that is refused. -/
def refused (r : CardRefusal) : Output := .reader (refusedMessage r)

/-- A state is calm by its three fields. -/
theorem calm_of (s : State) (h : s.stp.departed = false ∧ s.lif.roomFreed = false ∧ s.sul.recovery ≠ .offering) : s.Calm :=
  ⟨⟨h.1, h.2.1⟩, h.2.2⟩

/-- A write in flight, and requests waiting behind it. -/
def busy (queue : List QItem) (s : State) : State :=
  { s with stp := { queue := queue, flight := some { item := ⟨.markClosed [1], false⟩, steps := [⟨68, 0, [1]⟩] }, port := .writing ⟨68, 0, [1]⟩ 9 } }

/-- A number of requests that wait. -/
def waits (n : Nat) : List QItem := List.replicate n ⟨.total 0 0 0, false⟩

/-- Table 12-8: the stage, the cause with the stage left, and the end reason, of the checkpoints of line 1 that wait. -/
def codes (s : State) : List (List Nat) :=
  s.stp.queue.filterMap fun q => match q.req with
    | .checkpoint 1 b => some [fieldNat b 6 1, fieldNat b 7 1, fieldNat b 8 1]
    | _ => none

/-! ### Premises of the statements: the machine, reset, the store, start-up -/

/-- The bay with its READY lamp lit, so that no event is due. -/
def rested : State := { bay with ilm := { bay.ilm with ready := { shown := true } } }

/-- A command waits; an expiry is due; nothing is due. -/
theorem wit_StepRunsFrontCommand : ({ bay with pending := [.start, .stop] }).pending = .start :: [.stop] ∧
    (bay.pending = [] ∧ dueEvents { rested with pct := { replyTimer := some 0 } } = [.replyTimerExpiry]) ∧
    (rested.pending = [] ∧ dueEvents rested = []) := by decide

/-- Every filtered pin at the other level for `run` microseconds, and every meter channel high, with filtered levels low. -/
def pinned (run : Nat) : State :=
  { rested with
    lanes := Vector.replicate 4 { piu := { levelA := some false, levelB := some false } }
    pins :=
      { ground := ⟨false, run⟩, overfill := ⟨false, run⟩, vapour := ⟨false, run⟩, estop := ⟨false, run⟩
        rstop := ⟨true, run⟩, arm := Vector.replicate 4 ⟨false, run⟩, startKey := ⟨true, run⟩, stopKey := ⟨true, run⟩
        ackKey := ⟨true, run⟩, meterA := Vector.replicate 4 true, meterB := Vector.replicate 4 true
        feedback := Vector.replicate 8 ⟨true, run⟩, busy := ⟨true, run⟩ } }

/-- One microsecond before the end of a filter's time and at its end; the levels of channels before the first sample; R77: of
two edges of a lane A comes first. -/
theorem wit_InputFilters : (∀ run ∈ [49998, 49999], (pinned run).pending = [] ∧ dueEvents (pinned run) = []) ∧
    stepped (pinned 49998) (fun t => decide (.start ∉ t.pending) && decide (t.pins.startKey.run = 49999) &&
      decide (.permissiveChange .ground false ∉ t.pending)) = true ∧
    stepped (pinned 49999) (fun t => decide (.start ∈ t.pending) && decide (t.pins.startKey.run = 0) &&
      decide (.permissiveChange .ground false ∈ t.pending) && decide (.armDrop 3 ∈ t.pending) &&
      decide (.ackPress ∈ t.pending) && decide (.ackRelease ∉ t.pending)) = true ∧
    stepped (pinned 1998) (fun t => decide (.feedbackPulse 0 ∉ t.pending)) = true ∧
    stepped (pinned 1999) (fun t => decide (.feedbackPulse 0 ∈ t.pending) && decide (.feedbackPulse 1 ∉ t.pending)) = true ∧
    stepped (pinned 9998) (fun t => decide (.busyChange true ∉ t.pending)) = true ∧
    stepped (pinned 9999) (fun t => decide (.busyChange true ∈ t.pending)) = true ∧
    stepped (pinned 0) (fun t => decide (t.pending.take 2 = [.risingEdge 0 .a 1, .risingEdge 0 .b 1])) = true ∧
    stepped State.reset (fun t => decide ((t.lane 3).piu.levelA = some false) && decide (t.pending = [])) = true := by
  decide +kernel

/-- The card reader's port with the bytes of a message so far, timed to a moment, and a byte that reaches it. -/
def receiving (bytes : List Byte) (gap : Option Nat) (byte : Option Byte) : State :=
  { rested with crd := { bytes := bytes, gap := gap }, pins := { rested.pins with cdrx := byte } }

/-- R1: a first byte, a second byte that calls for more, the last byte of a good message and of one of an unknown kind, and a byte
in the microsecond that ends at the 20 ms. The gap's end falls due when no byte has come by then. -/
theorem wit_InputFilters_reader : (∀ x ∈ [(([] : List Byte), (2 : Byte)), ([2], 0), ((withCrc [2, 0]).take 3, 0x5A), ((withCrc [9, 0]).take 3, 1)],
      (receiving x.1 (some 20000) (some x.2)).pending = [] ∧ dueEvents (receiving x.1 (some 20000) (some x.2)) = []) ∧
    stepped (receiving [] none (some 1)) (fun t => decide (t.crd = ⟨[1], some 20001⟩) && decide (t.pins.cdrx = none)) = true ∧
    stepped (receiving [1] (some 1) (some 0)) (fun t => decide (t.crd = ⟨[1, 0], some 20001⟩) && decide (t.pending = [])) = true ∧
    stepped (receiving ((withCrc [2, 0]).take 3) (some 1) (withCrc [2, 0])[3]?) (fun t => decide (t.crd = {}) &&
      decide (t.pending = [.writeDone])) = true ∧
    stepped (receiving ((withCrc [9, 0]).take 3) (some 1) (withCrc [9, 0])[3]?) (fun t =>
      decide (t.pending = [.readerMessageDiscarded (withCrc [9, 0])])) = true ∧
    dueEvents { receiving [1] (some 20000) none with now := 20000 } = [.readerByteGapTimeout] := by decide +kernel

/-- A port operation at the first page past the memory, and one that ends past its page; a command that is no reset. -/
theorem wit_CommandsAnswer :
    exec .pageReadComplete { bay with stp := { port := .reading ⟨.ask, 2048⟩ } } = .fault (.storeAddress 2048) ∧
    exec .pageWriteComplete { bay with stp := { port := .writing ⟨2047, 127, [1, 2]⟩ 0 } } = .fault (.storeAddress 2047) ∧
    after .start bay (fun t => decide (t.sul.phase = .complete)) = true :=
  ⟨rfl, rfl, by decide⟩

theorem wit_ResetState : (1 ≤ (1 : BitVec 5).toNat ∧ (1 : BitVec 5).toNat ≤ 24) ∧
    (1 ≤ (24 : BitVec 5).toNat ∧ (24 : BitVec 5).toNat ≤ 24) ∧ (0 : BitVec 5).toNat = 0 ∧ 24 < (25 : BitVec 5).toNat := by decide

/-- A page write of the last byte of the memory, and no write. -/
theorem wit_StoreBytes :
    ({ bay with stp := { port := .writing ⟨2047, 127, [1]⟩ 9 } }).StoreOk ∧
    ({ bay with stp := { port := .writing ⟨2047, 127, [1]⟩ 9 } }).stp.port = .writing ⟨2047, 127, [1]⟩ 9 ∧
    (⟨2047, 127, [1]⟩ : PageWrite).inRange = true ∧ bay.StoreOk ∧ bay.stp.port = .idle := ⟨rfl, rfl, by decide, rfl, rfl⟩

/-- Page `page` of the store with bytes in it; the rest of the store is erased. -/
def placed (page : Nat) (bytes : List Byte) : List Host.Cell := bytes.zipIdx.map fun (b, k) => (page * 128 + k, b)

/-- Start-up at a phase, reading a page that holds these bytes. -/
def loads (phase : SulPhase) (page : Nat) (bytes : List Byte) : State :=
  { bay with
    sul := { phase := phase }, lif := { station := 7 }, stp := { port := .reading ⟨.sul, page⟩ }, store := placed page bytes }

/-- An image of one descriptor each for BAY, HEADER 1, LANE 1, PRODUCT 2, MFPOINT 1, TEMPCAL 1. -/
def imageBody : List Byte :=
  [1, 1, 0, 5] ++ [2, 1, 0] ++ beBytes 2 6000 ++ [4] ++
  [3, 1, 0, 2, 1] ++ beBytes 4 98250 ++ beBytes 2 300 ++ beBytes 2 150 ++ beBytes 2 400 ++ beBytes 2 600 ++
    beBytes 2 2400 ++ beBytes 2 150 ++ [25, 1, 20] ++ beBytes 2 65535 ++
  [4, 2, 0, 3] ++ beBytes 2 1200 ++ [43] ++ [5, 1, 0] ++ beBytes 2 200 ++ beBytes 2 10055 ++
  [6, 1, 0] ++ beBytes 2 400 ++ [0xF0, 0x60] ++ beBytes 2 3600 ++ beBytes 2 8000

/-- A whole image of `n` descriptors with its check. -/
def imageOf (n : Nat) (body : List Byte) : List Byte :=
  let front := beBytes 2 0x5A61 ++ beBytes 2 (8 + body.length) ++ beBytes 2 n
  front ++ beBytes 2 (crc16 (front ++ body)) ++ body

/-- The fault that an image loads with. -/
def faultIn (image : List Byte) : Option (Nat × Nat) :=
  match loadImage image with
  | .error e => some e
  | .ok _ => none

/-- A first page with a tag and a length. -/
def firstPage (tag len : Nat) : State := loads .header 0 (beBytes 2 tag ++ beBytes 2 len)

/-- The length at the bounds of R203, the image above, one without its BAY entry (fault 1, entry 1), one with a descriptor
too few, and one with a broken check. -/
theorem wit_ImageLoads : (∀ len ∈ [8, 128, 129, 8192], fieldNat (readPage (firstPage 0x5A61 len).store 0) 0 2 = 0x5A61 ∧
      fieldNat (readPage (firstPage 0x5A61 len).store 0) 2 2 = len) ∧
    fieldNat (readPage (firstPage 0x5A61 7).store 0) 2 2 < 8 ∧ 8192 < fieldNat (readPage (firstPage 0x5A61 8193).store 0) 2 2 ∧
    fieldNat (readPage (firstPage 0x5A60 8).store 0) 0 2 ≠ 0x5A61 ∧ (firstPage 0x5A61 8).sul.phase = .header ∧
    (firstPage 0x5A61 8).stp.port = .reading ⟨.sul, 0⟩ ∧
    (loadImage (imageOf 6 imageBody)).toOption.isSome = true ∧
    ((loadImage (imageOf 6 imageBody)).toOption.bind (·.lanes[(0 : LaneNo)])).map (·.k) = some 98250 ∧
    faultIn (imageOf 5 (imageBody.drop 4)) = some (1, 1) ∧
    faultIn (imageOf 5 imageBody) = some (13, 0) ∧
    faultIn ((imageOf 6 imageBody).set 6 0) = some (12, 0) ∧
    loadDescriptors 5 imageBody {} = none := by
  refine ⟨by decide +kernel, by decide +kernel, by decide +kernel, by decide +kernel, rfl, rfl, by decide +kernel,
    by decide +kernel, by decide +kernel, by decide +kernel, by decide +kernel, by decide +kernel⟩

/-- Tables whose checks all pass; the first check that fails: no BAY entry, a header without stations before a lane without
its product, a lane's product, a curve that does not ascend, no lane, an injector on a lane that is not fitted. -/
theorem wit_ImageLoads_checks :
    (∀ c ∈ tables.rangeChecks ++ tables.serviceChecks, c.ok = true) ∧
    (∀ x ∈ [({ tables with bay := none }, 1, 1),
        ({ tables with headers := tables.headers.set 1 (some ⟨6000, 0⟩), products := Vector.replicate 15 none }, 2, 2),
        ({ tables with products := Vector.replicate 15 none }, 3, 1),
        ({ tables with points := tables.points.set 2 (some ⟨200, 10055⟩) }, 5, 3),
        ({ tables with lanes := Vector.replicate 4 none }, 3, 1),
        ({ tables with injectors := tables.injectors.set 4 (some ⟨3, 5000, 60, 120⟩) }, 7, 5)],
      ((x.1.rangeChecks ++ x.1.serviceChecks).find? (fun c => !c.ok)).map (fun c => (c.code, c.entry)) = some x.2) ∧
    faultIn (imageOf 6 (imageBody.set 9 0)) = some (2, 1) ∧ faultIn (imageOf 6 (imageBody.set 13 3)) = some (3, 1) := by
  decide +kernel

/-- An image of one page, and the last page of a longer one. -/
theorem wit_ImageLoads_page :
    after .pageReadComplete (loads .header 0 (imageOf 6 imageBody)) (fun t => decide (t.sul.phase = .totals 0) &&
      decide (t.sul.code = 0) && t.fitted 0 && !t.fitted 1 && decide (t.stp.port = .reading ⟨.sul, 64⟩)) = true ∧
    after .pageReadComplete (firstPage 0x5A61 129) (fun t => decide (t.sul.phase = .image 1) &&
      decide (t.stp.port = .reading ⟨.sul, 1⟩) && decide (t.stp.reads = [])) = true ∧
    after .pageReadComplete (loads (.image 1) 3 []) (fun t => decide (t.sul.code = 12) &&
      decide (t.sul.phase = .settle)) = true ∧
    (loads (.image 2) 3 []).sul.phase = .image 2 ∧ (loads (.image 1) 3 []).sul.phase = .image 1 := by decide +kernel

/-- A note of no line with a number and a stamp status. -/
def noteOf (number stamp : Nat) : List Byte :=
  noteImage { number := number, station := 7, permit := 17, driver := 1, tanker := 2, startTime := 0, endTime := 0, flags := {} } []
    (fun _ => (0, 0)) stamp 1

/-- The head of a note with a length of `len`. -/
def noteFront (number len : Nat) : List Byte := [0x4E] ++ beBytes 4 number ++ beBytes 2 len

/-- Totals pages with no copy, copy A, copy B, and both with equal counts. -/
theorem wit_StartUpReads : (∀ i : LaneNo, (loads (.totals i.val) (64 + i.val) []).sul.phase = .totals i.val ∧
      (loads (.totals i.val) (64 + i.val) []).stp.port = .reading ⟨.sul, 64 + i.val⟩) ∧
    after .pageReadComplete (loads (.totals 0) 64 (totalsBytes 0 3 5 6 ++ List.replicate 44 0 ++ totalsBytes 0 4 7 8))
      (fun t => decide (t.totals 0 = (7, 8)) && decide (t.stp.copies[(0 : LaneNo)] = ⟨true, 4⟩)) = true ∧
    after .pageReadComplete (loads (.totals 3) 67 (totalsBytes 3 3 5 6 ++ List.replicate 44 0 ++ totalsBytes 3 3 7 8))
      (fun t => decide (t.totals 3 = (5, 6)) && decide (t.sul.phase = .slot 0)) = true := by decide +kernel

/-- The scan of slots 1 and 239: no note; a note whose stamp is PENDING or STAMPED; a note of 129 and of 498 bytes; one of 33
or 499; and the last page of a longer note. -/
theorem wit_StartUpReads_slots : (∀ k ∈ [1, 239], (loads (.slot k) (128 + 4 * k) []).sul.phase = .slot k ∧
      fieldNat (readPage (loads (.slot k) (128 + 4 * k) []).store (128 + 4 * k)) 0 1 ≠ 0x4E) ∧
    notePresent 1 (readPage (placed 132 (noteOf 1 1)) 132) = true ∧ fieldNat (noteOf 1 1) (fieldNat (noteOf 1 1) 5 2 - 4) 1 = 1 ∧
    fieldNat (noteOf 1 2) (fieldNat (noteOf 1 2) 5 2 - 4) 1 = 2 ∧
    (∀ len ∈ [34, 128, 129, 498], fieldNat (noteFront 1 len) 5 2 = len ∧ fieldNat (noteFront 1 len) 1 4 % 240 = 1) ∧
    after .pageReadComplete (loads (.slot 1) 132 (noteOf 1 2)) (fun t => decide (t.sul.best = 1) &&
      decide (t.sul.phase = .slot 2) && decide (t.stp.queue = []) && decide (t.stp.port = .reading ⟨.sul, 136⟩)) = true ∧
    after .pageReadComplete { loads (.slot 1) 132 (noteOf 1 1) with stp := { (loads (.slot 1) 132 []).stp with
      flight := some { item := ⟨.markClosed [1], false⟩, steps := [⟨68, 0, [1]⟩] } } } (fun t =>
      decide (t.stp.queue = [⟨.noteStatus 1 .stamp 3, true⟩])) = true ∧
    after .pageReadComplete (loads (.slot 239) 1084 []) (fun t => decide (t.ntb.next = 1) &&
      decide (t.stp.port = .reading ⟨.sul, 68⟩)) = true ∧
    after .pageReadComplete (loads (.slot 1) 132 (noteFront 1 129)) (fun t => decide (t.sul.phase = .slotRest 1 1) &&
      decide (t.stp.port = .reading ⟨.sul, 133⟩)) = true ∧
    (∀ left ∈ [1, 2], (loads (.slotRest 1 left) 133 []).sul.phase = .slotRest 1 left) := by decide +kernel

/-- The trip whose marker the store holds, and the marker as read. -/
def markTrip : Trip := { tripOf [lineOf .waiting none, lineOf (.refused .presetTooSmall) none] with number := 4 }
def marker4 : Marker := { head := markHead markTrip, number := 4, permit := 17, driver := 1, tanker := 2, flags := {}, startTime := 0, count := 2 }

/-- Start-up at a phase of the recovery of that trip, with no read waiting. -/
def recovering (phase : SulPhase) (page : Nat) (bytes : List Byte) : State :=
  { loads phase page bytes with sul := { phase := phase, marker := some marker4, lines := markTrip.lines } }

theorem wit_StartUpReads_marker : markerOf (readPage (placed 68 (markHead markTrip)) 68) = some marker4 ∧
    markerOf (readPage (placed 68 (closeHead (markHead markTrip))) 68) = none ∧
    (loads .markHead 68 []).sul.phase = .markHead ∧ (recovering .markLines 69 []).sul.marker = some marker4 ∧
    markLinesOk 4 (readPage (placed 69 (markLines markTrip)) 69) = true ∧ markLinesOk 4 (readPage [] 69) = false ∧
    after .pageReadComplete (recovering .markLines 69 (markLines markTrip)) (fun t => decide (t.sul.phase = .sealed) &&
      decide (t.sul.lines = markTrip.lines) && decide (t.stp.port = .reading ⟨.sul, 144⟩)) = true := by decide +kernel

/-- The trip's note in its slot or not; a checkpoint of the trip that is ENDED, one in LOW-FLOW, one of another trip. -/
def check4 (number stage : Nat) : List Byte :=
  checkpointBytes number 1 stage 0 (if stage = 7 then 1 else 0) false { gross := 5000 } 1500 9 9

theorem wit_TripRecovery : (recovering .sealed 144 []).sul.marker = some marker4 ∧ (recovering .sealed 144 []).Calm ∧
    (recovering .sealed 144 []).ntb.build = none ∧ (recovering .sealed 144 []).stp.port = .reading ⟨.sul, 144⟩ ∧
    (notePresent 4 (readPage (placed 144 (noteOf 4 1)) 144) = true ∧ fieldWord (noteOf 4 1) 8 = marker4.permit) ∧
    notePresent 4 (readPage [] 144) = false ∧ (recovering .sealed 144 []).sul.recovery = .none ∧
    (128 < fieldNat (noteFront 4 129) 5 2 ∧ fieldNat (noteFront 4 498) 5 2 ≤ 498) ∧
    (∀ left ∈ [1, 2], (recovering (.sealedRest left) 145 []).sul.phase = .sealedRest left) ∧
    (recovering (.check 1) 70 []).sul.lines[0]? = some (lineOf .waiting none) ∧ nextWaiting markTrip.lines 0 = some 0 ∧
    checkpointOf 4 (readPage [] 70) = none ∧ checkpointOf 4 (check4 3 7) = none ∧
    (checkpointOf 4 (check4 4 7)).map (·.stage) = some 7 ∧ (checkpointOf 4 (check4 4 2)).map (·.stage) = some 2 :=
  ⟨rfl, calm_of _ (by decide), rfl, rfl, by decide +kernel, by decide +kernel, rfl, by decide +kernel, by decide, rfl,
    by decide, by decide +kernel, by decide +kernel, by decide +kernel, by decide +kernel⟩

/-- The outcomes of R197 and R198 for a WAITING line: sealed already, more of its note's pages to come, NOT-LOADED, its ENDED
checkpoint, POWER-LOST. -/
theorem wit_TripRecovery_outcomes :
    after .pageReadComplete (recovering .sealed 144 (noteOf 4 1)) (fun t => decide (t.sul.phase = .settle)) = true ∧
    after .pageReadComplete (recovering (.sealedRest 2) 145 []) (fun t => decide (t.sul.phase = .sealedRest 1)) = true ∧
    after .pageReadComplete (recovering .sealed 144 []) (fun t => decide (t.sul.phase = .check 1) &&
      decide (t.stp.port = .reading ⟨.sul, 70⟩)) = true ∧
    after .pageReadComplete (recovering (.check 1) 70 []) (fun t => decide ((t.sul.lines.map (·.status)) =
      [.ended .notLoaded, .refused .presetTooSmall])) = true ∧
    after .pageReadComplete (recovering (.check 1) 70 (check4 4 7)) (fun t => decide ((t.sul.lines.map (·.status)) =
      [.ended .preset, .refused .presetTooSmall]) && decide (t.totals 0 = (9, 9))) = true ∧
    after .pageReadComplete (recovering (.check 1) 70 (check4 4 2)) (fun t => decide ((t.sul.lines.map (·.status)) =
      [.ended .powerLost, .refused .presetTooSmall]) && decide (t.totals 0 = (5000, 0))) = true := by decide +kernel

/-- The power-lost line of `check4`, found with requests waiting behind a write in flight or with none. -/
def lostLine (queue : List QItem) (flight : Bool) : State :=
  let s := recovering (.check 1) 70 (check4 4 2)
  { s with stp := { (busy queue s).stp with port := s.stp.port, flight := if flight then (busy queue s).stp.flight else none } }

/-- R199: the ENDED checkpoint, the TOTAL and the recovered note's page with room for all, for one and for none, and at an empty
store port. -/
theorem wit_TripRecovery_offers : (∀ n ∈ [0, 11, 12], (lostLine (waits n) true).sul.held = [] ∧
      (lostLine (waits n) true).stp.flight.isSome = true ∧ (lostLine (waits n) true).stp.queue.length = n ∧
      (∀ q ∈ (lostLine (waits n) true).stp.queue, checkLine q.req = none)) ∧
    ((lostLine [] false).stp.flight = none ∧ (lostLine [] false).stp.queue = [] ∧ (lostLine [] false).pct.heldMarks = [] ∧
      (lostLine [] false).ntb.statusList = [] ∧ (∀ i : LaneNo, (lostLine [] false).stage i ≠ .ended)) ∧
    (checkpointOf 4 (check4 4 2)).map (·.record.weighted) = some (some 1500) ∧
    after .pageReadComplete (lostLine [] true) (fun t => decide (codes t = [[7, 0, 9]]) &&
      decide (((t.stp.queue.drop 1).take 1).map (·.req) = [.total 0 5000 0]) && decide (t.stp.queue.length = 3)) = true ∧
    after .pageReadComplete (lostLine (waits 11) true) (fun t => decide (codes t = [[7, 0, 9]]) &&
      decide (t.stp.queue.length = 12) && decide (t.sul.held = [.total 0 5000 0]) && decide (t.ntb.build = none)) = true ∧
    after .pageReadComplete (lostLine (waits 12) true) (fun t => decide (t.stp.queue.length = 12) &&
      decide (t.sul.held.length = 2)) = true ∧
    after .pageReadComplete (lostLine [] false) (fun t => decide (t.stp.flight.map (fun f => checkLine f.item.req) = some (some 1)) &&
      decide (t.stp.queue.length = 2)) = true := by decide +kernel

/-- The only page of note 5 is written for a trip in CLOSING. -/
def lastPage : State :=
  { trip .closing [] with
    ntb := { next := 5, build := some ⟨[1], 5, 1, 1, false, 17, 0, 0⟩ }
    stp := { port := .writing ⟨148, 0, [1]⟩ 9, flight := some { item := ⟨.notePage 5 1 [1], false⟩, steps := [⟨148, 0, [1]⟩] } } }

theorem wit_LastPageSealsNote : lastPage.sul.recovery ≠ .offering ∧ lastPage.stp.port = .writing ⟨148, 0, [1]⟩ 9 ∧
    (⟨148, 0, [1]⟩ : PageWrite).inRange = true ∧
    lastPage.stp.flight = some { item := ⟨.notePage 5 1 [1], false⟩, steps := [⟨148, 0, [1]⟩] } ∧
    lastPage.ntb.build = some ⟨[1], 5, 1, 1, false, 17, 0, 0⟩ ∧ lastPage.pct.trip = some (tripOf []) := by decide

/-- The same with a stamp pending and its WRITE outstanding, frames in the transmit FIFO, and a link state. -/
def displacing (link : Link) (frames : Nat) : State :=
  { lastPage with
    pct := { lastPage.pct with pendingStamp := some ⟨[2], 3, 16⟩, write := some .pendingStamp }
    lif := { (filled frames).lif with link := link } }

/-- R24, R27: the displaced stamp's request is before TRIP-MARK(closed); RELEASE and NOTE-READY with room for both, for one and
for none, and in MUTE. -/
theorem wit_LastPageSealsNote_rest : (∀ link ∈ [Link.run, .mute], ∀ n ∈ [4, 5, 6],
      ((displacing link n).stp.departed = false ∧ (displacing link n).lif.roomFreed = false ∧
        (displacing link n).sul.recovery ≠ .offering) ∧ (displacing link n).pct.pendingStamp = some ⟨[2], 3, 16⟩ ∧
      (displacing link n).pct.write = some .pendingStamp ∧ (displacing link n).sul.held = [] ∧
      (displacing link n).ntb.statusList = [] ∧ (displacing link n).pct.heldMarks = [] ∧
      (displacing link n).ntb.prints = [] ∧ (displacing link n).stp.queue.length + 2 ≤ 12 ∧
      (∀ i : LaneNo, (displacing link n).stage i ≠ .ended) ∧ (displacing link n).lif.link = link ∧
      (displacing link n).lif.fifo.length = n ∧ (displacing link n).pct.held.length < 24) ∧ lastPage.pct.pendingStamp = none ∧
    after .pageWriteComplete (displacing .run 5) (fun t => decide (t.pct.write = some (.displaced 3)) &&
      decide (t.stp.flight.map (·.item.req) = some (.noteStatus 3 .stamp 3)) && decide (t.stp.queue.length = 1) &&
      decide (t.lif.fifo.length = 6) && decide (t.ntb.heldReady = some (5, 17))) = true ∧
    after .pageWriteComplete (displacing .run 6) (fun t => decide (t.pct.held = [.release 17])) = true ∧
    after .pageWriteComplete (displacing .mute 5) (fun t => decide (t.lif.fifo.length = 5) &&
      decide (t.ntb.heldReady = none)) = true := by decide +kernel

/-- The last page of a trip's note or of a recovered one, with notes in the print queue and requests waiting. -/
def sealing (recovered : Bool) (prints : List PrintEntry) (queue : List QItem) : State :=
  { lastPage with
    ntb := { lastPage.ntb with build := some ⟨noteOf 5 1, 5, 1, 1, recovered, 17, 0, 0⟩, prints := prints }
    stp := { lastPage.stp with queue := queue }
    pct := if recovered then {} else lastPage.pct
    lif := if recovered then { lastPage.lif with link := .down } else lastPage.lif
    sul := if recovered then { phase := .settle, recovery := .sealing, marker := some marker4 } else lastPage.sul }

/-- R176, R180: the note's copy in an empty print queue, behind one entry, and in the place of a print and of a reprint that waits,
with room for just the requests; R178, R200: a recovered note, and the end of its marker's write. -/
theorem wit_LastPageSealsNote_prints : (∀ recovered : Bool, ∀ prints ∈ [[], [⟨[1], 3, false⟩], [⟨[1], 3, false⟩, ⟨[1], 4, false⟩]],
      ((sealing recovered prints (waits 10)).stp.departed = false ∧ (sealing recovered prints (waits 10)).lif.roomFreed = false ∧
        (sealing recovered prints (waits 10)).sul.recovery ≠ .offering) ∧ (sealing recovered prints (waits 10)).sul.held = [] ∧
      (sealing recovered prints (waits 10)).pct.heldMarks = [] ∧ (sealing recovered prints (waits 10)).stp.queue.length + 2 ≤ 12 ∧
      (sealing recovered prints (waits 10)).ntb.port.wire = none ∧ (sealing recovered prints (waits 10)).sul.done = !recovered) ∧
    ((sealing true [] []).sul.marker = some marker4 ∧ (sealing true [] []).lif.link = .down) ∧
    after .pageWriteComplete (sealing false [] []) (fun t => decide (t.ntb.prints = [⟨noteOf 5 1, 5, false⟩]) &&
      t.ntb.port.wire.isSome) = true ∧
    after .pageWriteComplete (sealing false [⟨[1], 3, false⟩, ⟨[1], 4, false⟩] (waits 10)) (fun t =>
      decide (t.ntb.prints.map (·.number) = [3, 5]) && decide (t.stp.queue.length = 11) &&
      decide (t.stp.queue.getLast?.map (·.req) = some (.noteStatus 4 .print 3))) = true ∧
    after .pageWriteComplete (sealing false [⟨[1], 3, false⟩, ⟨[1], 4, true⟩] []) (fun t =>
      decide (t.ntb.prints.map (·.number) = [3, 5]) && decide (t.stp.queue = [])) = true ∧
    after .pageWriteComplete (sealing true [] []) (fun t => decide (t.sul.recovery = .closing) && decide (t.ntb.next = 6) &&
      decide (t.pct.slot = .empty) && decide (t.pct.stamp = none) && decide (t.ntb.heldReady = some (5, 17)) &&
      decide (t.stp.flight.map (·.item) = some ⟨.markClosed (closeHead marker4.head), true⟩) &&
      decide (t.ntb.port.wire = none)) = true ∧
    (let s := sealing true [] []
     let f : Flight := { item := ⟨.markClosed [1], true⟩, steps := [⟨68, 0, [1]⟩] }
     after .pageWriteComplete { s with sul := { s.sul with recovery := .closing }, stp := { s.stp with flight := some f } }
       (fun t => decide (t.sul.recovery = .complete)) = true) := by decide +kernel

/-- Start-up ready, before it, with an offer held, and with a config fault. -/
def ready (phase : SulPhase) (code : Nat) (held : List WriteReq) : State :=
  { bay with lif := { station := 7 }, sul := { phase := phase, code := code, held := held } }

theorem wit_StartUpCompletes : ((ready .settle 0 []).sul.phase = .settle ∧ (ready .settle 0 []).sul.code = 0 ∧
      (ready .settle 0 []).sul.held = [] ∧ (ready .settle 0 []).sul.recovery = .none ∧ (ready .settle 0 []).noReportDue) ∧
    (ready .header 0 []).sul.phase ≠ .settle ∧
    ((ready .settle 0 [.markClosed []]).sul.code = 0 ∧ (ready .settle 0 [.markClosed []]).sul.held ≠ []) ∧
    (∀ code ∈ [1, 9, 10, 13], (ready .settle code []).sul.phase = .settle ∧ (ready .settle code []).sul.code ≠ 0 ∧
      ((ready .settle code []).stp.departed = false ∧ (ready .settle code []).lif.roomFreed = false ∧
        (ready .settle code []).sul.recovery ≠ .offering) ∧ (ready .settle code []).ntb.port.wire = none) ∧
    (∀ r ∈ [Recovery.offering, .sealing, .closing],
      exec .startUpCompletion { ready .settle 0 [] with sul := { phase := .settle, recovery := r } } =
        .next { ready .settle 0 [] with sul := { phase := .settle, recovery := r } }) := by
  refine ⟨⟨rfl, rfl, rfl, rfl, rfl, rfl⟩, by decide, by decide, by decide, fun r h => ?_⟩
  simp only [List.mem_cons, List.not_mem_nil, or_false] at h
  rcases h with rfl | rfl | rfl <;> rfl

/-! ### Premises: driver permits -/

/-- R6: a block of 83 bytes, one with a wrong tag, one with nine compartments or a capacity of 20,001, and one with a
broken check, each by the check that it fails; and the blocks below pass. -/
theorem wit_intakeCheck : intakeCheck ((block 0 60000 5000 1).take 83) = some .length ∧
    intakeCheck ((block 0 60000 5000 1).set 0 0) = some .format ∧ intakeCheck ((block 0 60000 5000 1).set 24 9) = some .format ∧
    intakeCheck (((block 0 60000 5000 1).set 26 0x4E).set 27 0x21) = some .format ∧
    intakeCheck ((block 0 60000 5000 1).set 83 0) = some .check ∧ intakeCheck (block 0 60000 5000 1) = none ∧
    intakeCheck (block 0 9 5000 1) = none ∧ intakeCheck (block 11 60000 5000 1) = none ∧
    intakeCheck (block 0 60000 5000 0) = none := by decide +kernel

/-- Rack time on day 10, the leak alarm, a config fault, and numbering exhausted. -/
def onDay10 : State := { bay with lif := { bay.lif with timeSet := true, time := 864000 } }
def leaking : State := { bay with ilm := { bay.ilm with leakAlarm := true } }
def faulty : State := { bay with sul := { bay.sul with code := 3 } }
def exhausted : State := { bay with ntb := { next := 4294967296 } }

/-- R5, R6: before start-up completes, with a WRITE outstanding, with the slot EMPTY, in AWAIT-STAMP and during a trip.
R8 to R13: each whole-trip refusal alone, by its own condition; a card of no lines, and one whose line asks for 49 L. -/
theorem wit_CardsRefused : (State.reset.sul.done = false ∧ ({ bay with pct := { write := some .trip } }).pct.write.isSome = true) ∧
    (bay.sul.done = true ∧ bay.pct.write = none ∧ bay.Calm ∧ bay.pct.slot = .empty) ∧
    ((trip .awaitStamp []).Calm ∧ (trip .awaitStamp []).pct.slot = .awaitStamp ∧ (trip .awaitStamp []).pct.write = none) ∧
    ((trip .released []).pct.write = none ∧ (trip .released []).pct.slot ≠ .empty ∧ (trip .released []).pct.slot ≠ .awaitStamp) ∧
    (∀ s ∈ [bay, onDay10, leaking, faulty, exhausted],
      (s.stp.departed = false ∧ s.lif.roomFreed = false ∧ s.sul.recovery ≠ .offering) ∧ s.sul.done = true ∧
      s.pct.write = none ∧ s.pct.slot = .empty ∧ s.pct.pendingStamp.map (·.permit) ≠ some (fieldWord (block 0 60000 5000 1) 6)) ∧
    faulty.sul.code ≠ 0 ∧ 4294967296 ≤ exhausted.ntb.next ∧ leaking.ilm.leakAlarm = true ∧
    (onDay10.lif.timeSet = true ∧ fieldNat (block 0 9 5000 1) 20 2 < onDay10.lif.time.toNat / 86400) ∧
    onDay10.lif.time.toNat / 86400 < fieldNat (block 11 60000 5000 1) 18 2 ∧
    (∀ l ∈ validatedLines bay (cardTrip (block 0 60000 49 1)), l.status ≠ .waiting) ∧
    validatedLines bay (cardTrip (block 0 60000 5000 0)) = [] ∧ intakeCheck (block 0 60000 49 1) = none :=
  ⟨⟨rfl, rfl⟩, ⟨rfl, rfl, calm_of _ (by decide), rfl⟩, ⟨calm_of _ (by decide), rfl, rfl⟩, ⟨rfl, by decide, by decide⟩,
    by decide +kernel, by decide, by decide, rfl, by decide +kernel, by decide +kernel, by decide +kernel, by decide +kernel,
    by decide +kernel⟩

/-- The refusals of those cards, and the last and first day of a permit. -/
theorem wit_CardsRefused_reasons :
    after (.card (block 0 60000 5000 1)) faulty (fun t => decide (t.outbox = [refused .bayFault])) = true ∧
    after (.card (block 0 60000 5000 1)) leaking (fun t => decide (t.outbox = [refused .leakAlarm])) = true ∧
    after (.card (block 0 9 5000 1)) onDay10 (fun t => decide (t.outbox = [refused .expired])) = true ∧
    after (.card (block 11 60000 5000 1)) onDay10 (fun t => decide (t.outbox = [refused .notYetValid])) = true ∧
    after (.card (block 10 10 5000 1)) onDay10 (fun t => decide (t.outbox = []) && decide (t.pct.slot = .claiming)) = true ∧
    after (.card (block 0 60000 49 1)) rested (fun t => decide (t.outbox = [refused .noLines]) && !t.ilm.ready.shown &&
      decide (t.pct.slot = .empty)) = true := by decide +kernel

/-- The bay in ALONE. -/
def lone : State := { bay with lif := { bay.lif with link := .alone } }

theorem wit_CardAccepted : (∀ s ∈ [filled 5, filled 6, lone],
      (s.stp.departed = false ∧ s.lif.roomFreed = false ∧ s.sul.recovery ≠ .offering) ∧ s.sul.done = true ∧ s.pct.write = none ∧
      s.pct.slot = .empty ∧ s.sul.code = 0 ∧ s.ntb.next < 4294967296 ∧ s.ilm.leakAlarm = false ∧ s.lif.timeSet = false ∧
      ∃ l ∈ validatedLines s (cardTrip (block 0 60000 5000 1)), l.status = .waiting) ∧
    ((filled 5).lif.link = .run ∧ (filled 5).lif.fifo.length < 6) ∧
    (6 ≤ (filled 6).lif.fifo.length ∧ (filled 6).pct.held.length < 24) ∧
    (lone.lif.link ≠ .run ∧ lone.stage 0 = .idle ∧ lone.armOn 0 = true ∧
      (validatedLines lone (cardTrip (block 0 60000 5000 1))).findIdx? (waitingFor 0) = some 0 ∧
      (validatedLines lone (cardTrip (block 0 60000 5000 1))).findIdx? (waitingFor 1) = none) := by decide +kernel

/-- A card line as it is before validation, with a preset and a recipe. -/
def cardLine (preset recipe : Nat) : OrderLine := { lineOf .waiting none with lane := none, preset := preset, recipe := recipe }

/-- The bay with recipe 1 a DIRECT one of 120 ppm and recipe 2 the BLOCK of DOSE entry 1. -/
def dosing : State :=
  { bay with cfg := { tables with
    recipes := (tables.recipes.set 0 (some ⟨1, ⟨1, 120, 1⟩⟩)).set 1 (some ⟨2, ⟨0, 0, 0⟩⟩)
    doses := tables.doses.set 0 (some ⟨1, 200, 0⟩) } }

/-- A preset of 50 and one above the compartment's 8,000 L, with no recipe, a DIRECT one and a BLOCK one. -/
theorem wit_LinesAreValidated : ∀ preset ∈ [50, 8000, 8001], ∀ recipe ∈ [0, 1, 2],
    (∀ x ∈ (tripOf [cardLine preset recipe]).lines, x.status = .waiting ∧ x.lane = none ∧ x.clamped = false) ∧
    (validatedLines dosing (tripOf [cardLine preset recipe])).map (fun l => (l.status, l.preset, l.clamped, l.doses.length)) =
      [(.waiting, min preset 8000, decide (preset = 8001), min recipe 1)] := by decide +kernel

/-- The dosing bay with recipe 3 withdrawn, recipe 4 of an empty block, and recipe 5 a DIRECT one of 1,200 ppm. -/
def refusing : State :=
  { dosing with cfg := { dosing.cfg with
    recipes := ((dosing.cfg.recipes.set 2 (some ⟨3, ⟨0, 0, 0⟩⟩)).set 3 (some ⟨2, ⟨5, 0, 0⟩⟩)).set 4 (some ⟨1, ⟨1, 1200, 1⟩⟩) } }

/-- R10: each check of a line in its order, at its bounds: compartments 0, 1 and 2 of one, a second line of compartment 1, a product
that no lane carries, a class outside the set, presets of 49 and 50 L, and recipes that are absent, withdrawn, of an empty block,
not servable and servable. -/
theorem wit_LinesAreValidated_refused :
    (∀ x ∈ [(0, 2, 49, 3, LineStatus.refused .compartmentInvalid), (2, 2, 50, 0, .refused .compartmentInvalid),
        (1, 7, 49, 3, .refused .productNotAtBay), (1, 5, 49, 3, .refused .classNotPermitted), (1, 2, 49, 3, .refused .presetTooSmall),
        (1, 2, 50, 9, .refused .recipeNotServable), (1, 2, 50, 32, .refused .recipeNotServable),
        (1, 2, 50, 3, .refused .recipeWithdrawn), (1, 2, 50, 4, .refused .recipeNotServable),
        (1, 2, 50, 5, .refused .recipeNotServable), (1, 2, 50, 1, .waiting), (1, 2, 50, 0, .waiting)],
      (validatedLines refusing { tripOf [{ cardLine x.2.2.1 x.2.2.2.1 with compartment := x.1, product := x.2.1 }] with
        classSet := 8 }).map (·.status) = [x.2.2.2.2]) ∧
    (validatedLines refusing (tripOf [cardLine 49 0, cardLine 50 0])).map (·.status) =
      [.refused .presetTooSmall, .refused .duplicateCompartment] := by decide +kernel

/-- A trip of another permit than 17. -/
def otherTrip (slot : Slot) : State :=
  { stamped slot with pct := { (stamped slot).pct with trip := some { tripOf [] with permit := 18 } } }

/-- The trip of permit 17 with its stamp and a pending one. -/
def ownTrip (slot : Slot) : State := { stamped slot with pct := { (stamped slot).pct with trip := some (tripOf []) } }

theorem wit_CardWritesStamp : fieldWord (block 0 60000 5000 1) 6 = 17 ∧
    ((ownTrip .awaitStamp).Calm ∧ (ownTrip .awaitStamp).pct.slot = .awaitStamp ∧
      (ownTrip .awaitStamp).pct.trip = some (tripOf []) ∧ (ownTrip .awaitStamp).pct.stamp = some ⟨[1], 4, 17⟩) ∧
    ((stamped .empty).Calm ∧ (stamped .empty).pct.pendingStamp = some ⟨[2], 3, 17⟩ ∧ (stamped .empty).pct.slot = .empty) ∧
    ((otherTrip .released).Calm ∧ (otherTrip .released).pct.trip.map (·.permit) ≠ some 17) ∧
    ((ownTrip .released).pct.trip.map (·.permit) = some 17) ∧
    ((trip .released []).pct.pendingStamp.map (·.permit) ≠ some 17) ∧
    ((otherTrip .awaitStamp).pct.slot = .awaitStamp ∧ (otherTrip .awaitStamp).pct.trip.map (·.permit) ≠ some 17) :=
  ⟨by decide +kernel, ⟨calm_of _ (by decide), rfl, rfl, rfl⟩, ⟨calm_of _ (by decide), rfl, rfl⟩,
    ⟨calm_of _ (by decide), by decide⟩, by decide, by decide, rfl, by decide⟩

/-- No WRITE outstanding and nothing on the line; a dropped frame and one that passes. -/
theorem wit_DiscardedMessages : bay.pct.write = none ∧ State.reset.ilm.ackKey = false ∧ State.reset.ilm.ackHold = none ∧ bay.lif.onLine = none ∧
    acceptFrame true (frameBytes 4 (.claim 17)) = none ∧ (acceptFrame false (frameBytes 4 (.claim 17))).isSome = true := by
  decide +kernel

/-- R1: a gap that is timed and one that is not; the bytes of the message are gone after it. -/
theorem wit_DiscardedMessages_gap : bay.crd.gap = none ∧ (receiving [1, 9] (some 20000) none).crd.gap = some 20000 ∧
    (receiving [1, 9] (some 20000) none).Calm ∧
    after .readerByteGapTimeout (receiving [1, 9] (some 20000) none) (fun t => decide (t.crd = {}) &&
      decide (t.now = 20000)) = true :=
  ⟨rfl, rfl, calm_of _ (by decide), by decide +kernel⟩

/-- A message of kind 2 with a broken check, one of kind 4, and the good messages of the three kinds. -/
theorem wit_DiscardedMessages_reader : (∀ raw ∈ [[2, 0, 0, 0], withCrc [4, 0], withCrc [2, 1, 0]], readerMessageOk raw = false) ∧
    (∀ raw ∈ [withCrc [1, 0], withCrc [1, 2, 8, 9], withCrc [2, 0], withCrc [3, 0]], readerMessageOk raw = true) ∧
    after (.readerMessageDiscarded (withCrc (1 :: 84 :: block 0 60000 5000 1))) bay (fun t => decide (t.pct.slot = .claiming)) = true ∧
    after (.readerMessageDiscarded (withCrc [1, 0])) bay (fun t => decide (t.outbox = [refused .length])) = true := by
  decide +kernel

/-- A WRITE outstanding, of the trip's stamp or the pending one, its timers running, and a write in flight at the store. -/
def writing (w : WriteOf) : State :=
  { ownTrip .awaitStamp with
    pct := { (ownTrip .awaitStamp).pct with
      write := some w, replyTimer := some 9, stampWindow := some 9, lifetime := some 9 }
    stp := { flight := some { item := ⟨.markClosed [1], false⟩, steps := [⟨68, 0, [1]⟩] }, port := .writing ⟨68, 0, [1]⟩ 9 } }

/-- The stamp window runs and no WRITE is outstanding. -/
def unwritten : State := { ownTrip .awaitStamp with pct := { (ownTrip .awaitStamp).pct with stampWindow := some 9 } }

/-- A WRITE of the pending stamp, with its lifetime's expiry held, and one of a displaced stamp. -/
theorem wit_StampOutcomes_pending : ((writing .pendingStamp).pct.pendingStamp = some ⟨[2], 3, 17⟩ ∧
      (writing .pendingStamp).pct.lifetimeHeld = false ∧ (writing .pendingStamp).pct.replyTimer = some 9 ∧
      (writing .pendingStamp).ntb.statusList = [] ∧ (writing .pendingStamp).stp.queue.length < 12 ∧
      (writing .pendingStamp).stp.flight.isSome = true) ∧
    (writing (.displaced 3)).pct.write = some (.displaced 3) ∧
    after .replyTimerExpiry { writing .pendingStamp with pct := { (writing .pendingStamp).pct with lifetimeHeld := true } }
      (fun t => decide (t.pct.pendingStamp = none) && decide (t.stp.queue = [⟨.noteStatus 3 .stamp 3, false⟩])) = true := by
  decide +kernel

theorem wit_StampOutcomes : ((writing .trip).pct.write = some .trip ∧ (writing .trip).pct.stamp = some ⟨[1], 4, 17⟩ ∧
      (writing .trip).Calm ∧ (writing .trip).ntb.statusList = [] ∧ (writing .trip).stp.queue.length < 12 ∧
      (writing .trip).stp.flight.isSome = true ∧ (writing .trip).pct.replyTimer = some 9) ∧
    ((unwritten.Calm ∧ unwritten.pct.write = none) ∧ unwritten.pct.stampWindow = some 9 ∧ unwritten.pct.slot = .awaitStamp) ∧
    ((writing .pendingStamp).Calm ∧ (writing .pendingStamp).pct.lifetime = some 9 ∧
      (writing .pendingStamp).pct.write = some .pendingStamp) ∧
    ((writing .trip).pct.lifetime = some 9 ∧ (writing .trip).pct.write ≠ some .pendingStamp ∧
      (writing .trip).pct.pendingStamp = some ⟨[2], 3, 17⟩) :=
  ⟨⟨rfl, rfl, calm_of _ (by decide), rfl, by decide, rfl, rfl⟩, ⟨⟨calm_of _ (by decide), rfl⟩, rfl, rfl⟩,
    ⟨calm_of _ (by decide), rfl, rfl⟩, rfl, by decide, rfl⟩

/-- A waiting line with the slot's timers running. -/
def claiming (slot : Slot) : State :=
  { trip slot [lineOf .waiting none] with
    pct := { (trip slot [lineOf .waiting none]).pct with claimWindow := some 9, authTimer := some 9, idleTimer := some 9 } }

theorem wit_AuthorizedSlot : ((claiming .claiming).pct.claimWindow = some 9 ∧ (claiming .claiming).pct.slot = .claiming ∧
      (claiming .claiming).pct.trip = some (tripOf [lineOf .waiting none]) ∧ (claiming .claiming).stage 0 = .idle ∧
      (claiming .claiming).armOn 0 = true ∧ (tripOf [lineOf .waiting none]).lines.findIdx? (waitingFor 0) = some 0 ∧
      (tripOf [lineOf .waiting none]).lines.findIdx? (waitingFor 1) = none) ∧
    ((claiming .authorized).Calm ∧ (claiming .authorized).pct.authTimer = some 9 ∧
      (claiming .authorized).pct.slot = .authorized ∧ (claiming .authorized).lif.fifo.length < 6 ∧
      (claiming .authorized).lif.link ≠ .down ∧ (claiming .authorized).lif.link ≠ .mute) ∧
    6 ≤ (filled 6).lif.fifo.length :=
  ⟨by decide, ⟨calm_of _ (by decide), rfl, rfl, by decide, by decide, by decide⟩, by decide⟩

/-- RELEASED with a waiting and a refused line, and a line that L1 holds suspended. -/
def idling : State :=
  { loading .released (.suspended .lapse .lowFlow) (.suspended .lapse) {} with
    pct := { slot := .released, idleTimer := some 9, trip := some (tripOf [lineOf (.suspended .lapse) (some {}), { lineOf .waiting none with lane := some 1 },
      lineOf (.refused .presetTooSmall) none]) } }

theorem wit_TripCloses : idling.sul.done = true ∧ idling.ilm.stopKey = false ∧ idling.pct.slot = .released ∧ idling.anyFlowing = false ∧
    idling.anyClosing = false ∧ idling.pct.idleTimer = some 9 ∧ idling.lines.length = 3 ∧
    (idling.lines.map (·.status)) = [.suspended .lapse, .waiting, .refused .presetTooSmall] ∧
    idling.stage 0 = .suspended .lapse .lowFlow ∧ (idling.lane 0).line = some 0 ∧
    (∀ j : LaneNo, j ≠ 0 → idling.stage j = .idle) := by decide

/-- R71: the ENDED checkpoint and the TOTAL of the suspended compartment, and the note's page, with room for all, for two, for one and
for none; a gross at the overrun limit and past it. -/
theorem wit_TripCloses_requests : (∀ n ∈ [0, 10, 11, 12], ((busy (waits n) idling).stp.departed = false ∧
        (busy (waits n) idling).lif.roomFreed = false ∧ (busy (waits n) idling).sul.recovery ≠ .offering) ∧
      (busy (waits n) idling).stp.flight.isSome = true ∧ (busy (waits n) idling).ntb.build = none ∧
      (∀ q ∈ (busy (waits n) idling).stp.queue, checkLine q.req ≠ some 1)) ∧ (idling.laneCfg 0).isSome = true ∧
    (∀ n ∈ [(0, 3, Stage.idle), (10, 12, .idle), (11, 12, .ended)], after .stop (busy (waits n.1) idling) (fun t =>
      decide (codes t = [[7, 0, 3]]) && decide (t.stp.queue.length = n.2.1) && decide (t.stage 0 = n.2.2)) = true) ∧
    after .stop (busy (waits 12) idling) (fun t => decide (t.stp.queue = waits 12) && decide (t.stage 0 = .ended)) = true ∧
    after .stop (busy [] (loading .released (.suspended .arm .slowdown) (.suspended .arm) { gross := 5025000, std := 7 })) (fun t =>
      decide (t.totals 0 = (5025000, 7)) &&
      decide (((t.lines.head?).bind (·.record)).map (·.flags.overrun) = some false)) = true ∧
    after .stop (busy [] (loading .released (.suspended .arm .slowdown) (.suspended .arm) { gross := 5025001, std := 7 })) (fun t =>
      decide (((t.lines.head?).bind (·.record)).map (·.flags.overrun) = some true)) = true := by
  decide +kernel

/-! ### Premises: interlocks, keys and lamps -/

/-- R72, R189, R190: a STOP from SLOWDOWN with room in the queue, with one place, with none, and with a checkpoint of the line waiting
in a full queue; and the checkpoint of each other event that suspends. -/
theorem wit_Checkpoints : (∀ x ∈ [([], 1, [[6, 68, 0]]), (waits 11, 12, [[6, 68, 0]]), (waits 12, 12, []),
        (⟨.checkpoint 1 [1], false⟩ :: waits 11, 12, [[6, 68, 0]])],
      ((busy x.1 (loading .released .slowdown .active {})).stp.departed = false ∧
        (busy x.1 (loading .released .slowdown .active {})).lif.roomFreed = false ∧
        (busy x.1 (loading .released .slowdown .active {})).sul.recovery ≠ .offering) ∧ x.1.length ≤ Config.queueSize ∧
      x.1.Pairwise (fun a b => (checkLine a.req).isSome → checkLine a.req ≠ checkLine b.req) ∧
      (busy x.1 (loading .released .slowdown .active {})).flowingLanes = [0] ∧
      after .stop (busy x.1 (loading .released .slowdown .active {})) (fun t =>
        decide (t.stp.queue.length = x.2.1) && decide (codes t = x.2.2)) = true) ∧
    after (.permissiveChange .ground false) (busy [] (loading .released .lowFlow .active {})) (fun t => decide (codes t = [[6, 18, 0]])) = true ∧
    after (.armDrop 0) (busy [] (loading .released .fullFlow .active {})) (fun t => decide (codes t = [[6, 35, 0]])) = true ∧
    after (.rstopChange true) (busy [] (loading .released .slowdown .active {})) (fun t => decide (codes t = [[6, 52, 0]])) = true ∧
    after (.status 3 3 0x01 0 []) (busy [] (loading .released .fullFlow .active {})) (fun t => decide (codes t = [[6, 51, 0]])) = true := by
  decide +kernel

/-- R72: the checkpoints of a START, at the opening and at a resume into SLOWDOWN and into CLOSING. -/
theorem wit_StartCheckpoints :
    (let s := busy [] (loading .released .primed .waiting {})
     [(0 : LaneNo)].Sublist allLanes ∧ (∀ i : LaneNo, i ∈ [(0 : LaneNo)] ↔ s.Startable i) ∧ s.fitted 0 = true) ∧
    after .start (busy [] (loading .released .primed .waiting {})) (fun t => decide (codes t = [[2, 0, 0]])) = true ∧
    (∀ g ∈ [((4600000 : Word48), [4, 0, 0]), (5000000, [5, 0, 1])],
      after .start (busy [] (loading .released (.suspended .halt .lowFlow) (.suspended .halt) { gross := g.1 }))
        (fun t => decide (codes t = [g.2])) = true) := by
  refine ⟨⟨by decide, fun i => ?_, rfl⟩, by decide +kernel, by decide +kernel⟩
  constructor
  · intro h
    obtain rfl : i = 0 := by simpa using h
    exact ⟨.inl rfl, rfl, rfl, lineOf .waiting (some {}), rfl, fun _ h => nomatch h⟩
  · rintro ⟨h, -⟩
    match i with
    | 0 => decide
    | 1 | 2 | 3 => rcases h with h | ⟨_, _, h⟩ <;> cases h

theorem wit_PermissiveChanges : (loading .released .lowFlow .active {}).sul.done = true ∧
    (∀ p ∈ [Permissive.ground, .overfill, .vapour, .estop], (loading .released .lowFlow .active {}).ilm.level p = true) ∧
    leftOf ((loading .released .lowFlow .active {}).stage 0) = some .lowFlow ∧
    (loading .released .lowFlow .active {}).ilm.bayLatch = false ∧ (loading .released .closing .active {}).stage 0 = .closing ∧
    (loading .released .closing .active {}).record 0 = some {} ∧ (trip .authorized []).pct.slot ≠ .released ∧
    (∀ p ∈ [Permissive.ground, .overfill, .vapour, .estop], State.reset.ilm.level p = false) := by decide

theorem wit_StartUpCompletes_levels : State.reset.sul.done = false ∧ State.reset.ilm.level .ground ≠ true ∧
    (∀ i : LaneNo, State.reset.armOn i = false) ∧ ({ State.reset with ilm := bay.ilm }).armOn 0 = true ∧
    State.reset.ilm.rstop ≠ false ∧ State.reset.ilm.startKey = false ∧ State.reset.ilm.stopKey = false ∧
    State.reset.ilm.ackKey = false ∧ (∀ j : InjNo, (State.reset.inj j).level = false) := by decide

/-- The bay with no ARM connected. -/
def unarmed (s : State) : State := { s with ilm := { s.ilm with arm := Vector.replicate 4 false } }

/-- ARM changes at a lane in IDLE with a waiting line of its own and without, in the other slot states and stages. -/
theorem wit_ArmChanges : ((unarmed (trip .authorized [lineOf .waiting none])).sul.done = true ∧
      (∀ i : LaneNo, (unarmed (trip .authorized [lineOf .waiting none])).armOn i = false) ∧
      ((unarmed (trip .authorized [lineOf .waiting none])).stage 0 = .idle ∧
        (unarmed (trip .authorized [lineOf .waiting none])).lines[0]? = some (lineOf .waiting none)) ∧
      (∀ l ∈ (unarmed (trip .authorized [lineOf .waiting none])).lines, l.status = .waiting → l.lane ≠ some 1) ∧
      (unarmed (loading .released .primed .waiting {})).stage 0 ≠ .idle ∧ (unarmed bay).pct.slot ≠ .authorized ∧
      (unarmed bay).pct.slot ≠ .released) ∧
    (∀ st ∈ [Stage.primed, .lowFlow, .fullFlow, .slowdown, .closing, .idle, .ended, .suspended .arm .lowFlow],
      (loading .released st .active {}).sul.done = true ∧ (loading .released st .active {}).armOn 0 = true ∧
      (loading .released st .active {}).stage 0 = st) := by decide

theorem wit_RackStopChanges : (loading .released .fullFlow .active {}).sul.done = true ∧
    (loading .released .fullFlow .active {}).ilm.rstop ≠ true ∧ (loading .released .fullFlow .active {}).halted = false ∧
    (loading .released .fullFlow .active {}).lif.link = .run ∧ lone.lif.link = .alone ∧
    leftOf ((loading .released .fullFlow .active {}).stage 0) = some .fullFlow ∧
    (ready .settle 0 []).lif.link ≠ .run ∧ (ready .settle 0 []).lif.link ≠ .alone := by decide

theorem wit_StartEvent : (trip .authorized [lineOf .waiting none]).sul.done = true ∧
    (trip .authorized [lineOf .waiting none]).ilm.startKey = false ∧
    (trip .authorized [lineOf .waiting none]).pct.slot = .authorized ∧ (trip .authorized [lineOf .waiting none]).whole = true ∧
    releases (trip .authorized [lineOf .waiting none]) = true ∧ releases (unarmed (trip .authorized [lineOf .waiting none])) = false ∧
    (trip .released []).pct.slot = .released ∧ (trip .closing []).pct.slot ≠ .released ∧
    (trip .closing []).pct.slot ≠ .authorized ∧
    ((loading .released .primed (.ended .lapse) {}).heldLine 0).map (·.status) = some (.ended .lapse) ∧
    bay.heldLine 0 = none := by decide

/-- A lane PRIMED and one SUSPENDED from PRIMED, by each cause. -/
theorem wit_StartOpensCompartment : ∀ st ∈ [Stage.primed, .suspended .lapse .primed, .suspended .arm .primed],
    (loading .released st .waiting {}).sul.done = true ∧ (loading .released st .waiting {}).ilm.startKey = false ∧
    (loading .released st .waiting {}).stage 0 = st ∧ (loading .released st .waiting {}).laneCfg 0 ≠ none ∧
    mayStart (loading .released st .waiting {}) 0 = true ∧
    (loading .released st .waiting {}).lines[0]? = some (lineOf .waiting (some {})) ∧
    (∀ j : LaneNo, j ≠ 0 → ((loading .released st .waiting {}).lane j).line ≠ some 0) ∧
    (∀ reason, (lineOf .waiting (some {})).status ≠ .ended reason) ∧
    after .start (loading .released st .waiting {}) (fun t => decide (t.stage 0 = .lowFlow) && (t.lane 0).holdOut) = true := by
  simp only [lineOf, ne_eq, reduceCtorEq, not_false_eq_true, implies_true, true_and]
  decide +kernel

/-- Gross volumes at the bounds of R65 for a preset of 5,000 L: nothing, below and at the low-flow volume, just before and
at the slowdown volume, and the preset; and the stage that each resumes in. -/
theorem wit_StartResumes : ∀ g ∈ [((0 : Word48), Stage.lowFlow), (149999, .lowFlow), (150000, .fullFlow), (4599999, .fullFlow),
      (4600000, .slowdown), (4999999, .slowdown), (5000000, .closing)],
    (loading .released (.suspended .halt .lowFlow) (.suspended .halt) { gross := g.1 }).stage 0 = .suspended .halt .lowFlow ∧
    mayStart (loading .released (.suspended .halt .lowFlow) (.suspended .halt) { gross := g.1 }) 0 = true ∧
    after .start (loading .released (.suspended .halt .lowFlow) (.suspended .halt) { gross := g.1 })
      (fun t => decide (t.stage 0 = g.2)) = true := by decide +kernel

theorem wit_StopEvent : (loading .released .slowdown .active {}).anyFlowing = true ∧
    ((loading .released .closing .active {}).anyFlowing = false ∧ (loading .released .closing .active {}).anyClosing = true) ∧
    ((trip .released []).anyFlowing = false ∧ (trip .released []).anyClosing = false) ∧
    (trip .authorized []).pct.slot ≠ .released ∧ (trip .authorized []).sul.done = true ∧
    (trip .authorized []).ilm.stopKey = false ∧ (pinned 0).ilm.stopKey = false := by decide

/-- The ACK key held, with a peer of an age that carries the halt flag. -/
def holding (age : Age) : State :=
  { bay with
    ilm := { bay.ilm with ackHold := some 9 }
    lif := { bay.lif with peers := [⟨15, age, 0, true, []⟩] } }

theorem wit_AckKey : (bay.Calm ∧ bay.sul.done = true ∧ bay.ilm.ackKey = false) ∧
    ({ bay with ilm := { bay.ilm with ackKey := true } }).ilm.ackKey = true ∧ bay.ilm.ackHold = none ∧
    (holding .silent).ilm.ackHold = some 9 ∧ overrideHolds (holding .silent) = true ∧
    overrideHolds (holding .stale) = false ∧ (holding .stale).pct.slot = .empty ∧ 2 ≤ (holding .stale).ntb.next ∧
    (holding .stale).ntb.reprint = none ∧ (holding .stale).ntb.prints = [] ∧
    ({ holding .stale with ntb := { next := 1 } }).ntb.next ≤ 1 ∧
    ((holding .stale).Calm ∧ (holding .stale).stp.port = .idle ∧ (holding .stale).stp.reads = [] ∧
      (holding .stale).stp.flight = none) ∧ (writing .trip).stp.port ≠ .idle ∧
    after .ackHoldEvent (holding .stale) (fun t => decide (t.stp.port = .reading ⟨.reprint, 144⟩)) = true :=
  ⟨⟨calm_of _ (by decide), rfl, rfl⟩, by decide, by decide, by decide, by decide, by decide, by decide, by decide,
    by decide, by decide, by decide, ⟨calm_of _ (by decide), rfl, rfl, rfl⟩, by decide, by decide⟩

/-- Every lamp timer running. -/
def lamps (phase : Nat) : State :=
  { trip .authorized [] with
    ilm := { bay.ilm with
      pulse := some 9, ready := { blink := some ⟨true, 9⟩ }, flow := { holdUntil := 9 }, attend := { holdUntil := 9 }
      pattern := some ⟨phase, 9⟩ }
    sul := { bay.sul with code := 3 } }

/-- CARD blinks for a pending stamp. -/
def blinking : State := { stamped .empty with ilm := { bay.ilm with card := { blink := some ⟨false, 9⟩ } } }

/-- The pattern of code 3 in its first phase, before its last and in its last; a running stretch, a lamp that lags, and one
that shows its state; READY and CARD blinking. -/
theorem wit_LampTimers : (∀ p ∈ [0, 5, 6], ((lamps p).stp.departed = false ∧ (lamps p).lif.roomFreed = false ∧
      (lamps p).sul.recovery ≠ .offering) ∧ (lamps p).ilm.pattern = some ⟨p, 9⟩) ∧ (lamps 0).ilm.pulse = some 9 ∧
    (lamps 0).now < (lamps 0).ilm.flow.holdUntil ∧ (lamps 0).now < (lamps 0).ilm.attend.holdUntil ∧
    bay.ilm.ready.shown = false ∧ rested.ilm.ready.shown = true ∧ rested.ilm.ready.holdUntil ≤ rested.now ∧
    ((lamps 0).ilm.ready.blink = some ⟨true, 9⟩ ∧ (lamps 0).pct.slot = .authorized ∧ (lamps 0).ilm.leakAlarm = false) ∧
    (blinking.pct.slot ≠ .awaitStamp ∧ blinking.pct.pendingStamp.isSome = true ∧ blinking.ilm.card.blink = some ⟨false, 9⟩) ∧
    after (.lampStretchEnd .ready) bay (fun t => t.ilm.ready.shown) = true ∧
    after (.lampStretchEnd .ready) { leaking with now := 5, ilm := { leaking.ilm with ready := { shown := true, holdUntil := 9 } } }
      (fun t => !t.ilm.ready.shown && decide (t.now = 9)) = true := by decide +kernel

/-- AUTHORIZED with READY in a phase of its blinking, held for its least time or not, and the leak alarm set or not. -/
def blinkingReady (leak lit : Bool) (hold : Nat) : State :=
  { trip .authorized [] with ilm := { bay.ilm with
      leakAlarm := leak, ready := { shown := lit, holdUntil := hold, blink := some ⟨lit, 9⟩ } } }

/-- R43: READY's phases go on with the leak alarm clear. R74: with it set, READY in AUTHORIZED goes dark, at the end of its stretch
(R45), and its phases end; an ACK press clears the alarm and READY blinks again (log 19). -/
theorem wit_LampTimers_leak : (∀ leak lit : Bool, (blinkingReady leak lit 0).ilm.ready.blink = some ⟨lit, 9⟩ ∧
      (blinkingReady leak lit 0).sul.done = true ∧ (blinkingReady leak lit 0).pct.slot = .authorized ∧
      (blinkingReady leak lit 0).ilm.leakAlarm = leak) ∧
    (∀ leak lit : Bool, after (.lampBlinkPhase .ready) (blinkingReady leak lit 0) (fun t =>
      decide (t.ilm.ready.shown = (!lit && !leak)) &&
      decide (t.ilm.ready.blink = if leak then none else some ⟨!lit, 500009⟩)) = true) ∧
    after (.lampStretchEnd .ready) (blinkingReady true true 5) (fun t => !t.ilm.ready.shown && decide (t.now = 5)) = true ∧
    after .ackPress { trip .authorized [] with ilm := { bay.ilm with leakAlarm := true } }
      (fun t => t.ilm.ready.shown && t.ilm.ready.blink.isSome) = true := by
  decide +kernel

/-! ### Premises: lanes, metering and dosing -/

/-- L2 (level 2) in FULL-FLOW, with pulses on its channels. -/
def pulsed (a b corrected : Nat) (mark : Bool) : State :=
  { trip .released [{ lineOf .active (some {}) with lane := some 1, product := 5 }] with
    lanes := bay.lanes.set 1 { stage := .fullFlow, line := some 0, tick := some 9, piu :=
      { cntA := BitVec.ofNat 32 a, cntB := BitVec.ofNat 32 b, corrected := corrected, mark := mark } } }

/-- L1 in LOW-FLOW with 1,000 pulses counted, and the carry, the window and Σ of 5.14; its one-point curve is that of the bay. -/
def metered : State :=
  { loading .released .lowFlow .active {} with
    lanes := bay.lanes.set 0 { stage := .lowFlow, line := some 0, tick := some 9, piu := { cntA := 1000, cntB := 1000 }
                               ven := { grossCarry := 37000, stdCarry := 412000, q := 2445, window := [2540, 2538, 2541, 2541]
                                        valid := true, sigma := 5995188360 } } }

/-- A flowing and a SUSPENDED compartment, and volumes whose next millilitre is past their 48 bits; the worked example of
5.14: the carries, Σ and the standard volume after a tick of 1,000 pulses at 2,445 L/min. -/
theorem wit_MeteringTickVolume : (∀ st ∈ [Stage.lowFlow, .suspended .arm .fullFlow],
      ((loading .released st .active {}).lane 0).tick = some 250000 ∧
      ((loading .released st .active {}).venCfg 0).isSome = true ∧ (loading .released st .active {}).record 0 = some {} ∧
      ((loading .released st .active {}).stage 0).compartmentOpen = true ∧ st ≠ .closing) ∧
    ((loading .released .lowFlow .active { gross := BitVec.allOnes 48 }).record 0).map (·.gross.toNat) = some 281474976710655 ∧
    after (.meteringTick 0 2144) metered (fun t =>
      decide ((t.lane 0).ven.sigma = 5995188360 + 10234 * 2540) && decide ((t.record 0).map (·.gross.toNat) = some 10234) &&
      decide ((t.lane 0).ven.window = [2538, 2541, 2541, 2540])) = true := by decide +kernel

/-- The pulse conditions of R87 at their bounds. -/
theorem wit_PulseFaultCloses : (∀ x ∈ [(0, 2, false), (0, 3, false), (3, 0, false), (5, 5, true)],
      ((pulsed x.1 x.2.1 20 x.2.2).lane 1).tick = some 9 ∧ ((pulsed x.1 x.2.1 20 x.2.2).venCfg 1).isSome = true ∧
      ((pulsed x.1 x.2.1 20 x.2.2).stage 1).flowing = true ∧ (pulsed x.1 x.2.1 20 x.2.2).record 1 = some {} ∧
      ((pulsed x.1 x.2.1 20 x.2.2).lane 1).piu.fault = none) ∧
    pulseCondition 0 0 false 20 20 = none ∧ pulseCondition 0 0 false 21 20 = some .difference := by decide

/-- A gross volume on each side of the bounds of R52 and R53, with the stage that the tick leaves. -/
theorem wit_StageAfterTick : ∀ g ∈ [((0 : Word48), Stage.lowFlow), (149999, .lowFlow), (150000, .fullFlow), (4599999, .fullFlow),
      (4600000, .slowdown), (5000000, .closing)],
    ((loading .released .lowFlow .active { gross := g.1 }).lane 0).tick = some 250000 ∧
    ((loading .released .lowFlow .active { gross := g.1 }).stage 0).flowing = true ∧
    (((loading .released .lowFlow .active { gross := g.1 }).venCfg 0).map (·.lane.level)) = some 1 ∧
    after (.meteringTick 0 2000) (loading .released .lowFlow .active { gross := g.1 })
      (fun t => decide (t.stage 0 = g.2)) = true := by decide +kernel

/-- L1 in a stage with a gross volume and a tick of 10,234 mL to come. -/
def nearing (st : Stage) (g : Word48) : State :=
  busy [] { loading .released st .active { gross := g } with
    lanes := bay.lanes.set 0 { metered.lane 0 with stage := st, closeReason := if st = .closing then some .preset else none } }

/-- L1 in LOW-FLOW with a no-flow count and pulses. -/
def starving (count pulses : Nat) : State :=
  { loading .released .lowFlow .active {} with
    lanes := bay.lanes.set 0 { stage := .lowFlow, line := some 0, tick := some 9, share := 2400, noFlow := count
                               piu := { cntA := BitVec.ofNat 32 pulses, cntB := BitVec.ofNat 32 pulses } } }

/-- R66: the 15th and the 16th tick without flow, and a pulse at the 16th; level 2 within and at its limits of R87. -/
theorem wit_StageAfterTick_noFlow :
    after (.meteringTick 0 2000) (starving 14 0) (fun t => decide (t.stage 0 = .lowFlow) && decide ((t.lane 0).noFlow = 15)) = true ∧
    after (.meteringTick 0 2000) (starving 15 0) (fun t => decide (t.stage 0 = .closing) &&
      decide ((t.lane 0).closeReason = some .noFlow)) = true ∧
    after (.meteringTick 0 2000) (starving 15 1) (fun t => decide (t.stage 0 = .lowFlow) && decide ((t.lane 0).noFlow = 0)) = true ∧
    (((pulsed 0 2 18 false).venCfg 1).map (·.lane.level)) = some 2 ∧
    after (.meteringTick 1 2000) (pulsed 0 2 18 false) (fun t => decide (t.stage 1 = .fullFlow)) = true ∧
    after (.meteringTick 1 2000) (pulsed 0 2 19 false) (fun t => decide (t.stage 1 = .closing) &&
      decide ((t.lane 1).closeReason = some .pulseFault)) = true := by decide +kernel

/-- The premises of TickSteers, and Q and S on the sides of the band of R57. -/
theorem wit_TickSteers : ((loading .released .lowFlow .active {}).lane 0).tick = some 250000 ∧
    ((loading .released .lowFlow .active {}).stage 0).flowing = true ∧
    (loading .released .lowFlow .active {}).mayEnergise 0 = true ∧ (loading .released .lowFlow .active {}).additives 0 = [] ∧
    after (.meteringTick 0 2000) (loading .released .lowFlow .active {}) (fun t =>
      decide ((t.lane 0).setpoint = 150) && (t.lane 0).openOut && (t.lane 0).holdOut) = true := by decide +kernel

/-- L1 in LOW-FLOW at a setpoint of 300 with a number of pulses counted in this tick and in each of the last three, its step
running or not. -/
def running (pulses : Nat) (step : Option ValveStep) : State :=
  { loading .released .lowFlow .active {} with
    lanes := bay.lanes.set 0 { stage := .lowFlow, line := some 0, tick := some 9, share := 2400, setpoint := 300, step := step
                               hist := List.replicate 4 (pulses * 100 * 10055 / 98250)
                               piu := { cntA := BitVec.ofNat 32 pulses, cntB := BitVec.ofNat 32 pulses } } }

/-- R57: with a setpoint of 300 the valve opens at no flow, holds at 295 and closes at 491; a step that runs is begun anew or cut. -/
theorem wit_TickSteers_bands : (∀ step ∈ [none, some (⟨true, 7⟩ : ValveStep), some ⟨false, 7⟩], ∀ pulses ∈ [0, 120, 200],
      ((running pulses step).lane 0).tick = some 9 ∧ ((running pulses step).stage 0).flowing = true ∧
      (running pulses step).mayEnergise 0 = true ∧
      after (.meteringTick 0 2000) (running pulses step) (fun t => decide ((t.stage 0).flowing = true) &&
        decide ((t.lane 0).setpoint = 300) && decide ((t.lane 0).step =
          if pulses = 0 then some ⟨true, 100009⟩ else if pulses = 120 then none else some ⟨false, 100009⟩)) = true) ∧
    ({ running 0 none with ilm := { bay.ilm with bayLatch := true } }).mayEnergise 0 = false := by decide +kernel

/-- L1 idle with a leak volume just below, at and above the limit of R74. -/
def dripping (leak : Nat) : State := { bay with lanes := bay.lanes.set 0 { tick := some 9, leak := leak, piu := { cntA := 1 } } }

theorem wit_LeakTick : (∀ n ∈ [9999, 10000, 10001], ((dripping n).lane 0).tick = some 9 ∧
      ((dripping n).venCfg 0).isSome = true ∧ ((dripping n).stage 0).compartmentOpen = false) ∧
    after (.meteringTick 0 2000) (dripping 10000) (fun t => t.ilm.leakAlarm) = true ∧
    after (.meteringTick 0 2000) (dripping 10001) (fun t => !t.ilm.leakAlarm) = true := by decide +kernel

/-- The curve of R93's example at its ends and on each side of its points; a compartment open, one in CLOSING with a pulse, and a
lane with none open; the bay's one-point curve. -/
theorem wit_MeterFactor : (curve514 ≠ [] ∧ (curve514.map (·.q)).Pairwise (· < ·) ∧ ∀ p ∈ curve514, 9000 ≤ p.mf ∧ p.mf ≤ 11000) ∧
    (∀ x ∈ [(0, 10055), (200, 10055), (201, 10055), (799, 10032), (800, 10031), (2999, 10009), (3000, 10008), (6000, 10008)],
      meterFactor curve514 x.1 = x.2) ∧
    (metered.lane 0).tick = some 9 ∧ (metered.venCfg 0).map (·.curve) = some [⟨200, 10055⟩] ∧ metered.record 0 = some {} ∧
    (metered.stage 0).compartmentOpen = true ∧ metered.stage 0 ≠ .closing ∧
    after (.meteringTick 0 2144) { metered with lanes := metered.lanes.set 0 { metered.lane 0 with stage := .closing } } (fun t =>
      decide ((t.record 0).map (·.gross.toNat) = some 10234) && decide ((t.lane 0).ven.grossCarry = 46500)) = true ∧
    ((dripping 0).lane 0).tick = some 9 ∧ ((dripping 0).stage 0).compartmentOpen = false ∧ (dripping 0).stage 0 ≠ .ended := by
  decide +kernel

/-- Injector 1 with a window and its timers, L1 in a stage; L1's step runs. -/
def stroking (st : Stage) (w : Window) (misses : Nat) (mandatory : Bool) : State :=
  { loading .released st .active { additives := [{ injector := 0, ratio := 120, mandatory := mandatory, misses := misses }] } with
    lanes := bay.lanes.set 0 { stage := st, line := some 0, tick := some 9, step := some ⟨true, 9⟩, closing := some 9
                               closeReason := some .preset }
    injs := bay.injs.set 0 { phase := .spacing, window := w, serving := some ⟨0, 0⟩, driveDue := some 9, spacingDue := some 9
                             windowDue := some 9 } }

/-- L1 with one additive line of injector 1 of a due, LIVE with a final-stroke mark or not, its stroke in progress or not;
spacing and closing timers run. -/
def dosed (st : Stage) (phase : InjPhase) (w : Window) (due : Nat) (finalMark : Bool) : State :=
  { loading .released st .active { additives := [{ injector := 0, ratio := 120, mandatory := true, due := due, finalMark := finalMark }] } with
    lanes := bay.lanes.set 0 { stage := st, line := some 0, tick := some 9, closing := some 9, closeReason := some .preset }
    injs := bay.injs.set 0 { phase := phase, window := w, serving := some ⟨0, 0⟩, spacingDue := some 9 } }

/-- A due just below a stroke volume of 5,000 µL and at it, flowing and SUSPENDED; a line that is not LIVE or marked FAULT has no
clause of its own to meet. A spacing period that ends with a due for the next stroke, or with a final stroke to come. -/
theorem wit_TickDoses : (∀ st ∈ [Stage.lowFlow, .suspended .arm .fullFlow], ∀ due ∈ [4999999, 5000000],
      ((dosed st .idle .closed due false).lane 0).tick = some 9 ∧ ((dosed st .idle .closed due false).venCfg 0).isSome = true ∧
      ((dosed st .idle .closed due false).stage 0).compartmentOpen = true ∧ st ≠ .closing ∧
      ((dosed st .idle .closed due false).record 0).map (·.additives.length) = some 1 ∧
      ((dosed st .idle .closed due false).injCfg 0).isSome = true ∧
      (((dosed st .idle .closed due false).venCfg 0).map (·.lane.level)) = some 1) ∧
    after (.meteringTick 0 2000) (dosed .lowFlow .idle .closed 4999999 false) (fun t => decide ((t.inj 0).phase = .idle) &&
      decide ((t.lane 0).limit = some 2500)) = true ∧
    after (.meteringTick 0 2000) (dosed .lowFlow .idle .closed 5000000 false) (fun t => decide ((t.inj 0).phase = .driving) &&
      decide ((t.additive 0 0).map (fun a => (a.due, a.commanded)) = some (0, 1))) = true ∧
    (∀ x ∈ [(Stage.fullFlow, false), (.closing, false), (.ended, true)],
      ((dosed x.1 .spacing .closed 5000000 x.2).inj 0).spacingDue = some 9 ∧
      after (.spacingPeriodEnd 0) (dosed x.1 .spacing .closed 5000000 x.2) (fun t => decide ((t.inj 0).phase = .driving)) = true) ∧
    (dosed .ended .spacing .closed 5000000 true).Calm :=
  ⟨by decide +kernel, by decide +kernel, by decide +kernel, by decide +kernel, calm_of _ (by decide)⟩

/-- R125, R126: a due just below half a stroke volume and at it, on an injector that is IDLE or has a stroke in progress.
R128: with a tolerance of 5 and a target of 100,000 µL, OK from 95,000 to 105,000 µL; nothing due and nothing confirmed. -/
theorem wit_DoseLinesClose : (∀ due ∈ [2499999, 2500000], ∀ x ∈ [(InjPhase.idle, Window.closed), (.spacing, .opened false)],
      ((dosed .closing x.1 x.2 due false).lane 0).closing = some 9 ∧ (dosed .closing x.1 x.2 due false).stage 0 = .closing ∧
      ((dosed .closing x.1 x.2 due false).lane 0).line = some 0 ∧
      ((dosed .closing x.1 x.2 due false).lane 0).closeReason = some .preset ∧
      (∀ j : LaneNo, j ≠ 0 → ((dosed .closing x.1 x.2 due false).lane j).line ≠ some 0)) ∧
    after (.closingTimerExpiry 0) (dosed .closing .idle .closed 2500000 false) (fun t => decide (t.stage 0 = .ended) &&
      decide ((t.inj 0).phase = .driving)) = true ∧
    after (.closingTimerExpiry 0) (dosed .closing .spacing (.opened false) 2499999 false) (fun t => decide (t.stage 0 = .ended) &&
      decide ((t.additive 0 0).map (fun a => (a.live, a.finalMark)) = some (true, false))) = true ∧
    after (.closingTimerExpiry 0) (dosed .closing .idle .closed 2499999 false) (fun t =>
      decide (t.lines.map (·.status) = [.ended .preset])) = true ∧
    (0 ≤ 100 ∧ 100 ≤ 100) ∧ (doseResult 100000000 19 false 5000 5).status = .ok ∧
    (doseResult 100000000 21 false 5000 5).status = .ok ∧ (doseResult 100000000 18 false 5000 5).status = .under ∧
    (doseResult 100000000 22 false 5000 5).status = .over ∧ (doseResult 100000000 20 true 5000 5).status = .fault ∧
    (doseResult 0 0 false 5000 5).status = .ok := by decide +kernel

theorem wit_StepAndStrokeTimers : (stroking .idle .closed 0 true).Calm ∧
    ((stroking .idle .closed 0 true).lane 0).step = some ⟨true, 9⟩ ∧ ((stroking .idle .closed 0 true).inj 0).driveDue = some 9 ∧
    ((stroking .idle .closed 0 true).inj 0).spacingDue = some 9 ∧ (stroking .idle .closed 0 true).injLane 0 = some 0 ∧
    ((stroking .idle .closed 0 true).inj 0).phase = .spacing ∧ (stroking .idle .closed 0 true).stage 0 = .idle ∧
    ((stroking .idle (.opened false) 0 true).inj 0).window ≠ .closed :=
  ⟨calm_of _ (by decide), by decide, by decide, by decide, by decide, by decide, by decide, by decide⟩

/-- R113, R117: the spacing period ends with the window closed, the lane flowing or closing, and a due just below a stroke; and
one with a stroke due for an injector that faults. -/
theorem wit_StepAndStrokeTimers_due : (∀ st ∈ [Stage.lowFlow, .closing],
      ((dosed st .spacing .closed 4999999 false).inj 0).spacingDue = some 9 ∧
      (dosed st .spacing .closed 4999999 false).injLane 0 = some 0 ∧ (dosed st .spacing .closed 4999999 false).stroke 0 = 5000 ∧
      ((dosed st .spacing .closed 4999999 false).additives 0).map (·.due) = [4999999] ∧
      after (.spacingPeriodEnd 0) (dosed st .spacing .closed 4999999 false) (fun t => decide ((t.inj 0).phase = .idle)) = true) ∧
    (let s := dosed .lowFlow .spacing .closed 5000000 false
     after (.spacingPeriodEnd 0) { s with injs := s.injs.set 0 { s.inj 0 with faultPending := true } } (fun t =>
       decide ((t.inj 0).phase = .faulted) && !(t.inj 0).faultPending)) = true := by decide +kernel

/-- L1 in CLOSING with a gross volume, an end reason, a quiet count and pulses, another line of the trip still WAITING or not,
and a write in flight. -/
def closing (reason : EndReason) (g : Word48) (quiet pulses : Nat) (more : Bool) : State :=
  { trip .released (lineOf .active (some { gross := g }) :: (if more then [{ lineOf .waiting none with lane := some 1 }] else [])) with
    lanes := bay.lanes.set 0 { stage := .closing, line := some 0, tick := some 9, closing := some 9, closeReason := some reason
                               quiet := quiet, piu := { cntA := BitVec.ofNat 32 pulses, cntB := BitVec.ofNat 32 pulses } }
    stp := { flight := some { item := ⟨.markClosed [1], false⟩, steps := [⟨68, 0, [1]⟩] }, port := .writing ⟨68, 0, [1]⟩ 9 } }

/-- R62: a gross at the overrun limit and past it, and of nothing; R59: the third and the fourth quiet tick, and a pulse. -/
theorem wit_CompartmentEnds : (∀ x ∈ [(EndReason.preset, (5025000 : Word48)), (.preset, 5025001), (.noFlow, 0), (.driver, 0)],
      ((closing x.1 x.2 0 0 true).lane 0).closing = some 9 ∧ (closing x.1 x.2 0 0 true).stage 0 = .closing ∧
      ((closing x.1 x.2 0 0 true).lane 0).line = some 0 ∧ (closing x.1 x.2 0 0 true).record 0 = some { gross := x.2 } ∧
      ((closing x.1 x.2 0 0 true).laneCfg 0).isSome = true ∧ ((closing x.1 x.2 0 0 true).lane 0).closeReason = some x.1 ∧
      (∀ j : LaneNo, j ≠ 0 → ((closing x.1 x.2 0 0 true).lane j).line ≠ some 0) ∧
      (closing x.1 x.2 0 0 true).stp.flight.isSome = true) ∧
    after (.closingTimerExpiry 0) (closing .preset 5025000 0 0 true) (fun t =>
      decide (((t.lines.head?).bind (·.record)).map (fun r => (r.flags.overrun, r.flags.valveLeak)) = some (false, true)) &&
      decide (t.stp.queue.length = 2) && decide (t.stage 0 = .idle)) = true ∧
    after (.closingTimerExpiry 0) (closing .preset 5025001 0 0 true) (fun t =>
      decide (((t.lines.head?).bind (·.record)).map (·.flags.overrun) = some true)) = true ∧
    after (.meteringTick 0 2000) (closing .preset 9 2 0 true) (fun t => decide (t.stage 0 = .closing) &&
      decide ((t.lane 0).quiet = 3)) = true ∧
    after (.meteringTick 0 2000) (closing .preset 9 3 0 true) (fun t => decide (t.stage 0 = .idle) &&
      decide (((t.lines.head?).bind (·.record)).map (·.flags.valveLeak) = some false)) = true ∧
    after (.meteringTick 0 2000) (closing .preset 9 3 1 true) (fun t => decide (t.stage 0 = .closing) &&
      decide ((t.lane 0).quiet = 0)) = true := by decide +kernel

/-- R69: the hand-back of the last line, in RELEASED and in CLOSING, and with another line left. -/
theorem wit_CompartmentEnds_last : (∀ more : Bool, (closing .preset 9 0 0 more).pct.slot = .released ∧
      ((closing .preset 9 0 0 more).stp.departed = false ∧ (closing .preset 9 0 0 more).lif.roomFreed = false ∧
        (closing .preset 9 0 0 more).sul.recovery ≠ .offering) ∧
      (closing .preset 9 0 0 more).ntb.build = none ∧ (closing .preset 9 0 0 more).lines.length = if more then 2 else 1) ∧
    after (.closingTimerExpiry 0) (closing .preset 9 0 0 true) (fun t => decide (t.pct.slot = .released) &&
      decide (t.ntb.build = none)) = true ∧
    after (.closingTimerExpiry 0) (closing .preset 9 0 0 false) (fun t => decide (t.pct.slot = .closing) &&
      decide (t.ntb.build.map (fun b => (b.number, b.permit, b.recovered)) = some (5, 17, false)) &&
      decide (t.pct.trip.map (·.flags.timeUnset) = some true)) = true ∧
    (let s := closing .preset 9 0 0 false
     after (.closingTimerExpiry 0) { s with pct := { s.pct with slot := .closing } } (fun t => decide (t.pct.slot = .closing) &&
       decide (t.ntb.build.map (·.number) = some 5))) = true := by decide +kernel

/-- L1 with a pending A edge at 100 whose B edge came at 149 or 150, and a run count. -/
def edged (b : Word32) (run : Nat) : State :=
  { bay with now := 100, lanes := bay.lanes.set 0 { piu := { pendingA := some ⟨100, some b, 1000100⟩, run := run } } }

/-- Half the period of 100: a B edge at 49 follows, at 50 it does not; the limit itself is within it (R83). A fitted lane,
an unfitted lane before and after the tables, and a channel whose level has not been taken. -/
theorem wit_MeterEdges : (edged 149 2).fitted 0 = true ∧ watches (edged 149 2) 0 = true ∧ watches State.reset 0 = false ∧
    State.reset.sul.phase.beforeTables = true ∧ (State.reset.lane 0).piu.levelA = none ∧ watches bay 0 = true ∧
    (bay.lane 0).piu.pendingA = none ∧ (bay.fitted 3 = false ∧ bay.sul.phase.beforeTables = false) ∧
    ((edged 149 2).lane 0).piu.pendingA = some ⟨100, some 149, 1000100⟩ ∧
    edgeFollowed 100 (some 149) 200 = true ∧ edgeFollowed 100 (some 150) 200 = false ∧ edgeFollowed 100 none 200 = false ∧
    after (.risingEdge 0 .a 200) (edged 150 2) (fun t => (t.lane 0).piu.mark && decide ((t.lane 0).piu.run = 0)) = true ∧
    after (.risingEdge 0 .a 200) (edged 149 2) (fun t => !(t.lane 0).piu.mark && decide ((t.lane 0).piu.run = 0)) = true ∧
    after (.risingEdge 0 .a 1000100) (edged 999999 1) (fun t => decide ((t.lane 0).piu.run = 2)) = true ∧
    after (.risingEdge 0 .a 1000101) (edged 999999 1) (fun t => decide ((t.lane 0).piu.run = 0)) = true ∧
    after (.risingEdge 0 .b 200) (edged 149 0) (fun t => decide ((t.lane 0).piu.lastB = some 200) &&
      decide ((t.lane 0).piu.levelB = some true)) = true := by decide +kernel

/-- R77: of two edges at one value of the capture timer A comes first, whichever command is first. -/
theorem test_tied_edges : after (.risingEdge 0 .b 200) { edged 0 0 with lanes := bay.lanes.set 0 { piu := { pendingA := some ⟨100, none, 1000100⟩ } } }
    (fun t => after (.risingEdge 0 .a 200) t fun u =>
      decide ((u.lane 0).piu.pendingA = some ⟨200, some 200, 1000200⟩) && decide ((u.lane 0).piu.run = 1)) = true := by
  decide +kernel

/-- R77, "none is lost": two edges of a channel that wait in the queue, at captures 100 and 200, are both counted, and the second
is captured. -/
theorem test_queued_edges : stepped { bay with pending := [.risingEdge 0 .a 100, .risingEdge 0 .a 200] } (fun t => stepped t fun u =>
    decide ((u.lane 0).piu.cntA = 2) && decide ((u.lane 0).piu.capA = 200)) = true := by decide +kernel

theorem wit_FeedbackPulse : (stroking .lowFlow .closed 0 true).sul.done = true ∧
    ((stroking .lowFlow .closed 0 true).injCfg 0).isSome = true ∧ ((stroking .lowFlow .closed 0 true).inj 0).level = false ∧
    ((stroking .lowFlow (.opened false) 0 true).inj 0).window = .opened false ∧
    ((stroking .lowFlow .closed 0 true).inj 0).window = .closed ∧ (stroking .lowFlow .closed 0 true).injLane 0 = some 0 ∧
    ((stroking .lowFlow .closed 0 true).stage 0).compartmentOpen = true ∧
    ((stroking .idle .closed 0 true).stage 0).compartmentOpen = false ∧
    ((stroking .ended .closed 0 true).stage 0 = .ended ∧
      (stroking .ended .closed 0 true).additives 0 = [{ injector := 0, ratio := 120, mandatory := true }]) ∧
    (bay.sul.done = true ∧ bay.injCfg 1 = none) := by decide

/-- Table 6-2: feedback of a LIVE line in ENDED marks INJECTOR-LEAK. -/
theorem test_ended_leak : after (.feedbackPulse 0) (stroking .ended .closed 0 true) (fun t =>
    decide ((t.record 0).map (·.flags.injectorLeak) = some true)) = true := by decide +kernel

/-- The first, second and third miss, and a stroke that is confirmed, on a mandatory and an optional line. -/
theorem wit_StrokeJudged : ∀ m ∈ [0, 1, 2], ∀ mandatory : Bool, ∀ pulse : Bool,
    let s := stroking .lowFlow (.opened pulse) m mandatory
    (s.inj 0).windowDue = some 9 ∧ (s.inj 0).serving = some ⟨0, 0⟩ ∧
    s.additive 0 0 = some { injector := 0, ratio := 120, mandatory := mandatory, misses := m } ∧
    (s.inj 0).spacingOver = false ∧ s.injLane 0 = some 0 ∧ (s.stage 0).flowing = true := by decide

/-- The stroke of a line with a due and misses is judged after the end of its spacing period, in a stage. -/
def spacedOut (st : Stage) (pulse : Bool) (due misses : Nat) : State :=
  { loading .released st .active { additives := [{ injector := 0, ratio := 120, mandatory := false, due := due, misses := misses }] } with
    injs := bay.injs.set 0 { phase := .spacing, window := .opened pulse, serving := some ⟨0, 0⟩, windowDue := some 9
                             spacingOver := true } }

/-- R117, R120: no due for a stroke, a due in a flowing stage, in CLOSING and in IDLE, and the third miss. -/
theorem wit_StrokeJudged_spaced : (∀ st ∈ [Stage.lowFlow, .closing, .idle], ∀ pulse : Bool, ∀ due ∈ [4999999, 5000000],
      ∀ misses ∈ [0, 2],
      let s := spacedOut st pulse due misses
      (s.inj 0).windowDue = some 9 ∧ (s.inj 0).spacingOver = true ∧ (s.inj 0).phase = .spacing ∧ s.injLane 0 = some 0 ∧
      s.injCfg 0 = some ⟨1, 5000, 60, 120⟩ ∧
      s.additive 0 0 = some { injector := 0, ratio := 120, mandatory := false, due := due, misses := misses } ∧
      after (.feedbackWindowClose 0) s (fun t => decide ((t.inj 0).phase =
        if pulse = false ∧ misses = 2 then InjPhase.faulted
        else if due = 5000000 ∧ st ≠ .idle then .driving else .idle)) = true) := by decide +kernel

/-- 6.10: the third miss of a mandatory line closes the lane, and the injector faults when its cycle ends. -/
theorem test_third_miss : after (.feedbackWindowClose 0) (stroking .lowFlow (.opened false) 2 true) (fun t =>
    decide (t.stage 0 = .closing) && decide ((t.lane 0).closeReason = some .additiveFault) && (t.inj 0).faultPending) = true := by
  decide +kernel

/-- R72: a gross just below 1,000,000 mL and on it after a tick (log 17), in a flowing stage, in SUSPENDED and in CLOSING; a tick that
changes the stage and one that does both; a pulse fault and a fault of a mandatory additive line. -/
theorem wit_TickCheckpoint : (∀ x ∈ [(Stage.fullFlow, [3, 0, 0]), (.suspended .arm .fullFlow, [6, 35, 0]), (.closing, [5, 0, 1])],
      (nearing x.1 989765).flowingLanes = (if x.1 = .fullFlow then [0] else []) ∧ (nearing x.1 989765).gross 0 = 989765 ∧
      after (.meteringTick 0 2144) (nearing x.1 989765) (fun t => decide (t.gross 0 = 999999) && decide (codes t = [])) = true ∧
      after (.meteringTick 0 2144) (nearing x.1 989766) (fun t => decide (t.gross 0 = 1000000) && decide (codes t = [x.2])) = true) ∧
    after (.meteringTick 0 2144) (nearing .lowFlow 989766) (fun t => decide (codes t = [[3, 0, 0]])) = true ∧
    after (.meteringTick 0 2000) (busy [] (loading .released .lowFlow .active { gross := 149999 })) (fun t => decide (codes t = [])) = true ∧
    after (.meteringTick 0 2000) (busy [] (loading .released .lowFlow .active { gross := 150000 })) (fun t => decide (codes t = [[3, 0, 0]])) = true ∧
    after (.meteringTick 1 2000) (busy [] (pulsed 0 3 0 false)) (fun t => decide (codes t = [[5, 0, 7]])) = true ∧
    (let s := stroking .lowFlow (.opened false) 2 true
     after (.feedbackWindowClose 0) { s with stp := (busy [] s).stp } (fun t => decide (codes t = [[5, 0, 8]])) = true) := by decide +kernel

/-! ### Premises: header sharing, the rack line and the printer -/

/-- A share tick with the wanted rates of 7.5, in a link state. -/
def sharing (link : Link) : State :=
  { bay with
    lif := { bay.lif with link := link, peers := [⟨3, .fresh, 0, false, [⟨1, 2400⟩]⟩, ⟨5, .silent, 0, false, [⟨1, 2400⟩]⟩] }
    hsu := { tick := some 9 }
    lanes := (bay.lanes.set 0 { stage := .fullFlow, wanted := 2400 }).set 1 { stage := .lowFlow, wanted := 300 } }

/-- A share tick by link state; demands above the capacity, within it, and a demand that is in the list. -/
theorem wit_SharesAreFair : (sharing .run).hsu.tick = some 9 ∧ (sharing .run).headersUsed = [1] ∧
    (sharing .run).headerCfg 1 = some ⟨6000, 4⟩ ∧ (sharing .run).lanesOn 1 = [0, 1] ∧
    (sharing .alone).lif.link = .alone ∧ (sharing .mute).lif.link = .mute ∧
    6000 < [2400, 2400, 2400, 1000].sum ∧ ([600, 1000] : List Nat).sum ≤ 1600 ∧ 600 ∈ [600, 1000] ∧
    ([2400, 2400, 2400, 1000].map (fairGrant 6000 [2400, 2400, 2400, 1000])).sum = 5998 := by decide +kernel

/-- The share tick of an own demand of 2,700 L/min at 1,000,000 µs, with a demand last sent, a last STATUS, and a request that is due
or current. -/
def announcing (link : Link) (last : Nat) (sent : Option Nat) (due : Due) (current : Option Current) : State :=
  { sharing link with
    now := 1000000
    lif := { (sharing link).lif with lastSent := [⟨1, last, 0⟩], lastStatus := sent, due := due, current := current } }

/-- R141, R153: a difference of a tenth and one above it, none sent before, 100 ms passed and not yet passed, a request that is met,
and a link state that sends none. -/
theorem wit_SharesAreFair_request : (announcing .run 2454 none .none none).headersUsed = [1] ∧
    ((announcing .run 2454 none .none none).headerCfg 1).isSome = true ∧
    (∀ x ∈ [(Link.run, 2454, some 900000, Due.none, none, Due.normal, none), (.run, 2454, some 900001, .none, none, .none, some 1000001),
        (.run, 2455, some 900000, .none, none, .none, none), (.run, 0, none, .none, some { frame := .claim 17 }, .normal, none),
        (.run, 0, some 900001, .normal, none, .normal, none), (.run, 0, some 900001, .none, some { frame := .status }, .none, none),
        (.alone, 2971, none, .none, none, .none, none), (.alone, 3001, none, .none, none, .normal, none), (.mute, 0, none, .none, none, .none, none)],
      after .shareTick (announcing x.1 x.2.1 x.2.2.1 x.2.2.2.1 x.2.2.2.2.1) (fun t =>
        decide (t.lif.due = x.2.2.2.2.2.1) && decide (t.lif.spacing = x.2.2.2.2.2.2)) = true) := by decide +kernel

/-- R146: two bytes back to back and 9 bit times of quiet, which with the stop bit are 10; a frame heard from its middle; a
dominant stop bit. -/
theorem wit_LineReceiver : (72 ≤ 72 ∧ ({ phase := .quiet } : Receiver).phase = .quiet) ∧
    (receiverRun (bitLevels (frameLevels [0x81, 0x00]) ++ List.replicate 72 false) 0 { phase := .quiet }).2.2 =
      [(false, [0x81, 0x00])] ∧
    (receiverRun ((bitLevels (frameLevels [0x81, 0x00])).drop 60 ++ List.replicate 80 false) 0 {}).2.2 = [] ∧
    (receiverRun (List.replicate 77 true ++ List.replicate 80 false) 0 { phase := .quiet }).2.2 = [(true, [0x00])] ∧
    (rested.pending = [] ∧ dueEvents rested = [] ∧ rested.samples = true) ∧
    (dueEvents State.reset = [] ∧ State.reset.samples = false) := by decide +kernel

/-- A state whose line is at some level, with counts of microseconds and a link state, and whether a STATUS is on the line. -/
def onWire (link : Link) (level : Bool) (recessive dominant : Nat) (sent : Option Nat) : State :=
  { rested with
    pins := { line := level }
    ilm := { ground := false, overfill := false, vapour := false, estop := false, rstop := true, ready := { shown := true } }
    lif := { link := link, station := 7, recessive := recessive, dominant := dominant, sent := sent.getD 0
             onLine := sent.map fun _ => .claim 17 } }

/-- R146, R149, R160: 5 ms dominant, 20 ms recessive, and the bit read back at the middle of its time. -/
theorem wit_LineReceiver_events :
    (∀ l ∈ [Link.run, .heldLine, .listen], (onWire l true 0 4999 none).pending = [] ∧ dueEvents (onWire l true 0 4999 none) = []) ∧
    stepped (onWire .run true 0 4998 none) (fun t => decide (.heldLineDetected ∉ t.pending)) = true ∧
    stepped (onWire .run true 0 4999 none) (fun t => decide (.heldLineDetected ∈ t.pending)) = true ∧
    stepped (onWire .heldLine false 19998 0 none) (fun t => decide (.heldLineEnd ∉ t.pending)) = true ∧
    stepped (onWire .heldLine false 19999 0 none) (fun t => decide (.heldLineEnd ∈ t.pending)) = true ∧
    stepped (onWire .run false 0 0 (some 4)) (fun t => decide (.collision ∈ t.pending)) = true ∧
    stepped (onWire .run true 0 3 (some 4)) (fun t => decide (.collision ∉ t.pending)) = true ∧
    stepped (onWire .run false 0 0 (some 3)) (fun t => decide (.collision ∉ t.pending)) = true := by decide +kernel

/-- The bay with nothing due and its line quiet for a number of microseconds, a STATUS due or not, frames in the FIFO. -/
def quietFor (link : Link) (recessive : Nat) (due : Due) (fifo : List TxFrame) : State :=
  { onWire link false recessive 0 none with
    lif := { (onWire link false recessive 0 none).lif with due := due, fifo := fifo } }

/-- R148, R150: station 7's gap of 24 bit times, and 10 for an urgent STATUS in RUN or ALONE. -/
theorem wit_LineReceiver_access : (∀ x ∈ [(Link.run, 190, Due.none, false), (.run, 191, .none, true), (.alone, 191, .normal, true),
      (.run, 78, .urgent, false), (.run, 79, .urgent, true), (.listen, 191, .none, false)],
    let s := quietFor x.1 x.2.1 x.2.2.1 [.release 1]
    s.pending = [] ∧ dueEvents s = [] ∧ s.samples = true ∧
    stepped s (fun t => decide (.accessAttempt ((x.2.1 + 1) / 8) ∈ t.pending) == x.2.2.2) = true) ∧
    (let s := quietFor .join 191 .none []
     stepped { s with lif := { s.lif with current := some { frame := .status } } } fun t =>
       decide (.accessAttempt 24 ∈ t.pending)) = true := by decide +kernel

theorem wit_FramesReadBack : frameOk 1 (.status 3 0xFF 0xFFFFFFFF [⟨1, 65535, 65535⟩, ⟨6, 0, 0⟩]) = true ∧
    frameOk 24 (.held 30771 24) = true ∧ frameOk 7 (.notePart 24 514 2 3 true (List.replicate 16 1)) = true ∧
    frameOk 7 (.notePart 24 514 0 1 false []) = true := by decide

/-- R1: two messages that follow each other, the first of an unknown kind with two contents bytes. -/
theorem wit_FramesReadBack_port : (∀ raw ∈ [withCrc [7, 2, 1, 1], withCrc [3, 0]], 2 ≤ raw.length ∧ raw.length = fieldNat raw 1 1 + 4) ∧
    portRun 0 [withCrc [7, 2, 1, 1], withCrc [3, 0]].flatten {} =
      ({}, [.readerMessageDiscarded (withCrc [7, 2, 1, 1]), .writeFail]) := by decide +kernel

/-- R1: a CARD of 255 bytes, and a stamp's 13 bytes. -/
theorem wit_FramesReadBack_reader : (List.replicate 255 (0 : Byte)).length ≤ 255 ∧
    readerMessageOk (withCrc (1 :: 255 :: List.replicate 255 0)) = true ∧
    writeMessage (List.replicate 13 1) = withCrc ([4, 13] ++ List.replicate 13 1) ∧
    refusedMessage .lineBusy = withCrc [5, 1, 10] := by decide +kernel

/-- The bay in a link state with an entry for station 3. -/
def linked (link : Link) : State := { bay with lif := { bay.lif with link := link, peers := [⟨3, .stale, 0, false, []⟩] } }

theorem wit_PeerFramesRefresh : (Instr.release 3 1).wf = true ∧ (Instr.notePart 24 7 1 0 1 false []).wf = true ∧
    (Instr.noteAsk 1 7 1).wf = true ∧ (3 : Nat) ≠ (linked .run).lif.station ∧ (linked .run).Calm ∧
    (linked .run).lif.link ≠ .down ∧ (linked .run).lif.link ≠ .heldLine ∧ (linked .alone).lif.link = .alone ∧
    (linked .heldLine).lif.link = .heldLine ∧ (linked .down).lif.link = .down :=
  ⟨by decide, by decide, by decide, by decide, calm_of _ (by decide), by decide, by decide, rfl, rfl, rfl⟩

/-- Adoption at the bounds of R166: with own time 100, a peer's 102 and 86,500. -/
theorem wit_StatusHeard : ((linked .run).lif.link = .run ∧ (linked .alone).lif.link = .alone ∧ (linked .join).lif.link = .join ∧
      (linked .heldLine).lif.link = .heldLine) ∧ Instr.wf (.status 3 3 0x03 102 [⟨1, 2400, 0⟩]) = true ∧ hasBit (0x03 : Byte).toNat 0 = true ∧
    hasBit (0x03 : Byte).toNat 1 = true ∧ hasBit (0x01 : Byte).toNat 1 = false ∧
    (loading .released .fullFlow .active {}).halted = false ∧
    leftOf ((loading .released .fullFlow .active {}).stage 0) = some .fullFlow ∧
    (100 + 2 ≤ (102 : Word32).toNat ∧ (86500 : Word32).toNat ≤ 100 + 86400) := by decide

/-- CLAIMING on permit 17, heard back or not. -/
def onClaim (heard : Bool) : State :=
  { trip .claiming [] with pct := { slot := .claiming, trip := some (tripOf []), heard := heard } }

theorem wit_ClaimsHeard : Instr.wf (.held 11 17 4) = true ∧ (onClaim false).sul.done = true ∧
    (onClaim false).pct.trip = some (tripOf []) ∧ (onClaim false).pct.slot = .claiming ∧ (onClaim false).pct.heard = false ∧
    (tripOf []).permit = 17 ∧ (onClaim true).pct.heard = true ∧
    (∀ slot ∈ [Slot.authorized, .released, .closing, .awaitStamp], (trip slot []).pct.slot = slot ∧
      (trip slot []).lif.fifo.length < 6 ∧ .held 17 11 ∉ (trip slot []).pct.held) ∧
    (bay.pct.slot = .empty ∧ (trip .checking []).pct.slot = .checking ∧ (onClaim false).pct.trip.map (·.permit) ≠ some 18) := by
  decide

/-- 1.9, case A: a CLAIM for own permit before own has been heard back refuses the trip. -/
theorem test_crossing_claim : after (.claim 4 17) (onClaim false) (fun t =>
    decide (t.pct.slot = .empty) && decide (t.outbox = [refused .inUse])) = true ∧
    after (.claim 4 17) (onClaim true) (fun t => decide (t.lif.fifo = [.held 17 4])) = true := by decide +kernel

/-- Asks for note 0, for the newest sealed note and for the next one; four asks waiting. -/
theorem wit_NoteAsked_read : lone.lif.link = .alone ∧ lone.Calm ∧ lone.stp.port = .idle ∧ lone.stp.reads = [] ∧
    lone.stp.flight = none ∧ 6 ≤ (filled 6).lif.fifo.length ∧ (filled 6).ntb.serving = .idle ∧
    (∀ s ∈ [bay, lone], after (.noteAsk 24 7 4) s (fun t => decide (t.stp.port = .reading ⟨.ask, 144⟩)) = true) ∧
    (({ bay with stp := (writing .trip).stp }).stp.port ≠ .idle ∧
      ({ bay with ntb := { next := 5, serving := .reading [] 0, asks := [⟨1, 1⟩, ⟨1, 2⟩, ⟨1, 3⟩] } }).ntb.asks.length < 4) :=
  ⟨rfl, calm_of _ (by decide), rfl, rfl, rfl, by decide, rfl, by decide +kernel, by decide, by decide⟩

theorem wit_NoteAsked : Instr.wf (.noteAsk 24 7 0) = true ∧ Instr.wf (.noteAsk 24 7 5) = true ∧ bay.Calm ∧ bay.lif.link = .run ∧
    bay.ntb.asks = [] ∧ bay.ntb.serving = .idle ∧ bay.lif.fifo.length < 6 ∧ (0 : Word32).toNat = 0 ∧
    bay.ntb.next ≤ (5 : Word32).toNat ∧ (4 : Word32).toNat < bay.ntb.next ∧
    4 ≤ ({ bay with ntb := { next := 5, asks := [⟨1, 1⟩, ⟨1, 2⟩, ⟨1, 3⟩, ⟨1, 4⟩] } }).ntb.asks.length :=
  ⟨by decide, by decide, calm_of _ (by decide), rfl, rfl, rfl, by decide, by decide, by decide, by decide, by decide⟩

/-- A page of note 4's slot is being read for an owner, with these bytes in the slot's first page. -/
def reads (owner : Reader) (page : Nat) (bytes : List Byte) : State :=
  { bay with stp := { port := .reading ⟨owner, page⟩ }, store := placed 144 bytes }

/-- The head ask is for note 4; pages taken up and left, the asks behind it, a link state and frames in the transmit FIFO. -/
def serving (taken : List Byte) (left : Nat) (bytes : List Byte) (behind : List Ask) (link : Link) (frames : Nat) : State :=
  { reads .ask 144 bytes with
    ntb := { next := 5, asks := ⟨24, 4⟩ :: behind, serving := .reading taken left }
    lif := { (filled frames).lif with link := link } }

/-- R185, R186: a note of one page and one that is absent, with the FIFO full and not, one ask behind, in RUN and MUTE; notes with
two and four pages; and the last page but one of a longer note. -/
theorem wit_PagesRead_ask : (∀ link ∈ [Link.run, .mute], ∀ n ∈ [5, 6], ∀ behind ∈ [[], [(⟨3, 2⟩ : Ask)]],
      ∀ bytes ∈ [noteOf 4 1, []],
      let s := serving [] 0 bytes behind link n
      (s.stp.departed = false ∧ s.lif.roomFreed = false ∧ s.sul.recovery ≠ .offering) ∧ s.stp.port = .reading ⟨.ask, 144⟩ ∧
      s.ntb.asks = ⟨24, 4⟩ :: behind ∧ s.lif.link = link ∧ s.lif.fifo.length = n ∧ s.stp.reads = [] ∧ s.stp.flight = none) ∧
    notePresent 4 (readPage (placed 144 (noteOf 4 1)) 144) = true ∧ notePresent 4 (readPage [] 144) = false ∧
    after .pageReadComplete (serving [] 0 (noteOf 4 1) [] .run 5) (fun t =>
      decide (t.lif.fifo[5]? = some (.notePart 24 4 0 1 true (noteOf 4 1))) && decide (t.ntb.serving = .idle) &&
      decide (t.ntb.asks = [])) = true ∧
    after .pageReadComplete (serving [] 0 [] [⟨3, 2⟩] .run 5) (fun t =>
      decide (t.lif.fifo[5]? = some (.notePart 24 4 0 1 false [])) && decide (t.stp.port = .reading ⟨.ask, 136⟩)) = true ∧
    after .pageReadComplete (serving [] 0 (noteOf 4 1) [] .run 6) (fun t => decide (t.lif.fifo.length = 6) &&
      decide (t.ntb.serving = .sending (some (noteOf 4 1)) 0)) = true ∧
    after .pageReadComplete (serving [] 0 (noteOf 4 1) [] .mute 6) (fun t => decide (t.lif.fifo.length = 6) &&
      decide (t.ntb.asks = [])) = true ∧
    (∀ x ∈ [(129, 1), (498, 3)], after .pageReadComplete (serving [] 0 (noteFront 4 x.1) [] .run 0) (fun t =>
      decide (t.stp.port = .reading ⟨.ask, 145⟩) && decide (t.stp.reads.length + 1 = x.2)) = true) ∧
    after .pageReadComplete (serving [0] 2 [] [] .run 0) (fun t =>
      decide (t.ntb.serving = .reading (0 :: readPage [] 144) 1)) = true := by decide +kernel

/-- A reprint of note 4 reads its slot, with entries in the print queue. -/
def reprinting (taken : List Byte) (left : Nat) (bytes : List Byte) (prints : List PrintEntry) : State :=
  { reads .reprint 144 bytes with
    ntb := { next := 5, reprint := some ⟨4, taken, left⟩, prints := prints }
    stp := { (reads .reprint 144 bytes).stp with flight := some { item := ⟨.markClosed [1], false⟩, steps := [⟨68, 0, [1]⟩] } } }

/-- R180, R181, R183: a note that is not present; one with none, one and two entries in the queue, the second a reprint or not. -/
theorem wit_PagesRead_reprint : (∀ prints ∈ [[], [(⟨[1], 3, false⟩ : PrintEntry)], [⟨[1], 2, false⟩, ⟨[1], 3, true⟩], [⟨[1], 2, false⟩, ⟨[1], 3, false⟩]],
      let s := reprinting [] 0 (noteOf 4 1) prints
      (s.stp.departed = false ∧ s.lif.roomFreed = false ∧ s.sul.recovery ≠ .offering) ∧ s.sul.done = true ∧
      s.ntb.port.wire = none ∧ s.ntb.statusList = [] ∧ s.stp.queue.length < 12 ∧ s.stp.flight.isSome = true ∧
      after .pageReadComplete s (fun t => decide (t.ntb.prints = prints.take 1 ++ [⟨noteOf 4 1, 4, true⟩]) &&
        decide (t.ntb.reprint = none) && decide (t.ntb.port.wire.isSome = decide (prints = [])) &&
        decide (t.stp.queue = (if prints.drop 1 = [⟨[1], 3, false⟩] then [⟨.noteStatus 3 .print 3, false⟩] else []))) = true) ∧
    after .pageReadComplete (reprinting [] 0 [] []) (fun t => decide (t.ntb.prints = []) && decide (t.ntb.reprint = none)) = true ∧
    after .pageReadComplete (reprinting [] 0 (noteFront 4 129) []) (fun t =>
      decide (t.ntb.reprint.map (·.left) = some 1)) = true ∧
    after .pageReadComplete (reprinting [0] 2 [] []) (fun t => decide (t.ntb.reprint.map (·.left) = some 1)) = true := by
  decide +kernel

/-- A NOTE-STATUS of note 4 in flight reads the first page of its slot; another request waits. -/
def marking (fld : StatusField) (bytes : List Byte) : State :=
  { reads .noteStatus 144 bytes with
    stp := { (reads .noteStatus 144 bytes).stp with
      flight := some { item := ⟨.noteStatus 4 fld 2, false⟩, steps := [], reading := true }
      queue := [⟨.markClosed [1], false⟩] } }

/-- R196: the byte of the stamp and of the print status, of a note of 34 and of 498 bytes, and a slot of another number or of a
length out of range. -/
theorem wit_PagesRead_noteStatus :
    (∀ x ∈ [(StatusField.stamp, 34, 144, 30), (.print, 34, 144, 31), (.stamp, 498, 147, 110), (.print, 498, 147, 111)],
      after .pageReadComplete (marking x.1 (noteFront 4 x.2.1)) (fun t =>
        decide (t.stp.port = .writing ⟨x.2.2.1, x.2.2.2, [2]⟩ 5000) && decide (t.stp.queue.length = 1)) = true) ∧
    (∀ bytes ∈ [noteFront 3 34, noteFront 4 33, noteFront 4 499, []], after .pageReadComplete (marking .stamp bytes) (fun t =>
      decide (t.stp.flight.map (·.item.req) = some (.markClosed [1])) && decide (t.stp.queue = [])) = true) := by decide +kernel

/-- An own frame on the line. -/
def sending (link : Link) (f : TxFrame) (collisions : Nat) : State :=
  { onClaim false with
    lif := { bay.lif with link := link, onLine := some (txPayload bay f), current := some { frame := f, collisions := collisions } } }

/-- A CLAIM on the line that the slot waits for, one of another permit, a STATUS in RUN and in JOIN, another frame. -/
theorem wit_OwnEcho : bay.lif.onLine = none ∧ (sending .run (.claim 17) 0).Calm ∧
    (sending .run (.claim 17) 0).lif.onLine = some (.claim 17) ∧ (sending .run (.claim 17) 0).pct.slot = .claiming ∧
    (sending .run (.claim 17) 0).pct.heard = false ∧
    (sending .run (.claim 17) 0).pct.trip.map (·.permit) = some 17 ∧
    ((sending .run (.claim 18) 0).lif.onLine = some (.claim 18) ∧ (sending .run (.claim 18) 0).pct.trip.map (·.permit) ≠ some 18) ∧
    (sending .run .status 0).lif.onLine = some (.status 3 0x10 0 []) ∧ (sending .join .status 0).lif.link = .join ∧
    (sending .run (.release 1) 0).lif.onLine = some (.release 1) :=
  ⟨rfl, calm_of _ (by decide), by decide, by decide, by decide, by decide, by decide, by decide, by decide, by decide⟩

/-- R151, R154: the echo of a withdrawn CLAIM is delivered too. -/
theorem test_withdrawn_echo : after .ownEcho { sending .run (.claim 17) 0 with
      lif := { (sending .run (.claim 17) 0).lif with current := some { frame := .claim 17, withdrawn := true } } }
    (fun t => t.pct.heard && decide (t.pct.claimWindow = some 400000)) = true := by decide +kernel

/-- A join STATUS on the line in a try, with collisions. -/
def joining (tries collisions : Nat) : State :=
  { sending .join .status collisions with lif := { (sending .join .status collisions).lif with joinTries := tries } }

/-- The seventh and the eighth collision, in RUN and ALONE; a withdrawn CLAIM; JOIN in its second and third try; an echo dropped. -/
theorem wit_Collisions : (∀ f ∈ [TxFrame.status, .claim 17, .release 1], ∀ n ∈ [0, 6, 7], ∀ l ∈ [Link.run, .alone, .join],
      ((sending l f n).stp.departed = false ∧ (sending l f n).lif.roomFreed = false ∧ (sending l f n).sul.recovery ≠ .offering) ∧
      (sending l f n).lif.onLine.isSome = true ∧ (sending l f n).lif.current = some { frame := f, collisions := n } ∧
      (sending l f n).pct.trip.map (·.permit) = some 17) ∧
    acceptFrame true [] = none ∧
    after .collision { sending .run (.claim 17) 0 with lif := { (sending .run (.claim 17) 0).lif with
      current := some { frame := .claim 17, withdrawn := true } } } (fun t => decide (t.lif.current = none)) = true ∧
    (∀ tries ∈ [2, 3], after (.frameDropped true []) (joining tries 0) (fun t =>
      decide (t.lif.link = if tries = 2 then Link.join else .mute) &&
      decide (t.lif.joinTries = 3 ∨ t.lif.muteCause = some .echo)) = true) ∧
    after .collision (joining 3 6) (fun t => decide (t.lif.link = .join)) = true ∧
    after .collision (joining 3 7) (fun t => decide (t.lif.link = .mute) && decide (t.pct.slot = .empty) &&
      decide (t.outbox = [refused .lineBusy])) = true := by decide +kernel

/-- The line quiet for a STATUS that is due, and with a frame in the FIFO. -/
def quietLine (due : Due) (fifo : List TxFrame) (ownLast : Bool) : State :=
  { bay with lif := { bay.lif with due := due, fifo := fifo, ownLast := ownLast } }

/-- A frame is current and nothing is on the line. -/
def waitingFrame (link : Link) (f : TxFrame) : State :=
  { bay with lif := { bay.lif with link := link, current := some { frame := f } } }

/-- Station 7's gap is 24 bit times, and 88 after an own frame; a current frame, urgent or not; JOIN with its STATUS. -/
theorem wit_AccessAttempt : (∀ d ∈ [Due.none, .normal, .urgent], (quietLine d [.release 1] false).lif.due = d ∧
      (quietLine d [.release 1] false).lif.onLine = none ∧ (quietLine d [.release 1] false).lif.current = none ∧
      (quietLine d [.release 1] false).pct.held = [] ∧ (quietLine d [.release 1] false).ntb.heldReady = none ∧
      (quietLine d [.release 1] false).ntb.serving = .idle) ∧
    accessGap (quietLine .none [] false).lif = 24 ∧ accessGap (quietLine .none [] true).lif = 88 ∧
    after (.accessAttempt 23) (quietLine .none [.release 1] false) (fun t => decide (t.lif.onLine = none)) = true ∧
    after (.accessAttempt 24) (quietLine .none [.release 1] false) (fun t => decide (t.lif.onLine = some (.release 1))) = true ∧
    after (.accessAttempt 87) (quietLine .none [.release 1] true) (fun t => decide (t.lif.onLine = none)) = true ∧
    (∀ q ∈ [9, 10], after (.accessAttempt q) (quietLine .urgent [] true) (fun t =>
      decide (t.lif.onLine.isSome = decide (q = 10))) = true) ∧
    ((waitingFrame .run (.claim 17)).lif.current = some { frame := .claim 17 } ∧ (waitingFrame .run (.claim 17)).lif.onLine = none) ∧
    ((waitingFrame .join .status).lif.link = .join ∧ (waitingFrame .join .status).lif.current = some { frame := .status }) ∧
    (linked .mute).lif.link = .mute := by decide +kernel

/-- The line's timers run. -/
def timed (time : Word32) : State := { bay with lif := { bay.lif with
  period := some 9, spacing := some 9, second := some 9, listen := some 9, alone := some 9, time := time } }

/-- CLAIMING, with own CLAIM in the FIFO behind another frame, held for lack of room, or current. -/
def cutOff (fifo held : List TxFrame) (current : Option Current) : State :=
  { onClaim false with
    pct := { (onClaim false).pct with held := held }
    lif := { bay.lif with fifo := fifo, current := current } }

/-- R15, R17, R151: own CLAIM withdrawn from a FIFO with room left and from a full one, from the kept frames, where it waits after a
collision and set aside; and on the line, where it runs to its end. A HELD after the CLAIM was heard back withdraws nothing. -/
theorem wit_ClaimsHeard_withdrawn : (cutOff [.claim 17] [] none).Calm ∧ (onClaim false).ntb.heldReady = none ∧
    (onClaim false).ntb.serving = .idle ∧ (onClaim false).lif.link ≠ .mute ∧
    (∀ c ∈ [Instr.claim 4 17, .held 4 17 9],
      after c (cutOff [.release 1, .claim 17, .release 2] [] none) (fun t => decide (t.lif.fifo = [.release 1, .release 2])) = true ∧
      after c (cutOff [.release 1, .claim 17, .release 2, .release 3, .release 4, .release 5] [.release 6, .release 7] none)
        (fun t => decide (t.lif.fifo = [.release 1, .release 2, .release 3, .release 4, .release 5, .release 6]) &&
          decide (t.pct.held = [.release 7])) = true ∧
      after c (cutOff [.release 1] [.release 2, .claim 17, .release 3] none) (fun t =>
        decide (t.lif.fifo = [.release 1]) && decide (t.pct.held = [.release 2, .release 3])) = true ∧
      after c (cutOff [] [] (some { frame := .claim 17, collisions := 1 })) (fun t => decide (t.lif.current = none)) = true ∧
      (let s := cutOff [] [] (some { frame := .claim 17 })
       after c { s with lif := { s.lif with onLine := some (.claim 17), setAside := some { frame := .claim 17 } } } (fun t =>
         decide (t.lif.current = some { frame := .claim 17, withdrawn := true }) && decide (t.lif.onLine = some (.claim 17)) &&
         decide (t.lif.setAside = none)) = true) ∧
      after c (cutOff [] [] (some { frame := .status })) (fun t => decide (t.lif.current = some { frame := .status })) = true) ∧
    (let s := cutOff [.claim 17] [.release 2] (some { frame := .claim 17 })
     after (.held 4 17 9) { s with pct := { s.pct with heard := true } } (fun t => decide (t.pct.slot = .empty) &&
       decide (t.lif.fifo = [.claim 17]) && decide (t.pct.held = [.release 2]) &&
       decide (t.lif.current = some { frame := .claim 17 })) = true) :=
  ⟨calm_of _ (by decide), rfl, rfl, by decide, by decide +kernel, by decide +kernel⟩

theorem wit_LinkEvents_claiming : (onClaim false).pct.slot = .claiming ∧ (onClaim false).pct.heard = false ∧
    (cutOff [.release 1, .claim 17, .release 2] [] none).Calm ∧ (onClaim false).ntb.heldReady = none ∧
    (onClaim false).ntb.serving = .idle ∧
    (∀ s ∈ [cutOff [.release 1, .claim 17, .release 2] [] none, cutOff [.release 1, .release 2] [.claim 17] none,
        cutOff [.release 1, .release 2] [] (some { frame := .claim 17 })],
      after .heldLineDetected s (fun t => decide (t.pct.slot = .empty) && decide (t.pct.held = []) &&
        decide (t.outbox = [refused .lineBusy]) && decide (t.lif.fifo = [.release 1, .release 2]) &&
        decide (t.lif.current = none)) = true) ∧
    after .conflict (cutOff [.claim 17] [] none) (fun t => decide (t.outbox = [refused .lineBusy])) = true :=
  ⟨rfl, rfl, calm_of _ (by decide), rfl, rfl, by decide +kernel, by decide +kernel⟩

theorem wit_LinkEvents : ({ timed 0 with lif := { (timed 0).lif with link := .listen } }).lif.listen = some 9 ∧
    (timed 0).lif.alone = some 9 ∧ (timed 0).lif.link = .run ∧ (timed 0).sul.done = true ∧
    (bay.lif.listen = none ∧ bay.lif.alone = none) ∧
    (∀ l ∈ [Link.listen, .join, .alone, .heldLine, .down, .mute], (linked l).lif.link = l) := by decide

/-- A line of the trip that is ENDED with a full record of three additive lines. -/
def fullLine : OrderLine :=
  { lineOf (.ended .preset) (some { gross := 5000000, std := 4900000, weighted := some (-1234), additives :=
      [{ injector := 0, ratio := 120, mandatory := true, live := false, result := some ⟨600000, 600000, .ok⟩ },
        { injector := 3, ratio := 8191, mandatory := false, live := false, result := some ⟨134217727, 0, .under⟩ },
        { injector := 7, ratio := 1, mandatory := false, live := false, faultMark := true, result := some ⟨0, 0, .fault⟩ }] })
    with clamped := true }

/-- A note's head. -/
def head4 : NoteHead :=
  { number := 4, station := 7, permit := 17, driver := 1, tanker := 2, startTime := 0, endTime := 9, flags := { leak := true } }

/-- A note of eight lines with three additive lines each is 462 bytes long; a trip whose lines are all finished begins its note,
one with a lane in ENDED does not. -/
theorem wit_NoteBytes : (List.replicate 8 fullLine).length ≤ 8 ∧ (additivesOf fullLine).length ≤ 3 ∧
    noteLength (List.replicate 8 fullLine) = 462 ∧
    notePresent 4 (noteImage head4 [fullLine, lineOf (.refused .presetTooSmall) none] (fun _ => (5, 6)) 1 1) = true ∧
    noteTotals (noteImage head4 [fullLine] (fun _ => (5, 6)) 1 1) = [(0, 5, 6)] ∧
    (idling.sul.done = true ∧ idling.pct.slot = .released ∧ idling.ilm.stopKey = false ∧ idling.anyFlowing = false ∧
      idling.anyClosing = false ∧ idling.ntb.build = none ∧ idling.pct.idleTimer = some 9) ∧ idling.Calm ∧
    after .stop idling (fun t => t.allFinished && decide (t.ntb.build.map (fun b => (b.number, b.pages, b.loaded)) = some (5, 1, 1))) =
      true :=
  ⟨by decide, by decide, by decide +kernel, by decide +kernel, by decide +kernel, by decide, calm_of _ (by decide),
    by decide +kernel⟩

/-- Tables 12-6 and 12-7: what each line of a note of two holds, the first with its three additive lines. -/
theorem test_note_lines : (let b := noteImage head4 [fullLine, lineOf (.refused .presetTooSmall) none] (fun _ => (5, 6)) 1 1
      (fieldNat b 32 1, fieldNat b 33 1, fieldNat b 36 4, fieldNat b 44 2, fieldNat b 46 2) = (16, 7, 5000000, 64302, 1) ∧
      (fieldNat b 52 2, fieldNat b 54 4, fieldNat b 58 4) = (32768 + 120, 600000, 600000) ∧
      (fieldNat b 62 2, fieldNat b 64 4) = (8192 + 8191, 3 * 536870912 + 134217727) ∧
      (fieldNat b 85 1, fieldNat b 88 4, fieldNat b 96 2) = (84, 0, 0x8000)) ∧
    fullLine.compartment < 256 ∧ fullLine.product < 256 ∧ fullLine.preset < 65536 := by decide +kernel

/-- A request in flight at its last page, and the next one waiting. -/
def nextUp (q : WriteReq) : State :=
  { bay with stp := { queue := [⟨q, false⟩], flight := some { item := ⟨.markClosed [1], false⟩, steps := [⟨68, 0, [1]⟩] }
                      port := .writing ⟨68, 0, [1]⟩ 9 } }

/-- Records at the bounds of their fields read back; each kind of request waits behind one that is done. -/
theorem wit_RecordBytes :
    ((checkpointOf 4 (checkpointBytes 4 1 7 0 1 true ((fullLine.record).getD {}) (-1234) 9 8)).map
      (fun x => (x.stage, x.totGross, x.record.additives.length)) = some (7, 9, 3)) ∧
    (checkpointOf 4 (checkpointBytes 4 1 2 0 0 true ((fullLine.record).getD {}) (-1234) 9 8)).map (·.totGross) = some 0 ∧
    (markerOf (markHead markTrip)).isSome = true ∧ markerOf (closeHead (markHead markTrip)) = none ∧
    markLineOf (markLines markTrip) 1 = lineOf (.refused .presetTooSmall) none ∧
    totalsOf 3 ([0] ++ totalsBytes 3 4294967295 5 6 ++ [1]) 1 = some (4294967295, 5, 6) ∧
    (∀ q ∈ [WriteReq.checkpoint 1 [1], .total 0 5 6, .markOpen [1] [2], .markClosed [1], .notePage 5 1 [1], .noteStatus 4 .stamp 2],
      ((nextUp q).stp.departed = false ∧ (nextUp q).lif.roomFreed = false ∧ (nextUp q).sul.recovery ≠ .offering) ∧
      (nextUp q).stp.queue = [⟨q, false⟩] ∧ (nextUp q).stp.reads = []) ∧
    after .pageWriteComplete (nextUp (.checkpoint 8 [1])) (fun t => decide (t.stp.port = .writing ⟨77, 0, [1]⟩ 5009)) = true ∧
    after .pageWriteComplete (nextUp (.total 0 5 6)) (fun t =>
      decide (t.stp.port = .writing ⟨64, 64, totalsBytes 0 1 5 6⟩ 5009)) = true := by decide +kernel

/-- An entry of an age, with a demand and the halt flag or without. -/
def aged (age : Age) (halt : Bool) (demand : Nat) : State :=
  { bay with lif := { bay.lif with peers := [⟨5, age, 0, halt, [⟨1, demand⟩]⟩] } }

/-- The line's timers, rack time at its greatest value; an entry of each age, with and without a demand and the halt flag. -/
theorem wit_LineTimers : (timed 0).Calm ∧ (timed 0).lif.period = some 9 ∧ (timed 0).lif.spacing = some 9 ∧
    (timed 0).lif.due = .none ∧ (timed (BitVec.allOnes 32)).lif.second = some 9 ∧
    ∀ age ∈ [Age.fresh, .stale, .silent], ∀ halt : Bool, ∀ demand ∈ [0, 1],
      ((aged age halt demand).stp.departed = false ∧ (aged age halt demand).lif.roomFreed = false ∧
        (aged age halt demand).sul.recovery ≠ .offering) ∧
      (aged age halt demand).peer 5 = some ⟨5, age, 0, halt, [⟨1, demand⟩]⟩ ∧ (aged age halt demand).lif.link ≠ .down :=
  ⟨calm_of _ (by decide), rfl, rfl, rfl, rfl, by decide⟩

/-- A note printing. -/
def printing (wire : Option Char) (chars : List Char) (busy : Bool) : State :=
  { bay with
    ntb := { next := 5, prints := [⟨[1], 4, false⟩], port := { wire := wire, chars := chars, busy := busy, timer := some 9 } }
    stp := (writing .trip).stp }

theorem wit_PrinterPort : (printing (some 'a') ['b'] false).Calm ∧ (printing (some 'a') ['b'] false).ntb.port.wire = some 'a' ∧
    (printing (some 'a') [] false).ntb.port.chars = [] ∧ (printing (some 'a') [] false).ntb.prints = [⟨[1], 4, false⟩] ∧
    (printing (some 'a') [] false).stp.flight.isSome = true ∧ (printing none ['b'] true).ntb.port.busy = true ∧
    (printing none ['b'] true).ntb.port.timer = some 9 ∧ bay.ntb.port.busy = false :=
  ⟨calm_of _ (by decide), rfl, rfl, rfl, rfl, rfl, rfl, rfl⟩

/-- R182: what the rule fixes of the text: degrees with a sign and two decimals, litres rounded half up, digits without padding. -/
theorem test_printed_values : degreeText true 12 34 = ['-', '1', '2', '.', '3', '4'] ∧ degreeText false 0 5 = ['0', '.', '0', '5'] ∧
    printedLitres 1499 = 1 ∧ printedLitres 1500 = 2 ∧ digits 98250 = ['9', '8', '2', '5', '0'] := by decide +kernel

/-! ### Premises: laws that every step keeps -/

/-- L1 flowing with its outputs on, and a peer in the table: a state with every law, and a step from it. -/
def steady : State :=
  { loading .released .lowFlow .active {} with
    lanes := bay.lanes.set 0 { stage := .lowFlow, line := some 0, openOut := true, holdOut := true }
    lif := { bay.lif with peers := [⟨3, .fresh, 0, false, []⟩, ⟨15, .silent, 0, false, []⟩] }
    store := [⟨262143, 1⟩]
    pending := [.stop] }

theorem wit_laws : steady.StoreOk ∧ steady.QueueOk ∧ steady.ListsOk ∧ steady.OutputsOk ∧ steady.SlotOk ∧ steady.PeersOk ∧
    steady.StartOk ∧ steady.noReportDue ∧ steady.IdleOk ∧ steady.PortOk ∧ (receiving [1, 0] (some 9) none).PortOk ∧ ∃ t, step steady = .next t := by
  refine ⟨rfl, ⟨by decide, List.Pairwise.nil⟩, by unfold State.ListsOk; decide, by unfold State.OutputsOk; decide,
    by unfold State.SlotOk; decide, by unfold State.PeersOk; decide, by unfold State.StartOk; decide, ⟨rfl, rfl⟩,
    by unfold State.IdleOk; decide, by unfold State.PortOk; decide, by unfold State.PortOk; decide, _, rfl⟩

/-- R23: the STOP of that step stops the last flowing lane, and starts the trip idle timer with the lane SUSPENDED. -/
theorem wit_laws_idle : steady.pct.idleTimer = none ∧
    stepped steady (fun t => decide (t.pct.idleTimer = some 600000000) && !t.anyFlowing) = true := by decide +kernel

end Sys2Proof.Tests
end

section
/-! PROOFS. An order to suspend that reaches every flowing lane (R30, R35, R40, R63): what it makes of each lane, of the order lines
and of the store write queue; and the STOP event (R40). -/

namespace Sys2Proof.Machine

/-! ### An offer to the store write queue changes the Store Port alone -/

theorem startNext_modStp (s : State) : startNext s = s.modStp fun _ => (startNext s).stp := by
  unfold startNext askStatusRead
  repeat' split
  all_goals rfl

theorem enqueue_modStp (q : QItem) (s : State) : (enqueue q s).2 = s.modStp fun _ => (enqueue q s).2.stp := by
  unfold enqueue
  split
  · rfl
  · split
    · exact startNext_modStp _
    · rfl

theorem offerCheckpoint_modStp (i : LaneNo) (s : State) :
    offerCheckpoint i s = s.modStp fun _ => (offerCheckpoint i s).stp := by
  unfold offerCheckpoint
  split
  · rfl
  · exact enqueue_modStp _ s

@[simp] theorem offerCheckpoint_pct (i : LaneNo) (s : State) : (offerCheckpoint i s).pct = s.pct := by
  rw [offerCheckpoint_modStp]; rfl
@[simp] theorem offerCheckpoint_lanes (i : LaneNo) (s : State) : (offerCheckpoint i s).lanes = s.lanes := by
  rw [offerCheckpoint_modStp]; rfl
@[simp] theorem offerCheckpoint_lif (i : LaneNo) (s : State) : (offerCheckpoint i s).lif = s.lif := by
  rw [offerCheckpoint_modStp]; rfl
@[simp] theorem offerCheckpoint_sul (i : LaneNo) (s : State) : (offerCheckpoint i s).sul = s.sul := by
  rw [offerCheckpoint_modStp]; rfl

/-- What a lane has to offer does not depend on the store write queue. -/
@[simp] theorem offerCheckpoint_checkpoint (i j : LaneNo) (s : State) : (offerCheckpoint i s).checkpoint j = s.checkpoint j := by
  rw [offerCheckpoint_modStp]; rfl

/-! ### Every offer keeps the store write queue within R189 and R190 -/

/-- The queue of a Store Port is within its size and holds at most one checkpoint for a line. -/
def queueWithin (p : Stp) : Prop := p.queue.length ≤ Config.queueSize ∧ checkpointsApart p.queue

theorem queueOk_iff (s : State) : s.QueueOk ↔ s.StpHas queueWithin := Iff.rfl

theorem startNext_queue_suffix (s : State) : (startNext s).stp.queue <:+ s.stp.queue := by
  unfold startNext
  split
  · rename_i q rest _ e
    rw [e]
    unfold askStatusRead
    split <;> exact List.suffix_cons q rest
  · exact List.suffix_refl _

theorem startNext_queueWithin {s : State} (h : queueWithin s.stp) : queueWithin (startNext s).stp := by
  obtain ⟨size, apart⟩ := h
  have suffix := startNext_queue_suffix s
  exact ⟨suffix.length_le.trans size, apart.sublist suffix.sublist⟩

theorem replaceCheckpoint_queueWithin {q : QItem} {p : Stp} (line : (checkLine q.req).isSome = true) (h : queueWithin p) :
    queueWithin { p with queue := replaceCheckpoint q p.queue } := by
  obtain ⟨size, apart⟩ := h
  obtain ⟨k, hk⟩ := Option.isSome_iff_exists.1 line
  have sameLine (x : QItem) : checkLine (if checkLine x.req = some k then q else x).req = checkLine x.req := by
    split
    · rename_i e; rw [hk, e]
    · rfl
  refine ⟨?_, ?_⟩
  · simpa [replaceCheckpoint_eq q k hk _ apart] using size
  · simpa [checkpointsApart, replaceCheckpoint_eq q k hk _ apart, List.pairwise_map, sameLine] using apart

theorem append_queueWithin {q : QItem} {p : Stp} (fresh : sameLineWaits q p.queue = false)
    (room : p.queue.length < Config.queueSize) (h : queueWithin p) : queueWithin { p with queue := p.queue ++ [q] } := by
  refine ⟨by simpa using room, List.pairwise_append.2 ⟨h.2, List.pairwise_singleton .., ?_⟩⟩
  intro x hx y hy isCheck same
  obtain rfl := List.mem_singleton.1 hy
  rw [sameLineWaits, ← same, isCheck, Bool.true_and] at fresh
  exact absurd (decide_eq_true rfl) (List.any_eq_false.1 fresh x hx)

theorem queueWithin_law : StpLaw queueWithin where
  offers q s h := by
    unfold enqueue
    split
    · rename_i waits
      exact replaceCheckpoint_queueWithin (Bool.and_eq_true_iff.1 waits).1 h
    · rename_i fresh
      split
      · rename_i room
        exact startNext_queueWithin (append_queueWithin (Bool.eq_false_iff.2 fresh) room h)
      · exact h
  reads _ _ h := h

/-! ### What a lane has to offer depends on its lane, its line and the note number -/

/-- The note number of the trip in the slot. -/
def State.tripNumber (s : State) : Option Nat := s.pct.trip.map (·.number)

theorem checkpoint_congr {s t : State} {i : LaneNo} (number : t.tripNumber = s.tripNumber) (lane : t.lane i = s.lane i)
    (held : t.heldLine i = s.heldLine i) : t.checkpoint i = s.checkpoint i := by
  have record : t.record i = s.record i := by rw [State.record, State.record, held]
  rw [← checkpointNow_eq, ← checkpointNow_eq, State.checkpointNow, State.checkpointNow, lane, held, record]
  unfold State.tripNumber at number
  cases ht : t.pct.trip with
  | none =>
    rw [ht, Option.map_none, eq_comm, Option.map_eq_none_iff] at number
    rw [number]
  | some a =>
    rw [ht, Option.map_some, eq_comm, Option.map_eq_some_iff] at number
    obtain ⟨b, hs, same⟩ := number
    rw [hs]
    cases (s.lane i).line with
    | none => rfl
    | some k =>
      cases s.heldLine i with
      | none => rfl
      | some l => cases s.record i <;> simp [same]

/-! ### Changing an order line -/

@[simp] theorem modLine_lines (k : Nat) (f : OrderLine → OrderLine) (s : State) :
    (s.modLine k f).lines = s.lines.modify k f := by
  unfold State.lines State.modLine State.modTrip
  cases h : s.pct.trip <;> simp [h]

@[simp] theorem modLine_tripNumber (k : Nat) (f : OrderLine → OrderLine) (s : State) :
    (s.modLine k f).tripNumber = s.tripNumber := by
  unfold State.tripNumber State.modLine State.modTrip
  cases h : s.pct.trip <;> simp [h]

theorem setStatus_lines (i : LaneNo) (st : LineStatus) (s : State) (k : Nat) :
    (setStatus i st s).lines[k]? =
      s.lines[k]?.map fun l => if (s.lane i).line = some k then { l with status := st } else l := by
  unfold setStatus State.modHeld
  cases h : (s.lane i).line with
  | none => simp
  | some n => simp [List.getElem?_modify]

@[simp] theorem setStatus_tripNumber (i : LaneNo) (st : LineStatus) (s : State) :
    (setStatus i st s).tripNumber = s.tripNumber := by
  unfold setStatus State.modHeld
  split <;> simp

/-! ### A lane that is suspended (R63) -/

/-- A lane as an order to suspend leaves it: SUSPENDED with the cause and the stage left, S, the wanted rate and the outputs off. -/
def Lane.suspendedFrom (cause : Cause) (left : LeftStage) (l : Lane) : Lane :=
  { l with
    stage := .suspended cause left, setpoint := 0, wanted := 0, openOut := false, holdOut := false, step := none }

/-- A lane as an order to suspend that reaches every flowing lane leaves it. -/
def Lane.suspend (cause : Cause) (l : Lane) : Lane :=
  match l.stage with
  | .lowFlow => l.suspendedFrom cause .lowFlow
  | .fullFlow => l.suspendedFrom cause .fullFlow
  | .slowdown => l.suspendedFrom cause .slowdown
  | _ => l

theorem leftOf_of_flowing {st : Stage} (h : st.flowing = true) : ∃ left, leftOf st = some left := by
  cases st <;> simp [Stage.flowing, leftOf] at h ⊢

/-- A flowing lane leaves the stage of its own name. -/
theorem flowing_cases {st : Stage} {left : LeftStage} (flows : st.flowing = true) (leaves : leftOf st = some left) :
    (st = .lowFlow ∧ left = .lowFlow) ∨ (st = .fullFlow ∧ left = .fullFlow) ∨ (st = .slowdown ∧ left = .slowdown) := by
  cases st <;> simp_all [Stage.flowing, leftOf]

theorem Lane.suspend_of_flowing {cause : Cause} {left : LeftStage} {l : Lane} (flows : l.stage.flowing = true)
    (leaves : leftOf l.stage = some left) : l.suspend cause = l.suspendedFrom cause left := by
  obtain ⟨e, rfl⟩ | ⟨e, rfl⟩ | ⟨e, rfl⟩ := flowing_cases flows leaves <;> simp only [Lane.suspend, e]

theorem Lane.suspend_of_not_flowing {cause : Cause} {l : Lane} (h : l.stage.flowing = false) : l.suspend cause = l := by
  unfold Lane.suspend
  split <;> simp_all [Stage.flowing]

@[simp] theorem Lane.suspend_line (cause : Cause) (l : Lane) : (l.suspend cause).line = l.line := by
  unfold Lane.suspend
  split <;> rfl

/-- R54: the target rate is 0 outside the flowing stages. -/
theorem target_of_not_flowing {s : State} {i : LaneNo} (h : (s.stage i).flowing = false) : s.target i = 0 := by
  unfold State.target targetRate wantedRate
  split <;> simp [h]

/-- R56: the wanted rate is 0 outside the flowing stages. -/
theorem wantedNow_of_not_flowing {s : State} {i : LaneNo} (h : (s.stage i).flowing = false) : s.wantedNow i = 0 := by
  unfold State.wantedNow wantedRate
  split <;> simp [h]

theorem setStage_lane_of_not_flowing {i : LaneNo} {st : Stage} (h : st.flowing = false) (s : State) :
    (setStage i st s).lane i = { s.lane i with stage := st, setpoint := 0, wanted := 0 } := by
  have still : ((s.modLane i fun l => { l with stage := st }).stage i).flowing = false := by
    rw [State.stage, modLane_lane_self]; exact h
  rw [setStage, retarget, modLane_lane_self, modLane_lane_self, target_of_not_flowing still, wantedNow_of_not_flowing still,
    Nat.min_zero]

theorem setStage_lane_ne {i j : LaneNo} (ne : i ≠ j) (st : Stage) (s : State) : (setStage i st s).lane j = s.lane j := by
  rw [setStage, retarget, modLane_lane_ne _ _ _ ne, modLane_lane_ne _ _ _ ne]

theorem suspendFlowing_lane (i : LaneNo) (cause : Cause) (left : LeftStage) (s : State) :
    (suspendFlowing i cause left s).lane i = (s.lane i).suspendedFrom cause left := by
  rw [suspendFlowing, lane_of_lanes (offerCheckpoint_lanes _ _), setStage_lane_of_not_flowing rfl, setStatus,
    lane_of_lanes (modHeld_lanes _ _ _), outputsOff, modLane_lane_self]
  rfl

theorem suspendFlowing_lane_ne {i j : LaneNo} (ne : i ≠ j) (cause : Cause) (left : LeftStage) (s : State) :
    (suspendFlowing i cause left s).lane j = s.lane j := by
  rw [suspendFlowing, lane_of_lanes (offerCheckpoint_lanes _ _), setStage_lane_ne ne, setStatus,
    lane_of_lanes (modHeld_lanes _ _ _), outputsOff, modLane_lane_ne _ _ _ ne]

theorem suspendLane_of_flowing {i : LaneNo} {left : LeftStage} {s : State} (cause : Cause)
    (flows : (s.stage i).flowing = true) (leaves : leftOf (s.stage i) = some left) :
    suspendLane i cause s = suspendFlowing i cause left s := by
  obtain ⟨e, rfl⟩ | ⟨e, rfl⟩ | ⟨e, rfl⟩ := flowing_cases flows leaves <;> simp only [suspendLane, e]

theorem suspendFlowing_lines (i : LaneNo) (cause : Cause) (left : LeftStage) (s : State) (k : Nat) :
    (suspendFlowing i cause left s).lines[k]? =
      s.lines[k]?.map fun l => if (s.lane i).line = some k then { l with status := .suspended cause } else l := by
  have e := setStatus_lines i (.suspended cause) (outputsOff i s) k
  rw [outputsOff, modLane_lane_self] at e
  rw [State.lines, suspendFlowing, offerCheckpoint_pct]
  exact e

theorem suspendFlowing_tripNumber (i : LaneNo) (cause : Cause) (left : LeftStage) (s : State) :
    (suspendFlowing i cause left s).tripNumber = s.tripNumber := by
  rw [State.tripNumber, suspendFlowing, offerCheckpoint_pct]
  exact setStatus_tripNumber i _ (outputsOff i s)

@[simp] theorem suspendFlowing_lif (i : LaneNo) (cause : Cause) (left : LeftStage) (s : State) :
    (suspendFlowing i cause left s).lif = s.lif := by simp [suspendFlowing, setStage, retarget, setStatus, outputsOff]

@[simp] theorem suspendFlowing_sul (i : LaneNo) (cause : Cause) (left : LeftStage) (s : State) :
    (suspendFlowing i cause left s).sul = s.sul := by simp [suspendFlowing, setStage, retarget, setStatus, outputsOff]

/-- R72: while a write is in flight, the checkpoint that a suspended lane offers is the one of its line as it then stands. -/
theorem suspendFlowing_stp (i : LaneNo) (cause : Cause) (left : LeftStage) {s : State} (ok : s.QueueOk)
    (flight : s.stp.flight.isSome = true) :
    (suspendFlowing i cause left s).stp =
      { s.stp with
        queue := ((suspendFlowing i cause left s).checkpoint i).toList.foldl withCheckpoint s.stp.queue } := by
  have stp : (setStage i (.suspended cause left) (setStatus i (.suspended cause) (outputsOff i s))).stp = s.stp := by
    simp [setStage, retarget, setStatus, outputsOff]
  rw [suspendFlowing, offerCheckpoint_checkpoint,
    offerCheckpoint_eq _ _ (by rw [State.QueueOk, stp]; exact ok) (by rw [stp]; exact flight), modStp_stp, stp]

/-! ### Every flowing lane of a list is suspended -/

/-- R30, R35, R40: a lane is suspended if it flows. -/
def suspendIfFlowing (cause : Cause) (s : State) (i : LaneNo) : State :=
  if (s.stage i).flowing then suspendLane i cause s else s

theorem suspendAll_eq (cause : Cause) (s : State) : suspendAll cause s = allLanes.foldl (suspendIfFlowing cause) s := rfl

/-- What an order to a lane can do: the lane flows and is suspended, or nothing changes. -/
theorem suspendIfFlowing_cases (cause : Cause) (s : State) (i : LaneNo) :
    (∃ left, (s.stage i).flowing = true ∧ leftOf (s.stage i) = some left ∧
      suspendIfFlowing cause s i = suspendFlowing i cause left s) ∨
    ((s.stage i).flowing = false ∧ suspendIfFlowing cause s i = s) := by
  unfold suspendIfFlowing
  cases flows : (s.stage i).flowing with
  | true =>
    obtain ⟨left, leaves⟩ := leftOf_of_flowing flows
    exact .inl ⟨left, rfl, leaves, by rw [if_pos rfl, suspendLane_of_flowing cause flows leaves]⟩
  | false => exact .inr ⟨rfl, if_neg Bool.false_ne_true⟩

theorem suspendIfFlowing_lane (cause : Cause) (s : State) (i : LaneNo) :
    (suspendIfFlowing cause s i).lane i = (s.lane i).suspend cause := by
  obtain ⟨left, flows, leaves, e⟩ | ⟨still, e⟩ := suspendIfFlowing_cases cause s i
  · rw [e, suspendFlowing_lane, Lane.suspend_of_flowing flows leaves]
  · rw [e, Lane.suspend_of_not_flowing still]

theorem suspendIfFlowing_lane_ne {i j : LaneNo} (ne : i ≠ j) (cause : Cause) (s : State) :
    (suspendIfFlowing cause s i).lane j = s.lane j := by
  obtain ⟨left, -, -, e⟩ | ⟨-, e⟩ := suspendIfFlowing_cases cause s i
  · rw [e, suspendFlowing_lane_ne ne]
  · rw [e]

theorem suspendIfFlowing_line (cause : Cause) (s : State) (i j : LaneNo) :
    ((suspendIfFlowing cause s i).lane j).line = (s.lane j).line := by
  by_cases e : i = j
  · rw [e, suspendIfFlowing_lane, Lane.suspend_line]
  · rw [suspendIfFlowing_lane_ne e]

/-- The lane flows and holds order line `k`. -/
def State.flowsOn (s : State) (k : Nat) (i : LaneNo) : Bool := (s.stage i).flowing && decide ((s.lane i).line = some k)

theorem flowsOn_congr {s t : State} {i : LaneNo} {k : Nat} (lane : t.lane i = s.lane i) : t.flowsOn k i = s.flowsOn k i := by
  simp only [State.flowsOn, State.stage, lane]

theorem suspendIfFlowing_lines (cause : Cause) (s : State) (i : LaneNo) (k : Nat) :
    (suspendIfFlowing cause s i).lines[k]? =
      s.lines[k]?.map fun l => if s.flowsOn k i then { l with status := .suspended cause } else l := by
  obtain ⟨left, flows, -, e⟩ | ⟨still, e⟩ := suspendIfFlowing_cases cause s i
  · simp [e, suspendFlowing_lines, State.flowsOn, flows]
  · simp [e, State.flowsOn, still]

theorem suspendIfFlowing_tripNumber (cause : Cause) (s : State) (i : LaneNo) :
    (suspendIfFlowing cause s i).tripNumber = s.tripNumber := by
  obtain ⟨left, -, -, e⟩ | ⟨-, e⟩ := suspendIfFlowing_cases cause s i
  · rw [e, suspendFlowing_tripNumber]
  · rw [e]

theorem suspendIfFlowing_lif (cause : Cause) (s : State) (i : LaneNo) : (suspendIfFlowing cause s i).lif = s.lif := by
  obtain ⟨left, -, -, e⟩ | ⟨-, e⟩ := suspendIfFlowing_cases cause s i <;> simp [e]

theorem suspendIfFlowing_sul (cause : Cause) (s : State) (i : LaneNo) : (suspendIfFlowing cause s i).sul = s.sul := by
  obtain ⟨left, -, -, e⟩ | ⟨-, e⟩ := suspendIfFlowing_cases cause s i <;> simp [e]

theorem suspendIfFlowing_stpHas {Q : Stp → Prop} (law : StpLaw Q) (cause : Cause) (i : LaneNo) {s : State} (h : s.StpHas Q) :
    (suspendIfFlowing cause s i).StpHas Q := by
  unfold suspendIfFlowing
  split
  · exact suspendLane_stpHas law _ _ h
  · exact h

/-! #### What a list of such orders does -/

/-- An order to one lane leaves what the others have. -/
theorem suspendIfFlowing_lane_of_mem (cause : Cause) {i j : LaneNo} {rest : List LaneNo} (out : i ∉ rest) (mem : j ∈ rest)
    (s : State) : (suspendIfFlowing cause s i).lane j = s.lane j :=
  suspendIfFlowing_lane_ne (ne_of_mem_of_not_mem mem out).symm cause s

theorem suspendMany_lane_of_notMem (cause : Cause) {lanes : List LaneNo} {j : LaneNo} (out : j ∉ lanes) (s : State) :
    (lanes.foldl (suspendIfFlowing cause) s).lane j = s.lane j := by
  induction lanes generalizing s with
  | nil => rfl
  | cons i rest ih =>
    obtain ⟨ne, out⟩ := List.ne_and_not_mem_of_not_mem_cons out
    rw [List.foldl_cons, ih out, suspendIfFlowing_lane_ne (Ne.symm ne)]

theorem suspendMany_lane (cause : Cause) {lanes : List LaneNo} (once : lanes.Nodup) {j : LaneNo} (mem : j ∈ lanes) (s : State) :
    (lanes.foldl (suspendIfFlowing cause) s).lane j = (s.lane j).suspend cause := by
  induction lanes generalizing s with
  | nil => cases mem
  | cons i rest ih =>
    obtain ⟨out, once⟩ := List.nodup_cons.1 once
    rw [List.foldl_cons]
    rcases List.mem_cons.1 mem with rfl | mem
    · rw [suspendMany_lane_of_notMem cause out, suspendIfFlowing_lane]
    · rw [ih once mem, suspendIfFlowing_lane_of_mem cause out mem]

theorem suspendMany_lines (cause : Cause) {lanes : List LaneNo} (once : lanes.Nodup) (s : State) (k : Nat) :
    (lanes.foldl (suspendIfFlowing cause) s).lines[k]? =
      s.lines[k]?.map fun l => if lanes.any (s.flowsOn k) then { l with status := .suspended cause } else l := by
  induction lanes generalizing s with
  | nil => simp
  | cons i rest ih =>
    obtain ⟨out, once⟩ := List.nodup_cons.1 once
    have others : rest.any ((suspendIfFlowing cause s i).flowsOn k) = rest.any (s.flowsOn k) := by
      rw [Bool.eq_iff_iff, List.any_eq_true, List.any_eq_true]
      exact exists_congr fun j => and_congr_right fun mem => by
        rw [flowsOn_congr (suspendIfFlowing_lane_of_mem cause out mem s)]
    rw [List.foldl_cons, ih once, others, suspendIfFlowing_lines, Option.map_map, List.any_cons]
    congr 1
    funext l
    cases s.flowsOn k i <;> simp

theorem suspendMany_tripNumber (cause : Cause) (lanes : List LaneNo) (s : State) :
    (lanes.foldl (suspendIfFlowing cause) s).tripNumber = s.tripNumber := by
  induction lanes generalizing s with
  | nil => rfl
  | cons i rest ih => rw [List.foldl_cons, ih, suspendIfFlowing_tripNumber]

theorem suspendMany_lif (cause : Cause) (lanes : List LaneNo) (s : State) :
    (lanes.foldl (suspendIfFlowing cause) s).lif = s.lif := by
  induction lanes generalizing s with
  | nil => rfl
  | cons i rest ih => rw [List.foldl_cons, ih, suspendIfFlowing_lif]

theorem suspendMany_sul (cause : Cause) (lanes : List LaneNo) (s : State) :
    (lanes.foldl (suspendIfFlowing cause) s).sul = s.sul := by
  induction lanes generalizing s with
  | nil => rfl
  | cons i rest ih => rw [List.foldl_cons, ih, suspendIfFlowing_sul]

/-- A lane outside the list that shares no line with it has the same checkpoint to offer after the orders. -/
theorem suspendMany_checkpoint (cause : Cause) {lanes : List LaneNo} (once : lanes.Nodup) {s : State} {i : LaneNo}
    (out : i ∉ lanes) (own : ∀ j ∈ lanes, (s.lane i).line = none ∨ (s.lane j).line ≠ (s.lane i).line) :
    (lanes.foldl (suspendIfFlowing cause) s).checkpoint i = s.checkpoint i := by
  have lane := suspendMany_lane_of_notMem cause out s
  refine checkpoint_congr (suspendMany_tripNumber cause lanes s) lane ?_
  rw [State.heldLine, State.heldLine, lane]
  cases h : (s.lane i).line with
  | none => rfl
  | some k =>
    have noLane : lanes.any (s.flowsOn k) = false := List.any_eq_false.2 fun j mem => by
      have other : (s.lane j).line ≠ some k := by simpa [h] using own j mem
      simp [State.flowsOn, other]
    rw [Option.bind_some, Option.bind_some, suspendMany_lines cause once, noLane]
    exact Option.map_id_apply

/-- R72, R189, R190: while a write is in flight, orders to suspend offer one checkpoint of each lane that flows, and nothing else
happens at the store port. -/
theorem suspendMany_stp (cause : Cause) {lanes : List LaneNo} (once : lanes.Nodup) {s : State} (ok : s.QueueOk)
    (flight : s.stp.flight.isSome = true)
    (own : ∀ i ∈ lanes, (s.stage i).flowing = true → ∀ j, j ≠ i → (s.lane i).line = none ∨ (s.lane j).line ≠ (s.lane i).line) :
    (lanes.foldl (suspendIfFlowing cause) s).stp =
      { s.stp with
        queue := ((lanes.filter fun i => (s.stage i).flowing).filterMap
          (lanes.foldl (suspendIfFlowing cause) s).checkpoint).foldl withCheckpoint s.stp.queue } := by
  induction lanes generalizing s with
  | nil => rfl
  | cons i rest ih =>
    obtain ⟨out, once⟩ := List.nodup_cons.1 once
    have ownRest (j : LaneNo) (mem : j ∈ rest) := own j (List.mem_cons_of_mem i mem)
    rw [List.foldl_cons]
    obtain ⟨left, flows, -, e⟩ | ⟨still, e⟩ := suspendIfFlowing_cases cause s i
    · have stage (j : LaneNo) (mem : j ∈ rest) : (suspendIfFlowing cause s i).stage j = s.stage j := by
        rw [State.stage, suspendIfFlowing_lane_of_mem cause out mem, State.stage]
      have stp : (suspendIfFlowing cause s i).stp = { s.stp with
          queue := ((suspendIfFlowing cause s i).checkpoint i).toList.foldl withCheckpoint s.stp.queue } := by
        rw [e]; exact suspendFlowing_stp i cause left ok flight
      have offered := suspendMany_checkpoint cause once out (s := suspendIfFlowing cause s i) fun j mem => by
        rw [suspendIfFlowing_line, suspendIfFlowing_line]
        exact own i (List.mem_cons_self ..) flows j (ne_of_mem_of_not_mem mem out)
      have filter : (rest.filter fun j => ((suspendIfFlowing cause s i).stage j).flowing) =
          rest.filter fun j => (s.stage j).flowing := List.filter_congr fun j mem => by rw [stage j mem]
      have okNext := (queueOk_iff _).2 (suspendIfFlowing_stpHas queueWithin_law cause i ((queueOk_iff s).1 ok))
      rw [ih once okNext (by rw [stp]; exact flight)
        (fun j mem flows m ne => by
          rw [suspendIfFlowing_line, suspendIfFlowing_line]; exact ownRest j mem (stage j mem ▸ flows) m ne),
        filter, List.filter_cons, if_pos flows, List.filterMap_cons, offered, stp]
      cases (suspendIfFlowing cause s i).checkpoint i <;> rfl
    · rw [e, ih once ok flight ownRest, List.filter_cons, still, if_neg Bool.false_ne_true]

/-! ### Every flowing lane is suspended -/

theorem allLanes_nodup : allLanes.Nodup := by decide

theorem mem_allLanes (i : LaneNo) : i ∈ allLanes := by revert i; decide

theorem suspendAll_lane (cause : Cause) (s : State) (i : LaneNo) : (suspendAll cause s).lane i = (s.lane i).suspend cause :=
  suspendMany_lane cause allLanes_nodup (mem_allLanes i) s

theorem suspendAll_lane_of_flowing (cause : Cause) {s : State} {i : LaneNo} {left : LeftStage}
    (flows : (s.stage i).flowing = true) (leaves : leftOf (s.stage i) = some left) :
    (suspendAll cause s).lane i = (s.lane i).suspendedFrom cause left := by
  rw [suspendAll_lane, Lane.suspend_of_flowing flows leaves]

theorem suspendAll_lane_of_not_flowing (cause : Cause) {s : State} {i : LaneNo} (still : (s.stage i).flowing = false) :
    (suspendAll cause s).lane i = s.lane i := by
  rw [suspendAll_lane, Lane.suspend_of_not_flowing still]

/-- The order line of a lane that flows has the cause in its status. -/
theorem suspendAll_lines_of_flowing (cause : Cause) {s : State} {i : LaneNo} {k : Nat} {l : OrderLine}
    (flows : (s.stage i).flowing = true) (line : (s.lane i).line = some k) (here : s.lines[k]? = some l) :
    (suspendAll cause s).lines[k]? = some { l with status := .suspended cause } := by
  have any : allLanes.any (s.flowsOn k) = true :=
    List.any_eq_true.2 ⟨i, mem_allLanes i, by simp [State.flowsOn, flows, line]⟩
  rw [suspendAll_eq, suspendMany_lines cause allLanes_nodup, here, any]
  rfl

/-- R72: the checkpoints of an order to suspend that reaches every flowing lane. -/
theorem suspendAll_stp (cause : Cause) {s : State} (ok : s.QueueOk) (flight : s.stp.flight.isSome = true)
    (own : ∀ i ∈ s.flowingLanes, ∀ j : LaneNo, j ≠ i → (s.lane i).line = none ∨ (s.lane j).line ≠ (s.lane i).line) :
    (suspendAll cause s).stp = { s.stp with
      queue := (s.flowingLanes.filterMap (suspendAll cause s).checkpoint).foldl withCheckpoint s.stp.queue } := by
  rw [suspendAll_eq, State.flowingLanes]
  exact suspendMany_stp cause allLanes_nodup ok flight fun i mem flows => own i (List.mem_filter.2 ⟨mem, flows⟩)

theorem suspendAll_calm (cause : Cause) {s : State} (calm : s.Calm) (flight : s.stp.flight.isSome = true) :
    (suspendAll cause s).Calm := by
  obtain ⟨⟨departed, roomFreed⟩, recovery⟩ := calm
  have quiet : (suspendAll cause s).StpHas fliesQuietly := suspendAll_stpHas fliesQuietly_law cause ⟨flight, departed⟩
  exact ⟨⟨quiet.2, by rw [suspendAll_eq, suspendMany_lif]; exact roomFreed⟩,
    by rw [suspendAll_eq, suspendMany_sul]; exact recovery⟩

/-! ### After the end of the event -/

theorem settle_slot (s : State) : (settle s).pct.slot = s.pct.slot := congrArg (·.pct.slot) (settle_steady s)

theorem settle_trip (s : State) : (settle s).pct.trip = s.pct.trip := congrArg (·.pct.trip) (settle_steady s)

theorem settle_lines (s : State) : (settle s).lines = s.lines := by rw [State.lines, settle_trip, State.lines]

theorem settle_checkpoint {s : State} {i : LaneNo} (h : s.stage i ≠ .ended) : (settle s).checkpoint i = s.checkpoint i :=
  checkpoint_congr (by rw [State.tripNumber, settle_trip, State.tripNumber]) (settle_lane h)
    (by rw [State.heldLine, settle_lane h, settle_lines, State.heldLine])

theorem portKick_queue_flight (s : State) :
    (portKick s).stp.queue = s.stp.queue ∧ (portKick s).stp.flight = s.stp.flight := by
  unfold portKick
  repeat' split
  all_goals exact ⟨rfl, rfl⟩

/-- An event that leaves no report due ends with the store write queue as it is. -/
theorem settle_queue_flight {s : State} (calm : s.Calm) :
    (settle s).stp.queue = s.stp.queue ∧ (settle s).stp.flight = s.stp.flight := by
  have kept := portKick_queue_flight (refreshLamps (idleTimer s))
  rwa [refreshLamps_stp, idleTimer_stp, ← settle_calm calm] at kept

theorem suspendAll_stage_ne_ended (cause : Cause) {s : State} {i : LaneNo} (h : s.stage i ≠ .ended) :
    (suspendAll cause s).stage i ≠ .ended := by
  cases flows : (s.stage i).flowing with
  | true =>
    obtain ⟨left, leaves⟩ := leftOf_of_flowing flows
    rw [State.stage, suspendAll_lane_of_flowing cause flows leaves]
    exact Stage.noConfusion
  | false => rwa [State.stage, suspendAll_lane_of_not_flowing cause flows]

theorem ne_ended_of_flowing {st : Stage} (h : st.flowing = true) : st ≠ .ended := by rintro rfl; cases h

/-- An event that suspends every flowing lane leaves a lane that is not in ENDED as the order to suspend does. -/
theorem settle_suspendAll_lane (cause : Cause) {s : State} {i : LaneNo} (h : s.stage i ≠ .ended) :
    (settle (suspendAll cause s)).lane i = (s.lane i).suspend cause := by
  rw [settle_lane (suspendAll_stage_ne_ended cause h), suspendAll_lane]

/-- What such an event makes of a lane that flows, and of its order line. -/
theorem settle_suspendAll_of_flowing (cause : Cause) {s : State} {i : LaneNo} {left : LeftStage}
    (flows : (s.stage i).flowing = true) (leaves : leftOf (s.stage i) = some left) :
    (settle (suspendAll cause s)).lane i = (s.lane i).suspendedFrom cause left ∧
    ∀ k l, (s.lane i).line = some k → s.lines[k]? = some l →
      ∃ l', (settle (suspendAll cause s)).lines[k]? = some l' ∧ l'.status = .suspended cause := by
  refine ⟨?_, fun k l line here => ⟨{ l with status := .suspended cause }, ?_, rfl⟩⟩
  · rw [settle_suspendAll_lane cause (ne_ended_of_flowing flows), Lane.suspend_of_flowing flows leaves]
  · rw [settle_lines, suspendAll_lines_of_flowing cause flows line here]

theorem settle_suspendAll_slot (cause : Cause) (s : State) : (settle (suspendAll cause s)).pct.slot = s.pct.slot := by
  rw [settle_slot]
  exact congrArg Prod.fst (suspendAll_slotHeld cause s)

/-- R72: an event that suspends every flowing lane offers a checkpoint of each. -/
theorem settle_suspendAll_checkpoints (cause : Cause) (s : State) :
    s.Checkpoints (settle (suspendAll cause s)) s.flowingLanes := by
  intro calm ok flight own
  obtain ⟨queue, inFlight⟩ := settle_queue_flight (suspendAll_calm cause calm flight)
  have stp := suspendAll_stp cause ok flight own
  have offered : s.flowingLanes.filterMap (settle (suspendAll cause s)).checkpoint =
      s.flowingLanes.filterMap (suspendAll cause s).checkpoint :=
    List.filterMap_congr fun i mem =>
      settle_checkpoint (suspendAll_stage_ne_ended cause (ne_ended_of_flowing (List.mem_filter.1 mem).2))
  exact ⟨s.flowingLanes, .refl _, by rw [queue, offered, stp], by rw [inFlight, stp]⟩

theorem enterClosing_slotHeld (s : State) : (enterClosing s).slotHeld = (.closing, s.pct.trip.isSome) := by
  unfold enterClosing
  rw [tryBuild_slotHeld, foldl_slotHeld _ fun t k => closeLineOf_slotHeld k t, modTrip_slotHeld]
  rfl

/-- R23, R24: the trip that ends is in CLOSING after the event. -/
theorem settle_enterClosing_slot (s : State) : (settle (enterClosing s)).pct.slot = .closing := by
  rw [settle_slot]
  exact congrArg Prod.fst (enterClosing_slotHeld s)

/-! ### STOP (R40) -/

/-- The STOP key taken as pressed. -/
def pressStop (s : State) : State := s.modIlm fun m => { m with stopKey := true }

/-- R38, R40: a STOP event after start-up. -/
theorem exec_stop {s : State} (done : s.sul.done = true) (key : s.ilm.stopKey = false) :
    exec .stop s = finish (stopEffect (pressStop s)) := by
  have e : exec .stop s = execStop s := rfl
  rw [e, execStop, key, if_neg Bool.false_ne_true]
  exact congrArg finish (if_pos done)

theorem stopEffect_of_flowing {s : State} (slot : s.pct.slot = .released) (flowing : s.anyFlowing = true) :
    stopEffect s = suspendAll .driver s := by
  rw [stopEffect, if_neg (not_not.2 slot), if_pos flowing]

theorem stopEffect_of_closing {s : State} (slot : s.pct.slot = .released) (still : s.anyFlowing = false)
    (closing : s.anyClosing = true) : stopEffect s = s := by
  rw [stopEffect, if_neg (not_not.2 slot), still, if_neg Bool.false_ne_true, if_pos closing]

theorem stopEffect_of_still {s : State} (slot : s.pct.slot = .released) (still : s.anyFlowing = false)
    (unclosing : s.anyClosing = false) : stopEffect s = enterClosing s := by
  rw [stopEffect, if_neg (not_not.2 slot), still, if_neg Bool.false_ne_true, unclosing, if_neg Bool.false_ne_true]

theorem stopEffect_of_not_released {s : State} (slot : s.pct.slot ≠ .released) : stopEffect s = s := if_pos slot

end Sys2Proof.Machine

open Sys2Proof Sys2Proof.Machine

/-- Settles O25, by the slot state and the lanes' stages at the STOP: in RELEASED with a lane flowing by what an order to suspend makes
of each lane in turn, otherwise by what the one branch of the STOP's effect leaves. -/
theorem stopEvent : Obligations.StopEvent := by
  intro s done key
  have stop := exec_stop done key
  refine ⟨fun slot flowing => ?_, fun slot still closing => ?_, fun slot still closing => ?_, fun slot => ?_⟩
  · rw [stopEffect_of_flowing (s := pressStop s) slot flowing] at stop
    refine ⟨_, stop, (settle_suspendAll_slot ..).trans slot, settle_suspendAll_checkpoints .driver (pressStop s), fun i =>
      ⟨fun left flows leaves => settle_suspendAll_of_flowing .driver (s := pressStop s) flows leaves, fun still waits => ?_⟩⟩
    exact (settle_suspendAll_lane .driver (s := pressStop s) waits).trans (Lane.suspend_of_not_flowing still)
  · rw [stopEffect_of_closing (s := pressStop s) slot still closing] at stop
    exact leaves_of_finish stop
  · rw [stopEffect_of_still (s := pressStop s) slot still closing] at stop
    exact ⟨_, stop, settle_enterClosing_slot _⟩
  · rw [stopEffect_of_not_released (s := pressStop s) slot] at stop
    exact leaves_of_finish stop
end

section
/-! PROOFS. The meter factor of a lane's curve (R93), between its points and at its ends: the model's factor is the rule's, the rule
leaves one factor at every Q, and that factor lies within the bounds of the points' factors. -/

namespace Sys2Proof.Machine

/-! ### The curve between its points and at its ends (R93) -/

/-- The points of a curve stand in ascending order of their Q. -/
def Ascending (curve : List PointCfg) : Prop := curve ≠ [] ∧ (curve.map (·.q)).Pairwise (· < ·)

/-- R93: the factor between two points of a curve. -/
def interpolated (a b : PointCfg) (q : Nat) : Int :=
  (a.mf : Int) + (((b.mf : Int) - a.mf) * ((q : Int) - a.q)).tdiv ((b.q : Int) - a.q)

/-- R93: a factor is the one that the rule takes from a curve at a Q. -/
def Chosen (curve : List PointCfg) (q mf : Nat) : Prop :=
  (∀ p, curve.head? = some p → q ≤ p.q → mf = p.mf) ∧
  (∀ p, curve.getLast? = some p → p.q ≤ q → mf = p.mf) ∧
  (∀ (n : Nat) (a b : PointCfg), curve[n]? = some a → curve[n + 1]? = some b → a.q ≤ q → q < b.q →
    (mf : Int) = interpolated a b q ∧ min a.mf b.mf ≤ mf ∧ mf ≤ max a.mf b.mf)

/-- The share `n` of `d` of a signed amount, truncated toward zero, lies between nothing and the whole. -/
theorem tdiv_share_bounds {m n d : Int} (low : 0 ≤ n) (high : n ≤ d) (pos : 0 < d) :
    min 0 m ≤ (m * n).tdiv d ∧ (m * n).tdiv d ≤ max 0 m := by
  have share {m : Int} (up : 0 ≤ m) : 0 ≤ (m * n).tdiv d ∧ (m * n).tdiv d ≤ m := by
    have nonneg := Int.mul_nonneg up low
    rw [Int.tdiv_eq_ediv_of_nonneg nonneg]
    exact ⟨Int.ediv_nonneg nonneg pos.le, Int.ediv_le_of_le_mul pos (Int.mul_le_mul_of_nonneg_left high up)⟩
  obtain up | down := Int.le_total 0 m
  · have := share up
    omega
  · have := share (Int.neg_nonneg_of_nonpos down)
    rw [Int.neg_mul, Int.neg_tdiv] at this
    omega

theorem interpolated_bounds {a b : PointCfg} {q : Nat} (low : a.q ≤ q) (high : q < b.q) :
    (min a.mf b.mf : Nat) ≤ interpolated a b q ∧ interpolated a b q ≤ (max a.mf b.mf : Nat) := by
  have := tdiv_share_bounds (m := (b.mf : Int) - a.mf) (n := (q : Int) - a.q) (d := (b.q : Int) - a.q)
    (by omega) (by omega) (by omega)
  unfold interpolated
  omega

theorem interpolated_at_first (a b : PointCfg) : interpolated a b a.q = a.mf := by simp [interpolated]

theorem Ascending.head_lt {p x : PointCfg} {rest : List PointCfg} (up : Ascending (p :: rest)) (mem : x ∈ rest) : p.q < x.q :=
  (List.pairwise_cons.1 (List.pairwise_map.1 up.2)).1 x mem

theorem Ascending.head_le {p x : PointCfg} {rest : List PointCfg} (up : Ascending (p :: rest)) (mem : x ∈ p :: rest) :
    p.q ≤ x.q := by
  obtain rfl | mem := List.mem_cons.1 mem
  · exact le_rfl
  · exact (up.head_lt mem).le

theorem Ascending.tail {p n : PointCfg} {rest : List PointCfg} (up : Ascending (p :: n :: rest)) : Ascending (n :: rest) :=
  ⟨List.cons_ne_nil n rest, List.pairwise_map.2 (List.pairwise_cons.1 (List.pairwise_map.1 up.2)).2⟩

theorem curveFrom_of_below {p n : PointCfg} {rest : List PointCfg} {q : Nat} (low : p.q ≤ q) (high : q < n.q) :
    (curveFrom p (n :: rest) q : Int) = interpolated p n q := by
  have := (interpolated_bounds low high).1
  rw [curveFrom, if_neg (Nat.not_le.2 high)]
  exact Int.toNat_of_nonneg (a := interpolated p n q) (by omega)

/-- At a Q of the first point or above it, the search through the curve gives the factor. -/
theorem meterFactor_of_head_le {p : PointCfg} {rest : List PointCfg} {q : Nat} (up : Ascending (p :: rest)) (low : p.q ≤ q) :
    meterFactor (p :: rest) q = curveFrom p rest q := by
  change (if q ≤ p.q then p.mf else curveFrom p rest q) = _
  split
  · obtain rfl : q = p.q := by omega
    cases rest with
    | nil => rfl
    | cons n rest =>
      have := curveFrom_of_below (rest := rest) low (up.head_lt (List.mem_cons_self ..))
      rw [interpolated_at_first] at this
      exact (Int.ofNat.inj this).symm
  · rfl

theorem curveFrom_last {p last : PointCfg} {rest : List PointCfg} {q : Nat} (up : Ascending (p :: rest))
    (here : (p :: rest).getLast? = some last) (above : last.q ≤ q) : curveFrom p rest q = last.mf := by
  induction rest generalizing p with
  | nil =>
    obtain rfl : p = last := by simpa using here
    rfl
  | cons n rest ih =>
    rw [List.getLast?_cons_cons] at here
    have passed : n.q ≤ q := (up.tail.head_le (List.mem_of_getLast? here)).trans above
    rw [curveFrom, if_pos passed, ih up.tail here]

theorem curveFrom_between {p a b : PointCfg} {rest : List PointCfg} {q n : Nat} (up : Ascending (p :: rest))
    (first : (p :: rest)[n]? = some a) (second : (p :: rest)[n + 1]? = some b) (low : a.q ≤ q) (high : q < b.q) :
    (curveFrom p rest q : Int) = interpolated a b q := by
  induction rest generalizing p n with
  | nil => simp at second
  | cons x rest ih =>
    cases n with
    | zero =>
      obtain rfl : p = a := by simpa using first
      obtain rfl : x = b := by simpa using second
      exact curveFrom_of_below low high
    | succ n =>
      rw [List.getElem?_cons_succ] at first second
      have passed : x.q ≤ q := (up.tail.head_le (List.mem_of_getElem? first)).trans low
      rw [curveFrom, if_pos passed, ih up.tail first second]

/-- R93: the model's factor is the rule's. -/
theorem meterFactor_chosen {curve : List PointCfg} (up : Ascending curve) (q : Nat) : Chosen curve q (meterFactor curve q) := by
  cases curve with
  | nil => exact absurd rfl up.1
  | cons p rest =>
    refine ⟨fun x here below => ?_, fun last here above => ?_, fun n a b first second low high => ?_⟩
    · obtain rfl : p = x := by simpa using here
      exact if_pos below
    · have low := (up.head_le (List.mem_of_getLast? here)).trans above
      rw [meterFactor_of_head_le up low, curveFrom_last up here above]
    · have value : (meterFactor (p :: rest) q : Int) = interpolated a b q := by
        have atHead := (up.head_le (List.mem_of_getElem? first)).trans low
        rw [meterFactor_of_head_le up atHead, curveFrom_between up first second low high]
      have bounds := interpolated_bounds low high
      rw [← value] at bounds
      exact ⟨value, by omega⟩

/-- Where a Q of the first point or above it lies on a curve. -/
theorem past_last_or_between {p : PointCfg} {rest : List PointCfg} {q : Nat} (low : p.q ≤ q) :
    (∃ last, (p :: rest).getLast? = some last ∧ last.q ≤ q) ∨
    ∃ (n : Nat) (a b : PointCfg), (p :: rest)[n]? = some a ∧ (p :: rest)[n + 1]? = some b ∧ a.q ≤ q ∧ q < b.q := by
  induction rest generalizing p with
  | nil => exact .inl ⟨p, rfl, low⟩
  | cons x rest ih =>
    by_cases passed : x.q ≤ q
    · obtain ⟨last, here, past⟩ | ⟨n, a, b, first, second, between⟩ := ih passed
      · exact .inl ⟨last, by rwa [List.getLast?_cons_cons], past⟩
      · exact .inr ⟨n + 1, a, b, first, second, between⟩
    · exact .inr ⟨0, p, x, rfl, rfl, low, Nat.not_le.1 passed⟩

theorem curve_position {curve : List PointCfg} (points : curve ≠ []) (q : Nat) :
    (∃ p, curve.head? = some p ∧ q ≤ p.q) ∨ (∃ p, curve.getLast? = some p ∧ p.q ≤ q) ∨
    ∃ (n : Nat) (a b : PointCfg), curve[n]? = some a ∧ curve[n + 1]? = some b ∧ a.q ≤ q ∧ q < b.q := by
  cases curve with
  | nil => exact absurd rfl points
  | cons p rest =>
    obtain below | above := Nat.le_total q p.q
    · exact .inl ⟨p, rfl, below⟩
    · exact .inr (past_last_or_between above)

/-- R93 leaves one factor at every Q. -/
theorem Chosen.unique {curve : List PointCfg} {q x y : Nat} (points : curve ≠ []) (hx : Chosen curve q x)
    (hy : Chosen curve q y) : x = y := by
  obtain ⟨headX, lastX, betweenX⟩ := hx
  obtain ⟨headY, lastY, betweenY⟩ := hy
  obtain ⟨p, here, below⟩ | ⟨p, here, above⟩ | ⟨n, a, b, first, second, low, high⟩ := curve_position points q
  · rw [headX p here below, headY p here below]
  · rw [lastX p here above, lastY p here above]
  · have ex := (betweenX n a b first second low high).1
    have ey := (betweenY n a b first second low high).1
    exact Int.ofNat.inj (ex.trans ey.symm)

/-- The factor lies within any bounds that hold for the factors of the points. -/
theorem Chosen.within {curve : List PointCfg} {q mf lo hi : Nat} (points : curve ≠ []) (h : Chosen curve q mf)
    (within : ∀ p ∈ curve, lo ≤ p.mf ∧ p.mf ≤ hi) : lo ≤ mf ∧ mf ≤ hi := by
  obtain ⟨head, last, between⟩ := h
  obtain ⟨p, here, below⟩ | ⟨p, here, above⟩ | ⟨n, a, b, first, second, low, high⟩ := curve_position points q
  · rw [head p here below]
    exact within p (List.mem_of_head? here)
  · rw [last p here above]
    exact within p (List.mem_of_getLast? here)
  · have bounds := (between n a b first second low high).2
    have atA := within a (List.mem_of_getElem? first)
    have atB := within b (List.mem_of_getElem? second)
    omega

end Sys2Proof.Machine
end

section
/-! PROOFS. A metering tick (R51): the gross volume and its carry that a pass forms (R94, R95) stand until the end of the event
unless CLOSING ends in it, and a lane without an open compartment forms its leak volume (R73). -/

namespace Sys2Proof.Machine

/-! ### The record of the line a lane holds -/

theorem modHeld_heldLine (i : LaneNo) (f : OrderLine → OrderLine) (s : State) :
    (s.modHeld i f).heldLine i = (s.heldLine i).map f := by
  rw [State.heldLine, lane_of_lanes (modHeld_lanes s i f), State.heldLine, State.modHeld]
  cases (s.lane i).line with
  | none => rfl
  | some k => simp

@[simp] theorem modRecord_record (i : LaneNo) (f : CompRecord → CompRecord) (s : State) :
    (s.modRecord i f).record i = (s.record i).map f := by
  rw [State.record, State.modRecord, modHeld_heldLine, State.record]
  cases s.heldLine i <;> rfl

@[simp] theorem setStatus_record (i : LaneNo) (st : LineStatus) (s : State) : (setStatus i st s).record i = s.record i := by
  rw [State.record, setStatus, modHeld_heldLine, State.record]
  cases s.heldLine i <;> rfl

theorem record_congr {s t : State} {i : LaneNo} (trip : t.pct.trip = s.pct.trip) (line : (t.lane i).line = (s.lane i).line) :
    t.record i = s.record i := by
  simp only [State.record, State.heldLine, State.lines, trip, line]

theorem modLane_record (i : LaneNo) {f : Lane → Lane} {s : State} (line : (f (s.lane i)).line = (s.lane i).line) :
    (s.modLane i f).record i = s.record i := record_congr rfl (by rw [modLane_lane_self, line])

/-! ### What a pass forms, and what may end the compartment -/

/-- The gross volume of a lane's compartment with its carry, and the stage with the count of quiet ticks, by which CLOSING ends
(R59). -/
structure Metering where
  gross : Option Word48
  carry : Nat
  stage : Stage
  quiet : Nat

def State.metering (s : State) (i : LaneNo) : Metering :=
  ⟨(s.record i).map (·.gross), (s.lane i).ven.grossCarry, s.stage i, (s.lane i).quiet⟩

/-- The fields of a lane on which its metering depends. -/
def Lane.metered (l : Lane) : Option Nat × Nat × Stage × Nat := (l.line, l.ven.grossCarry, l.stage, l.quiet)

theorem metering_congr {s t : State} {i : LaneNo} (trip : t.pct.trip = s.pct.trip)
    (lane : (t.lane i).metered = (s.lane i).metered) : t.metering i = s.metering i := by
  simp only [Lane.metered, Prod.mk.injEq] at lane
  obtain ⟨line, carry, stage, quiet⟩ := lane
  simp only [State.metering, State.stage, record_congr trip line, carry, stage, quiet]

theorem modLane_metering (i : LaneNo) {f : Lane → Lane} {s : State} (h : (f (s.lane i)).metered = (s.lane i).metered) :
    (s.modLane i f).metering i = s.metering i := metering_congr rfl (by rw [modLane_lane_self, h])

theorem modRecord_metering (i : LaneNo) (f : CompRecord → CompRecord) (s : State) (h : ∀ r, (f r).gross = r.gross) :
    (s.modRecord i f).metering i = s.metering i := by
  have gross : ((·.gross) ∘ f : CompRecord → Word48) = (·.gross) := funext h
  simp only [State.metering, State.stage, modRecord_record, Option.map_map, gross, lane_of_lanes (modRecord_lanes s i f)]

@[simp] theorem modAdditive_metering (i : LaneNo) (k : Nat) (f : AdditiveLine → AdditiveLine) (s : State) :
    (s.modAdditive i k f).metering i = s.metering i := modRecord_metering i _ s fun _ => rfl

@[simp] theorem modInj_metering (i : LaneNo) (j : InjNo) (f : Injector → Injector) (s : State) :
    (s.modInj j f).metering i = s.metering i := rfl

@[simp] theorem setStatus_metering (i : LaneNo) (st : LineStatus) (s : State) :
    (setStatus i st s).metering i = s.metering i := by
  have lane : (setStatus i st s).lane i = s.lane i := lane_of_lanes (modHeld_lanes s i _) i
  simp only [State.metering, State.stage, setStatus_record, lane]

@[simp] theorem retarget_metering (i : LaneNo) (s : State) : (retarget i s).metering i = s.metering i :=
  modLane_metering i rfl

@[simp] theorem rise_metering (i : LaneNo) (s : State) : (rise i s).metering i = s.metering i := by
  unfold rise
  split
  · rfl
  · exact modLane_metering i rfl

@[simp] theorem outputsOff_metering (i : LaneNo) (s : State) : (outputsOff i s).metering i = s.metering i :=
  modLane_metering i rfl

theorem commandOutputs_metered (d : Steer) (now : Nat) (l : Lane) : (commandOutputs d now l).metered = l.metered := by
  cases d <;> rfl

@[simp] theorem steerNow_metering (i : LaneNo) (s : State) : (steerNow i s).metering i = s.metering i := by
  unfold steerNow
  split
  · exact modLane_metering i (commandOutputs_metered ..)
  · exact outputsOff_metering i s

@[simp] theorem offerCheckpoint_metering (i j : LaneNo) (s : State) : (offerCheckpoint j s).metering i = s.metering i := by
  rw [offerCheckpoint_modStp]; rfl

@[simp] theorem giveLimit_metering (i : LaneNo) (s : State) : (giveLimit i s).metering i = s.metering i := by
  unfold giveLimit
  split
  · rfl
  · exact (retarget_metering i _).trans (modLane_metering i rfl)

@[simp] theorem startStroke_metering (final : Bool) (i : LaneNo) (k : Nat) (j : InjNo) (s : State) :
    (startStroke final i k j s).metering i = s.metering i := by
  unfold startStroke
  split
  · rfl
  · rw [giveLimit_metering, modInj_metering, modAdditive_metering]

@[simp] theorem considerLine_metering (i : LaneNo) (k : Nat) (s : State) : (considerLine i k s).metering i = s.metering i := by
  unfold considerLine
  repeat' split
  all_goals simp

/-- R116: the dose step forms no volume and changes no stage. -/
@[simp] theorem dosePass_metering (i : LaneNo) (dg : Nat) (s : State) : (dosePass i dg s).metering i = s.metering i := by
  simp only [dosePass, considerLane, slots, List.foldl_cons, List.foldl_nil, considerLine_metering, giveLimit_metering]
  exact modRecord_metering i _ s fun _ => rfl

@[simp] theorem closeDecision_metering (i : LaneNo) (reason : EndReason) (s : State) :
    (closeDecision i reason s).metering i = { s.metering i with stage := .closing, quiet := 0 } := by
  simp only [State.metering, State.stage, closeDecision, modLane_record, modLane_lane_self]

@[simp] theorem setStage_metering (i : LaneNo) (st : Stage) (s : State) :
    (setStage i st s).metering i = { s.metering i with stage := st } := by
  rw [setStage, retarget_metering]
  simp only [State.metering, State.stage, modLane_record, modLane_lane_self]

/-! ### A pass keeps the volume it has formed -/

/-- The lane has this gross volume and carry, and is not in ENDED. -/
def Metering.Holds (gross : Option Word48) (carry : Nat) (m : Metering) : Prop :=
  m.gross = gross ∧ m.carry = carry ∧ m.stage ≠ .ended

/-- R59: the quiet ticks of CLOSING begin anew, for pulses came, or none has been counted. -/
def Metering.Unquiet (pulses : Nat) (m : Metering) : Prop := m.stage = .closing → pulses ≠ 0 ∨ m.quiet = 0

section
variable {gross : Option Word48} {carry pulses : Nat} {i : LaneNo} {s : State}

theorem closeDecision_holds (reason : EndReason) (h : (s.metering i).Holds gross carry) :
    ((closeDecision i reason s).metering i).Holds gross carry := by
  obtain ⟨hg, hc, -⟩ := h
  rw [closeDecision_metering]
  exact ⟨hg, hc, Stage.noConfusion⟩

theorem closeDecision_unquiet (reason : EndReason) : ((closeDecision i reason s).metering i).Unquiet pulses := by
  rw [closeDecision_metering]
  exact fun _ => .inr rfl

/-- R67: what a pulse fault can do to a lane: nothing, or close it with the end reason, of a line made ACTIVE or not. -/
theorem takeFault_cases (i : LaneNo) (reason : EndReason) (s : State) :
    takeFault i reason s = s ∨ takeFault i reason s = closeDecision i reason s ∨
    takeFault i reason s = closeDecision i reason (setStatus i .active s) := by
  unfold takeFault
  split <;> simp

theorem takeFault_holds (reason : EndReason) (h : (s.metering i).Holds gross carry) :
    ((takeFault i reason s).metering i).Holds gross carry := by
  obtain e | e | e := takeFault_cases i reason s <;> rw [e]
  · exact h
  · exact closeDecision_holds reason h
  · exact closeDecision_holds reason ((setStatus_metering i .active s).symm ▸ h)

theorem takeFault_unquiet (reason : EndReason) (h : (s.metering i).Unquiet pulses) :
    ((takeFault i reason s).metering i).Unquiet pulses := by
  obtain e | e | e := takeFault_cases i reason s <;> rw [e]
  · exact h
  · exact closeDecision_unquiet reason
  · exact closeDecision_unquiet reason

/-- R78 to R89: a tick's counts and flags form no volume. -/
theorem recordPulses_metering (i : LaneNo) (p : Piu) (s : State) :
    ((s.modPiu i fun _ => p).modRecord i (recordPulses p)).metering i = s.metering i := by
  rw [modRecord_metering i (recordPulses p) _ fun _ => rfl]
  exact modLane_metering i rfl

theorem pulseStep_holds (pt : PulseTick) (h : (s.metering i).Holds gross carry) :
    ((pulseStep i pt s).metering i).Holds gross carry := by
  rw [← recordPulses_metering i pt.piu] at h
  unfold pulseStep
  split
  · exact h
  · exact takeFault_holds .pulseFault h

theorem pulseStep_unquiet (pt : PulseTick) (h : (s.metering i).Unquiet pulses) :
    ((pulseStep i pt s).metering i).Unquiet pulses := by
  rw [← recordPulses_metering i pt.piu] at h
  unfold pulseStep
  split
  · exact h
  · exact takeFault_unquiet .pulseFault h

theorem volumeStep_metering (i : LaneNo) (p : Pass) (s : State) : (volumeStep i p s).metering i =
    { s.metering i with
      gross := (s.record i).map fun _ => p.record.gross
      carry := p.ven.grossCarry } := by
  simp only [State.metering, State.stage, volumeStep, modRecord_record, Option.map_map, modLane_record,
    lane_of_lanes (modRecord_lanes _ _ _), modLane_lane_self]
  rfl

theorem stageAfter_cases (c : LaneCfg) (st : Stage) (preset volume : Nat) :
    stageAfter c st preset volume = st ∨ stageAfter c st preset volume = .fullFlow ∨
    stageAfter c st preset volume = .slowdown := by
  simp only [stageAfter]
  split_ifs <;> simp

theorem stageAfter_ne_ended (c : LaneCfg) {st : Stage} (preset volume : Nat) (h : st ≠ .ended) :
    stageAfter c st preset volume ≠ .ended := by
  obtain e | e | e := stageAfter_cases c st preset volume <;> rw [e]
  · exact h
  · exact Stage.noConfusion
  · exact Stage.noConfusion

theorem stageStep_holds (c : LaneCfg) (h : (s.metering i).Holds gross carry) :
    ((stageStep c i s).metering i).Holds gross carry := by
  unfold stageStep
  split
  · exact closeDecision_holds .preset h
  · obtain ⟨hg, hc, running⟩ := h
    rw [setStage_metering]
    exact ⟨hg, hc, stageAfter_ne_ended c _ _ running⟩

/-- R59: CLOSING goes on at a tick that is not the fourth quiet one in a row. -/
theorem closingStep_holds (unquiet : pulses ≠ 0 ∨ (s.lane i).quiet = 0) (h : (s.metering i).Holds gross carry) :
    ((closingStep i pulses s).metering i).Holds gross carry := by
  have few : ¬4 ≤ if pulses = 0 then (s.lane i).quiet + 1 else 0 := by
    split <;> omega
  have counted (n : Nat) : (s.modLane i fun l => { l with quiet := n }).metering i = { s.metering i with quiet := n } := by
    simp only [State.metering, State.stage, modLane_record, modLane_lane_self]
  simp only [closingStep, if_neg few, counted]
  exact h

theorem checkStep_holds (c : LaneCfg) (unquiet : (s.metering i).Unquiet pulses) (h : (s.metering i).Holds gross carry) :
    ((checkStep c i pulses s).metering i).Holds gross carry := by
  unfold checkStep
  split
  · exact stageStep_holds c h
  · split
    · rename_i closing
      exact closingStep_holds (unquiet closing) h
    · exact h

theorem noFlowStep_holds (d : Steer) (h : (s.metering i).Holds gross carry) :
    ((noFlowStep i pulses d s).metering i).Holds gross carry := by
  have counted (n : Nat) : ((s.modLane i fun l => { l with noFlow := n }).metering i).Holds gross carry := by
    rwa [modLane_metering i rfl]
  unfold noFlowStep
  extract_lets n t
  by_cases starved : 16 ≤ n
  · rw [if_pos starved]
    exact closeDecision_holds .noFlow (counted n)
  · rw [if_neg starved]
    exact counted n

theorem steerStep_holds (h : (s.metering i).Holds gross carry) : ((steerStep i pulses s).metering i).Holds gross carry := by
  unfold steerStep
  split
  · exact noFlowStep_holds _ (by simpa using h)
  · exact h

theorem checkpointStep_metering (i : LaneNo) (before : Stage) (volume : Nat) (s : State) :
    (checkpointStep i before volume s).metering i = s.metering i := by
  unfold checkpointStep
  split
  · exact offerCheckpoint_metering i i s
  · rfl

end

/-! ### The pass of a lane with a compartment open (R92, R94, R95) -/

theorem ne_ended_of_compartmentOpen {st : Stage} (h : st.compartmentOpen = true) : st ≠ .ended := by rintro rfl; cases h

/-- R94, R95: a pass moves the gross volume and its carry by the factor of the lane's curve at the Q of the pass before. -/
theorem compartmentPass_holds {i : LaneNo} {s : State} {r : CompRecord} (c : VenCfg) (raw : Nat)
    (isOpen : (s.stage i).compartmentOpen = true) (record : s.record i = some r)
    (goesOn : s.stage i ≠ .closing ∨ (pulseTick c.lane (s.gross i) (s.lane i).piu).pulses ≠ 0) :
    let x := meterVolume (pulseTick c.lane (s.gross i) (s.lane i).piu).pulses (meterFactor c.curve (s.lane i).ven.q)
      (s.lane i).ven.grossCarry c.lane.k
    ((compartmentPass i c raw s).metering i).Holds (some (addVolume r.gross x.1)) x.2 := by
  have start : (s.metering i).Holds (some r.gross) (s.lane i).ven.grossCarry :=
    ⟨by rw [State.metering, record]; rfl, rfl, ne_ended_of_compartmentOpen isOpen⟩
  have unquiet : (s.metering i).Unquiet (pulseTick c.lane (s.gross i) (s.lane i).piu).pulses :=
    fun closing => .inl (goesOn.resolve_left (not_not.2 closing))
  have pulsed := pulseStep_holds (pulseTick c.lane (s.gross i) (s.lane i).piu) start
  have stillUnquiet := pulseStep_unquiet (pulseTick c.lane (s.gross i) (s.lane i).piu) unquiet
  obtain ⟨sameGross, -, running⟩ := pulsed
  obtain ⟨r1, here, gross⟩ := Option.map_eq_some_iff.1 sameGross
  simp only [compartmentPass, checkpointStep_metering]
  refine steerStep_holds (checkStep_holds _ ?_ ?_) <;> rw [dosePass_metering, volumeStep_metering]
  · exact stillUnquiet
  · rw [here, ← gross]
    exact ⟨rfl, rfl, running⟩

/-- R91: a volume within its 48 bits is the sum. -/
theorem addVolume_toNat {v : Word48} {n : Nat} (fits : v.toNat + n < 281474976710656) : (addVolume v n).toNat = v.toNat + n := by
  rw [addVolume, if_pos fits, BitVec.toNat_ofNat, Nat.mod_eq_of_lt fits]

/-! ### The pass of a lane with no compartment open (R73, R95) -/

@[simp] theorem leakReport_lanes (before after : Nat) (s : State) : (leakReport before after s).lanes = s.lanes := by
  unfold leakReport
  split
  · simp
  · rfl

/-- R73, R95: a pass moves the leak volume and its carry by the same rule, and leaves the stage. -/
theorem leakLanePass_lane (i : LaneNo) (c : VenCfg) (raw : Nat) (s : State) :
    let pulses := (leakTick c.lane (s.lane i).piu).2
    let x := meterVolume pulses (meterFactor c.curve (s.lane i).ven.q) (s.lane i).leakCarry c.lane.k
    ((leakLanePass i c raw s).lane i).leak = addLeak (s.lane i).leak x.1 ∧
    ((leakLanePass i c raw s).lane i).leakCarry = x.2 ∧ (leakLanePass i c raw s).stage i = s.stage i := by
  simp only [leakLanePass, leakPass, State.stage, lane_of_lanes (leakReport_lanes _ _ _), modLane_lane_self, and_self]

/-! ### METERING_TICK (R51) -/

/-- R51: the tick of a lane restarts. -/
def restartTick (i : LaneNo) (d : Nat) (s : State) : State :=
  (s.reach d).modLane i fun l => { l with tick := some (d + Config.tickTime) }

@[simp] theorem restartTick_lane (i : LaneNo) (d : Nat) (s : State) :
    (restartTick i d s).lane i = { s.lane i with tick := some (d + Config.tickTime) } := modLane_lane_self ..

theorem restartTick_record (i : LaneNo) (d : Nat) (s : State) : (restartTick i d s).record i = s.record i :=
  record_congr rfl (by rw [restartTick_lane])

@[simp] theorem restartTick_stage (i : LaneNo) (d : Nat) (s : State) : (restartTick i d s).stage i = s.stage i := by
  rw [State.stage, restartTick_lane, State.stage]

theorem exec_meteringTick {s : State} {i : LaneNo} {d : Nat} {c : VenCfg} (raw : BitVec 12) (tick : (s.lane i).tick = some d)
    (cfg : s.venCfg i = some c) : exec (.meteringTick i raw) s = finish
      (if (s.stage i).compartmentOpen then compartmentPass i c raw.toNat (restartTick i d s)
      else leakLanePass i c raw.toNat (restartTick i d s)) := by
  have e : exec (.meteringTick i raw) s = execMeteringTick i raw s := rfl
  have cfg' : (restartTick i d s).venCfg i = some c := cfg
  rw [e, execMeteringTick, tick, ← restartTick_stage i d s]
  change finish (lanePass i raw.toNat (restartTick i d s)) = _
  rw [lanePass, cfg']

/-- The end of an event leaves what a lane outside ENDED has formed. -/
theorem settle_metering {s : State} {i : LaneNo} (running : s.stage i ≠ .ended) : (settle s).metering i = s.metering i := by
  have lane := settle_lane running
  exact metering_congr (settle_trip s) (congrArg Lane.metered lane)

/-- What an event has formed in a lane outside ENDED, its answer holds. -/
theorem finish_formed {a : Instr} {s u : State} {i : LaneNo} {gross : Word48} {carry : Nat} (step : exec a s = finish u)
    (formed : (u.metering i).Holds (some gross) carry) :
    ∃ t r', exec a s = .next t ∧ t.record i = some r' ∧ r'.gross = gross ∧ (t.lane i).ven.grossCarry = carry := by
  obtain ⟨hg, hc, running⟩ := formed
  rw [← settle_metering running] at hg hc
  obtain ⟨r', here, value⟩ := Option.map_eq_some_iff.1 hg
  exact ⟨settle u, r', step, here, value, hc⟩

/-- The pulses of a lane's tick (R78, R79). -/
def tickPulses (c : VenCfg) (l : Lane) : Nat :=
  correctedPulses c.lane.level (channelDelta l.piu.cntA l.piu.snapA) (channelDelta l.piu.cntB l.piu.snapB)

/-- R93 to R95: a tick of a lane with a compartment open that goes on after it. -/
theorem meteringTick_gross {s : State} {i : LaneNo} {d : Nat} {c : VenCfg} {r : CompRecord} (raw : BitVec 12)
    (tick : (s.lane i).tick = some d) (cfg : s.venCfg i = some c) (isOpen : (s.stage i).compartmentOpen = true)
    (goesOn : s.stage i ≠ .closing ∨ tickPulses c (s.lane i) ≠ 0) (record : s.record i = some r) :
    let x := meterVolume (tickPulses c (s.lane i)) (meterFactor c.curve (s.lane i).ven.q) (s.lane i).ven.grossCarry c.lane.k
    r.gross.toNat + x.1 < 281474976710656 →
    ∃ t r', exec (.meteringTick i raw) s = .next t ∧ t.record i = some r' ∧
      r'.gross.toNat = r.gross.toNat + x.1 ∧ (t.lane i).ven.grossCarry = x.2 := by
  intro x fits
  have pulses : (pulseTick c.lane ((restartTick i d s).gross i) ((restartTick i d s).lane i).piu).pulses =
      tickPulses c (s.lane i) := by rw [restartTick_lane]; rfl
  have formed := compartmentPass_holds (s := restartTick i d s) c raw.toNat (by rwa [restartTick_stage])
    ((restartTick_record i d s).trans record) (by rwa [restartTick_stage, pulses])
  rw [pulses, restartTick_lane] at formed
  have step := exec_meteringTick raw tick cfg
  rw [if_pos isOpen] at step
  obtain ⟨t, r', next, here, gross, carry⟩ := finish_formed step formed
  exact ⟨t, r', next, here, gross ▸ addVolume_toNat fits, carry⟩

/-- R73, R93, R95: a tick of a lane with no compartment open. -/
theorem meteringTick_leak {s : State} {i : LaneNo} {d : Nat} {c : VenCfg} (raw : BitVec 12)
    (tick : (s.lane i).tick = some d) (cfg : s.venCfg i = some c) (shut : (s.stage i).compartmentOpen = false) :
    let x := meterVolume (tickPulses c (s.lane i)) (meterFactor c.curve (s.lane i).ven.q) (s.lane i).leakCarry c.lane.k
    ∃ t, exec (.meteringTick i raw) s = .next t ∧ (s.stage i ≠ .ended →
      (t.lane i).leak = addLeak (s.lane i).leak x.1 ∧ (t.lane i).leakCarry = x.2) := by
  intro x
  have formed := leakLanePass_lane i c raw.toNat (restartTick i d s)
  rw [restartTick_lane, restartTick_stage] at formed
  obtain ⟨leak, carry, stage⟩ := formed
  have step := exec_meteringTick raw tick cfg
  rw [shut, if_neg Bool.false_ne_true] at step
  refine ⟨_, step, fun running => ?_⟩
  rw [settle_lane (by rwa [stage])]
  exact ⟨leak, carry⟩

end Sys2Proof.Machine

open Sys2Proof Sys2Proof.Machine

/-- Settles O28 (the bare name is the model's function): the model's factor is the one that R93 leaves at every Q, so that a pass
which takes the rule's factor takes the model's. -/
theorem meterFactorRule : Obligations.MeterFactor := by
  unfold Obligations.MeterFactor
  intro chosen ascending
  refine ⟨fun curve q up => ?_, fun s i raw d mf c tick cfg up factor => ?_, fun i => by revert i; decide, by decide⟩
  · have rule : Chosen curve q (meterFactor curve q) := meterFactor_chosen up q
    exact ⟨rule, rule.within up.1⟩
  · obtain rfl : mf = meterFactor c.curve (s.lane i).ven.q := Chosen.unique up.1 factor (meterFactor_chosen up _)
    exact ⟨fun r isOpen goesOn record fits => meteringTick_gross raw tick cfg isOpen goesOn record fits,
      meteringTick_leak raw tick cfg⟩
end

section
/-! PROOFS. What every command keeps (the store, the supply of free values, the tables and the waiting commands), the two stops, and
the step that runs the command at the front of the queue. -/

namespace Sys2Proof.Machine

/-! ### Commands that answer a next state with the kept parts as they were -/

/-- A command's answer is a next state with the tables, the store, the supply of free values, the waiting commands, the pins and the
card reader's port of `s`. -/
def KeepsParts (s : State) (a : Answer) : Prop := ∃ t, a = .next t ∧ t.kept = s.kept

theorem keepsParts_next (s : State) : KeepsParts s (.next s) := ⟨s, rfl, rfl⟩

theorem keepsParts_finish {s u : State} (h : u.kept = s.kept) : KeepsParts s (finish u) :=
  ⟨settle u, rfl, by rw [settle_kept, h]⟩

theorem keepsParts_onExpiry {effect : Nat → State → State} (h : ∀ d t, (effect d t).kept = t.kept) (due : Option Nat) (s : State) :
    KeepsParts s (onExpiry due effect s) := by
  cases due with
  | none => exact keepsParts_next s
  | some d => exact keepsParts_finish (by rw [h, reach_kept])

theorem keepsParts_ite {s : State} {c : Prop} [Decidable c] {a b : Answer} (ha : KeepsParts s a) (hb : KeepsParts s b) :
    KeepsParts s (if c then a else b) := by
  split
  · exact ha
  · exact hb

theorem takeCard_keepsParts (block : List Byte) (s : State) : KeepsParts s (takeCard block s) := by
  unfold takeCard
  split
  · exact keepsParts_next s
  all_goals exact keepsParts_finish (by simp)

theorem takeReply_keepsParts (success : Bool) (s : State) : KeepsParts s (takeReply success s) :=
  keepsParts_ite (keepsParts_finish (by cases success <;> simp)) (keepsParts_next s)

theorem takeMessage_keepsParts (raw : List Byte) (s : State) : KeepsParts s (takeMessage raw s) := by
  unfold takeMessage
  split
  · exact takeCard_keepsParts _ s
  · exact takeReply_keepsParts _ s
  · exact takeReply_keepsParts _ s

theorem hearFrame_keepsParts (sender : Nat) (p : Payload) (deliver : State → State) (h : ∀ t, (deliver t).kept = t.kept) (s : State) :
    KeepsParts s (hearFrame sender p deliver s) := keepsParts_finish (peerFrame_kept sender p deliver h s)

/-- The commands that change one of the kept parts: the two of the store port, a reset, and the end of a message's gap. -/
def changesParts : Instr → Bool
  | .reset _ _ => true
  | .pageReadComplete => true
  | .pageWriteComplete => true
  | .readerByteGapTimeout => true
  | _ => false

theorem exec_keepsParts {c : Instr} (h : changesParts c = false) (s : State) : KeepsParts s (exec c s) := by
  cases c with
  | reset | pageReadComplete | pageWriteComplete | readerByteGapTimeout => cases h
  | card block => exact takeCard_keepsParts block s
  | readerMessageDiscarded raw => exact keepsParts_ite (takeMessage_keepsParts raw s) (keepsParts_next s)
  | writeDone => exact takeReply_keepsParts true s
  | writeFail => exact takeReply_keepsParts false s
  | startUpCompletion => exact keepsParts_ite (keepsParts_finish (by split <;> simp)) (keepsParts_next s)
  | permissiveChange => exact keepsParts_ite (keepsParts_next s) (keepsParts_finish (by split <;> simp))
  | armConnect => exact keepsParts_ite (keepsParts_next s) (keepsParts_finish (by split <;> simp))
  | armDrop => exact keepsParts_ite (keepsParts_next s) (keepsParts_finish (by split <;> simp))
  | rstopChange => exact keepsParts_ite (keepsParts_next s) (keepsParts_finish (by split <;> simp))
  | start => exact keepsParts_ite (keepsParts_next s) (keepsParts_finish (by split <;> simp))
  | stop => exact keepsParts_ite (keepsParts_next s) (keepsParts_finish (by split <;> simp))
  | ackPress => exact keepsParts_ite (keepsParts_next s) (keepsParts_finish (by split <;> simp))
  | ackRelease => exact keepsParts_ite (keepsParts_finish rfl) (keepsParts_next s)
  | lampStretchEnd => exact keepsParts_ite (keepsParts_next s) (keepsParts_finish rfl)
  | feedbackPulse => exact keepsParts_ite (keepsParts_finish (by split <;> simp)) (keepsParts_next s)
  | conflict => exact keepsParts_ite (keepsParts_finish (by simp)) (keepsParts_next s)
  | accessAttempt => exact keepsParts_finish (by simp)
  | heldLineDetected => exact keepsParts_ite (keepsParts_finish (by simp)) (keepsParts_next s)
  | heldLineEnd => exact keepsParts_ite (keepsParts_finish (by simp)) (keepsParts_next s)
  | busyChange => exact keepsParts_ite (keepsParts_next s) (keepsParts_finish (by split <;> simp))
  | status => exact hearFrame_keepsParts _ _ _ (fun _ => rfl) s
  | claim => exact hearFrame_keepsParts _ _ _ (by simp) s
  | held => exact hearFrame_keepsParts _ _ _ (by simp) s
  | release => exact hearFrame_keepsParts _ _ _ (fun _ => rfl) s
  | noteReady => exact hearFrame_keepsParts _ _ _ (fun _ => rfl) s
  | noteAsk => exact hearFrame_keepsParts _ _ _ (by simp) s
  | notePart => exact hearFrame_keepsParts _ _ _ (fun _ => rfl) s
  | risingEdge i ch cap =>
    cases ch <;> exact keepsParts_ite (keepsParts_finish (by simp)) (keepsParts_next s)
  | frameDropped =>
    refine keepsParts_ite (keepsParts_next s) ?_
    split
    · exact ⟨_, rfl, rfl⟩
    · exact keepsParts_finish (by simp)
  | ownEcho | collision | characterSent =>
    simp only [exec, execOwnEcho, execCollision, execCharacterSent]
    split
    · exact keepsParts_next s
    · exact keepsParts_finish (by simp)
  | freshToStale | staleToSilent | silentRemoval =>
    simp only [exec, execFreshToStale, execStaleToSilent, execSilentRemoval]
    split
    · exact keepsParts_next s
    · exact keepsParts_ite (keepsParts_finish (by simp)) (keepsParts_next s)
  | spacingPeriodEnd =>
    simp only [exec, execSpacingPeriodEnd]
    exact keepsParts_onExpiry (fun d t => by split <;> simp) _ s
  | _ =>
    simp only [exec, execReplyTimerExpiry, execClaimWindowExpiry, execAuthorizationTimeout, execTripIdleTimerExpiry,
      execStampWindowExpiry, execStampLifetimeExpiry, execAckHoldEvent, execRefusalPulseEnd, execLampBlinkPhase,
      execFaultCodePatternPhase, execMeteringTick, execValveStepEnd, execClosingTimerExpiry, execPendingAEdgeTimeout,
      execDriveTimeEnd, execFeedbackWindowClose, execShareTick, execStatusPeriodExpiry, execStatusSpacingExpiry,
      execAloneTimerExpiry, execListenWindowExpiry, execSecondTimer, execBusyTimerExpiry]
    exact keepsParts_onExpiry (fun d t => by simp) _ s

/-! ### The commands of the store port, of reset and of the card reader's gap -/

/-- The store, the supply of free values and the waiting commands. -/
def State.memory (s : State) : List Host.Cell × Nat × List Instr := (s.store, s.free, s.pending)

theorem store_of_memory {t : State} {x : List Host.Cell × Nat × List Instr} (h : t.memory = x) : t.store = x.1 := congrArg (·.1) h

theorem free_of_memory {t : State} {x : List Host.Cell × Nat × List Instr} (h : t.memory = x) : t.free = x.2.1 :=
  congrArg (·.2.1) h

theorem pending_of_memory {t : State} {x : List Host.Cell × Nat × List Instr} (h : t.memory = x) : t.pending = x.2.2 :=
  congrArg (·.2.2) h

@[simp] theorem modSul_memory (s : State) (f : Sul → Sul) : (s.modSul f).memory = s.memory := rfl
@[simp] theorem askRead_memory (owner : Reader) (page : Nat) (s : State) : (askRead owner page s).memory = s.memory := rfl

theorem memory_of_kept {s t : State} (h : t.kept = s.kept) : t.memory = s.memory := by
  simp only [State.kept, Prod.mk.injEq] at h
  simp only [State.memory, h]

@[simp] theorem dropPiu_memory (i : LaneNo) (s : State) : (dropPiu i s).memory = s.memory := by
  unfold dropPiu
  split <;> rfl

@[simp] theorem dropUnfitted_memory (s : State) : (dropUnfitted s).memory = s.memory := by
  simp [dropUnfitted, State.eachLane, allLanes]

@[simp] theorem configFaultAt_memory (code entry : Nat) (s : State) : (configFaultAt code entry s).memory = s.memory := by
  rw [configFaultAt, dropUnfitted_memory]; rfl

@[simp] theorem imageRead_memory (bytes : List Byte) (s : State) : (imageRead bytes s).memory = s.memory := by
  unfold imageRead
  split
  · exact configFaultAt_memory ..
  · rw [askRead_memory, modSul_memory, dropUnfitted_memory]; rfl

theorem sulPage_memory (page : List Byte) (s : State) : (sulPage page s).memory = s.memory := by
  unfold sulPage
  split
  · unfold headerPage
    repeat' split
    · exact configFaultAt_memory ..
    · exact imageRead_memory ..
    · exact memory_of_kept (by simp)
  · unfold imagePage
    split
    · exact imageRead_memory ..
    · rfl
  all_goals first | rfl | exact memory_of_kept (by simp) | (split <;> exact memory_of_kept (by simp))

theorem deliverPage_memory (owner : Reader) (page : List Byte) (s : State) : (deliverPage owner page s).memory = s.memory := by
  cases owner with
  | sul => exact sulPage_memory page s
  | ask => exact memory_of_kept (askPage_kept ..)
  | reprint => exact memory_of_kept (reprintPage_kept ..)
  | noteStatus => exact memory_of_kept (statusPage_kept ..)

/-- Once start-up has completed a page read changes no table. -/
theorem deliverPage_cfg (owner : Reader) (page : List Byte) {s : State} (complete : s.sul.phase = .complete) :
    (deliverPage owner page s).cfg = s.cfg := by
  cases owner with
  | sul => simp [deliverPage, sulPage, complete]
  | ask => exact congrArg (·.1) (askPage_kept page s)
  | reprint => exact congrArg (·.1) (reprintPage_kept page s)
  | noteStatus => exact congrArg (·.1) (statusPage_kept page s)

theorem settle_memory (s : State) : (settle s).memory = s.memory := memory_of_kept (settle_kept s)

theorem settle_cfg (s : State) : (settle s).cfg = s.cfg := congrArg (·.1) (settle_kept s)

theorem settle_store (s : State) : (settle s).store = s.store := store_of_memory (settle_memory s)

theorem readStraps_memory (straps : BitVec 5) (listenOnly : Bool) (s : State) :
    (readStraps straps listenOnly s).memory = s.memory := by
  unfold readStraps
  split
  · rfl
  · exact configFaultAt_memory ..

theorem exec_reset_memory (straps : BitVec 5) (listenOnly : Bool) (s : State) :
    ∃ t, exec (.reset straps listenOnly) s = .next t ∧ t.memory = (storeAfterReset s, freeAfterReset s, s.pending) :=
  ⟨_, rfl, by rw [settle_memory, readStraps_memory]; rfl⟩

/-- What PAGE_READ_COMPLETE can do: nothing with no read at the port, the stop outside the pages, or the page's delivery. -/
theorem exec_pageReadComplete_cases (s : State) :
    exec .pageReadComplete s = .next s ∨
    (∃ r, s.stp.port = .reading r ∧ 2048 ≤ r.page ∧ exec .pageReadComplete s = .fault (.storeAddress r.page)) ∨
    (∃ r, s.stp.port = .reading r ∧ r.page < 2048 ∧ exec .pageReadComplete s =
      finish (deliverPage r.owner (readPage s.store r.page) (s.modStp fun p => { p with port := .idle, lastRead := true }))) := by
  simp only [exec, execPageReadComplete]
  split
  · rename_i r port
    split
    · rename_i low
      exact .inr (.inr ⟨r, port, low, rfl⟩)
    · rename_i high
      exact .inr (.inl ⟨r, port, Nat.le_of_not_lt high, rfl⟩)
  · exact .inl rfl

/-- The state in which a page write that is complete has changed the memory. -/
def written (w : PageWrite) (due : Nat) (s : State) : State :=
  ({ s with store := applyWrite s.store w }.reach due).modStp fun p => { p with port := .idle, lastRead := false }

/-- What PAGE_WRITE_COMPLETE can do: nothing with no write at the port, the stop outside a page, or the write. -/
theorem exec_pageWriteComplete_cases (s : State) :
    exec .pageWriteComplete s = .next s ∨
    (∃ w due, s.stp.port = .writing w due ∧ w.inRange = false ∧ exec .pageWriteComplete s = .fault (.storeAddress w.page)) ∨
    (∃ w due, s.stp.port = .writing w due ∧ w.inRange = true ∧
      exec .pageWriteComplete s = finish (stepDone (written w due s))) := by
  simp only [exec, execPageWriteComplete]
  split
  · rename_i w due port
    cases h : w.inRange with
    | true => exact .inr (.inr ⟨w, due, port, h, rfl⟩)
    | false => exact .inr (.inl ⟨w, due, port, h, rfl⟩)
  · exact .inl rfl

theorem exec_readerByteGapTimeout_memory (s : State) :
    ∃ t, exec .readerByteGapTimeout s = .next t ∧ t.memory = s.memory ∧ t.cfg = s.cfg := by
  simp only [exec, execReaderByteGapTimeout, onExpiry]
  split
  · exact ⟨s, rfl, rfl, rfl⟩
  · exact ⟨_, rfl, settle_memory _, settle_cfg _⟩

theorem stepDone_written_memory (w : PageWrite) (due : Nat) (s : State) :
    (settle (stepDone (written w due s))).memory = (applyWrite s.store w, s.free, s.pending) := by
  rw [settle_memory, memory_of_kept (stepDone_kept _)]; rfl

/-! ### A law that every step keeps -/

/-- A law keeps through a step when it does not speak of the queue of commands, every command keeps it, and a microsecond does. -/
theorem step_keeps {law : State → Prop} (queue : ∀ s q, law s → law { s with pending := q })
    (command : ∀ c s t, law s → exec c s = .next t → law t) (quiet : ∀ s, law s → law (microsecond s)) (s t : State)
    (h : law s) (next : step s = .next t) : law t := by
  unfold step at next
  split at next
  · obtain rfl : tick s = t := by simpa using next
    obtain ⟨c, rest, -, e⟩ | ⟨-, e⟩ := tick_cases s
    · rw [e]; exact queue s _ h
    · rw [e]; exact quiet s h
  · exact command _ _ t (queue s _ h) next

/-! ### The store -/

theorem exec_storeOk {c : Instr} {s t : State} (ok : s.StoreOk) (next : exec c s = .next t) : t.StoreOk := by
  by_cases h : changesParts c = false
  · obtain ⟨u, e, kept⟩ := exec_keepsParts h s
    obtain rfl : u = t := by simpa [e] using next
    rw [State.StoreOk, store_of_memory (memory_of_kept kept)]
    exact ok
  · cases c with
    | reset straps listenOnly =>
      obtain ⟨u, e, memory⟩ := exec_reset_memory straps listenOnly s
      obtain rfl : u = t := by simpa [e] using next
      rw [State.StoreOk, store_of_memory memory]
      exact wf_storeAfterReset ok
    | pageReadComplete =>
      obtain e | ⟨r, -, -, e⟩ | ⟨r, -, -, e⟩ := exec_pageReadComplete_cases s
      · obtain rfl : s = t := by simpa [e] using next
        exact ok
      · simp [e] at next
      · obtain rfl : settle _ = t := by simpa [e, finish] using next
        rw [State.StoreOk, settle_store, store_of_memory (deliverPage_memory ..)]
        exact ok
    | pageWriteComplete =>
      obtain e | ⟨w, due, -, -, e⟩ | ⟨w, due, -, inside, e⟩ := exec_pageWriteComplete_cases s
      · obtain rfl : s = t := by simpa [e] using next
        exact ok
      · simp [e] at next
      · obtain rfl : settle _ = t := by simpa [e, finish] using next
        rw [State.StoreOk, store_of_memory (stepDone_written_memory ..)]
        exact wf_applyWrite ok inside
    | readerByteGapTimeout =>
      obtain ⟨u, e, memory, -⟩ := exec_readerByteGapTimeout_memory s
      obtain rfl : u = t := by simpa [e] using next
      rw [State.StoreOk, store_of_memory memory]
      exact ok
    | _ => exact absurd rfl h

end Sys2Proof.Machine

open Sys2Proof Sys2Proof.Machine

/-- Settles O1: `step` and `tick` by their cases on the queue and on the events that are due. -/
theorem stepRunsFrontCommand : Obligations.StepRunsFrontCommand := by
  refine ⟨fun c rest s pending => ?_, fun c rest s pending due => ?_, fun s pending due => ?_⟩
  · simp only [step, pending]
  · simp only [step, pending, tick, due]
  · simp only [step, pending, tick, due]

/-- Settles O57: only the completion of a page write and a reset change the store, each by a write inside one page. -/
theorem storeStaysCanonical : Obligations.StoreStaysCanonical := by
  intro s t
  exact step_keeps (fun _ _ h => h) (fun _ _ _ => exec_storeOk) (fun u h => by rwa [State.StoreOk, microsecond_store]) s t

/-- Settles O3: the four commands that touch the store, the tables or the supply, and `exec_keepsParts` for every other. -/
theorem commandsAnswer : Obligations.CommandsAnswer := by
  refine ⟨fun c s => ?_, fun c s t next noReset => ?_⟩
  · by_cases h : changesParts c = false
    · obtain ⟨t, e, kept⟩ := exec_keepsParts h s
      exact .inl ⟨t, e, pending_of_memory (memory_of_kept kept)⟩
    · cases c with
      | reset straps listenOnly =>
        obtain ⟨t, e, memory⟩ := exec_reset_memory straps listenOnly s
        exact .inl ⟨t, e, pending_of_memory memory⟩
      | pageReadComplete =>
        obtain e | stop | ⟨r, -, -, e⟩ := exec_pageReadComplete_cases s
        · exact .inl ⟨s, e, rfl⟩
        · exact .inr (.inl ⟨rfl, stop⟩)
        · exact .inl ⟨_, e, pending_of_memory ((settle_memory _).trans (deliverPage_memory ..))⟩
      | pageWriteComplete =>
        obtain e | stop | ⟨w, due, -, -, e⟩ := exec_pageWriteComplete_cases s
        · exact .inl ⟨s, e, rfl⟩
        · exact .inr (.inr ⟨rfl, stop⟩)
        · exact .inl ⟨_, e, pending_of_memory (stepDone_written_memory ..)⟩
      | readerByteGapTimeout =>
        obtain ⟨t, e, memory, -⟩ := exec_readerByteGapTimeout_memory s
        exact .inl ⟨t, e, pending_of_memory memory⟩
      | _ => exact absurd rfl h
  · by_cases h : changesParts c = false
    · obtain ⟨u, e, kept⟩ := exec_keepsParts h s
      obtain rfl : u = t := by simpa [e] using next
      exact ⟨fun _ => store_of_memory (memory_of_kept kept), free_of_memory (memory_of_kept kept), fun _ => congrArg (·.1) kept⟩
    · cases c with
      | reset straps listenOnly => exact absurd rfl (noReset straps listenOnly)
      | pageReadComplete =>
        obtain e | ⟨r, -, -, e⟩ | ⟨r, -, -, e⟩ := exec_pageReadComplete_cases s
        · obtain rfl : s = t := by simpa [e] using next
          exact ⟨fun _ => rfl, rfl, fun _ => rfl⟩
        · simp [e] at next
        · obtain rfl : settle _ = t := by simpa [e, finish] using next
          have memory := (settle_memory _).trans (deliverPage_memory r.owner (readPage s.store r.page)
            (s.modStp fun p => { p with port := .idle, lastRead := true }))
          exact ⟨fun _ => store_of_memory memory, free_of_memory memory, fun complete => by
            rw [settle_cfg, deliverPage_cfg]
            · rfl
            · exact complete⟩
      | pageWriteComplete =>
        obtain e | ⟨w, due, -, -, e⟩ | ⟨w, due, -, -, e⟩ := exec_pageWriteComplete_cases s
        · obtain rfl : s = t := by simpa [e] using next
          exact ⟨fun _ => rfl, rfl, fun _ => rfl⟩
        · simp [e] at next
        · obtain rfl : settle _ = t := by simpa [e, finish] using next
          refine ⟨fun no => absurd rfl no, free_of_memory (stepDone_written_memory w due s), fun _ => ?_⟩
          rw [settle_cfg]
          exact congrArg (·.1) (stepDone_kept (written w due s))
      | readerByteGapTimeout =>
        obtain ⟨u, e, memory, cfg⟩ := exec_readerByteGapTimeout_memory s
        obtain rfl : u = t := by simpa [e] using next
        exact ⟨fun _ => store_of_memory memory, free_of_memory memory, fun _ => cfg⟩
      | _ => exact absurd rfl h
end

section
/-! Reset (R201, R202): the state it leaves, and the bytes of the store. -/

namespace Sys2Proof.Machine

/-- A lane with nothing in its PIU stays as it is when the PIU is dropped. -/
theorem dropPiu_of_clean {i : LaneNo} {s : State} (clean : (s.lane i).piu = {}) : dropPiu i s = s := by
  have same : s.modPiu i (fun _ => {}) = s := by
    have e : ({ s.lanes[i] with piu := {} } : Lane) = s.lanes[i] := by
      change (s.lanes[i]).piu = {} at clean
      rw [← clean]
    change ({ s with lanes := s.lanes.set i { s.lanes[i] with piu := {} } } : State) = s
    rw [e, Fin.getElem_fin, Vector.set_getElem_self]
  unfold dropPiu
  split
  · rfl
  · exact same

theorem dropUnfitted_of_clean {s : State} (clean : ∀ i, (s.lane i).piu = {}) : dropUnfitted s = s := by
  unfold dropUnfitted State.eachLane
  induction allLanes with
  | nil => rfl
  | cons i rest ih => rw [List.foldl_cons, dropPiu_of_clean (clean i), ih]

theorem resetBlocks_clean (s : State) (i : LaneNo) : ((resetBlocks s).lane i).piu = {} := by
  simp [resetBlocks, State.lane, resetLane]

theorem exec_reset_valid {straps : BitVec 5} (listenOnly : Bool) (s : State) (valid : 1 ≤ straps.toNat ∧ straps.toNat ≤ 24) :
    exec (.reset straps listenOnly) s = .next { resetBlocks s with
      lif := { station := straps.toNat, listenOnly := listenOnly }
      sul := { phase := .header }
      stp := { port := .reading ⟨.sul, 0⟩ } } := by
  change finish (readStraps straps listenOnly (resetBlocks s)) = _
  unfold readStraps
  dsimp only
  rw [if_pos valid, finish, settle_calm ⟨⟨rfl, rfl⟩, by rintro ⟨⟩⟩]
  rfl

theorem dropUnfitted_resetBlocks (lif : Lif) (sul : Sul) (s : State) :
    dropUnfitted { resetBlocks s with lif := lif, sul := sul } = { resetBlocks s with lif := lif, sul := sul } :=
  dropUnfitted_of_clean fun i => resetBlocks_clean s i

theorem exec_reset_invalid {straps : BitVec 5} (listenOnly : Bool) (s : State)
    (invalid : straps.toNat = 0 ∨ 24 < straps.toNat) :
    exec (.reset straps listenOnly) s = .next { resetBlocks s with
      lif := { listenOnly := listenOnly }
      sul := { phase := .settle, code := 10 } } := by
  change finish (readStraps straps listenOnly (resetBlocks s)) = _
  unfold readStraps
  dsimp only
  rw [if_neg (by omega)]
  change finish (dropUnfitted { resetBlocks s with
      lif := { listenOnly := listenOnly }
      sul := { phase := .settle, code := 10 } }) = _
  rw [dropUnfitted_resetBlocks, finish, settle_calm ⟨⟨rfl, rfl⟩, by rintro ⟨⟩⟩]
  rfl

/-- The state right after reset has every law that the steps keep. -/
theorem reset_lawful : State.reset.StoreOk ∧ State.reset.QueueOk ∧ State.reset.ListsOk ∧ State.reset.OutputsOk ∧
    State.reset.SlotOk ∧ State.reset.PeersOk ∧ State.reset.StartOk ∧ State.reset.IdleOk ∧ State.reset.PortOk ∧
    State.reset.noReportDue := by
  refine ⟨rfl, ⟨by decide, List.Pairwise.nil⟩, by simp [State.ListsOk, State.reset], ⟨by decide, by decide, by decide⟩,
    by simp [State.SlotOk, State.reset], ⟨List.Pairwise.nil, by simp [State.reset]⟩, by simp [State.StartOk, State.reset],
    by simp [State.IdleOk, State.reset], ⟨by decide, by decide⟩, ⟨rfl, rfl⟩⟩

end Sys2Proof.Machine

open Sys2Proof Sys2Proof.Machine

/-- Settles O4, by evaluating the reset up to the store port's next operation. -/
theorem resetState : Obligations.ResetState :=
  ⟨fun _ listenOnly s => ⟨exec_reset_valid listenOnly s, exec_reset_invalid listenOnly s, rfl⟩, reset_lawful⟩

end

section
/-! Messages and bytes that are no event (R1, R147), the WRITE of a stamp, and what becomes of it (R26, R27, R179). -/

namespace Sys2Proof.Machine

/-! ### The answer of a timer -/

theorem onExpiry_some {due : Option Nat} {d : Nat} (running : due = some d) (effect : Nat → State → State) (s : State) :
    onExpiry due effect s = finish (effect d (s.reach d)) := by rw [running]; rfl

theorem onExpiry_none {due : Option Nat} (stopped : due = none) (effect : Nat → State → State) (s : State) :
    onExpiry due effect s = .next s := by rw [stopped]; rfl

/-! ### Messages of the reader -/

/-- A good message is taken as the event of its kind (log 44). -/
theorem exec_readerMessageDiscarded_good {raw : List Byte} (good : readerMessageOk raw = true) (s : State) :
    exec (.readerMessageDiscarded raw) s = exec (match fieldNat raw 0 1 with
      | 1 => .card (field raw 2 (fieldNat raw 1 1))
      | 2 => .writeDone
      | _ => .writeFail) s := by
  change (if readerMessageOk raw then takeMessage raw s else .next s) = _
  rw [if_pos good, takeMessage]
  generalize fieldNat raw 0 1 = kind
  match kind with
  | 0 | 1 | 2 | _ + 3 => rfl

theorem exec_readerMessageDiscarded_bad {raw : List Byte} (bad : readerMessageOk raw = false) (s : State) :
    exec (.readerMessageDiscarded raw) s = .next s := by
  change (if readerMessageOk raw then takeMessage raw s else .next s) = _
  rw [if_neg (by simp [bad])]

theorem exec_readerByteGapTimeout_some {s : State} {d : Nat} (running : s.crd.gap = some d) :
    exec .readerByteGapTimeout s = finish { s.reach d with crd := {} } := by
  change execReaderByteGapTimeout s = _
  rw [execReaderByteGapTimeout, onExpiry_some running]

theorem exec_readerByteGapTimeout_none {s : State} (stopped : s.crd.gap = none) :
    exec .readerByteGapTimeout s = .next s := by
  change execReaderByteGapTimeout s = _
  rw [execReaderByteGapTimeout, onExpiry_none stopped]

theorem exec_ackHoldEvent_none {s : State} (stopped : s.ilm.ackHold = none) :
    exec .ackHoldEvent s = .next s := onExpiry_none stopped _ s

theorem exec_reply_without_write {s : State} (quiet : s.pct.write = none) :
    exec .writeDone s = .next s ∧ exec .writeFail s = .next s := by
  change takeReply true s = _ ∧ takeReply false s = _
  simp [takeReply, quiet]

/-! ### A card that has its stamp written (R7, R26, R27) -/

/-- What becomes of a card whose block asks for this. -/
def cardAnswer (block : List Byte) (s : State) : CardAction → Answer
  | .ignore => .next s
  | .refuse r => finish (refuseCard r s)
  | .takeTrip => finish (takeTrip (cardTrip block) s)
  | .writeTrip => finish (writeTripStamp s)
  | .writePending => finish (writePending s)

theorem exec_card_of_action {block : List Byte} {s : State} {a : CardAction} (action : cardAction block s = a) :
    exec (.card block) s = cardAnswer block s a := by
  change takeCard block s = _
  rw [takeCard, action]
  cases a <;> rfl

/-- What a card asks for, when intake is open to it and its block is good. -/
theorem cardAction_good {block : List Byte} {s : State} (done : s.sul.done = true) (quiet : s.pct.write = none)
    (good : intakeCheck block = none) :
    cardAction block s = match s.pct.slot with
      | .empty => if pendingFor s (fieldWord block 6) then .writePending else .takeTrip
      | .awaitStamp => if s.permit = some (fieldWord block 6) then .writeTrip else .ignore
      | _ => if s.permit = some (fieldWord block 6) then .ignore
        else if pendingFor s (fieldWord block 6) then .writePending else .ignore := by
  simp only [cardAction, done, quiet, cardAtEmpty, cardAtStamp, cardDuringTrip, good]
  rfl

theorem pendingFor_iff (s : State) (permit : Word32) :
    pendingFor s permit = true ↔ s.pct.pendingStamp.map (·.permit) = some permit := by simp [pendingFor]

theorem writeTripStamp_of_stamp {s : State} {st : Stamp} (stamp : s.pct.stamp = some st) :
    writeTripStamp s = { s with
      outbox := s.outbox ++ [.reader (writeMessage st.bytes)]
      pct := { s.pct with write := some .trip, replyTimer := some (s.now + 2000000), stampWindow := none } } := by
  rw [writeTripStamp, stamp]
  rfl

theorem writePending_of_stamp {s : State} {st : Stamp} (pending : s.pct.pendingStamp = some st) :
    writePending s = { s with
      outbox := s.outbox ++ [.reader (writeMessage st.bytes)]
      pct := { s.pct with write := some .pendingStamp, replyTimer := some (s.now + 2000000) } } := by
  rw [writePending, pending]
  rfl

/-- The pending stamp's permit has it written, with the slot EMPTY or during another trip. -/
theorem cardAction_pending {block : List Byte} {s : State} (done : s.sul.done = true) (quiet : s.pct.write = none)
    (good : intakeCheck block = none) (own : pendingFor s (fieldWord block 6) = true) (waits : s.pct.slot ≠ .awaitStamp)
    (other : s.pct.slot = .empty ∨ s.permit ≠ some (fieldWord block 6)) : cardAction block s = .writePending := by
  rw [cardAction_good done quiet good]
  cases slot : s.pct.slot with
  | empty => simp [own]
  | awaitStamp => exact absurd slot waits
  | checking | claiming | authorized | released | closing =>
    have ne : s.permit ≠ some (fieldWord block 6) := by simpa [slot] using other
    simp [ne, own]

/-- Any other card during a trip is ignored. -/
theorem cardAction_during {block : List Byte} {s : State} (done : s.sul.done = true) (quiet : s.pct.write = none)
    (good : intakeCheck block = none) (held : s.pct.slot ≠ .empty) (waits : s.pct.slot ≠ .awaitStamp)
    (other : s.permit = some (fieldWord block 6) ∨ pendingFor s (fieldWord block 6) = false) :
    cardAction block s = .ignore := by
  rw [cardAction_good done quiet good]
  cases slot : s.pct.slot with
  | empty => exact absurd slot held
  | awaitStamp => exact absurd slot waits
  | checking | claiming | authorized | released | closing =>
    obtain same | strange := other
    · simp [same]
    · simp [strange]

/-! ### A request of a note's status (R179) -/

@[simp] theorem joinStatus_steady (r : StatusReq) (s : State) : (joinStatus r s).steady = s.steady := by
  unfold joinStatus
  split <;> rfl

@[simp] theorem requestStatus_steady (note : Nat) (f : StatusField) (code : Nat) (s : State) :
    (requestStatus note f code s).steady = s.steady := by
  unfold requestStatus
  split
  · split
    · rename_i t e
      exact enqueue_steady_of e
    · rename_i t e
      rw [joinStatus_steady, enqueue_steady_of e]
  · simp

/-- A request that is no checkpoint joins the tail of a queue with room while another is in flight. -/
theorem enqueue_tail {q : QItem} {s : State} (plain : checkLine q.req = none) (room : s.stp.queue.length < 12)
    (flight : s.stp.flight.isSome = true) :
    enqueue q s = (true, s.modStp fun p => { p with queue := p.queue ++ [q] }) := by
  rw [enqueue, if_neg (by simp [sameLineWaits, plain]), if_pos (show s.stp.queue.length < Config.queueSize from room),
    startNext_busy _ (by exact flight)]

theorem requestStatus_tail {s : State} (none : s.ntb.statusList = []) (room : s.stp.queue.length < 12)
    (flight : s.stp.flight.isSome = true) (note : Nat) (f : StatusField) (code : Nat) :
    requestStatus note f code s =
      s.modStp fun p => { p with queue := p.queue ++ [⟨.noteStatus note f code, false⟩] } := by
  rw [requestStatus, if_pos none, enqueue_tail rfl room flight]

/-- A request made in a calm event, with room in the queue and another in flight, waits at the queue's tail. -/
theorem settle_requestStatus_queue {s : State} (calm : s.Calm) (none : s.ntb.statusList = [])
    (room : s.stp.queue.length < 12) (flight : s.stp.flight.isSome = true) (note : Nat) (f : StatusField) (code : Nat) :
    (settle (requestStatus note f code s)).stp.queue = s.stp.queue ++ [⟨.noteStatus note f code, false⟩] := by
  rw [requestStatus_tail none room flight, (settle_queue_flight (by exact calm)).1]
  rfl

theorem refreshLamps_ntb (s : State) : (refreshLamps s).ntb = s.ntb := by
  unfold refreshLamps
  split <;> rfl

theorem portKick_ntb (s : State) : (portKick s).ntb = s.ntb := by
  unfold portKick
  repeat' split
  all_goals rfl

theorem idleTimer_ntb (s : State) : (idleTimer s).ntb = s.ntb := by
  unfold idleTimer
  repeat' split
  all_goals rfl

/-- An event that leaves no report due ends with the Note Builder as it is. -/
theorem settle_ntb {s : State} (calm : s.Calm) : (settle s).ntb = s.ntb := by
  rw [settle_calm calm, portKick_ntb, refreshLamps_ntb, idleTimer_ntb]

/-- With requests held and room among them, one more is held behind them. -/
theorem settle_requestStatus_held {s : State} (calm : s.Calm) (some : s.ntb.statusList ≠ [])
    (room : s.ntb.statusList.length < 8) (note : Nat) (f : StatusField) (code : Nat) :
    (settle (requestStatus note f code s)).ntb.statusList = s.ntb.statusList ++ [⟨note, f, code⟩] := by
  have held : requestStatus note f code s =
      s.modNtb fun x => { x with statusList := x.statusList ++ [⟨note, f, code⟩] } := by
    rw [requestStatus, if_neg some, joinStatus, if_pos (show s.ntb.statusList.length < Config.statusListSize from room)]
  rw [held, settle_ntb (by exact calm)]
  rfl

/-! ### The outcome of a WRITE -/

theorem exec_writeDone {s : State} (outstanding : s.pct.write.isSome = true) :
    exec .writeDone s = finish (writeSucceeded s) := by
  change takeReply true s = _
  rw [takeReply, if_pos outstanding]
  rfl

theorem exec_writeFail {s : State} (outstanding : s.pct.write.isSome = true) :
    exec .writeFail s = finish (writeFailed s) := by
  change takeReply false s = _
  rw [takeReply, if_pos outstanding]
  rfl

theorem exec_replyTimerExpiry {s : State} {d : Nat} (running : s.pct.replyTimer = some d) :
    exec .replyTimerExpiry s = finish (writeFailed (s.reach d)) := onExpiry_some running _ s

/-- The WRITE failed: by the reader's word, or with no reply in its time. -/
theorem exec_failed {s : State} {c : Instr} {now : Nat} (outstanding : s.pct.write.isSome = true)
    (failed : (c = .writeFail ∧ now = s.now) ∨ ∃ d, c = .replyTimerExpiry ∧ s.pct.replyTimer = some d ∧ now = max s.now d) :
    exec c s = finish (writeFailed { s with now := now }) := by
  obtain ⟨rfl, rfl⟩ | ⟨d, rfl, running, rfl⟩ := failed
  · exact exec_writeFail outstanding
  · exact exec_replyTimerExpiry running

/-- The slot emptied, with no WRITE outstanding. -/
def State.written (s : State) : State :=
  { s with pct := { s.pct with
      slot := .empty, trip := none, heard := false, stamp := none, stampWindow := none, write := none
      replyTimer := none } }

theorem writeSucceeded_trip {s : State} {st : Stamp} (write : s.pct.write = some .trip) (stamp : s.pct.stamp = some st) :
    writeSucceeded s = requestStatus st.note .stamp stampStamped s.written := by
  rw [writeSucceeded, write]
  dsimp only
  rw [stamp]
  rfl

theorem writeFailed_trip {s : State} {st : Stamp} (write : s.pct.write = some .trip) (stamp : s.pct.stamp = some st) :
    writeFailed s = { s with pct := { s.written.pct with
      pendingStamp := some st, lifetime := some (s.now + 600000000), lifetimeHeld := false } } := by
  rw [writeFailed, write, ← stamp]
  rfl

/-- The pending slot emptied, with no WRITE outstanding. -/
def Pct.unpended (p : Pct) : Pct := { p with pendingStamp := none, lifetime := none, lifetimeHeld := false }

/-- No WRITE outstanding. -/
def Pct.replied (p : Pct) : Pct := { p with write := none, replyTimer := none }

theorem lapsePending_of_stamp {s : State} {st : Stamp} (stamp : s.pct.pendingStamp = some st) :
    lapsePending s = requestStatus st.note .stamp stampLapsed (clearPending s) := by
  rw [lapsePending, stamp]

theorem writeSucceeded_pending {s : State} {st : Stamp} (write : s.pct.write = some .pendingStamp)
    (stamp : s.pct.pendingStamp = some st) :
    writeSucceeded s = requestStatus st.note .stamp stampStamped { s with pct := s.pct.replied.unpended } := by
  rw [writeSucceeded, write]
  dsimp only
  rw [stamp]
  rfl

theorem writeFailed_pending {s : State} (write : s.pct.write = some .pendingStamp) (runs : s.pct.lifetimeHeld = false) :
    writeFailed s = { s with pct := s.pct.replied } := by
  rw [writeFailed, write]
  dsimp only
  rw [if_neg (by simp [runs])]
  rfl

theorem writeFailed_lapsed {s : State} {st : Stamp} (write : s.pct.write = some .pendingStamp)
    (stamp : s.pct.pendingStamp = some st) (lapsed : s.pct.lifetimeHeld = true) :
    writeFailed s = requestStatus st.note .stamp stampLapsed { s with pct := s.pct.replied.unpended } := by
  rw [writeFailed, write]
  dsimp only
  rw [if_pos lapsed, lapsePending_of_stamp (by exact stamp)]
  rfl

theorem writeSucceeded_displaced {s : State} {note : Nat} (write : s.pct.write = some (.displaced note)) :
    writeSucceeded s = requestStatus note .stamp stampStamped { s with pct := s.pct.replied } := by
  rw [writeSucceeded, write]
  rfl

theorem writeFailed_displaced {s : State} {note : Nat} (write : s.pct.write = some (.displaced note)) :
    writeFailed s = { s with pct := s.pct.replied } := by
  rw [writeFailed, write]
  rfl

/-! ### The stamp window and the pending lifetime -/

theorem exec_stampWindowExpiry {s : State} {d : Nat} (running : s.pct.stampWindow = some d) (slot : s.pct.slot = .awaitStamp) :
    exec .stampWindowExpiry s = finish (stampToPending (s.reach d)) := by
  change onExpiry _ _ s = _
  rw [onExpiry_some running, stampWindowEnd, if_pos (by exact slot)]

theorem exec_stampLifetimeExpiry {s : State} {d : Nat} (running : s.pct.lifetime = some d) :
    exec .stampLifetimeExpiry s = finish (lifetimeEnd (s.reach d)) := onExpiry_some running _ s

theorem lifetimeEnd_held {s : State} (write : s.pct.write = some .pendingStamp) :
    lifetimeEnd s = { s with pct := { s.pct with lifetime := none, lifetimeHeld := true } } := by
  rw [lifetimeEnd, if_pos write]
  rfl

theorem lifetimeEnd_lapsed {s : State} {st : Stamp} (write : s.pct.write ≠ some .pendingStamp)
    (stamp : s.pct.pendingStamp = some st) :
    lifetimeEnd s = requestStatus st.note .stamp stampLapsed { s with pct := s.pct.unpended } := by
  rw [lifetimeEnd, if_neg write, lapsePending_of_stamp (by exact stamp)]
  rfl

end Sys2Proof.Machine

open Sys2Proof Sys2Proof.Machine

/-- Settles O14, by what a card asks for in each state of the slot. -/
theorem cardWritesStamp : Obligations.CardWritesStamp := by
  intro block s done quiet good
  refine ⟨?_, ?_, ?_, ?_⟩
  · intro tr st calm slot trip stamp same
    have action : cardAction block s = .writeTrip := by
      rw [cardAction_good done quiet good, slot]
      exact if_pos (by simp [State.permit, trip, same])
    exact yields_of_finish ((exec_card_of_action action).trans (congrArg finish (writeTripStamp_of_stamp stamp))) calm
  · intro st calm pending same waits other
    have own : pendingFor s (fieldWord block 6) = true := by simp [pendingFor_iff, pending, same]
    have action := cardAction_pending done quiet good own waits other
    exact yields_of_finish ((exec_card_of_action action).trans (congrArg finish (writePending_of_stamp pending))) calm
  · intro held waits other
    exact exec_card_of_action (cardAction_during done quiet good held waits
      (other.imp_right fun ne => by rw [← Bool.not_eq_true, pendingFor_iff]; exact ne))
  · intro slot other
    have action : cardAction block s = .ignore := by
      rw [cardAction_good done quiet good, slot]
      exact if_neg other
    exact exec_card_of_action action

/-- Settles O15, by evaluating each command in the case in which it is no event. -/
theorem discardedMessages : Obligations.DiscardedMessages := by
  refine ⟨fun s => ⟨fun raw => ⟨fun bad => exec_readerMessageDiscarded_bad bad s,
      fun good => exec_readerMessageDiscarded_good good s⟩,
    exec_readerByteGapTimeout_none, fun d calm running => ?_, exec_reply_without_write, ?_, ?_, ?_, ?_,
    exec_ackHoldEvent_none⟩, ?_, ?_⟩
  · exact yields_of_finish (exec_readerByteGapTimeout_some running) calm
  · exact fun pressed => if_pos pressed
  · exact fun pressed => if_pos pressed
  · exact fun pressed => if_pos pressed
  · exact fun released => if_neg (by simp [released])
  · intro s quiet
    refine ⟨?_, fun framing raw bad => ?_⟩
    · change execCollision s = _
      rw [execCollision, quiet]
    · change execFrameDropped framing raw s = _
      rw [execFrameDropped, if_neg (by simp [bad]), quiet]
      rfl
  · exact fun framing raw s good => if_pos good

/-- Settles O16, by the effect of each outcome; a status request that it makes waits at the queue's tail. -/
theorem stampOutcomes : Obligations.StampOutcomes := by
  refine ⟨fun s st write stamp => ⟨⟨_, exec_writeDone (by simp [write]), ?_, ?_⟩, fun calm => ⟨?_, fun d running => ?_⟩⟩,
    fun s c now => ⟨fun st write stamp => ⟨⟨_, exec_writeDone (by simp [write]), ?_, ?_⟩, fun failed runs calm => ?_,
      fun failed lapsed => ⟨_, exec_failed (by simp [write]) failed, ?_, ?_⟩⟩,
      fun note write => ⟨⟨_, exec_writeDone (by simp [write]), ?_, ?_⟩, fun failed calm => ?_⟩⟩,
    fun s => ⟨fun d calm quiet running slot => ?_, fun d running => ⟨fun calm write => ?_, fun st write stamp => ?_⟩⟩⟩
  · rw [settle_steady, writeSucceeded_trip write stamp, requestStatus_steady]
    rfl
  · intro calm none room flight
    rw [writeSucceeded_trip write stamp]
    exact settle_requestStatus_queue (s := s.written) calm none room flight _ _ _
  · exact yields_of_finish ((exec_writeFail (by simp [write])).trans (by rw [writeFailed_trip write stamp]; rfl)) calm
  · exact yields_of_finish ((exec_replyTimerExpiry running).trans
      (by rw [writeFailed_trip (s := s.reach d) write stamp]; rfl)) calm
  · rw [settle_steady, writeSucceeded_pending write stamp, requestStatus_steady]
    rfl
  · intro calm none room flight
    rw [writeSucceeded_pending write stamp]
    exact settle_requestStatus_queue (s := { s with pct := s.pct.replied.unpended }) calm none room flight _ _ _
  · exact yields_of_finish ((exec_failed (by simp [write]) failed).trans
      (by rw [writeFailed_pending (s := { s with now := now }) write runs]; rfl)) calm
  · rw [settle_steady, writeFailed_lapsed (s := { s with now := now }) write stamp lapsed, requestStatus_steady]
    rfl
  · intro calm none room flight
    rw [writeFailed_lapsed (s := { s with now := now }) write stamp lapsed]
    exact settle_requestStatus_queue (s := { s with now := now, pct := s.pct.replied.unpended }) calm none room flight _ _ _
  · rw [settle_steady, writeSucceeded_displaced write, requestStatus_steady]
    rfl
  · intro calm none room flight
    rw [writeSucceeded_displaced write]
    exact settle_requestStatus_queue (s := { s with pct := s.pct.replied }) calm none room flight _ _ _
  · exact yields_of_finish ((exec_failed (by simp [write]) failed).trans
      (by rw [writeFailed_displaced (s := { s with now := now }) write]; rfl)) calm
  · exact yields_of_finish (exec_stampWindowExpiry running slot) calm
  · exact yields_of_finish ((exec_stampLifetimeExpiry running).trans
      (by rw [lifetimeEnd_held (s := s.reach d) write]; rfl)) calm
  · refine ⟨_, (exec_stampLifetimeExpiry running).trans (by rw [lifetimeEnd_lapsed (s := s.reach d) write stamp]; rfl), ?_,
      ?_, ?_⟩
    · rw [settle_steady, requestStatus_steady]
      rfl
    · exact fun calm none room flight =>
        settle_requestStatus_queue (s := { s.reach d with pct := s.pct.unpended }) calm none room flight _ _ _
    · exact fun calm some room =>
        settle_requestStatus_held (s := { s.reach d with pct := s.pct.unpended }) calm some room _ _ _

end

section
/-! Keys, lamps and meter edges (R38, R41 to R45, R74 to R77, R83, R84). -/

namespace Sys2Proof.Machine

/-- A command leaves any state that its effect differs from in nothing but what the reports may change. -/
theorem leaves_of_steady {c : Instr} {s u v : State} (answer : exec c s = finish u) (steady : u.steady = v.steady)
    (lanes : u.lanes = v.lanes) : Leaves c s v := by
  obtain ⟨t, next, same, stays⟩ := leaves_of_finish answer
  exact ⟨t, next, same.trans steady, fun i ne => (stays i (by rwa [State.stage, lane_of_lanes lanes])).trans (lane_of_lanes lanes i)⟩

/-! ### ACK (R38, R41, R42) -/

theorem eachLane_modLane (f : Lane → Lane) (s : State) :
    s.eachLane (fun i => State.modLane i f) = { s with lanes := s.lanes.map f } := by
  have lanes : (s.eachLane fun i => State.modLane i f).lanes = s.lanes.map f := by
    ext k lt
    simp only [State.eachLane, allLanes, List.foldl, State.modLane, Fin.getElem_fin, Vector.getElem_set, Vector.getElem_map]
    match k, lt with
    | 0, _ | 1, _ | 2, _ | 3, _ => simp
  rw [← lanes]
  rfl

theorem ackEffect_eq (s : State) :
    ackEffect s = { s with
      ilm := { clearLatches s s.ilm with ackHold := some (s.now + Config.holdTime) }
      lanes := s.lanes.map fun l => { l with leak := 0, leakCarry := 0 } } := by
  rw [ackEffect]
  exact eachLane_modLane _ _

theorem exec_ackPress {s : State} (done : s.sul.done = true) (released : s.ilm.ackKey = false) :
    exec .ackPress s = finish (ackEffect (s.modIlm fun m => { m with ackKey := true })) := by
  change execAckPress s = _
  rw [execAckPress, if_neg (by simp [released])]
  dsimp only
  rw [if_pos (by exact done)]

theorem exec_ackRelease {s : State} (pressed : s.ilm.ackKey = true) :
    exec .ackRelease s = finish (s.modIlm fun m => { m with ackKey := false, ackHold := none }) := if_pos pressed

theorem exec_ackHoldEvent {s : State} {d : Nat} (running : s.ilm.ackHold = some d) :
    exec .ackHoldEvent s = finish (holdEffect (s.reach d)) := by
  change execAckHoldEvent s = _
  rw [execAckHoldEvent, onExpiry_some running]

/-- R37: own RSTOP released, some peer entry halting, and every halting one SILENT. -/
def State.Overrides (s : State) : Prop :=
  s.ilm.rstop = false ∧ (∃ e ∈ s.lif.peers, e.halt = true) ∧ ∀ e ∈ s.lif.peers, e.halt = true → e.age = .silent

theorem overrideHolds_iff (s : State) : overrideHolds s = true ↔ s.Overrides := by
  simp only [overrideHolds, State.Overrides, Bool.and_eq_true, Bool.not_eq_true', List.any_eq_true, List.all_eq_true,
    Bool.or_eq_true, decide_eq_true_eq, and_assoc]
  refine and_congr_right fun _ => and_congr_right fun _ => forall₂_congr fun e _ => ?_
  cases e.halt <;> simp

/-- An ACK hold event's state: the clock at its time, and the hold timing over. -/
def State.heldAck (s : State) (d : Nat) : State := { s with now := max s.now d, ilm := { s.ilm with ackHold := none } }

theorem holdEffect_override {s : State} (d : Nat) (cond : s.Overrides) :
    holdEffect (s.reach d) = { s.heldAck d with
      lif := { s.lif with peers := s.lif.peers.filter fun e => !e.halt }
      pct := { s.pct with trip := s.pct.trip.map fun t => { t with flags := { t.flags with haltOverride := true } } } } := by
  have all : s.lif.peers.filter (fun e => !overridden e) = s.lif.peers.filter fun e => !e.halt :=
    List.filter_congr fun e mem => by
      cases flag : e.halt
      · simp [overridden, flag]
      · simp [overridden, flag, cond.2.2 e mem flag]
  have holds : overrideHolds (s.heldAck d) = true := (overrideHolds_iff _).2 cond
  change (if overrideHolds (s.heldAck d) = true then takeOverride (s.heldAck d) else _) = _
  rw [if_pos holds, ← all]
  rfl

theorem holdEffect_plain {s : State} (d : Nat) (cond : ¬s.Overrides) :
    holdEffect (s.reach d) = if s.pct.slot = .empty then askReprint (s.heldAck d) else s.heldAck d := by
  have fails : ¬overrideHolds (s.heldAck d) = true := fun holds => cond ((overrideHolds_iff _).1 holds)
  change (if overrideHolds (s.heldAck d) = true then _ else _) = _
  rw [if_neg fails]
  rfl

/-- R183: nothing stands against a reprint of the newest note. -/
def State.MayReprint (s : State) : Prop :=
  2 ≤ s.ntb.next ∧ s.ntb.reprint = none ∧ ∀ e ∈ s.ntb.prints, e.number ≠ s.ntb.next - 1

theorem askReprint_of_may {s : State} (may : s.MayReprint) :
    askReprint s = (s.modNtb fun x => { x with reprint := some ⟨s.ntb.next - 1, [], 0⟩ }).modStp fun p =>
      { p with reads := p.reads ++ [⟨.reprint, 128 + 4 * ((s.ntb.next - 1) % 240)⟩] } := by
  obtain ⟨next, reprint, prints⟩ := may
  rw [askReprint, if_neg]
  · rfl
  · simp only [reprint, Option.isSome_none, Bool.false_eq_true, false_or, List.any_eq_true, beq_iff_eq, not_or, not_exists,
      not_and]
    exact ⟨by omega, prints⟩

theorem askReprint_of_not {s : State} (reason : s.ntb.next ≤ 1 ∨ s.ntb.reprint.isSome = true ∨
    ∃ e ∈ s.ntb.prints, e.number = s.ntb.next - 1) : askReprint s = s :=
  if_pos (by simpa using reason)

/-- With nothing in the port and nothing waiting before it, a read begins. -/
theorem portKick_read {s : State} {r : ReadReq} (idle : s.stp.port = .idle) (alone : s.stp.reads = [r])
    (free : s.stp.flight = none) : (portKick s).stp.port = .reading r := by
  rw [portKick, idle]
  dsimp only
  rw [alone, free]
  rfl

theorem portKick_busy {s : State} (busy : s.stp.port ≠ .idle) : portKick s = s := by
  unfold portKick
  split
  · rename_i idle
    exact absurd idle busy
  · rfl

/-- With no report due, the end of an event touches the store port by its next operation alone. -/
theorem settle_stp {s : State} (calm : s.Calm) : (settle s).stp = (portKick (refreshLamps (idleTimer s))).stp := by
  rw [settle_calm calm]

theorem settle_busy {s : State} (calm : s.Calm) (busy : s.stp.port ≠ .idle) :
    (settle s).stp.port = s.stp.port ∧ (settle s).stp.reads = s.stp.reads := by
  rw [settle_stp calm, portKick_busy (by rwa [refreshLamps_stp, idleTimer_stp]), refreshLamps_stp, idleTimer_stp]
  exact ⟨rfl, rfl⟩

theorem settle_read {s : State} {r : ReadReq} (calm : s.Calm) (idle : s.stp.port = .idle) (alone : s.stp.reads = [r])
    (free : s.stp.flight = none) : (settle s).stp.port = .reading r := by
  rw [settle_stp calm, portKick_read] <;> rwa [refreshLamps_stp, idleTimer_stp]

/-! ### Lamps (R43 to R45, R74) -/

theorem portKick_ilm (s : State) : (portKick s).ilm = s.ilm := by
  unfold portKick
  repeat' split
  all_goals rfl

theorem portKick_now (s : State) : (portKick s).now = s.now := congrArg (·.now) (portKick_steady s)

theorem settle_now (s : State) : (settle s).now = s.now := congrArg (·.now) (settle_steady s)

theorem idleTimer_ilm (s : State) : (idleTimer s).ilm = s.ilm := by
  unfold idleTimer
  repeat' split
  all_goals rfl

theorem idleTimer_lampWant (x : Lamp) (s : State) : lampWant (idleTimer s) x = lampWant s x := by
  unfold idleTimer
  repeat' split
  all_goals cases x <;> rfl

/-- The blink that a lamp keeps when it follows a command. -/
theorem followLamp_blink (want : LampWant) (now : Nat) (l : LampState) :
    (followLamp want now l).blink = nextBlink want now l.blink := by
  simp only [followLamp, showLevel]
  split <;> rfl

/-- A lamp whose least time is over shows what it is commanded to. -/
theorem followLamp_shown {want : LampWant} {now : Nat} {l : LampState} (ended : l.holdUntil ≤ now) :
    (followLamp want now l).shown = wantedLevel want (nextBlink want now l.blink) := by
  unfold followLamp showLevel
  dsimp only
  split
  · rfl
  · rename_i stays
    simpa [ended] using stays

/-- At the end of a calm event after start-up each lamp follows its command. -/
theorem settle_lamp {s : State} (calm : s.Calm) (done : s.sul.done = true) (x : Lamp) :
    (settle s).ilm.lamp x = followLamp (lampWant s x) s.now (s.ilm.lamp x) := by
  have sul : (idleTimer s).sul = s.sul := congrArg (·.sul) (idleTimer_apart s)
  have now : (idleTimer s).now = s.now := congrArg (·.now) (idleTimer_apart s)
  have follows : (refreshLamps (idleTimer s)).ilm.lamp x =
      followLamp (lampWant (idleTimer s) x) (idleTimer s).now ((idleTimer s).ilm.lamp x) := by
    rw [refreshLamps, if_pos (by rw [sul]; exact done)]
    cases x <;> rfl
  rw [settle_calm calm, portKick_ilm, follows, idleTimer_lampWant, now, idleTimer_ilm]

/-- The level a lamp is commanded to, whose blink begins lit. -/
def commanded (want : LampWant) (b : Option Blink) : Bool :=
  match want with
  | .lit => true
  | .dark => false
  | .blink => (b.map (·.lit)).getD true

theorem wantedLevel_nextBlink (want : LampWant) (now : Nat) (b : Option Blink) :
    wantedLevel want (nextBlink want now b) = commanded want b := by
  cases want <;> cases b <;> rfl

theorem commanded_litIf (c : Bool) (b : Option Blink) : commanded (litIf c) b = c := by cases c <;> rfl

theorem commanded_dark (b : Option Blink) : commanded .dark b = false := rfl

theorem commanded_blink (b : Option Blink) : commanded .blink b = (b.map (·.lit)).getD true := rfl

theorem commanded_ready (s : State) (b : Option Blink) :
    commanded (readyWant s) b = match s.pct.slot with
      | .empty => decide (s.sul.code = 0) && !s.ilm.leakAlarm
      | .authorized => (b.map (·.lit)).getD true && !s.ilm.leakAlarm
      | _ => false := by
  have fault : (!s.configFault) = decide (s.sul.code = 0) := by
    rw [Bool.eq_iff_iff]
    simp [State.configFault]
  cases leak : s.ilm.leakAlarm <;> cases slot : s.pct.slot <;>
    simp [readyWant, leak, slot, commanded_litIf, fault, commanded_dark, commanded_blink]

theorem commanded_card (s : State) (b : Option Blink) :
    commanded (cardWant s) b = (decide (s.pct.slot = .awaitStamp) || (s.pct.pendingStamp.isSome && (b.map (·.lit)).getD true)) := by
  unfold cardWant
  split
  · simp [commanded, *]
  · split <;> simp [commanded, *]

/-- R44: ATTEND's conditions. -/
theorem attendLit_iff (s : State) : attendLit s = true ↔ (s.ilm.bayLatch = true ∨ (∃ i : LaneNo, s.laneLatched i = true) ∨
    s.ilm.leakAlarm = true ∨ (∃ i : LaneNo, s.ilm.faultMark[i] = true) ∨ s.lif.link = .mute) := by
  have lanes (p : LaneNo → Bool) : (∃ i ∈ allLanes, p i = true) ↔ ∃ i, p i = true := by
    simp [mem_allLanes]
  simp only [attendLit, State.noLatch, Bool.or_eq_true, decide_eq_true_eq, List.any_eq_true, lanes, Bool.not_and,
    Bool.not_not, or_assoc, List.not_all_eq_any_not]

theorem commanded_attend (s : State) (b : Option Blink) :
    commanded (attendWant s) b = match s.ilm.pattern with
      | some p => decide (p.phase < 2 * s.sul.code ∧ p.phase % 2 = 0)
      | none => decide ((s.ilm.bayLatch = true ∨ (∃ i : LaneNo, s.laneLatched i = true) ∨ s.ilm.leakAlarm = true ∨
          (∃ i : LaneNo, s.ilm.faultMark[i] = true) ∨ s.lif.link = .mute) ↔ s.ilm.pulse = none) := by
  rw [attendWant]
  cases s.ilm.pattern with
  | some p => simp [commanded_litIf, patternLit]
  | none =>
    dsimp only
    rw [commanded_litIf, Bool.eq_iff_iff, decide_eq_true_eq, ← attendLit_iff]
    cases attendLit s <;> cases s.ilm.pulse <;> simp

/-- The state that each lamp is commanded to (R43, R44, R74). -/
def State.lampLevel (s : State) : Lamp → Bool
  | .ready => match s.pct.slot with
      | .empty => decide (s.sul.code = 0) && !s.ilm.leakAlarm
      | .authorized => (s.ilm.ready.blink.map (·.lit)).getD true && !s.ilm.leakAlarm
      | _ => false
  | .flow => s.anyFlowing || s.anyClosing
  | .card => decide (s.pct.slot = .awaitStamp) || (s.pct.pendingStamp.isSome && (s.ilm.card.blink.map (·.lit)).getD true)
  | .attend => match s.ilm.pattern with
    | some p => decide (p.phase < 2 * s.sul.code ∧ p.phase % 2 = 0)
    | none => decide ((s.ilm.bayLatch = true ∨ (∃ i : LaneNo, s.laneLatched i = true) ∨ s.ilm.leakAlarm = true ∨
        (∃ i : LaneNo, s.ilm.faultMark[i] = true) ∨ s.lif.link = .mute) ↔ s.ilm.pulse = none)

theorem wantedLevel_lampWant (s : State) (x : Lamp) (now : Nat) :
    wantedLevel (lampWant s x) (nextBlink (lampWant s x) now (s.ilm.lamp x).blink) = s.lampLevel x := by
  rw [wantedLevel_nextBlink]
  cases x with
  | ready => exact commanded_ready s _
  | flow => exact commanded_litIf _ _
  | card => exact commanded_card s _
  | attend => exact commanded_attend s _

theorem lampLags_iff (x : Lamp) (s : State) :
    lampLags x s = true ↔ s.sul.done = true ∧ (s.ilm.lamp x).shown ≠ s.lampLevel x := by
  simp [lampLags, wantedLevel_lampWant]

theorem exec_lampStretchEnd_ended {s : State} {x : Lamp} (ended : (s.ilm.lamp x).holdUntil ≤ s.now)
    (shows : ¬(s.sul.done = true ∧ (s.ilm.lamp x).shown ≠ s.lampLevel x)) :
    exec (.lampStretchEnd x) s = .next s := by
  change execLampStretchEnd x s = _
  rw [execLampStretchEnd, if_pos ⟨ended, by simpa [← Bool.not_eq_true, lampLags_iff] using shows⟩]

theorem exec_lampStretchEnd {s : State} {x : Lamp}
    (ends : s.now < (s.ilm.lamp x).holdUntil ∨ (s.sul.done = true ∧ (s.ilm.lamp x).shown ≠ s.lampLevel x)) :
    exec (.lampStretchEnd x) s = finish (s.reach (s.ilm.lamp x).holdUntil) := by
  change execLampStretchEnd x s = _
  rw [execLampStretchEnd, if_neg]
  rintro ⟨ended, shows⟩
  obtain early | lags := ends
  · omega
  · rw [(lampLags_iff x s).2 lags] at shows
    cases shows

theorem exec_lampBlinkPhase {s : State} {x : Lamp} {b : Blink} (blinks : (s.ilm.lamp x).blink = some b) :
    exec (.lampBlinkPhase x) s =
      finish ((s.reach b.due).modIlm fun m => m.setLamp x (flipBlink (m.lamp x))) := by
  change execLampBlinkPhase x s = _
  rw [execLampBlinkPhase, onExpiry_some (d := b.due) (by rw [blinks]; rfl)]

theorem apart_of_lamp (s : State) (x : Lamp) (f : LampState → LampState) :
    (s.modIlm fun m => m.setLamp x (f (m.lamp x))).apart = s.apart := by cases x <;> rfl

/-- The lamp after its phase: the blink that its command then makes of the other phase. -/
theorem blinkPhase_lamp {s : State} {x : Lamp} {b : Blink} (calm : s.Calm) (done : s.sul.done = true)
    (blinks : (s.ilm.lamp x).blink = some b) (want : LampWant)
    (wants : lampWant ((s.reach b.due).modIlm fun m => m.setLamp x (flipBlink (m.lamp x))) x = want) :
    ∃ t, exec (.lampBlinkPhase x) s = .next t ∧
      (t.ilm.lamp x).blink = nextBlink want (max s.now b.due) (some ⟨!b.lit, b.due + 500000⟩) ∧
      t.apart = State.apart { s with now := max s.now b.due } := by
  refine ⟨_, exec_lampBlinkPhase blinks, ?_, ?_⟩
  · have flipped : (((s.ilm.setLamp x (flipBlink (s.ilm.lamp x)))).lamp x).blink = some ⟨!b.lit, b.due + 500000⟩ := by
      cases x <;> simp only [Ilm.lamp] at blinks <;> simp only [Ilm.setLamp, Ilm.lamp, flipBlink, blinks] <;> rfl
    rw [settle_lamp (by exact calm) (by exact done), followLamp_blink, wants]
    exact congrArg (nextBlink want (max s.now b.due)) flipped
  · rw [settle_apart (by exact calm), apart_of_lamp]
    rfl

theorem exec_refusalPulseEnd {s : State} {d : Nat} (running : s.ilm.pulse = some d) :
    exec .refusalPulseEnd s = finish ((s.reach d).modIlm fun m => { m with pulse := none }) := by
  change execRefusalPulseEnd s = _
  rw [execRefusalPulseEnd, onExpiry_some running]

theorem exec_faultCodePatternPhase {s : State} {p : Pattern} (running : s.ilm.pattern = some p) :
    exec .faultCodePatternPhase s = finish { s with
      now := max s.now p.due
      ilm := { s.ilm with pattern := some (advancePattern s.sul.code p) } } := by
  change execFaultCodePatternPhase s = _
  rw [execFaultCodePatternPhase, onExpiry_some (d := p.due) (by rw [running]; rfl)]
  have same : s.ilm.pattern.map (advancePattern s.sul.code) = some (advancePattern s.sul.code p) := by rw [running]; rfl
  rw [← same]
  rfl

/-! ### Edges of a meter channel (R75 to R77, R83, R84) -/

/-- The state at a capture value. -/
theorem exec_risingEdge {s : State} {i : LaneNo} (counts : s.fitted i = true ∨ s.sul.phase.beforeTables = true) (ch : Channel)
    (cap : Word32) :
    exec (.risingEdge i ch cap) s = finish (match ch with
      | .a => edgeA i cap (s.reachCapture cap)
      | .b => edgeB i cap (s.reachCapture cap)) := by
  change execRisingEdge i ch cap s = _
  unfold execRisingEdge
  rw [if_pos (by simpa [State.counts] using counts)]
  cases ch <;> rfl

theorem exec_risingEdge_none {s : State} {i : LaneNo} (bare : s.fitted i = false) (loaded : s.sul.phase.beforeTables = false)
    (ch : Channel) (cap : Word32) : exec (.risingEdge i ch cap) s = .next s := by
  change execRisingEdge i ch cap s = _
  unfold execRisingEdge
  rw [if_neg (by simp [State.counts, bare, loaded])]

/-- The edge before it is judged followed. -/
theorem edgeFollowed_iff (t0 : Word32) (tb : Option Word32) (t1 : Word32) :
    edgeFollowed t0 tb t1 = true ↔ ∃ b, tb = some b ∧ 2 * (b - t0).toNat < (t1 - t0).toNat := by
  cases tb <;> simp [edgeFollowed]

theorem judgeEdge_dropped {now : Nat} {cap : Word32} {first : Option Word32} {e : PendingEdge}
    (clears : e.due < now ∨ ∃ b, first = some b ∧ 2 * (b - e.capture).toNat < (cap - e.capture).toNat) (p : Piu) :
    judgeEdge now cap first e p = { p with run := 0 } := by
  unfold judgeEdge
  split
  · rfl
  · rename_i young
    rw [if_pos ((edgeFollowed_iff ..).2 (clears.resolve_left young))]

theorem judgeEdge_notFollowed {now : Nat} {cap : Word32} {first : Option Word32} {e : PendingEdge} (young : now ≤ e.due)
    (missed : ¬∃ b, first = some b ∧ 2 * (b - e.capture).toNat < (cap - e.capture).toNat) (p : Piu) :
    judgeEdge now cap first e p = { p with
      run := if p.run + 1 = 3 then 0 else p.run + 1, mark := p.mark || decide (p.run + 1 = 3) } := by
  rw [judgeEdge, if_neg (by omega), if_neg (fun h => missed ((edgeFollowed_iff ..).1 h)), notFollowed]
  split <;> simp [*]

theorem watchA_none {now : Nat} {cap : Word32} {p : Piu} (first : p.pendingA = none) :
    watchA now cap p = pendEdge now cap (tiedB now cap p) p := by rw [watchA, first]

theorem watchA_some {now : Nat} {cap : Word32} {p : Piu} {e : PendingEdge} (pending : p.pendingA = some e) :
    watchA now cap p = pendEdge now cap (tiedB now cap p) (judgeEdge now cap (earlierB (tiedB now cap p) e) e p) := by
  rw [watchA, pending]

/-- An A edge leaves what the phase watcher makes of the counted one. -/
theorem leaves_edgeA {s : State} {i : LaneNo} (counts : s.fitted i = true ∨ s.sul.phase.beforeTables = true) (cap : Word32)
    {piu : Piu} (after : (if watches s i then watchA (s.reachCapture cap).now cap (countA cap (s.lane i).piu)
      else countA cap (s.lane i).piu) = piu) :
    Leaves (.risingEdge i .a cap) s { s with
      now := (s.reachCapture cap).now
      lanes := s.lanes.set i { s.lane i with piu := piu } } := by
  subst after
  exact leaves_of_finish (exec_risingEdge counts .a cap)

theorem watchB_eq (now : Nat) (cap : Word32) (p : Piu) :
    watchB now cap p = { p with
      lastB := some now
      pendingA := p.pendingA.map fun e => { e with firstB := some (e.firstB.getD cap) } } := by
  rw [watchB]
  congr 1
  cases p.pendingA with
  | none => rfl
  | some e =>
    obtain ⟨_, first, _⟩ := e
    cases first <;> rfl

theorem exec_pendingAEdgeTimeout {s : State} {i : LaneNo} {e : PendingEdge} (pending : (s.lane i).piu.pendingA = some e) :
    exec (.pendingAEdgeTimeout i) s =
      finish ((s.reach e.due).modPiu i fun p => { p with pendingA := none, run := 0 }) := by
  change execPendingAEdgeTimeout i s = _
  rw [execPendingAEdgeTimeout, onExpiry_some (d := e.due) (by rw [pending]; rfl)]

end Sys2Proof.Machine

open Sys2Proof Sys2Proof.Machine

/-- Settles O26, by the effect of each ACK command. -/
theorem ackKey : Obligations.AckKey := by
  refine ⟨fun s calm done released => ?_, fun s => ⟨fun pressed => ?_, fun d running => ?_⟩⟩
  · exact yields_of_finish ((exec_ackPress done released).trans (by rw [ackEffect_eq]; rfl)) calm
  · exact leaves_of_finish (exec_ackRelease pressed)
  · have answer := exec_ackHoldEvent running
    refine ⟨fun cond => ?_, fun cond slot next reprint prints => ?_, fun cond reason => ?_⟩
    · exact leaves_of_finish (answer.trans (congrArg finish (holdEffect_override d cond)))
    · have asked : exec .ackHoldEvent s = finish (askReprint (s.heldAck d)) := by
        rw [answer, holdEffect_plain d cond, if_pos slot]
      rw [askReprint_of_may (s := s.heldAck d) ⟨next, reprint, prints⟩] at asked
      refine ⟨leaves_of_steady asked rfl rfl, fun calm t answers => ?_⟩
      obtain rfl : settle _ = t := Host.Outcome.next.inj (asked.symm.trans answers)
      refine ⟨fun idle alone free => ?_, fun busy => ?_⟩
      · exact settle_read (by exact calm) idle (by change s.stp.reads ++ _ = _; rw [alone]; rfl) free
      · exact settle_busy (by exact calm) (by exact busy)
    · refine leaves_of_finish (answer.trans (congrArg finish ?_))
      rw [holdEffect_plain d cond]
      split
      · rename_i slot
        exact askReprint_of_not (reason.resolve_left (by simp [slot]))
      · rfl

/-- Settles O27, by what each lamp is commanded to at the end of the event. -/
theorem lampTimers : Obligations.LampTimers := by
  intro s calm phase wanted
  have level : wanted = s.lampLevel := by
    funext x
    cases x <;> rfl
  rw [level]
  refine ⟨fun d running => ?_, fun x done ends => ?_, fun x ended shows => ?_, fun b done slot alarm blinks => ?_,
    fun b done alarm blinks => ?_, fun b done slot pending blinks => ?_, fun p running => ?_⟩
  · exact yields_of_finish (exec_refusalPulseEnd running) calm
  · refine ⟨_, exec_lampStretchEnd (ends.imp_right fun ne => ⟨done, ne⟩), settle_now _, ?_, settle_apart (by exact calm)⟩
    rw [settle_lamp (by exact calm) (by exact done), followLamp_shown (by exact Nat.le_max_right _ _)]
    exact wantedLevel_lampWant s x _
  · exact exec_lampStretchEnd_ended ended (by rintro ⟨done, ne⟩; exact shows.elim (by simp [done]) ne)
  · exact blinkPhase_lamp (x := .ready) calm done blinks .blink (by
      change (if s.ilm.leakAlarm = true then LampWant.dark else match s.pct.slot with | .empty => _ | .authorized => _ | _ => _) = _
      rw [alarm, slot]
      rfl)
  · exact blinkPhase_lamp (x := .ready) calm done blinks .dark (if_pos alarm)
  · exact blinkPhase_lamp (x := .card) calm done blinks .blink ((if_neg slot).trans (if_pos pending))
  · exact yields_of_finish (exec_faultCodePatternPhase running) calm

/-- Settles O38, by what the phase watcher makes of the edge before. -/
theorem meterEdges : Obligations.MeterEdges := by
  refine ⟨fun s i cap counts => ?_, fun s i cap bare loaded =>
    ⟨exec_risingEdge_none bare loaded .a cap, exec_risingEdge_none bare loaded .b cap⟩,
    fun s i e pending => leaves_of_finish (exec_pendingAEdgeTimeout pending)⟩
  refine ⟨fun off => ?_, fun on first => ?_, fun e on pending => ⟨fun clears => ?_, fun young missed => ?_⟩, ?_⟩
  · exact leaves_edgeA counts cap (if_neg (by simp [off]))
  · refine leaves_edgeA counts cap ((if_pos on).trans ?_)
    rw [watchA_none (by exact first)]
    rfl
  · refine leaves_edgeA counts cap ((if_pos on).trans ?_)
    rw [watchA_some (by exact pending), judgeEdge_dropped (by exact clears)]
    rfl
  · refine leaves_edgeA counts cap ((if_pos on).trans ?_)
    rw [watchA_some (by exact pending), judgeEdge_notFollowed (by exact young) (by exact missed)]
    rfl
  · have answer := exec_risingEdge counts .b cap
    have after : edgeB i cap (s.reachCapture cap) = { s.reachCapture cap with lanes := s.lanes.set i { s.lane i with
       piu := { (s.lane i).piu with
         cntB := (s.lane i).piu.cntB + 1, capB := cap, levelB := some true
         lastB := if watches s i = true then some (s.reachCapture cap).now else (s.lane i).piu.lastB
         pendingA := if watches s i = true
           then (s.lane i).piu.pendingA.map fun e => { e with firstB := some (e.firstB.getD cap) }
           else (s.lane i).piu.pendingA } } } := by
      change (s.reachCapture cap).modPiu i (fun p => if watches s i then _ else _) = _
      cases watches s i with
      | true =>
        simp only [if_true, watchB_eq]
        rfl
      | false => rfl
    exact leaves_of_finish (answer.trans (congrArg finish after))

end

section
/-! What a lane's own operations touch: the lane itself, the order lines, the injectors and the store write queue. -/

namespace Sys2Proof.Machine

/-- The state without what the operations of lane `i` may touch: the lane, the order lines, the injectors and the Store Port. -/
def State.beyond (i : LaneNo) (s : State) : State :=
  { s with
    lanes := s.lanes.set i {}
    injs := Vector.replicate 8 {}
    stp := {}
    pct := { s.pct with trip := s.pct.trip.map fun t => { t with lines := [] } } }

variable (i : LaneNo) (s : State)

@[simp] theorem modLane_beyond (f : Lane → Lane) : (s.modLane i f).beyond i = s.beyond i := by
  simp [State.modLane, State.beyond, Vector.set_set]

@[simp] theorem modPiu_beyond (f : Piu → Piu) : (s.modPiu i f).beyond i = s.beyond i := modLane_beyond ..

@[simp] theorem modVen_beyond (f : Ven → Ven) : (s.modVen i f).beyond i = s.beyond i := modLane_beyond ..

@[simp] theorem modInj_beyond (j : InjNo) (f : Injector → Injector) : (s.modInj j f).beyond i = s.beyond i := rfl

@[simp] theorem modStp_beyond (f : Stp → Stp) : (s.modStp f).beyond i = s.beyond i := rfl

@[simp] theorem modLine_beyond (k : Nat) (f : OrderLine → OrderLine) : (s.modLine k f).beyond i = s.beyond i := by
  simp [State.modLine, State.modTrip, State.modPct, State.beyond, Option.map_map, Function.comp_def]

@[simp] theorem modHeld_beyond (j : LaneNo) (f : OrderLine → OrderLine) : (s.modHeld j f).beyond i = s.beyond i := by
  unfold State.modHeld
  split
  · rfl
  · exact modLine_beyond ..

@[simp] theorem modRecord_beyond (j : LaneNo) (f : CompRecord → CompRecord) : (s.modRecord j f).beyond i = s.beyond i :=
  modHeld_beyond ..

@[simp] theorem modFlags_beyond (j : LaneNo) (f : CompFlags → CompFlags) : (s.modFlags j f).beyond i = s.beyond i :=
  modRecord_beyond ..

@[simp] theorem modAdditive_beyond (j : LaneNo) (k : Nat) (f : AdditiveLine → AdditiveLine) :
    (s.modAdditive j k f).beyond i = s.beyond i := modRecord_beyond ..

@[simp] theorem enqueue_beyond (q : QItem) : (enqueue q s).2.beyond i = s.beyond i := by
  rw [enqueue_modStp]
  rfl

theorem enqueue_beyond_of {q : QItem} {s t : State} {b : Bool} (e : enqueue q s = (b, t)) : t.beyond i = s.beyond i := by
  have same := enqueue_beyond i s q
  rwa [e] at same

theorem foldl_beyond {α : Type} {f : State → α → State} (each : ∀ t a, (f t a).beyond i = t.beyond i) (l : List α) :
    (l.foldl f s).beyond i = s.beyond i := by
  induction l generalizing s with
  | nil => rfl
  | cons a rest ih => rw [List.foldl_cons, ih, each]

@[simp] theorem retarget_beyond : (retarget i s).beyond i = s.beyond i := by simp [retarget]

@[simp] theorem rise_beyond : (rise i s).beyond i = s.beyond i := by
  unfold rise
  split <;> simp

@[simp] theorem outputsOff_beyond : (outputsOff i s).beyond i = s.beyond i := by simp [outputsOff]

@[simp] theorem steerNow_beyond : (steerNow i s).beyond i = s.beyond i := by
  unfold steerNow
  split <;> simp

@[simp] theorem offerCheckpoint_beyond : (offerCheckpoint i s).beyond i = s.beyond i := by
  unfold offerCheckpoint
  split <;> simp

@[simp] theorem setStage_beyond (st : Stage) : (setStage i st s).beyond i = s.beyond i := by simp [setStage]

@[simp] theorem setStatus_beyond (st : LineStatus) : (setStatus i st s).beyond i = s.beyond i := by simp [setStatus]

@[simp] theorem closeDecision_beyond (reason : EndReason) : (closeDecision i reason s).beyond i = s.beyond i := by
  simp [closeDecision]

@[simp] theorem takeFault_beyond (reason : EndReason) : (takeFault i reason s).beyond i = s.beyond i := by
  unfold takeFault
  split <;> simp

@[simp] theorem suspendFlowing_beyond (cause : Cause) (left : LeftStage) :
    (suspendFlowing i cause left s).beyond i = s.beyond i := by simp [suspendFlowing]

@[simp] theorem suspendPrimed_beyond : (suspendPrimed i s).beyond i = s.beyond i := by simp [suspendPrimed]

@[simp] theorem suspendLane_beyond (cause : Cause) : (suspendLane i cause s).beyond i = s.beyond i := by
  unfold suspendLane
  split <;> simp

@[simp] theorem toIdle_beyond : (toIdle i s).beyond i = s.beyond i := by simp [toIdle]

@[simp] theorem primingCheck_beyond : (primingCheck i s).beyond i = s.beyond i := by
  unfold primingCheck
  repeat' split
  all_goals simp

@[simp] theorem giveLimit_beyond : (giveLimit i s).beyond i = s.beyond i := by
  unfold giveLimit
  split <;> simp

@[simp] theorem renewInjectors_beyond : (renewInjectors i s).beyond i = s.beyond i :=
  foldl_beyond i s (fun t a => by split <;> rfl) _

@[simp] theorem startStroke_beyond (final : Bool) (k : Nat) (j : InjNo) :
    (startStroke final i k j s).beyond i = s.beyond i := by
  unfold startStroke
  split <;> simp

@[simp] theorem considerLine_beyond (k : Nat) : (considerLine i k s).beyond i = s.beyond i := by
  unfold considerLine
  repeat' split
  all_goals simp

@[simp] theorem considerLane_beyond : (considerLane i s).beyond i = s.beyond i := by
  exact foldl_beyond i s (fun t a => by simp) _

@[simp] theorem dosePass_beyond (dg : Nat) : (dosePass i dg s).beyond i = s.beyond i := by simp [dosePass]

@[simp] theorem orderFault_beyond : (orderFault i s).beyond i = s.beyond i := by
  unfold orderFault
  dsimp only
  repeat' split
  all_goals simp

@[simp] theorem decideFinal_beyond : (decideFinal i s).beyond i = s.beyond i := by simp [decideFinal]

@[simp] theorem tryCloseLine_beyond (k : Nat) : (tryCloseLine i k s).beyond i = s.beyond i := by
  unfold tryCloseLine
  repeat' split
  all_goals simp

@[simp] theorem tryCloseLines_beyond : (tryCloseLines i s).beyond i = s.beyond i := by
  rw [tryCloseLines, giveLimit_beyond]
  exact foldl_beyond i s (fun t a => tryCloseLine_beyond i t a) _

@[simp] theorem closeAllLines_beyond : (closeAllLines i s).beyond i = s.beyond i := by
  rw [closeAllLines, foldl_beyond i _ (fun t a => modInj_beyond i t a _), modRecord_beyond]

@[simp] theorem openCompartment_beyond : (openCompartment i s).beyond i = s.beyond i := by simp [openCompartment]

@[simp] theorem enterFlowing_beyond (st : Stage) : (enterFlowing i st s).beyond i = s.beyond i := by simp [enterFlowing]

@[simp] theorem resumeOpen_beyond : (resumeOpen i s).beyond i = s.beyond i := by
  unfold resumeOpen
  repeat' split
  all_goals simp

@[simp] theorem startLane_beyond : (startLane i s).beyond i = s.beyond i := by
  unfold startLane
  repeat' split
  all_goals simp

@[simp] theorem offerTotal_beyond (gross std : Word48) : (offerTotal i gross std s).beyond i = s.beyond i := by
  unfold offerTotal
  split
  · rename_i t e
    simp [enqueue_beyond_of i e]
  · rename_i t e
    simp [enqueue_beyond_of i e]

@[simp] theorem offerWaiting_beyond : (offerWaiting i s).beyond i = s.beyond i := by
  unfold offerWaiting
  split
  · split
    · rename_i t e
      simp [enqueue_beyond_of i e]
    · rename_i t e
      exact enqueue_beyond_of i e
  · simp
  · rfl

@[simp] theorem offerAfter_beyond : (offerAfter i s).beyond i = s.beyond i := by
  unfold offerAfter
  split <;> simp

@[simp] theorem handOver_beyond (reason : EndReason) : (handOver i reason s).beyond i = s.beyond i := by
  unfold handOver
  split <;> simp

@[simp] theorem endSuspended_beyond : (endSuspended i s).beyond i = s.beyond i := by
  unfold endSuspended
  split <;> simp

@[simp] theorem learnOvershoot_beyond : (learnOvershoot i s).beyond i = s.beyond i := by
  unfold learnOvershoot
  split <;> simp

@[simp] theorem markLapse_beyond : (markLapse i s).beyond i = s.beyond i := by
  unfold markLapse
  split <;> simp

@[simp] theorem dropOutputs_beyond : (dropOutputs i s).beyond i = s.beyond i := by
  unfold dropOutputs
  split <;> simp

@[simp] theorem lapseLane_beyond : (lapseLane i s).beyond i = s.beyond i := by
  unfold lapseLane
  split <;> simp

@[simp] theorem pulseStep_beyond (pt : PulseTick) : (pulseStep i pt s).beyond i = s.beyond i := by
  unfold pulseStep
  split <;> simp

@[simp] theorem volumeStep_beyond (p : Pass) : (volumeStep i p s).beyond i = s.beyond i := by simp [volumeStep]

@[simp] theorem stageStep_beyond (c : LaneCfg) : (stageStep c i s).beyond i = s.beyond i := by
  unfold stageStep
  split <;> simp

@[simp] theorem noFlowStep_beyond (pulses : Nat) (d : Steer) : (noFlowStep i pulses d s).beyond i = s.beyond i := by
  unfold noFlowStep
  dsimp only
  repeat' split
  all_goals simp

@[simp] theorem steerStep_beyond (pulses : Nat) : (steerStep i pulses s).beyond i = s.beyond i := by
  unfold steerStep
  split <;> simp

@[simp] theorem checkpointStep_beyond (before : Stage) (gross : Nat) :
    (checkpointStep i before gross s).beyond i = s.beyond i := by
  unfold checkpointStep
  split <;> simp

@[simp] theorem unprime_beyond : (unprime i s).beyond i = s.beyond i := by
  unfold unprime
  split <;> simp

@[simp] theorem endStep_beyond : (endStep i s).beyond i = s.beyond i := by simp [endStep]

@[simp] theorem edgeA_beyond (cap : Word32) : (edgeA i cap s).beyond i = s.beyond i := by simp [edgeA]

@[simp] theorem edgeB_beyond (cap : Word32) : (edgeB i cap s).beyond i = s.beyond i := by simp [edgeB]

/-! ### What lies beyond a lane's own operations -/

section
variable {i} {s t : State} (same : t.beyond i = s.beyond i)
include same

theorem now_of_beyond : t.now = s.now := congrArg (·.now) same

theorem ilm_of_beyond : t.ilm = s.ilm := congrArg (·.ilm) same

theorem lif_of_beyond : t.lif = s.lif := congrArg (·.lif) same

theorem sul_of_beyond : t.sul = s.sul := congrArg (·.sul) same

theorem ntb_of_beyond : t.ntb = s.ntb := congrArg (·.ntb) same

theorem cfg_of_beyond : t.cfg = s.cfg := congrArg (·.cfg) same

theorem slot_of_beyond : t.pct.slot = s.pct.slot := congrArg (·.pct.slot) same

theorem lane_of_beyond {j : LaneNo} (ne : i ≠ j) : t.lane j = s.lane j := by
  have lanes : t.lanes.set i {} = s.lanes.set i {} := congrArg (·.lanes) same
  have here := congrArg (fun v : Vector Lane 4 => v[j]) lanes
  have apart : i.val ≠ j.val := fun e => ne (Fin.ext e)
  simpa [State.lane, Vector.getElem_set, apart] using here

end

end Sys2Proof.Machine

end

section
/-! The valve step, the stroke cycle and its judgement (R57, R113, R114, R117, R119 to R121). -/

namespace Sys2Proof.Machine

/-! ### One checkpoint of one lane (R72) -/

theorem offerCheckpoint_calm {i : LaneNo} {s : State} (calm : s.Calm) (ok : s.QueueOk) (flight : s.stp.flight.isSome = true) :
    (offerCheckpoint i s).Calm := by
  rw [offerCheckpoint_eq i s ok flight]
  exact calm

theorem settle_offerCheckpoint {i : LaneNo} {u : State} (open_ : u.stage i ≠ .ended) (calm : u.Calm) (ok : u.QueueOk)
    (flight : u.stp.flight.isSome = true) :
    (settle (offerCheckpoint i u)).stp.queue =
      ((settle (offerCheckpoint i u)).checkpoint i).toList.foldl withCheckpoint u.stp.queue ∧
    (settle (offerCheckpoint i u)).stp.flight = u.stp.flight := by
  have stays : (offerCheckpoint i u).stage i ≠ .ended := by
    rwa [State.stage, lane_of_lanes (offerCheckpoint_lanes i u)]
  obtain ⟨queue, inFlight⟩ := settle_queue_flight (offerCheckpoint_calm (i := i) calm ok flight)
  rw [queue, inFlight, settle_checkpoint stays, offerCheckpoint_checkpoint]
  have stp : (offerCheckpoint i u).stp = { u.stp with queue := (u.checkpoint i).toList.foldl withCheckpoint u.stp.queue } :=
    congrArg State.stp (offerCheckpoint_eq i u ok flight)
  rw [stp]
  exact ⟨rfl, rfl⟩

/-- An event that ends with the offer of one lane, the Store Port as before, has offered that lane's checkpoint alone. -/
theorem checkpoints_of_offer {i : LaneNo} {s u : State} (open_ : u.stage i ≠ .ended) (calm : s.Calm → u.Calm)
    (stp : u.stp = s.stp) : s.Checkpoints (settle (offerCheckpoint i u)) [i] := by
  intro quiet ok flight _
  obtain ⟨queue, inFlight⟩ := settle_offerCheckpoint open_ (calm quiet) (by rwa [State.QueueOk, stp]) (by rwa [stp])
  rw [stp] at queue inFlight
  refine ⟨[i], .refl _, ?_, inFlight⟩
  rw [queue]
  cases offered : (settle (offerCheckpoint i u)).checkpoint i <;> simp [offered]

/-- An event that leaves no offer has offered no checkpoint. -/
theorem checkpoints_of_none {s u : State} (calm : s.Calm → u.Calm) (stp : u.stp = s.stp) : s.Checkpoints (settle u) [] := by
  intro quiet _ _ _
  obtain ⟨queue, inFlight⟩ := settle_queue_flight (calm quiet)
  exact ⟨[], .refl _, by rw [queue, stp]; rfl, by rw [inFlight, stp]⟩

/-! ### A valve step and a stroke cycle -/

theorem modInj_modInj (j : InjNo) (f g : Injector → Injector) (s : State) :
    (s.modInj j f).modInj j g = s.modInj j fun x => g (f x) := by
  simp [State.modInj, Vector.set_set]

theorem exec_valveStepEnd {s : State} {i : LaneNo} {x : ValveStep} (steps : (s.lane i).step = some x) :
    exec (.valveStepEnd i) s = finish (endStep i (s.reach x.due)) := by
  change execValveStepEnd i s = _
  rw [execValveStepEnd, onExpiry_some (d := x.due) (by rw [steps]; rfl)]

theorem exec_driveTimeEnd {s : State} {j : InjNo} {d : Nat} (drives : (s.inj j).driveDue = some d) :
    exec (.driveTimeEnd j) s = finish ((s.reach d).modInj j fun x => driveEnd x d) := by
  change execDriveTimeEnd j s = _
  rw [execDriveTimeEnd, onExpiry_some drives]

/-- The end of a spacing period, at the injector. -/
def spacedInjector (x : Injector) : Injector := { x with spacingDue := none, spacingOver := true }

/-- A lane that does not wait in ENDED has no lines to close. -/
theorem closeDoses_of_ne_ended {i : LaneNo} {s : State} (ne : s.stage i ≠ .ended) : closeDoses i s = s :=
  if_neg fun both => ne both.1

theorem foldl_fixed {α β : Type} {f : β → α → β} {b : β} (fixed : ∀ a, f b a = b) (l : List α) : l.foldl f b = b := by
  induction l with
  | nil => rfl
  | cons a rest ih => rw [List.foldl_cons, fixed, ih]

theorem modLane_stage (i j : LaneNo) {f : Lane → Lane} {s : State} (same : (f (s.lane i)).stage = (s.lane i).stage) :
    (s.modLane i f).stage j = s.stage j := by
  unfold State.stage
  by_cases eq : i = j
  · subst eq
    rw [modLane_lane_self, same]
  · rw [modLane_lane_ne _ _ _ eq]

@[simp] theorem giveLimit_stage (i j : LaneNo) (s : State) : (giveLimit i s).stage j = s.stage j := by
  unfold giveLimit retarget
  split
  · rfl
  · rw [modLane_stage _ _ rfl, modLane_stage _ _ rfl]

@[simp] theorem modAdditive_stage (i j : LaneNo) (k : Nat) (f : AdditiveLine → AdditiveLine) (s : State) :
    (s.modAdditive i k f).stage j = s.stage j := by
  rw [State.stage, lane_of_lanes (modAdditive_lanes s i k f), State.stage]

theorem startStroke_stage (final : Bool) (i j : LaneNo) (k : Nat) (n : InjNo) (s : State) :
    (startStroke final i k n s).stage j = s.stage j := by
  unfold startStroke
  split
  · rfl
  · rw [giveLimit_stage]
    exact modAdditive_stage ..

theorem considerLine_stage (i j : LaneNo) (k : Nat) (s : State) : (considerLine i k s).stage j = s.stage j := by
  unfold considerLine
  repeat' split
  all_goals first | rfl | exact startStroke_stage ..

theorem foldl_considerLine_stage (i j : LaneNo) (p : State → Nat → Bool) (l : List Nat) (s : State) :
    (l.foldl (fun u k => if p u k then considerLine i k u else u) s).stage j = s.stage j := by
  induction l generalizing s with
  | nil => rfl
  | cons k rest ih =>
    rw [List.foldl_cons, ih]
    split
    · exact considerLine_stage i j k s
    · rfl

theorem tryEndCycle_stage (j : InjNo) (i : LaneNo) (s : State) : (tryEndCycle j s).stage i = s.stage i := by
  unfold tryEndCycle
  split
  · dsimp only
    split
    · rfl
    · rw [foldl_considerLine_stage]
      rfl
  · rfl

theorem exec_spacingPeriodEnd {s : State} {j : InjNo} {d : Nat} {i : LaneNo} (spaces : (s.inj j).spacingDue = some d)
    (own : s.injLane j = some i) (ne : s.stage i ≠ .ended) :
    exec (.spacingPeriodEnd j) s = finish (tryEndCycle j ((s.reach d).modInj j spacedInjector)) := by
  change execSpacingPeriodEnd j s = _
  rw [execSpacingPeriodEnd, onExpiry_some spaces]
  change finish (match s.injLane j with | none => _ | some i => _) = _
  rw [own]
  dsimp only
  rw [closeDoses_of_ne_ended (by rw [tryEndCycle_stage]; exact ne)]
  rfl

theorem tryEndCycle_of_not_over {j : InjNo} {s : State} (goes : (s.inj j).cycleOver = false) : tryEndCycle j s = s :=
  if_neg (by simp [goes])

/-- R117: no stroke is due for a line of an injector that faults, or whose due is less than a stroke volume. -/
theorem considerLine_of_not_due {i : LaneNo} {k : Nat} {s : State} {a : AdditiveLine} (line : s.additive i k = some a)
    (ne : s.stage i ≠ .ended) (rests : strokeDue s (s.stage i) a = false) : considerLine i k s = s := by
  have final : finalDue s (s.stage i) a = false := by simp [finalDue, ne]
  rw [considerLine, line]
  simp [rests, final]

/-- With no stroke due, the end of a cycle touches the injector alone. -/
theorem tryEndCycle_of_not_due {j : InjNo} {i : LaneNo} {s : State} (ends : (s.inj j).cycleOver = true)
    (own : s.injLane j = some i) (ne : s.stage i ≠ .ended)
    (rests : ∀ a ∈ s.additives i, a.injector = j → strokeDue (s.modInj j endCycle) (s.stage i) a = false) :
    tryEndCycle j s = s.modInj j endCycle := by
  rw [tryEndCycle, if_pos ends]
  dsimp only
  rw [own]
  refine foldl_fixed (fun k => ?_) slots
  split
  · rename_i serves
    obtain ⟨a, line, injector⟩ := (Option.any_eq_true ..).1 serves
    refine considerLine_of_not_due line ne (rests a ?_ (by simpa using injector))
    exact List.mem_of_getElem? line
  · rfl

/-! ### Feedback (R114, R121) -/

theorem exec_feedbackPulse {s : State} {j : InjNo} (done : s.sul.done = true) (fitted : (s.injCfg j).isSome = true)
    (low : (s.inj j).level = false) :
    exec (.feedbackPulse j) s = finish (pulseTaken j (s.modInj j fun x => { x with level := true })) := by
  change execFeedbackPulse j s = _
  rw [execFeedbackPulse, if_pos (by simp [State.reads, fitted, low])]
  dsimp only
  rw [if_pos (by exact done)]

theorem pulseTaken_opened {j : InjNo} {s : State} {taken : Bool} (window : (s.inj j).window = .opened taken) :
    pulseTaken j s = s.modInj j fun x => { x with window := .opened true } := by
  rw [pulseTaken, window]

theorem pulseTaken_closed {j : InjNo} {s : State} (window : (s.inj j).window = .closed) : pulseTaken j s = unexpected j s := by
  rw [pulseTaken, window]

/-- Table 6-2: when unexpected feedback is recorded. -/
theorem endedLive_iff (j : InjNo) (i : LaneNo) (s : State) :
    endedLive j i s = true ↔ s.stage i = .ended ∧ ∃ a ∈ s.additives i, a.live = true ∧ a.injector = j := by
  simp [endedLive]

theorem unexpected_eq {j : InjNo} {i : LaneNo} {s : State} (own : s.injLane j = some i) :
    unexpected j s = if (s.stage i).compartmentOpen || endedLive j i s then s.modFlags i fun f => { f with injectorLeak := true }
      else s := by
  rw [unexpected, own]

end Sys2Proof.Machine

open Sys2Proof Sys2Proof.Machine

/-- Settles O36, by the effect of each timer; with no stroke due the end of a cycle touches the injector alone. -/
theorem stepAndStrokeTimers : Obligations.StepAndStrokeTimers := by
  refine ⟨fun s i x calm steps => yields_of_finish (exec_valveStepEnd steps) calm, fun s j calm =>
    ⟨fun d drives => yields_of_finish (exec_driveTimeEnd drives) calm, fun d i spaces own ne => ?_⟩⟩
  have answer := exec_spacingPeriodEnd spaces own ne
  refine ⟨fun opened => ?_, fun closed phase rests => ?_⟩
  · have goes : (spacedInjector (s.inj j)).cycleOver = false := by simp [Injector.cycleOver, spacedInjector, opened]
    rw [tryEndCycle_of_not_over (by rw [modInj_inj_self]; exact goes)] at answer
    exact yields_of_finish answer calm
  · have ends : (spacedInjector (s.inj j)).cycleOver = true := by simp [Injector.cycleOver, spacedInjector, phase, closed]
    rw [tryEndCycle_of_not_due (i := i) (by rw [modInj_inj_self]; exact ends) (by exact own) (by exact ne) ?_,
      modInj_modInj] at answer
    · exact yields_of_finish answer calm
    · intro a mem injector
      subst injector
      rw [← Bool.not_eq_true]
      intro due
      simp only [strokeDue, Bool.and_eq_true, Bool.or_eq_true, decide_eq_true_eq, AdditiveLine.active, Bool.not_eq_true'] at due
      obtain ⟨⟨⟨stage, live, mark⟩, idle⟩, volume⟩ := due
      rw [modInj_modInj, modInj_inj_self] at idle
      obtain faults | small := rests stage
      · have pending : (spacedInjector ((s.reach d).inj a.injector)).faultPending = true := faults
        rw [endCycle, pending] at idle
        cases idle
      · have less := small a mem rfl live mark
        have same : ((State.modInj a.injector spacedInjector (s.reach d)).modInj a.injector endCycle).strokeNl a.injector =
          s.stroke a.injector * 1000 := rfl
        omega

/-- Settles O39, by the window's state. -/
theorem feedbackPulse : Obligations.FeedbackPulse := by
  refine ⟨fun s j done fitted low => ⟨fun taken window => ?_, fun i window own => ?_⟩, fun s j reason => ?_⟩
  · have answer := exec_feedbackPulse done fitted low
    rw [pulseTaken_opened (taken := taken) (by rw [modInj_inj_self]; exact window), modInj_modInj] at answer
    exact leaves_of_finish answer
  · intro u marks
    have answer := exec_feedbackPulse done fitted low
    rw [pulseTaken_closed (by rw [modInj_inj_self]; exact window), unexpected_eq (i := i) (by exact own)] at answer
    have records : ((u.stage i).compartmentOpen || endedLive j i u) = true ↔ marks := by
      rw [Bool.or_eq_true, endedLive_iff]
      exact Iff.rfl
    refine ⟨fun holds => ?_, fun fails => ?_⟩
    · exact leaves_of_finish (answer.trans (congrArg finish (if_pos (records.2 holds))))
    · exact leaves_of_finish (answer.trans (congrArg finish (if_neg fun r => fails (records.1 r))))
  · change execFeedbackPulse j s = _
    rw [execFeedbackPulse, if_neg]
    obtain high | ⟨done, bare⟩ := reason
    · simp [high]
    · simp [State.reads, done, bare]

end

section
/-! The judgement of a stroke (R119, R120), and the cycle that it may end (R113, R117). -/

namespace Sys2Proof.Machine

theorem calm_of_same {s u : State} (stp : u.stp = s.stp) (lif : u.lif = s.lif) (sul : u.sul = s.sul) (calm : s.Calm) :
    u.Calm := by
  unfold State.Calm State.noReportDue at *
  rwa [stp, lif, sul]

/-! ### The additive lines of a lane -/

theorem additives_of_record {s t : State} {i : LaneNo} (same : t.record i = s.record i) : t.additives i = s.additives i := by
  rw [State.additives, same, State.additives]

theorem modAdditive_additives (i : LaneNo) (k : Nat) (f : AdditiveLine → AdditiveLine) (s : State) :
    (s.modAdditive i k f).additives i = (s.additives i).modify k f := by
  simp only [State.additives, State.modAdditive, modRecord_record]
  cases s.record i <;> simp

theorem modAdditive_additive_self (i : LaneNo) (k : Nat) (f : AdditiveLine → AdditiveLine) (s : State) :
    (s.modAdditive i k f).additive i k = (s.additive i k).map f := by
  simp [State.additive, modAdditive_additives]

theorem giveLimit_record (i : LaneNo) (s : State) : (giveLimit i s).record i = s.record i := by
  unfold giveLimit retarget
  split
  · rfl
  · rw [modLane_record _ rfl, modLane_record _ rfl]

theorem closeDecision_record (i : LaneNo) (reason : EndReason) (s : State) :
    (closeDecision i reason s).record i = s.record i := modLane_record _ rfl

theorem offerCheckpoint_record (i j : LaneNo) (s : State) : (offerCheckpoint i s).record j = s.record j :=
  record_congr (by rw [offerCheckpoint_pct]) (by rw [lane_of_lanes (offerCheckpoint_lanes i s)])

theorem takeFault_record (i : LaneNo) (reason : EndReason) (s : State) : (takeFault i reason s).record i = s.record i := by
  obtain same | same | same := takeFault_cases i reason s
  all_goals rw [same]
  · exact closeDecision_record ..
  · rw [closeDecision_record, setStatus_record]

theorem orderFault_record (i : LaneNo) (s : State) : (orderFault i s).record i = s.record i := by
  unfold orderFault
  dsimp only
  split
  · exact takeFault_record ..
  · rw [offerCheckpoint_record, takeFault_record]

theorem settle_record {s : State} {i : LaneNo} (ne : s.stage i ≠ .ended) : (settle s).record i = s.record i :=
  record_congr (settle_trip s) (by rw [settle_lane ne])

theorem settle_additive {s : State} {i : LaneNo} (ne : s.stage i ≠ .ended) (k : Nat) :
    (settle s).additive i k = s.additive i k := by
  rw [State.additive, additives_of_record (settle_record ne), State.additive]

theorem settle_stage {s : State} {i : LaneNo} (ne : s.stage i ≠ .ended) : (settle s).stage i = s.stage i := by
  rw [State.stage, settle_lane ne, State.stage]

theorem settle_inj (s : State) (j : InjNo) : (settle s).inj j = s.inj j := congrArg (fun t => t.injs[j]) (settle_steady s)

/-- The injectors of a lane's additive lines. -/
def State.doseInjectors (s : State) (i : LaneNo) : List InjNo := (s.additives i).map (·.injector)

theorem modAdditive_doseInjectors {i : LaneNo} {k : Nat} {f : AdditiveLine → AdditiveLine} (same : ∀ a, (f a).injector = a.injector)
    (s : State) : (s.modAdditive i k f).doseInjectors i = s.doseInjectors i := by
  rw [State.doseInjectors, modAdditive_additives, State.doseInjectors]
  refine List.ext_getElem? fun n => ?_
  simp only [List.getElem?_map, List.getElem?_modify]
  cases (s.additives i)[n]? with
  | none => rfl
  | some a =>
    split
    · exact congrArg some (same a)
    · rfl

theorem doseInjectors_of_record {s t : State} {i : LaneNo} (same : t.record i = s.record i) :
    t.doseInjectors i = s.doseInjectors i := by rw [State.doseInjectors, additives_of_record same, State.doseInjectors]

/-! ### The injectors, which the Lane Controller leaves as they are -/

theorem giveLimit_injs (i : LaneNo) (s : State) : (giveLimit i s).injs = s.injs := by
  unfold giveLimit
  split <;> simp [retarget]

theorem offerCheckpoint_injs (i : LaneNo) (s : State) : (offerCheckpoint i s).injs = s.injs := by
  rw [offerCheckpoint_modStp]
  rfl

theorem takeFault_injs (i : LaneNo) (reason : EndReason) (s : State) : (takeFault i reason s).injs = s.injs := by
  obtain same | same | same := takeFault_cases i reason s
  all_goals rw [same]
  all_goals simp [closeDecision, setStatus]

theorem orderFault_injs (i : LaneNo) (s : State) : (orderFault i s).injs = s.injs := by
  unfold orderFault
  dsimp only
  split
  · exact takeFault_injs ..
  · rw [offerCheckpoint_injs, takeFault_injs]

theorem giveLimit_stp (i : LaneNo) (s : State) : (giveLimit i s).stp = s.stp := by
  unfold giveLimit
  split <;> simp [retarget]

/-! ### The order to end a compartment -/

theorem takeFault_of_flowing {i : LaneNo} {s : State} (reason : EndReason) (flows : (s.stage i).flowing = true) :
    takeFault i reason s = closeDecision i reason s := by
  unfold takeFault
  cases stage : s.stage i <;> rw [stage] at flows <;> first | rfl | cases flows

theorem closeDecision_stage (i : LaneNo) (reason : EndReason) (s : State) : (closeDecision i reason s).stage i = .closing := by
  rw [State.stage, closeDecision, modLane_lane_self]

theorem takeFault_stage_ne_ended {i : LaneNo} {s : State} (reason : EndReason) (ne : s.stage i ≠ .ended) :
    (takeFault i reason s).stage i ≠ .ended := by
  obtain same | same | same := takeFault_cases i reason s
  all_goals rw [same]
  · exact ne
  · rw [closeDecision_stage]
    exact Stage.noConfusion
  · rw [closeDecision_stage]
    exact Stage.noConfusion

theorem offerCheckpoint_stage (i j : LaneNo) (s : State) : (offerCheckpoint i s).stage j = s.stage j := by
  rw [State.stage, lane_of_lanes (offerCheckpoint_lanes i s), State.stage]

theorem orderFault_stage_ne_ended {i : LaneNo} {s : State} (ne : s.stage i ≠ .ended) : (orderFault i s).stage i ≠ .ended := by
  unfold orderFault
  dsimp only
  split
  · exact takeFault_stage_ne_ended _ ne
  · rw [offerCheckpoint_stage]
    exact takeFault_stage_ne_ended _ ne

/-- A flowing lane closes with ADDITIVE-FAULT and offers its checkpoint. -/
theorem orderFault_of_flowing {i : LaneNo} {s : State} (flows : (s.stage i).flowing = true) :
    orderFault i s = offerCheckpoint i (closeDecision i .additiveFault s) := by
  unfold orderFault
  dsimp only
  rw [takeFault_of_flowing _ flows, if_neg]
  rw [closeDecision_stage]
  intro same
  rw [← same] at flows
  cases flows

/-! ### The judgement -/

/-- The third miss in a row of a LIVE line (R120). -/
def faultsNow (pulse : Bool) (a : AdditiveLine) : Bool := !pulse && a.live && decide (a.misses = 2)

/-- The window of an injector closes. -/
def closedWindow (x : Injector) : Injector := { x with window := .closed, windowDue := none }

theorem judge_plain {s : State} {j : InjNo} {i : LaneNo} {k : Nat} {a : AdditiveLine} {pulse : Bool}
    (serves : (s.inj j).serving = some ⟨i, k⟩) (line : s.additive i k = some a) (live : a.live = true)
    (goes : faultsNow pulse a = false) : judge j pulse s = s.modAdditive i k (judgeLine pulse) := by
  rw [judge, serves]
  dsimp only
  rw [modAdditive_additive_self, line]
  dsimp only [Option.map_some]
  rw [if_neg]
  cases pulse <;> simp_all [judgeLine, faultsNow]

theorem judge_fault {s : State} {j : InjNo} {i : LaneNo} {k : Nat} {a : AdditiveLine} {pulse : Bool}
    (serves : (s.inj j).serving = some ⟨i, k⟩) (line : s.additive i k = some a) (faults : faultsNow pulse a = true) :
    judge j pulse s = injectorFault ⟨i, k⟩ j a.mandatory (s.modAdditive i k (judgeLine pulse)) := by
  simp only [faultsNow, Bool.and_eq_true, Bool.not_eq_true', decide_eq_true_eq] at faults
  obtain ⟨⟨miss, live⟩, third⟩ := faults
  rw [judge, serves]
  dsimp only
  rw [modAdditive_additive_self, line]
  dsimp only [Option.map_some]
  rw [if_pos (by simp [judgeLine, miss, live, third])]
  simp [judgeLine, miss, live]

/-- What the fault of an injector leaves before the order on a mandatory line. -/
def faulted (i : LaneNo) (k : Nat) (j : InjNo) (s : State) : State :=
  giveLimit i ((s.modInj j fun x => { x with faultPending := true }).modAdditive i k faultLine)

theorem injectorFault_eq (i : LaneNo) (k : Nat) (j : InjNo) (mandatory : Bool) (s : State) :
    injectorFault ⟨i, k⟩ j mandatory s = if mandatory then orderFault i (faulted i k j s) else faulted i k j s := rfl

theorem faulted_stage (i : LaneNo) (k : Nat) (j : InjNo) (s : State) : (faulted i k j s).stage i = s.stage i := by
  rw [faulted, giveLimit_stage, modAdditive_stage]
  rfl

theorem faulted_additive (i : LaneNo) (k : Nat) (j : InjNo) (s : State) :
    (faulted i k j s).additive i k = (s.additive i k).map faultLine := by
  rw [faulted, State.additive, additives_of_record (giveLimit_record ..)]
  exact modAdditive_additive_self ..

theorem faulted_injs (i : LaneNo) (k : Nat) (j : InjNo) (s : State) :
    (faulted i k j s).injs = (s.modInj j fun x => { x with faultPending := true }).injs := by
  rw [faulted, giveLimit_injs, modAdditive_injs]

theorem injectorFault_additive (i : LaneNo) (k : Nat) (j : InjNo) (mandatory : Bool) (s : State) :
    (injectorFault ⟨i, k⟩ j mandatory s).additive i k = (s.additive i k).map faultLine := by
  rw [injectorFault_eq]
  split
  · rw [State.additive, additives_of_record (orderFault_record ..)]
    exact faulted_additive ..
  · exact faulted_additive ..

theorem injectorFault_injs (i : LaneNo) (k : Nat) (j : InjNo) (mandatory : Bool) (s : State) :
    (injectorFault ⟨i, k⟩ j mandatory s).injs = (s.modInj j fun x => { x with faultPending := true }).injs := by
  rw [injectorFault_eq]
  split
  · rw [orderFault_injs, faulted_injs]
  · exact faulted_injs ..

theorem injectorFault_stage_ne_ended {i : LaneNo} {s : State} (k : Nat) (j : InjNo) (mandatory : Bool)
    (ne : s.stage i ≠ .ended) : (injectorFault ⟨i, k⟩ j mandatory s).stage i ≠ .ended := by
  rw [injectorFault_eq]
  split
  · exact orderFault_stage_ne_ended (by rwa [faulted_stage])
  · rwa [faulted_stage]

/-- The line after its stroke has been judged. -/
def judged (pulse : Bool) (a : AdditiveLine) : AdditiveLine :=
  if faultsNow pulse a then faultLine (judgeLine pulse a) else judgeLine pulse a

/-- What the judgement of a stroke leaves of the line, the injector and the stage. -/
structure Judged (j : InjNo) (i : LaneNo) (k : Nat) (pulse : Bool) (a : AdditiveLine) (s v : State) : Prop where
  line : v.additive i k = some (judged pulse a)
  injs : v.injs = s.injs.set j { s.inj j with faultPending := (s.inj j).faultPending || faultsNow pulse a }
  running : v.stage i ≠ .ended
  beyond : v.beyond i = s.beyond i
  doses : v.doseInjectors i = s.doseInjectors i
  calmer : faultsNow pulse a = false ∨ a.mandatory = false → v.stage i = s.stage i

theorem injs_set_self (s : State) (j : InjNo) : s.injs.set j (s.inj j) = s.injs := by
  rw [State.inj, Fin.getElem_fin, Vector.set_getElem_self]

@[simp] theorem injectorFault_beyond (i : LaneNo) (k : Nat) (j : InjNo) (mandatory : Bool) (s : State) :
    (injectorFault ⟨i, k⟩ j mandatory s).beyond i = s.beyond i := by
  rw [injectorFault_eq]
  split <;> simp [faulted]

theorem judgeLine_injector (pulse : Bool) (a : AdditiveLine) : (judgeLine pulse a).injector = a.injector := by
  unfold judgeLine
  split
  · split <;> rfl
  · rfl

theorem modInj_doseInjectors (i : LaneNo) (j : InjNo) (f : Injector → Injector) (s : State) :
    (s.modInj j f).doseInjectors i = s.doseInjectors i := rfl

theorem faulted_doseInjectors (i : LaneNo) (k : Nat) (j : InjNo) (s : State) :
    (faulted i k j s).doseInjectors i = s.doseInjectors i := by
  rw [faulted, doseInjectors_of_record (giveLimit_record ..), modAdditive_doseInjectors, modInj_doseInjectors]
  exact fun _ => rfl

theorem injectorFault_doseInjectors (i : LaneNo) (k : Nat) (j : InjNo) (mandatory : Bool) (s : State) :
    (injectorFault ⟨i, k⟩ j mandatory s).doseInjectors i = s.doseInjectors i := by
  rw [injectorFault_eq]
  split
  · rw [doseInjectors_of_record (orderFault_record ..), faulted_doseInjectors]
  · exact faulted_doseInjectors ..

theorem judge_judged {s : State} {j : InjNo} {i : LaneNo} {k : Nat} {a : AdditiveLine} (pulse : Bool)
    (serves : (s.inj j).serving = some ⟨i, k⟩) (line : s.additive i k = some a) (live : a.live = true)
    (ne : s.stage i ≠ .ended) : Judged j i k pulse a s (judge j pulse s) := by
  cases faults : faultsNow pulse a with
  | false =>
    rw [judge_plain serves line live faults]
    exact
      { line := by rw [modAdditive_additive_self, line, judged, faults]; rfl
        injs := by rw [modAdditive_injs, faults, Bool.or_false]; exact (injs_set_self s j).symm
        running := by rwa [modAdditive_stage]
        beyond := by simp
        doses := modAdditive_doseInjectors (judgeLine_injector pulse) s
        calmer := fun _ => modAdditive_stage .. }
  | true =>
    rw [judge_fault serves line faults]
    exact
      { line := by rw [injectorFault_additive, modAdditive_additive_self, line, judged, faults]; rfl
        injs := by rw [injectorFault_injs, modInj_injs, modAdditive_injs, faults, Bool.or_true]; rfl
        running := injectorFault_stage_ne_ended _ _ _ (by rwa [modAdditive_stage])
        beyond := by simp
        doses := by
          rw [injectorFault_doseInjectors, modAdditive_doseInjectors (judgeLine_injector pulse)]
        calmer := fun goes => by
          have optional : a.mandatory = false := goes.resolve_left (by simp [faults])
          rw [injectorFault_eq, optional]
          exact (faulted_stage ..).trans (modAdditive_stage ..) }

theorem inj_of_injs {t : State} {v : Vector Injector 8} (same : t.injs = v) (j : InjNo) : t.inj j = v[j] := by rw [State.inj, same]

theorem Judged.inj {j : InjNo} {i : LaneNo} {k : Nat} {pulse : Bool} {a : AdditiveLine} {s v : State}
    (h : Judged j i k pulse a s v) :
    v.inj j = { s.inj j with faultPending := (s.inj j).faultPending || faultsNow pulse a } := by
  rw [inj_of_injs h.injs, Fin.getElem_fin, Vector.getElem_set_self]

theorem exec_feedbackWindowClose {s : State} {j : InjNo} {d : Nat} {i : LaneNo} (closes : (s.inj j).windowDue = some d)
    (own : s.injLane j = some i) :
    exec (.feedbackWindowClose j) s = finish (closeDoses i (tryEndCycle j
      (judge j (s.inj j).pulsed ((s.reach d).modInj j closedWindow)))) := by
  change execFeedbackWindowClose j s = _
  rw [execFeedbackWindowClose, onExpiry_some closes, windowEnd]
  change finish (match s.injLane j with | none => _ | some i => _) = _
  rw [own]
  rfl

theorem pulsed_iff (x : Injector) : x.pulsed = true ↔ x.window = .opened true := by simp [Injector.pulsed]

/-- A mandatory line's fault closes its flowing lane with ADDITIVE-FAULT. -/
theorem judge_closes {s : State} {j : InjNo} {i : LaneNo} {k : Nat} {a : AdditiveLine} {pulse : Bool}
    (serves : (s.inj j).serving = some ⟨i, k⟩) (line : s.additive i k = some a) (faults : faultsNow pulse a = true)
    (mandatory : a.mandatory = true) (flows : (s.stage i).flowing = true) :
    judge j pulse s =
      offerCheckpoint i (closeDecision i .additiveFault (faulted i k j (s.modAdditive i k (judgeLine pulse)))) := by
  rw [judge_fault serves line faults, injectorFault_eq, if_pos mandatory, orderFault_of_flowing]
  rwa [faulted_stage, modAdditive_stage]

theorem closeDecision_lane (i : LaneNo) (reason : EndReason) (s : State) :
    (closeDecision i reason s).lane i = { s.lane i with
      stage := .closing, grossAtClose := s.gross i, closeReason := some reason, openOut := false, holdOut := false
      step := none, setpoint := 0, wanted := 0, quiet := 0, closing := some (s.now + Config.closingTime) } :=
  modLane_lane_self ..

/-! ### The cycle that a judgement ends -/

theorem startStroke_doseInjectors (final : Bool) (i : LaneNo) (k : Nat) (j : InjNo) (s : State) :
    (startStroke final i k j s).doseInjectors i = s.doseInjectors i := by
  unfold startStroke
  split
  · rfl
  · rw [doseInjectors_of_record (giveLimit_record ..), modInj_doseInjectors, modAdditive_doseInjectors]
    exact fun _ => rfl

theorem considerLine_cases (i : LaneNo) (k : Nat) (s : State) :
    considerLine i k s = s ∨ ∃ final j, considerLine i k s = startStroke final i k j s := by
  unfold considerLine
  split
  · exact .inl rfl
  · split
    · exact .inr ⟨_, _, rfl⟩
    · split
      · exact .inr ⟨_, _, rfl⟩
      · exact .inl rfl

theorem considerLine_doseInjectors (i : LaneNo) (k : Nat) (s : State) :
    (considerLine i k s).doseInjectors i = s.doseInjectors i := by
  obtain same | ⟨final, j, same⟩ := considerLine_cases i k s
  · rw [same]
  · rw [same, startStroke_doseInjectors]

/-- The injector of line `k` is `j`. -/
theorem serves_iff (s : State) (i : LaneNo) (k : Nat) (j : InjNo) :
    (s.additive i k).any (fun a => a.injector == j) = true ↔ (s.doseInjectors i)[k]? = some j := by
  rw [State.doseInjectors, List.getElem?_map, State.additive]
  cases (s.additives i)[k]? <;> simp

/-- A stroke is considered for the lines of an injector alone. -/
def considerFor (i : LaneNo) (j : InjNo) (s : State) (k : Nat) : State :=
  if (s.additive i k).any (fun a => a.injector == j) then considerLine i k s else s

theorem considerFor_of_ne {i : LaneNo} {j : InjNo} {s : State} {k n : Nat} (own : (s.doseInjectors i)[k]? = some j)
    (once : (s.doseInjectors i).Nodup) (ne : n ≠ k) : considerFor i j s n = s := by
  refine if_neg fun serves => ne ?_
  have other := (serves_iff ..).1 serves
  obtain ⟨lt, _⟩ := List.getElem?_eq_some_iff.1 other
  exact (List.nodup_iff_getElem?_ne_getElem?.1 once |> fun apart => by
    by_contra differ
    obtain less | more := Nat.lt_or_gt_of_ne differ
    · obtain ⟨ltk, _⟩ := List.getElem?_eq_some_iff.1 own
      exact apart n k less ltk (other.trans own.symm)
    · exact apart k n more lt (own.trans other.symm))

theorem considerFor_self {i : LaneNo} {j : InjNo} {s : State} {k : Nat} (own : (s.doseInjectors i)[k]? = some j) :
    considerFor i j s k = considerLine i k s := if_pos ((serves_iff ..).2 own)

/-- With injectors of their own, one line of a lane is considered. -/
theorem foldl_considerFor {i : LaneNo} {j : InjNo} {s : State} {k : Nat} (own : (s.doseInjectors i)[k]? = some j)
    (once : (s.doseInjectors i).Nodup) (few : k < 3) : slots.foldl (considerFor i j) s = considerLine i k s := by
  have same : (considerLine i k s).doseInjectors i = s.doseInjectors i := considerLine_doseInjectors i k s
  have before {n : Nat} (ne : n ≠ k) : considerFor i j s n = s := considerFor_of_ne own once ne
  have after {n : Nat} (ne : n ≠ k) : considerFor i j (considerLine i k s) n = considerLine i k s :=
    considerFor_of_ne (by rwa [same]) (by rwa [same]) ne
  have here := considerFor_self own
  simp only [slots, List.foldl]
  obtain rfl | rfl | rfl : k = 0 ∨ k = 1 ∨ k = 2 := by omega
  · rw [here, after (by decide), after (by decide)]
  · rw [before (by decide), here, after (by decide)]
  · rw [before (by decide), before (by decide), here]

/-- The end of a cycle of an injector with one line. -/
theorem tryEndCycle_eq {i : LaneNo} {j : InjNo} {s : State} {k : Nat} (ends : (s.inj j).cycleOver = true)
    (lane : s.injLane j = some i) (own : (s.doseInjectors i)[k]? = some j) (once : (s.doseInjectors i).Nodup) (few : k < 3) :
    tryEndCycle j s = considerLine i k (s.modInj j endCycle) := by
  rw [tryEndCycle, if_pos ends]
  dsimp only
  rw [lane]
  exact foldl_considerFor (s := s.modInj j endCycle) own once few

theorem considerLine_of_due {i : LaneNo} {k : Nat} {s : State} {a : AdditiveLine} (line : s.additive i k = some a)
    (due : strokeDue s (s.stage i) a = true) : considerLine i k s = startStroke false i k a.injector s := by
  rw [considerLine, line]
  exact if_pos due

theorem startStroke_additive {final : Bool} {i : LaneNo} {k : Nat} {j : InjNo} {s : State} {c : InjectorCfg}
    (cfg : s.injCfg j = some c) :
    (startStroke final i k j s).additive i k = (s.additive i k).map (strokeLine final c.stroke) := by
  rw [startStroke, cfg]
  dsimp only
  rw [State.additive, additives_of_record (giveLimit_record ..)]
  exact modAdditive_additive_self ..

theorem startStroke_inj {final : Bool} {i : LaneNo} {k : Nat} {j : InjNo} {s : State} {c : InjectorCfg}
    (cfg : s.injCfg j = some c) :
    (startStroke final i k j s).inj j = strokeInjector c s.now ⟨i, k⟩ (s.inj j) := by
  rw [startStroke, cfg]
  dsimp only
  rw [inj_of_injs (giveLimit_injs ..), modInj_injs, modAdditive_injs, Fin.getElem_fin, Vector.getElem_set_self]
  rfl

theorem startStroke_now (final : Bool) (i : LaneNo) (k : Nat) (j : InjNo) (s : State) :
    (startStroke final i k j s).now = s.now := now_of_beyond (startStroke_beyond ..)

theorem endCycle_phase (x : Injector) : (endCycle x).phase = if x.faultPending then .faulted else .idle := rfl

/-- R117: when the end of an injector's cycle lets a stroke begin. -/
theorem strokeDue_endCycle {j : InjNo} {st : Stage} {a : AdditiveLine} {v : State} (injector : a.injector = j) :
    strokeDue (v.modInj j endCycle) st a = true ↔ (st.flowing = true ∨ st = .closing) ∧ a.live = true ∧
      a.faultMark = false ∧ (v.inj j).faultPending = false ∧ v.stroke j * 1000 ≤ a.due := by
  subst injector
  have volume : (v.modInj a.injector endCycle).strokeNl a.injector = v.stroke a.injector * 1000 := rfl
  simp only [strokeDue, AdditiveLine.active, volume, modInj_inj_self, endCycle_phase, Bool.and_eq_true, Bool.or_eq_true,
    decide_eq_true_eq, Bool.not_eq_true']
  cases (v.inj a.injector).faultPending <;> simp [and_assoc]

/-- The judged line, field by field. -/
theorem judged_eq {pulse : Bool} {a : AdditiveLine} (live : a.live = true) :
    judged pulse a = { a with
      confirmed := if pulse then a.confirmed + 1 else a.confirmed
      misses := if pulse then 0 else a.misses + 1
      faultMark := a.faultMark || faultsNow pulse a
      backlog := a.backlog && !faultsNow pulse a } := by
  unfold judged judgeLine
  cases pulse <;> cases faults : faultsNow _ a <;> simp_all [faultsNow, faultLine]

theorem faultsNow_iff {pulse : Bool} {a : AdditiveLine} (live : a.live = true) :
    faultsNow pulse a = true ↔ pulse = false ∧ a.misses = 2 := by simp [faultsNow, live]

end Sys2Proof.Machine

open Sys2Proof Sys2Proof.Machine

/-- Settles O40, by the judgement of the stroke and then the cycle that it may end. -/
theorem strokeJudged : Obligations.StrokeJudged := by
  refine ⟨fun s j d k i a closes serves line live early own ne => ?_,
    fun s j d k i a x closes serves line live spaced phase own ne cfg injector few once => ?_⟩
  · have answer := exec_feedbackWindowClose closes own
    have after := judge_judged (s := (s.reach d).modInj j closedWindow) (s.inj j).pulsed
      (by rw [modInj_inj_self]; exact serves) line live ne
    generalize meant : judge j (s.inj j).pulsed ((s.reach d).modInj j closedWindow) = v at answer after
    have inj := after.inj
    rw [modInj_inj_self] at inj
    have goes : (v.inj j).cycleOver = false := by
      rw [inj]
      simp only [Injector.cycleOver, closedWindow, Bool.and_eq_false_iff]
      exact .inl (.inr early)
    rw [tryEndCycle_of_not_over goes, closeDoses_of_ne_ended after.running] at answer
    have now : v.now = max s.now d := now_of_beyond after.beyond
    have same := judged_eq (pulse := (s.inj j).pulsed) live
    refine ⟨_, judged (s.inj j).pulsed a, answer, by rw [settle_now, now], by rw [settle_additive after.running, after.line],
      by rw [settle_inj, inj]; rfl, by rw [settle_inj, inj]; rfl, by rw [settle_inj, inj]; rfl, by rw [same], by rw [same],
      by rw [same], by rw [same]; exact live, fun opened => ?_, fun missed => ?_⟩
    · have pulse := (pulsed_iff _).2 opened
      rw [pulse] at same after
      have plain : faultsNow true a = false := rfl
      rw [pulse, same, settle_stage after.running, after.calmer (.inl plain)]
      simp only [plain, if_true, Bool.or_false, true_and]
      rfl
    · have pulse : (s.inj j).pulsed = false := by
        rw [← Bool.not_eq_true, pulsed_iff]
        exact missed
      rw [pulse] at same after
      rw [pulse, same, settle_stage after.running, settle_inj, inj, pulse]
      refine ⟨rfl, rfl, fun more => ?_, fun third => ?_⟩
      · have plain : faultsNow false a = false := by
          rw [← Bool.not_eq_true, faultsNow_iff live]
          exact fun both => more both.2
        rw [after.calmer (.inl plain)]
        simp only [plain, Bool.or_false, true_and]
        exact ⟨rfl, rfl⟩
      · have faults : faultsNow false a = true := (faultsNow_iff live).2 ⟨rfl, third⟩
        simp only [faults, Bool.or_true, Bool.not_true, Bool.and_false, true_and]
        refine ⟨fun optional => after.calmer (.inr optional), fun mandatory flows => ?_⟩
        rw [pulse, judge_closes (by rw [modInj_inj_self]; exact serves) (by exact line) faults mandatory (by exact flows)] at meant
        subst meant
        have stage := closeDecision_stage i .additiveFault
          (faulted i k j (((s.reach d).modInj j closedWindow).modAdditive i k (judgeLine false)))
        refine ⟨(offerCheckpoint_stage ..).trans stage, ?_, ?_, ?_, ?_⟩
        · rw [settle_lane after.running, lane_of_lanes (offerCheckpoint_lanes ..), closeDecision_lane]
        · rw [settle_lane after.running, lane_of_lanes (offerCheckpoint_lanes ..), closeDecision_lane]
        · rw [settle_lane after.running, lane_of_lanes (offerCheckpoint_lanes ..), closeDecision_lane]
        · refine checkpoints_of_offer (by rw [stage]; exact Stage.noConfusion) (calm_of_same ?_ ?_ ?_) ?_
          · simp [closeDecision, faulted, giveLimit_stp]
          · exact lif_of_beyond (i := i) (s := s.reach d) (by simp [faulted])
          · exact sul_of_beyond (i := i) (s := s.reach d) (by simp [faulted])
          · simp [closeDecision, faulted, giveLimit_stp]
  · intro pulse faults next
    have answer := exec_feedbackWindowClose closes own
    have after := judge_judged (s := (s.reach d).modInj j closedWindow) (s.inj j).pulsed
      (by rw [modInj_inj_self]; exact serves) line live ne
    generalize judge j (s.inj j).pulsed ((s.reach d).modInj j closedWindow) = v at answer after
    have inj := after.inj
    rw [modInj_inj_self] at inj
    have ends : (v.inj j).cycleOver = true := by
      rw [inj]
      simp only [Injector.cycleOver, closedWindow, Bool.and_eq_true, decide_eq_true_eq, and_true]
      exact ⟨decide_eq_true phase, spaced⟩
    have cfgs : v.cfg = s.cfg := (cfg_of_beyond after.beyond).trans rfl
    have now : v.now = max s.now d := now_of_beyond after.beyond
    have stroke : v.stroke j = x.stroke := by rw [State.stroke, State.injCfg, cfgs, ← State.injCfg, cfg]
    have place : k < 3 := (List.getElem?_eq_some_iff.1 line).1.trans_le few
    have doses : v.doseInjectors i = s.doseInjectors i := after.doses
    rw [tryEndCycle_eq (i := i) (k := k) ends (by rw [State.injLane, State.injCfg, cfgs]; exact own)
      (by rw [doses, State.doseInjectors, List.getElem?_map]; exact (congrArg _ line).trans (congrArg some injector))
      (by rwa [doses]) place] at answer
    have same := judged_eq (pulse := (s.inj j).pulsed) live
    have injector' : (judged (s.inj j).pulsed a).injector = j := by rw [same]; exact injector
    have due := strokeDue_endCycle (v := v) (st := v.stage i) injector'
    have faulting : faultsNow (s.inj j).pulsed a = true ↔ ¬pulse ∧ a.misses = 2 := by
      rw [faultsNow_iff live, ← Bool.not_eq_true, pulsed_iff]
    have pending : (v.inj j).faultPending = true ↔ faults := by
      rw [inj, Bool.or_eq_true, faulting]
      exact Iff.rfl
    have confirmed : (judged (s.inj j).pulsed a).confirmed = if pulse then a.confirmed + 1 else a.confirmed := by
      rw [same]
      simp only [pulsed_iff, pulse]
    have misses : (judged (s.inj j).pulsed a).misses = if pulse then 0 else a.misses + 1 := by
      rw [same]
      simp only [pulsed_iff, pulse]
    have mark : (judged (s.inj j).pulsed a).faultMark = (a.faultMark || decide (¬pulse ∧ a.misses = 2)) := by
      rw [same, Bool.eq_iff_iff, Bool.or_eq_true, Bool.or_eq_true, faulting, decide_eq_true_eq]
    have line' : (v.modInj j endCycle).additive i k = some (judged (s.inj j).pulsed a) := after.line
    have running : (v.modInj j endCycle).stage i ≠ .ended := after.running
    by_cases strokes : ¬faults ∧ next
    · obtain ⟨sound, unmarked, flows, volume⟩ := strokes
      have plain : faultsNow (s.inj j).pulsed a = false := by
        rw [← Bool.not_eq_true, faulting]
        exact fun f => sound (.inr f)
      have stays : v.stage i = s.stage i := after.calmer (.inl plain)
      have starts := considerLine_of_due line' (due.2 ⟨by rwa [stays], by rw [same]; exact live, by
        rw [same, unmarked, plain]; rfl, by rw [← Bool.not_eq_true, pending]; exact sound, by
        rw [stroke, same]; exact volume⟩)
      rw [injector'] at starts
      have fits : (v.modInj j endCycle).injCfg j = some x := by
        rw [← cfg, State.injCfg, State.injCfg]
        exact congrArg (fun t : Tables => t.injectors[j]) cfgs
      have stage : (startStroke false i k j (v.modInj j endCycle)).stage i ≠ .ended := by rwa [startStroke_stage]
      rw [starts, closeDoses_of_ne_ended stage] at answer
      refine ⟨_, strokeLine false x.stroke (judged (s.inj j).pulsed a), answer, ?_, ?_, ?_, confirmed, misses, mark, ?_,
        fun f => absurd f sound, fun _ rests => absurd ⟨unmarked, flows, volume⟩ rests,
        fun either => absurd ⟨unmarked, flows, volume⟩ (either.resolve_left sound), fun _ _ => ⟨?_, ?_, ?_⟩⟩
      · rw [settle_now, startStroke_now]
        exact now
      · rw [settle_additive stage, startStroke_additive fits, line']
        rfl
      · change (judged (s.inj j).pulsed a).live = true
        rw [same]
        exact live
      · rw [settle_inj, startStroke_inj fits, modInj_inj_self]
        rfl
      · change (judged (s.inj j).pulsed a).commanded + 1 = _
        rw [same]
      · change (judged (s.inj j).pulsed a).due - x.stroke * 1000 = _
        rw [same]
      · have healthy : (s.inj j).faultPending = false := by
          rw [← Bool.not_eq_true]
          exact fun f => sound (.inl f)
        rw [settle_inj, startStroke_inj fits, modInj_inj_self, inj]
        change strokeInjector x v.now ⟨i, k⟩ _ = _
        rw [now, strokeInjector]
        congr 1
        · exact serves.symm
        · exact healthy.symm
    · have rests : strokeDue (v.modInj j endCycle) ((v.modInj j endCycle).stage i) (judged (s.inj j).pulsed a) = false := by
        rw [← Bool.not_eq_true]
        intro begins
        obtain ⟨flows, _, unmarked, sound, volume⟩ := due.1 begins
        have fine : ¬faults := by rw [← pending, sound]; exact Bool.false_ne_true
        rw [same, stroke] at *
        simp only [Bool.or_eq_false_iff] at unmarked
        refine strokes ⟨fine, unmarked.1, ?_, volume⟩
        rwa [after.calmer (.inl unmarked.2)] at flows
      rw [considerLine_of_not_due line' running rests, closeDoses_of_ne_ended running] at answer
      have here : (settle (v.modInj j endCycle)).inj j = endCycle (v.inj j) := by rw [settle_inj, modInj_inj_self]
      refine ⟨_, judged (s.inj j).pulsed a, answer, ?_, ?_, ?_, confirmed, misses, mark, ?_, fun f => ?_, fun sound _ => ?_,
        fun _ => ⟨?_, ?_, ?_, ?_⟩, fun sound begins => absurd ⟨sound, begins⟩ strokes⟩
      · rw [settle_now]
        exact now
      · rw [settle_additive running, line']
      · rw [same]
        exact live
      · rw [here]
        rfl
      · rw [here, endCycle_phase, pending.2 f]
        rfl
      · rw [here, endCycle_phase, if_neg fun f => sound (pending.1 f)]
      · rw [here, inj]
        rfl
      · rw [here, inj]
        rfl
      · rw [same]
      · rw [same]

end

section
/-! The max-min fair division (R136): one level cuts the demands. -/

namespace Sys2Proof.Machine

/-- A level that cuts ascending demands to a capacity (R136): the cut demands fit, less than 1 for each demand cut is left, and
the level is no lower than any even share. -/
structure CutsAt (capacity : Nat) (demands : List Nat) (level : Nat) : Prop where
  grant : ∀ d ∈ demands, grantFrom d capacity demands = min d level
  fits : (demands.map (min · level)).sum ≤ capacity
  fills : capacity < (demands.map (min · level)).sum + (demands.filter (level < ·)).length
  even : ∀ c, c * demands.length ≤ capacity → c ≤ level

theorem length_mul_le_sum {d : Nat} {demands : List Nat} (low : ∀ e ∈ demands, d ≤ e) : d * demands.length ≤ demands.sum := by
  induction demands with
  | nil => simp
  | cons e rest ih =>
    have here := low e (List.mem_cons_self ..)
    have there := ih fun x mem => low x (List.mem_cons_of_mem _ mem)
    rw [List.length_cons, List.sum_cons, Nat.mul_add, Nat.mul_one]
    omega

/-- Demands that fit are granted. -/
theorem grantFrom_of_fits {demands : List Nat} (sorted : demands.Pairwise (· ≤ ·)) {capacity : Nat}
    (fits : demands.sum ≤ capacity) : ∀ d ∈ demands, grantFrom d capacity demands = d := by
  induction demands generalizing capacity with
  | nil => simp
  | cons e rest ih =>
    obtain ⟨low, sorted⟩ := List.pairwise_cons.1 sorted
    rw [List.sum_cons] at fits
    have share := length_mul_le_sum low
    have even : e * (rest.length + 1) ≤ capacity := by rw [Nat.mul_add, Nat.mul_one]; omega
    intro d mem
    rw [grantFrom, if_pos even]
    split
    · rfl
    · rename_i ne
      exact ih sorted (by omega) d ((List.mem_cons.1 mem).resolve_left fun same => ne same.symm)

/-- Demands that do not fit are cut at one level. -/
theorem grantFrom_cuts {demands : List Nat} (sorted : demands.Pairwise (· ≤ ·)) {capacity : Nat}
    (excess : capacity < demands.sum) : ∃ level, CutsAt capacity demands level := by
  induction demands generalizing capacity with
  | nil => simp at excess
  | cons e rest ih =>
    obtain ⟨low, sorted⟩ := List.pairwise_cons.1 sorted
    rw [List.sum_cons] at excess
    by_cases even : e * (rest.length + 1) ≤ capacity
    · have room : e * rest.length + e ≤ capacity := by rwa [Nat.mul_add, Nat.mul_one] at even
      have le : e ≤ capacity := by omega
      obtain ⟨level, cuts⟩ := ih sorted (capacity := capacity - e) (by omega)
      have above : e ≤ level := cuts.even e (by omega)
      have whole : min e level = e := min_eq_left above
      refine ⟨level, ⟨fun d mem => ?_, ?_, ?_, fun c share => ?_⟩⟩
      · rw [grantFrom, if_pos even]
        split
        · rename_i same
          rw [← same, whole]
        · rename_i ne
          exact cuts.grant d ((List.mem_cons.1 mem).resolve_left fun same => ne same.symm)
      · have fits := cuts.fits
        rw [List.map_cons, List.sum_cons, whole]
        omega
      · have fills := cuts.fills
        rw [List.map_cons, List.sum_cons, whole, List.filter_cons_of_neg (by simpa using above)]
        omega
      · obtain small | large := Nat.le_total c e
        · exact small.trans above
        · refine cuts.even c ?_
          rw [List.length_cons, Nat.mul_add, Nat.mul_one] at share
          omega
    · have pos : 0 < rest.length + 1 := Nat.succ_pos _
      have below : capacity / (rest.length + 1) < e := (Nat.div_lt_iff_lt_mul pos).2 (Nat.lt_of_not_le even)
      have cut : ∀ d ∈ e :: rest, capacity / (rest.length + 1) < d := fun d mem => by
        obtain rfl | mem := List.mem_cons.1 mem
        · exact below
        · exact below.trans_le (low d mem)
      have level : (e :: rest).map (min · (capacity / (rest.length + 1))) =
          List.replicate (rest.length + 1) (capacity / (rest.length + 1)) :=
        List.eq_replicate_iff.2 ⟨by simp, fun x mem => by
          obtain ⟨d, here, rfl⟩ := List.mem_map.1 mem
          exact min_eq_right (cut d here).le⟩
      have all : (e :: rest).filter (capacity / (rest.length + 1) < ·) = e :: rest :=
        List.filter_eq_self.2 fun d mem => by simpa using cut d mem
      have division := Nat.div_add_mod capacity (rest.length + 1)
      have remainder := Nat.mod_lt capacity pos
      refine ⟨_, ⟨fun d mem => ?_, ?_, ?_, fun c share => (Nat.le_div_iff_mul_le pos).2 share⟩⟩
      · rw [grantFrom, if_neg even]
        exact (min_eq_right (cut d mem).le).symm
      · rw [level, List.sum_replicate, smul_eq_mul]
        omega
      · rw [level, all, List.sum_replicate, smul_eq_mul, List.length_cons]
        omega

/-- The demands in the order in which the division takes them. -/
theorem sorted_demands (demands : List Nat) : (demands.insertionSort (· ≤ ·)).Pairwise (· ≤ ·) :=
  List.pairwise_insertionSort (· ≤ ·) demands

theorem perm_demands (demands : List Nat) : (demands.insertionSort (· ≤ ·)).Perm demands :=
  List.perm_insertionSort (· ≤ ·) demands

/-- Demands that fit are granted (R136). -/
theorem fairGrant_of_fits {capacity : Nat} {demands : List Nat} (fits : demands.sum ≤ capacity) :
    ∀ d ∈ demands, fairGrant capacity demands d = d := by
  intro d mem
  unfold fairGrant
  split
  · rename_i zero
    exact zero.symm
  · exact grantFrom_of_fits (sorted_demands demands) (by rwa [(perm_demands demands).sum_eq]) d
      ((perm_demands demands).mem_iff.2 mem)

/-- Demands that do not fit are cut at one level, which leaves less than 1 for each demand cut (R136). -/
theorem fairGrant_cuts {capacity : Nat} {demands : List Nat} (excess : capacity < demands.sum) :
    ∃ level, (∀ d ∈ demands, fairGrant capacity demands d = min d level) ∧
      (demands.map (min · level)).sum ≤ capacity ∧
      capacity < (demands.map (min · level)).sum + (demands.filter (level < ·)).length := by
  have perm := perm_demands demands
  obtain ⟨level, cuts⟩ := grantFrom_cuts (sorted_demands demands) (capacity := capacity) (by rwa [perm.sum_eq])
  refine ⟨level, fun d mem => ?_, ?_, ?_⟩
  · unfold fairGrant
    split
    · rename_i zero
      rw [zero, Nat.zero_min]
    · exact cuts.grant d (perm.mem_iff.2 mem)
  · rw [← (perm.map _).sum_eq]
    exact cuts.fits
  · rw [← (perm.map _).sum_eq, ← (perm.filter _).length_eq]
    exact cuts.fills

/-- The laws of the max-min fair division (R136). -/
theorem fairGrant_laws (capacity : Nat) (demands : List Nat) :
    ((demands.map (fairGrant capacity demands)).sum ≤ capacity) ∧
    (∀ d ∈ demands, fairGrant capacity demands d ≤ d) ∧
    (demands.sum ≤ capacity → ∀ d ∈ demands, fairGrant capacity demands d = d) ∧
    (capacity < demands.sum → ∃ level, (∀ d ∈ demands, fairGrant capacity demands d = min d level) ∧
      capacity < (demands.map (fairGrant capacity demands)).sum + (demands.filter (level < ·)).length) ∧
    (∀ d ∈ demands, ∀ e ∈ demands, d ≤ e → fairGrant capacity demands d ≤ fairGrant capacity demands e) := by
  by_cases fits : demands.sum ≤ capacity
  · have whole := fairGrant_of_fits fits
    have same : demands.map (fairGrant capacity demands) = demands := by
      rw [List.map_congr_left whole, List.map_id']
    refine ⟨by rwa [same], fun d mem => (whole d mem).le, fun _ => whole, fun excess => absurd fits (by omega), ?_⟩
    intro d memD e memE le
    rwa [whole d memD, whole e memE]
  · obtain ⟨level, cut, below, fills⟩ := fairGrant_cuts (Nat.lt_of_not_le fits)
    have same : demands.map (fairGrant capacity demands) = demands.map (min · level) := List.map_congr_left cut
    refine ⟨by rwa [same], fun d mem => ?_, fun fit => absurd fit fits, fun _ => ⟨level, cut, by rwa [same]⟩, ?_⟩
    · rw [cut d mem]
      exact min_le_left ..
    · intro d memD e memE le
      rw [cut d memD, cut e memE]
      exact min_le_min_right level le

/-! ### The computation of the shares (R131 to R141) -/

/-- A lane without what a computation of the shares may change in it. -/
def Lane.unshared (l : Lane) : Lane := { l with share := 0, setpoint := 0, wanted := 0 }

/-- The state without what a computation of the shares may change. -/
def State.unshared (s : State) : State :=
  { s with
    lanes := s.lanes.map Lane.unshared
    hsu := { s.hsu with headers := Vector.replicate 6 {} }
    lif := { s.lif with slot := [], due := .none, spacing := none } }

theorem modLane_unshared {i : LaneNo} {f : Lane → Lane} (same : ∀ l, (f l).unshared = l.unshared) (s : State) :
    (s.modLane i f).unshared = s.unshared := by
  have lanes : (s.lanes.set i (f s.lanes[i])).map Lane.unshared = s.lanes.map Lane.unshared := by
    ext k lt
    simp only [Vector.getElem_map, Vector.getElem_set]
    split
    · rename_i eq
      subst eq
      exact same _
    · rfl
  change ({ s with lanes := s.lanes.set i (f s.lanes[i]) } : State).unshared = _
  unfold State.unshared
  dsimp only
  rw [lanes]

theorem giveShare_unshared (i : LaneNo) (share : Nat) (s : State) : (giveShare i share s).unshared = s.unshared := by
  unfold giveShare retarget
  rw [modLane_unshared, modLane_unshared]
  · exact fun _ => rfl
  · exact fun _ => rfl

theorem foldl_unshared {α : Type} {f : State → α → State} (each : ∀ t a, (f t a).unshared = t.unshared) (l : List α) (s : State) :
    (l.foldl f s).unshared = s.unshared := by
  induction l generalizing s with
  | nil => rfl
  | cons a rest ih => rw [List.foldl_cons, ih, each]

theorem computeHeader_unshared (h : Nat) (s : State) : (computeHeader h s).unshared = s.unshared := by
  unfold computeHeader
  repeat' split
  · rfl
  · rfl
  · dsimp only
    rw [giveShares, foldl_unshared fun t i => giveShare_unshared i _ t]
    rfl

theorem requestChange_unshared (s : State) : (requestChange s).unshared = s.unshared := by
  unfold requestChange statusDueNow
  repeat' split
  all_goals rfl

theorem slot_unshared (slot : List HeaderEntry) (s : State) :
    (s.modLif fun l => { l with slot := slot }).unshared = s.unshared := rfl

theorem computeShares_unshared (s : State) : (computeShares s).unshared = s.unshared := by
  have headers : (allHeaders.foldl (fun u h => computeHeader h u) s).unshared = s.unshared :=
    foldl_unshared (fun t h => computeHeader_unshared h t) allHeaders s
  unfold computeShares
  dsimp only
  split
  · rw [requestChange_unshared, slot_unshared, headers]
  · rw [slot_unshared, headers]

/-! #### What one header's computation gives each lane -/

theorem giveShare_lane_self (i : LaneNo) (share : Nat) (s : State) :
    ((giveShare i share s).lane i).share = share ∧ ((giveShare i share s).lane i).setpoint ≤ share ∧
    ((giveShare i share s).lane i).setpoint ≤ (s.lane i).setpoint := by
  have target : (s.modLane i fun l => { l with share := share }).target i ≤ share := by
    unfold State.target
    split
    · exact Nat.zero_le _
    · rw [modLane_lane_self]
      exact Nat.min_le_left ..
  rw [giveShare, retarget, modLane_lane_self]
  refine ⟨?_, (Nat.min_le_right ..).trans target, ?_⟩
  · rw [modLane_lane_self]
  · rw [modLane_lane_self]
    exact Nat.min_le_left ..

theorem giveShare_lane_ne {i j : LaneNo} (ne : i ≠ j) (share : Nat) (s : State) : (giveShare i share s).lane j = s.lane j := by
  rw [giveShare, retarget, modLane_lane_ne _ _ _ ne, modLane_lane_ne _ _ _ ne]

/-- Each lane of a list takes its share once. -/
theorem foldl_giveShare {lanes : List LaneNo} (once : lanes.Nodup) (share : LaneNo → Nat) (s : State) (j : LaneNo) :
    let t := lanes.foldl (fun t i => giveShare i (share i) t) s
    (j ∉ lanes → t.lane j = s.lane j) ∧
    (j ∈ lanes → (t.lane j).share = share j ∧ (t.lane j).setpoint ≤ share j ∧
      (t.lane j).setpoint ≤ (s.lane j).setpoint) := by
  induction lanes generalizing s with
  | nil => exact ⟨fun _ => rfl, fun mem => absurd mem List.not_mem_nil⟩
  | cons i rest ih =>
    obtain ⟨out, once⟩ := List.nodup_cons.1 once
    obtain ⟨stays, takes⟩ := ih once (giveShare i (share i) s)
    rw [List.foldl_cons]
    refine ⟨fun notMem => ?_, fun mem => ?_⟩
    · rw [stays fun mem => notMem (List.mem_cons_of_mem _ mem),
        giveShare_lane_ne (by rintro rfl; exact notMem (List.mem_cons_self ..))]
    · by_cases eq : i = j
      · subst eq
        rw [stays out]
        exact giveShare_lane_self ..
      · obtain ⟨same, below, falls⟩ := takes ((List.mem_cons.1 mem).resolve_left fun e => eq e.symm)
        rw [giveShare_lane_ne eq] at falls
        exact ⟨same, below, falls⟩

/-! #### What lies beyond a computation of the shares -/

section
variable {s t : State} (same : t.unshared = s.unshared)
include same

theorem lif_of_unshared : { t.lif with slot := [], due := .none, spacing := none } =
    { s.lif with slot := [], due := .none, spacing := none } := congrArg (·.lif) same

theorem link_of_unshared : t.lif.link = s.lif.link := congrArg (·.link) (lif_of_unshared same)

theorem peers_of_unshared : t.lif.peers = s.lif.peers := congrArg (·.peers) (lif_of_unshared same)

theorem lastSent_of_unshared : t.lif.lastSent = s.lif.lastSent := congrArg (·.lastSent) (lif_of_unshared same)

theorem current_of_unshared : t.lif.current = s.lif.current := congrArg (·.current) (lif_of_unshared same)

theorem lastStatus_of_unshared : t.lif.lastStatus = s.lif.lastStatus := congrArg (·.lastStatus) (lif_of_unshared same)

theorem now_of_unshared : t.now = s.now := congrArg (·.now) same

theorem hsuTick_of_unshared : t.hsu.tick = s.hsu.tick := congrArg (·.hsu.tick) same

theorem cfg_of_unshared : t.cfg = s.cfg := congrArg (·.cfg) same

theorem lane_of_unshared (i : LaneNo) : (t.lane i).unshared = (s.lane i).unshared := by
  have lanes : t.lanes.map Lane.unshared = s.lanes.map Lane.unshared := congrArg (·.lanes) same
  have here := congrArg (fun v : Vector Lane 4 => v[i]) lanes
  simpa [State.lane] using here

theorem q_of_unshared (i : LaneNo) : (t.lane i).ven.q = (s.lane i).ven.q := congrArg (·.ven.q) (lane_of_unshared same i)

end

theorem lanesOn_congr {s t : State} (cfg : t.cfg = s.cfg) (h : Nat) : t.lanesOn h = s.lanesOn h := by
  unfold State.lanesOn State.laneCfg
  rw [cfg]

theorem headerCfg_congr {s t : State} (cfg : t.cfg = s.cfg) (h : Nat) : t.headerCfg h = s.headerCfg h := by
  unfold State.headerCfg
  rw [cfg]

theorem headersUsed_congr {s t : State} (cfg : t.cfg = s.cfg) : t.headersUsed = s.headersUsed := by
  unfold State.headersUsed
  exact List.filter_congr fun h _ => by rw [lanesOn_congr cfg]

/-- A lane is on one header alone. -/
theorem header_of_lanesOn {s : State} {i : LaneNo} {h g : Nat} (on : i ∈ s.lanesOn h) (too : i ∈ s.lanesOn g) : h = g := by
  have on := (List.mem_filter.1 on).2
  have too := (List.mem_filter.1 too).2
  cases cfg : s.laneCfg i with
  | none =>
    rw [cfg] at on
    cases on
  | some c =>
    rw [cfg] at on too
    exact (beq_iff_eq.1 on).symm.trans (beq_iff_eq.1 too)

theorem lanesOn_nodup (s : State) (h : Nat) : (s.lanesOn h).Nodup := allLanes_nodup.filter _

/-! #### The computation header by header -/

/-- `t` holds the demand, the allotment and the shares that the computation makes of `s` on header `h`. -/
def State.Computes (s t : State) (h : Nat) : Prop :=
  ∀ c, s.headerCfg h = some c → s.lanesOn h ≠ [] →
    t.hsu.headers[h - 1]? = some ⟨ownDemand s h, allotmentOn s c h (ownDemand s h)⟩ ∧
    ∀ i ∈ s.lanesOn h,
      (t.lane i).share = fairGrant (allotmentOn s c h (ownDemand s h)) (laneClaims s h) (s.lane i).wanted ∧
      (t.lane i).setpoint ≤ (t.lane i).share ∧ (t.lane i).setpoint ≤ (s.lane i).setpoint

theorem giveShare_hsu (i : LaneNo) (share : Nat) (s : State) : (giveShare i share s).hsu = s.hsu := rfl

theorem foldl_giveShare_hsu (lanes : List LaneNo) (share : LaneNo → Nat) (s : State) :
    (lanes.foldl (fun t i => giveShare i (share i) t) s).hsu = s.hsu := by
  induction lanes generalizing s with
  | nil => rfl
  | cons i rest ih => rw [List.foldl_cons, ih, giveShare_hsu]

theorem computeHeader_eq {s : State} {h : Nat} {c : HeaderCfg} (cfg : s.headerCfg h = some c) (used : s.lanesOn h ≠ []) :
    computeHeader h s = (s.lanesOn h).foldl
      (fun t i => giveShare i (fairGrant (allotmentOn s c h (ownDemand s h)) (laneClaims s h) (s.lane i).wanted) t)
      (setShare h ⟨ownDemand s h, allotmentOn s c h (ownDemand s h)⟩ s) := by
  rw [computeHeader, if_neg used, cfg]
  rfl

theorem foldl_giveShare_lif (lanes : List LaneNo) (share : LaneNo → Nat) (s : State) :
    (lanes.foldl (fun t i => giveShare i (share i) t) s).lif = s.lif := by
  induction lanes generalizing s with
  | nil => rfl
  | cons i rest ih =>
    rw [List.foldl_cons, ih]
    rfl

theorem computeHeader_lif (h : Nat) (s : State) : (computeHeader h s).lif = s.lif := by
  unfold computeHeader
  repeat' split
  · rfl
  · rfl
  · dsimp only
    rw [giveShares, foldl_giveShare_lif]
    rfl

theorem setShare_self {h : Nat} (low : 1 ≤ h) (high : h ≤ 6) (x : Share) (s : State) :
    (setShare h x s).hsu.headers[h - 1]? = some x := by
  simp [setShare, State.modHsu, Vector.getElem?_setIfInBounds]
  omega

theorem setShare_ne {h g : Nat} (ne : g - 1 ≠ h - 1) (x : Share) (s : State) :
    (setShare h x s).hsu.headers[g - 1]? = s.hsu.headers[g - 1]? := by
  simp only [setShare, State.modHsu]
  exact Vector.getElem?_setIfInBounds_ne (Ne.symm ne)

theorem computeHeader_computes {h : Nat} (low : 1 ≤ h) (high : h ≤ 6) (s : State) : s.Computes (computeHeader h s) h := by
  intro c cfg used
  rw [computeHeader_eq cfg used]
  refine ⟨?_, fun i mem => ?_⟩
  · rw [foldl_giveShare_hsu]
    exact setShare_self low high ..
  · obtain ⟨share, below, falls⟩ := (foldl_giveShare (lanesOn_nodup s h)
      (fun i => fairGrant (allotmentOn s c h (ownDemand s h)) (laneClaims s h) (s.lane i).wanted) (setShare h _ s) i).2 mem
    exact ⟨share, share ▸ below, falls⟩

theorem computeHeader_lane {s : State} {h : Nat} {i : LaneNo} (off : i ∉ s.lanesOn h) : (computeHeader h s).lane i = s.lane i := by
  unfold computeHeader
  repeat' split
  · rfl
  · rfl
  · exact (foldl_giveShare (lanesOn_nodup s h) _ (setShare h _ s) i).1 off

theorem computeHeader_headers {h g : Nat} (ne : g - 1 ≠ h - 1) (s : State) :
    (computeHeader h s).hsu.headers[g - 1]? = s.hsu.headers[g - 1]? := by
  unfold computeHeader
  repeat' split
  · rfl
  · rfl
  · dsimp only
    rw [giveShares, foldl_giveShare_hsu]
    exact setShare_ne ne ..

theorem ownDemand_congr {s t : State} {h : Nat} (cfg : t.cfg = s.cfg) (lanes : ∀ i ∈ s.lanesOn h, t.lane i = s.lane i) :
    ownDemand t h = ownDemand s h := by
  rw [ownDemand, lanesOn_congr cfg, ownDemand, List.map_congr_left fun i mem => by rw [lanes i mem]]

theorem laneClaims_congr {s t : State} {h : Nat} (cfg : t.cfg = s.cfg) (lanes : ∀ i ∈ s.lanesOn h, t.lane i = s.lane i) :
    laneClaims t h = laneClaims s h := by
  rw [laneClaims, lanesOn_congr cfg, laneClaims, List.map_congr_left fun i mem => by rw [lanes i mem]]

theorem allotmentOn_congr {s t : State} (link : t.lif.link = s.lif.link) (peers : t.lif.peers = s.lif.peers) (c : HeaderCfg)
    (h own : Nat) : allotmentOn t c h own = allotmentOn s c h own := by
  rw [allotmentOn, link, claimants, peers]
  rfl

/-- What is computed on a header of a state stands for any state with the same lanes on it. -/
theorem computes_congr {s u t : State} {h : Nat} (cfg : u.cfg = s.cfg) (link : u.lif.link = s.lif.link)
    (peers : u.lif.peers = s.lif.peers) (lanes : ∀ i ∈ s.lanesOn h, u.lane i = s.lane i) (computed : u.Computes t h) :
    s.Computes t h := by
  intro c header used
  obtain ⟨share, each⟩ := computed c (by rwa [headerCfg_congr cfg]) (by rwa [lanesOn_congr cfg])
  rw [ownDemand_congr cfg lanes, allotmentOn_congr link peers] at share each
  refine ⟨share, fun i mem => ?_⟩
  have here := each i (by rwa [lanesOn_congr cfg])
  rwa [laneClaims_congr cfg lanes, lanes i mem] at here

theorem foldl_computeHeader_off {headers : List Nat} {s : State} :
    (∀ i : LaneNo, (∀ h ∈ headers, i ∉ s.lanesOn h) → (headers.foldl (fun u h => computeHeader h u) s).lane i = s.lane i) ∧
    ∀ g : Nat, (∀ h ∈ headers, g - 1 ≠ h - 1) →
      (headers.foldl (fun u h => computeHeader h u) s).hsu.headers[g - 1]? = s.hsu.headers[g - 1]? := by
  induction headers generalizing s with
  | nil => exact ⟨fun _ _ => rfl, fun _ _ => rfl⟩
  | cons h rest ih =>
    have cfg := cfg_of_unshared (computeHeader_unshared h s)
    obtain ⟨lanes, shares⟩ := ih (s := computeHeader h s)
    refine ⟨fun i off => ?_, fun g apart => ?_⟩
    · rw [List.foldl_cons, lanes i fun k mem => by rw [lanesOn_congr cfg]; exact off k (List.mem_cons_of_mem _ mem),
        computeHeader_lane (off h (List.mem_cons_self ..))]
    · rw [List.foldl_cons, shares g fun k mem => apart k (List.mem_cons_of_mem _ mem),
        computeHeader_headers (apart h (List.mem_cons_self ..))]

/-- The computation on each header in turn makes of each what it makes of the state at the start. -/
theorem foldl_computeHeader_computes {headers : List Nat} (once : headers.Nodup) (range : ∀ h ∈ headers, 1 ≤ h ∧ h ≤ 6)
    (s : State) : ∀ h ∈ headers, s.Computes (headers.foldl (fun u h => computeHeader h u) s) h := by
  induction headers generalizing s with
  | nil => simp
  | cons g rest ih =>
    obtain ⟨out, once⟩ := List.nodup_cons.1 once
    have same := computeHeader_unshared g s
    have cfg := cfg_of_unshared same
    have after := ih once (fun h mem => range h (List.mem_cons_of_mem _ mem)) (computeHeader g s)
    obtain ⟨low, high⟩ := range g (List.mem_cons_self ..)
    intro h mem
    rw [List.foldl_cons]
    obtain rfl | mem := List.mem_cons.1 mem
    · obtain ⟨lanes, shares⟩ := foldl_computeHeader_off (headers := rest) (s := computeHeader h s)
      have apart : ∀ k ∈ rest, h - 1 ≠ k - 1 := fun k mem same => by
        have bounds := range k (List.mem_cons_of_mem _ mem)
        exact out ((show h = k by omega) ▸ mem)
      intro c header used
      obtain ⟨share, each⟩ := computeHeader_computes low high s c header used
      refine ⟨by rw [shares h apart]; exact share, fun i on => ?_⟩
      rw [lanes i fun k mem too => apart k mem (by
        rw [lanesOn_congr cfg] at too
        rw [header_of_lanesOn on too])]
      exact each i on
    · refine computes_congr cfg (link_of_unshared same) (peers_of_unshared same) (fun i on => ?_) (after h mem)
      exact computeHeader_lane fun too => out (header_of_lanesOn on too ▸ mem)

/-! #### The whole computation -/

theorem mem_headersUsed {s : State} {h : Nat} : h ∈ s.headersUsed ↔ (h ∈ allHeaders ∧ s.lanesOn h ≠ []) := by
  simp [State.headersUsed]

theorem allHeaders_range : ∀ h ∈ allHeaders, 1 ≤ h ∧ h ≤ 6 := by decide

/-- The state after the computation on each header, before the STATUS slot is filled. -/
def computed (s : State) : State := allHeaders.foldl (fun u h => computeHeader h u) s

theorem computed_unshared (s : State) : (computed s).unshared = s.unshared :=
  foldl_unshared (fun t h => computeHeader_unshared h t) allHeaders s

theorem computed_computes {s : State} {h : Nat} (mem : h ∈ allHeaders) : s.Computes (computed s) h :=
  foldl_computeHeader_computes (by decide) allHeaders_range s h mem

/-- The STATUS slot filled from the computation. -/
def slotted (s : State) : State := (computed s).modLif fun l => { l with slot := ownEntries (computed s) }

theorem computeShares_eq (s : State) : computeShares s = if announces (slotted s) then requestChange (slotted s) else slotted s := rfl

theorem requestChange_keeps (s : State) : (requestChange s).lanes = s.lanes ∧ (requestChange s).hsu = s.hsu ∧
    (requestChange s).lif.slot = s.lif.slot ∧ (requestChange s).lif.link = s.lif.link ∧
    (requestChange s).lif.peers = s.lif.peers := by
  unfold requestChange statusDueNow
  repeat' split
  all_goals exact ⟨rfl, rfl, rfl, rfl, rfl⟩

theorem slotted_keeps (s : State) : (slotted s).lanes = (computed s).lanes ∧ (slotted s).hsu = (computed s).hsu ∧
    (slotted s).lif.slot = ownEntries (computed s) := by
  unfold slotted
  generalize computed s = u
  exact ⟨rfl, rfl, rfl⟩

theorem computeShares_keeps (s : State) : (computeShares s).lanes = (computed s).lanes ∧ (computeShares s).hsu = (computed s).hsu ∧
    (computeShares s).lif.slot = ownEntries (computed s) := by
  rw [computeShares_eq]
  split
  · obtain ⟨lanes, hsu, slot, _⟩ := requestChange_keeps (slotted s)
    obtain ⟨sameLanes, sameHsu, sameSlot⟩ := slotted_keeps s
    exact ⟨lanes.trans sameLanes, hsu.trans sameHsu, slot.trans sameSlot⟩
  · exact slotted_keeps s

theorem demandOn_computed {s : State} {h : Nat} {c : HeaderCfg} (mem : h ∈ allHeaders) (cfg : s.headerCfg h = some c)
    (used : s.lanesOn h ≠ []) : (computed s).demandOn h = ownDemand s h := by
  rw [State.demandOn, (computed_computes mem c cfg used).1]
  rfl

theorem ownDraw_computed (s : State) (h : Nat) : ownDraw (computed s) h = ownDraw s h := by
  have same := computed_unshared s
  rw [ownDraw, lanesOn_congr (cfg_of_unshared same), ownDraw, List.map_congr_left fun i _ => q_of_unshared same i]

/-- What has the computation's results, with the link state and the peer table it was made under, allots what the rules say. -/
theorem allots_of_computes {s u v t : State} (lanes : u.lanes = s.lanes) (cfg : u.cfg = s.cfg)
    (computes : ∀ h ∈ allHeaders, u.Computes v h) (kept : t.lanes = v.lanes) (shares : t.hsu = v.hsu)
    (entries : ∀ h ∈ u.headersUsed, ⟨h, v.demandOn h, saturate 16 (ownDraw u h)⟩ ∈ t.lif.slot)
    (link : t.lif.link = u.lif.link) (peers : t.lif.peers = u.lif.peers) : s.Allots t := by
  intro h c usedOf header
  obtain ⟨mem, used⟩ := mem_headersUsed.1 usedOf
  have on := lanesOn_congr cfg h
  have lane (i : LaneNo) : u.lane i = s.lane i := lane_of_lanes lanes i
  obtain ⟨share, each⟩ := computes h mem c ((headerCfg_congr cfg h).trans header) (by rw [on]; exact used)
  have own : ownDemand u h = ((s.lanesOn h).map fun i => (s.lane i).wanted).sum := ownDemand_congr cfg fun i _ => lane i
  have claims : laneClaims u h = ((s.lanesOn h).map fun j => (s.lane j).wanted).filter (0 < ·) :=
    laneClaims_congr cfg fun i _ => lane i
  have demand : v.demandOn h = ownDemand u h := by rw [State.demandOn, share, Option.map_some, Option.getD_some]
  have entry := entries h (by rw [headersUsed_congr cfg]; exact usedOf)
  have draw : ownDraw u h = ((s.lanesOn h).map fun i => (s.lane i).ven.q).sum := by
    unfold ownDraw
    rw [on]
    simp only [lane]
  rw [demand, own, draw] at entry
  rw [← allotmentOn_congr link peers, own] at share each
  refine ⟨by rw [shares]; exact share, fun i memI => ?_, entry⟩
  have here := each i (by rw [on]; exact memI)
  rw [claims, lane] at here
  rw [lane_of_lanes kept]
  exact here

/-- R131 to R140: the computation allots what the rules say, under the link state and the peer table of the state. -/
theorem computeShares_allots {s u : State} (lanes : u.lanes = s.lanes) (cfg : u.cfg = s.cfg) : s.Allots (computeShares u) := by
  obtain ⟨laneKept, hsuKept, slotKept⟩ := computeShares_keeps u
  have same := computeShares_unshared u
  refine allots_of_computes lanes cfg (fun h mem => computed_computes mem) laneKept hsuKept (fun h used => ?_)
    (link_of_unshared same) (peers_of_unshared same)
  rw [slotKept, ownEntries, ← ownDraw_computed]
  exact List.mem_map.2 ⟨h, by rw [headersUsed_congr (cfg_of_unshared (computed_unshared u))]; exact used, rfl⟩

/-! #### The request of a STATUS (R141, R153) -/

theorem announce_iff (now last : Nat) : announce now last = true ↔
    (now = 0 ∧ last ≠ 0) ∨ (now ≠ 0 ∧ last = 0) ∨ last < (max now last - min now last) * 10 := by
  have apart : now - last + (last - now) = max now last - min now last := by omega
  rw [announce, apart, Bool.or_eq_true, decide_eq_true_eq]
  by_cases zero : now = 0 <;> by_cases none : last = 0 <;> simp [zero, none]

/-- Some demand differs enough from the one that the last own STATUS carried. -/
def State.Changed (s : State) : Prop := ∃ h ∈ s.headersUsed, announce (ownDemand s h) (lastDemand s.lif h) = true

theorem slotted_unshared (u : State) : (slotted u).unshared = u.unshared := by
  rw [slotted, slot_unshared, computed_unshared]

theorem slotted_cfg (u : State) : (slotted u).cfg = u.cfg := cfg_of_unshared (slotted_unshared u)

theorem computed_lif (u : State) : (computed u).lif = u.lif := by
  have each : ∀ (l : List Nat) (s : State), (l.foldl (fun t h => computeHeader h t) s).lif = s.lif := fun l => by
    induction l with
    | nil => exact fun _ => rfl
    | cons h rest ih => exact fun s => (ih _).trans (computeHeader_lif h s)
  exact each allHeaders u

theorem slotted_due (u : State) : (slotted u).lif.due = u.lif.due ∧ (slotted u).lif.spacing = u.lif.spacing := by
  rw [slotted, modLif_lif, computed_lif]
  exact ⟨rfl, rfl⟩

theorem announces_slotted {u : State} (loaded : ∀ h ∈ u.headersUsed, (u.headerCfg h).isSome = true) :
    announces (slotted u) = true ↔ u.Changed := by
  have sent : (slotted u).lif.lastSent = u.lif.lastSent := lastSent_of_unshared (slotted_unshared u)
  rw [announces, headersUsed_congr (slotted_cfg u), List.any_eq_true]
  refine exists_congr fun h => and_congr_right fun used => ?_
  obtain ⟨c, cfg⟩ := Option.isSome_iff_exists.1 (loaded h used)
  obtain ⟨mem, on⟩ := mem_headersUsed.1 used
  have demand : (slotted u).demandOn h = ownDemand u h := by
    rw [← demandOn_computed mem cfg on, State.demandOn, (slotted_keeps u).2.1, State.demandOn]
  rw [demand, lastDemand, sent, lastDemand]

/-- R153: a STATUS request that is kept is due at once, or at the end of the spacing. -/
theorem requestChange_asks {s : State} (sends : s.lif.link.sends = true) (quiet : s.lif.due = .none)
    (other : s.lif.statusCurrent = false) :
    ((∀ d : Nat, s.lif.lastStatus = some d → d + 100000 ≤ s.now) →
      (requestChange s).lif.due = .normal ∧ (requestChange s).lif.spacing = s.lif.spacing) ∧
    (∀ d : Nat, s.lif.lastStatus = some d → s.now < d + 100000 →
      (requestChange s).lif.due = .none ∧ (requestChange s).lif.spacing = some (d + 100000)) := by
  have kept : s.lif.link.sends = true ∧ s.lif.due = .none ∧ (!s.lif.statusCurrent) = true := ⟨sends, quiet, by simp [other]⟩
  have now : statusDueNow s = s.modLif fun l => { l with due := .normal } := if_pos ⟨sends, quiet⟩
  unfold requestChange
  rw [if_pos kept]
  cases last : s.lif.lastStatus with
  | none => exact ⟨fun _ => by rw [now]; exact ⟨rfl, rfl⟩, fun d eq => by cases eq⟩
  | some t =>
    dsimp only
    refine ⟨fun past => ?_, fun d eq early => ?_⟩
    · rw [if_pos (by exact past t rfl), now]
      exact ⟨rfl, rfl⟩
    · obtain rfl := Option.some.inj eq
      rw [if_neg (by exact Nat.not_le.2 early)]
      exact ⟨quiet, rfl⟩

theorem requestChange_not_kept {s : State}
    (not : ¬(s.lif.link.sends = true ∧ s.lif.due = .none ∧ s.lif.statusCurrent = false)) : requestChange s = s := by
  unfold requestChange
  rw [if_neg fun both => not ⟨both.1, both.2.1, by simpa using both.2.2⟩]

theorem sends_iff (l : Link) : l.sends = true ↔ l = .run ∨ l = .alone := by cases l <;> simp [Link.sends]

theorem statusCurrent_iff (l : Lif) : l.statusCurrent = false ↔ ∀ c : Current, l.current = some c → c.frame ≠ .status := by
  unfold Lif.statusCurrent
  cases l.current <;> simp

theorem computeShares_now (s : State) : (computeShares s).now = s.now := now_of_unshared (computeShares_unshared s)

/-- What a computation does about a request, with the demands, the STATUS before it and the current frame of a state. -/
theorem computeShares_announces {s u : State} (lanes : u.lanes = s.lanes) (cfg : u.cfg = s.cfg) (due : u.lif.due = s.lif.due)
    (spacing : u.lif.spacing = s.lif.spacing) (current : u.lif.current = s.lif.current)
    (status : u.lif.lastStatus = s.lif.lastStatus) (sent : u.lif.lastSent = s.lif.lastSent) :
    s.Announces (computeShares u) := by
  unfold State.Announces
  extract_lets own last changed kept
  intro loaded
  have lane (i : LaneNo) : u.lane i = s.lane i := lane_of_lanes lanes i
  have loadedHere : ∀ h ∈ u.headersUsed, (u.headerCfg h).isSome = true := fun h used => by
    rw [headerCfg_congr cfg]
    exact loaded h (by rw [← headersUsed_congr cfg]; exact used)
  have asks : announces (slotted u) = true ↔ changed := by
    rw [announces_slotted loadedHere, State.Changed, headersUsed_congr cfg]
    refine exists_congr fun h => and_congr_right fun _ => ?_
    rw [announce_iff, ownDemand_congr cfg fun i _ => lane i, lastDemand, sent]
    exact Iff.rfl
  have same := slotted_unshared u
  have slotLink : (slotted u).lif.link = u.lif.link := link_of_unshared same
  have slotCurrent : (slotted u).lif.current = s.lif.current := (current_of_unshared same).trans current
  have slotStatus : (slotted u).lif.lastStatus = s.lif.lastStatus := (lastStatus_of_unshared same).trans status
  have slotNow : (slotted u).now = (computeShares u).now := (now_of_unshared same).trans (computeShares_now u).symm
  obtain ⟨slotDue, slotSpacing⟩ := slotted_due u
  have holds : ((slotted u).lif.link.sends = true ∧ (slotted u).lif.due = .none ∧ (slotted u).lif.statusCurrent = false) ↔
      kept := by
    rw [statusCurrent_iff, slotCurrent, sends_iff, slotLink, slotDue, due, ← link_of_unshared (computeShares_unshared u)]
  refine ⟨fun some quiet => ?_, fun either => ?_⟩
  · obtain ⟨sends, idle, other⟩ := holds.2 quiet
    have request := requestChange_asks sends idle other
    rw [slotStatus, slotNow, slotSpacing, spacing] at request
    rw [computeShares_eq, if_pos (asks.2 some)]
    rw [computeShares_eq, if_pos (asks.2 some)] at request
    exact request
  · have stays : computeShares u = slotted u := by
      rw [computeShares_eq]
      split
      · rename_i announced
        exact requestChange_not_kept fun k => either.elim (fun no => no (asks.1 announced)) fun no => no (holds.1 k)
      · rfl
    rw [stays, slotDue, slotSpacing]
    exact ⟨due, spacing⟩

/-! #### What the end of an event leaves of a lane that waits in ENDED -/

/-- A lane after the offers that it made in ENDED: it waits on, with the same or another offer, or it has left ENDED with its
outputs off. -/
inductive Lane.HandedTo (l m : Lane) : Prop
  | waits (a : After) (same : m = { l with after := a })
  | left (stage : m.stage = .idle ∨ m.stage = .primed) (openOff : m.openOut = false) (holdOff : m.holdOut = false)
      (lower : m.setpoint ≤ l.setpoint) (none : m.wanted = 0) (steady : m.steady = l.steady)

theorem Lane.HandedTo.refl (l : Lane) : l.HandedTo l := .waits l.after rfl

theorem Lane.HandedTo.setpoint_le {l m : Lane} (h : l.HandedTo m) : m.setpoint ≤ l.setpoint := by
  cases h with
  | waits a same => rw [same]
  | left _ _ _ lower => exact lower

theorem Lane.HandedTo.trans {l m n : Lane} (h : l.HandedTo m) (k : m.HandedTo n) : l.HandedTo n := by
  cases k with
  | left stage o p lower none steady =>
    refine .left stage o p (lower.trans h.setpoint_le) none (steady.trans ?_)
    cases h with
    | waits a same => rw [same]; rfl
    | left _ _ _ _ _ steady => exact steady
  | waits b same =>
    cases h with
    | waits a first => exact .waits b (by rw [same, first])
    | left stage o p lower none steady =>
      subst same
      exact .left stage o p lower none steady

theorem Lane.HandedTo.share_eq {l m : Lane} (h : l.HandedTo m) : m.share = l.share := by
  cases h with
  | waits a same => rw [same]
  | left _ _ _ _ _ steady => exact congrArg (·.share) steady

theorem toIdle_handed (i : LaneNo) (s : State) : (s.lane i).HandedTo ((toIdle i s).lane i) := by
  have wanted : ((toIdle i s).lane i).wanted = 0 := by
    simp only [toIdle, setStage, retarget, outputsOff, modLane_lane_self, State.wantedNow, State.stage]
    split <;> rfl
  refine .left ?_ ?_ ?_ ?_ wanted ?_ <;> simp only [toIdle, setStage, retarget, outputsOff, modLane_lane_self]
  · exact .inl trivial
  · exact Nat.min_le_left _ _
  · rfl

theorem primingCheck_handed {l : Lane} {i : LaneNo} {s : State} (h : l.HandedTo (s.lane i)) (idle : s.stage i = .idle)
    (left : l.stage ≠ .idle) : l.HandedTo ((primingCheck i s).lane i) := by
  unfold primingCheck
  split
  · split
    · exact h
    · rw [modLane_lane_self]
      cases h with
      | waits a same => exact absurd (by rw [← show (s.lane i).stage = l.stage by rw [same]]; exact idle) left
      | left _ o p lower none steady => exact .left (.inr rfl) o p lower none steady
  · exact h

theorem enqueue_lane_of {q : QItem} {s t : State} {b : Bool} (h : enqueue q s = (b, t)) (i : LaneNo) : t.lane i = s.lane i :=
  lane_of_lanes (enqueue_lanes_of h) i

theorem toIdle_stage (i : LaneNo) (s : State) : (toIdle i s).stage i = .idle := by
  simp only [State.stage, toIdle, setStage, retarget, modLane_lane_self]

theorem offerTotal_handed {i : LaneNo} {s : State} (ended : s.stage i = .ended) (gross std : Word48) :
    (s.lane i).HandedTo ((offerTotal i gross std s).lane i) := by
  unfold offerTotal
  split
  · rename_i t e
    refine primingCheck_handed (.trans (.trans (.waits .nothing ?_) (toIdle_handed i _))
      (.refl _)) (toIdle_stage i _) (by rw [show (s.lane i).stage = .ended from ended]; decide)
    rw [modLane_lane_self, enqueue_lane_of e]
  · rename_i t e
    rw [modLane_lane_self, enqueue_lane_of e]
    exact .waits _ rfl

theorem offerAfter_handed (i j : LaneNo) (s : State) : (s.lane j).HandedTo ((offerAfter i s).lane j) := by
  by_cases ne : i = j
  · subst ne
    unfold offerAfter
    split
    · rename_i ended
      unfold offerWaiting
      split
      · split
        · rename_i t e
          have same := enqueue_lane_of e i
          rw [← same]
          exact offerTotal_handed (by rw [State.stage, same]; exact ended) _ _
        · rename_i t e
          rw [enqueue_lane_of e]
          exact .refl _
      · exact offerTotal_handed ended _ _
      · exact .refl _
    · exact .refl _
  · rw [offerAfter_lane_ne ne]
    exact .refl _

theorem foldl_offerAfter_handed (l : List LaneNo) (j : LaneNo) (s : State) :
    (s.lane j).HandedTo ((l.foldl (fun t i => offerAfter i t) s).lane j) := by
  induction l generalizing s with
  | nil => exact .refl _
  | cons i rest ih => exact (offerAfter_handed i j s).trans (ih _)

theorem reportFreeSlot_handed (j : LaneNo) (s : State) : (s.lane j).HandedTo ((reportFreeSlot s).lane j) := by
  unfold reportFreeSlot
  split
  · rw [lane_of_lanes (sulFreeSlot_lanes _ _), lane_of_lanes (ntbFreeSlot_lanes _), lane_of_lanes (pctFreeSlot_lanes _ _)]
    exact foldl_offerAfter_handed allLanes j (s.modStp _)
  · exact .refl _

/-- The end of an event leaves a lane as it was, with an offer of ENDED made, or out of ENDED with its outputs off. -/
theorem settle_handed (j : LaneNo) (s : State) : (s.lane j).HandedTo ((settle s).lane j) := by
  have recovered : (recoveryNote (reportFreeSlot s)).lane j = (reportFreeSlot s).lane j := lane_of_lanes (recoveryNote_lanes _) j
  have second := reportFreeSlot_handed j (recoveryNote (reportFreeSlot s))
  rw [recovered] at second
  rw [settle, lane_of_lanes (portKick_lanes _), lane_of_lanes (refreshLamps_lanes _), lane_of_lanes (idleTimer_lanes _),
    lane_of_lanes (reportRoom_lanes _)]
  exact (reportFreeSlot_handed j s).trans second

/-! #### What a state has in common with one that differs by what the reports may change -/

section

variable {s t : State} (same : t.steady = s.steady)

include same

theorem now_of_steady : t.now = s.now := congrArg (·.now) same

theorem hsu_of_steady : t.hsu = s.hsu := congrArg (·.hsu) same

theorem injs_of_steady : t.injs = s.injs := congrArg (·.injs) same

theorem lif_of_steady : { t.lif with fifo := [], roomFreed := false } = { s.lif with fifo := [], roomFreed := false } :=
  congrArg (·.lif) same

theorem link_of_steady : t.lif.link = s.lif.link := congrArg (·.lif.link) same

theorem peers_of_steady : t.lif.peers = s.lif.peers := congrArg (·.lif.peers) same

theorem slot_of_steady : t.pct.slot = s.pct.slot := congrArg (·.pct.slot) same

theorem trip_of_steady : t.pct.trip = s.pct.trip := congrArg (·.pct.trip) same

end

/-! #### The share tick -/

theorem State.Allots.of_settle {s u : State} (h : s.Allots u) : s.Allots (settle u) := by
  have same := settle_steady u
  intro k c used header
  obtain ⟨share, each, entry⟩ := h k c used header
  have hsu := hsu_of_steady same
  have link := link_of_steady same
  have peers := peers_of_steady same
  have slot : (settle u).lif.slot = u.lif.slot := congrArg (·.lif.slot) same
  rw [← link, ← peers] at share each
  refine ⟨by rw [hsu]; exact share, fun i mem => ?_, by rw [slot]; exact entry⟩
  obtain ⟨given, under, lower⟩ := each i mem
  have handed := settle_handed i u
  rw [handed.share_eq]
  exact ⟨given, handed.setpoint_le.trans under, handed.setpoint_le.trans lower⟩

theorem State.Announces.of_settle {s u : State} (h : s.Announces u) : s.Announces (settle u) := by
  have same := settle_steady u
  have link : (settle u).lif.link = u.lif.link := congrArg (·.lif.link) same
  have due : (settle u).lif.due = u.lif.due := congrArg (·.lif.due) same
  have spacing : (settle u).lif.spacing = u.lif.spacing := congrArg (·.lif.spacing) same
  unfold State.Announces
  rw [link, due, spacing, settle_now]
  exact h

theorem exec_shareTick {s : State} {d : Nat} (running : s.hsu.tick = some d) : exec .shareTick s =
    finish (computeShares ((s.reach d).modHsu fun u => { u with tick := some (d + 500000) })) := by
  change execShareTick s = _
  rw [execShareTick, onExpiry_some running]
  rfl

theorem exec_shareTick_effect {s : State} {d : Nat} (running : s.hsu.tick = some d) :
    ∃ t, exec .shareTick s = .next t ∧ t.now = max s.now d ∧ t.hsu.tick = some (d + 500000) ∧
      t.lif.link = s.lif.link ∧ t.lif.peers = s.lif.peers ∧ s.Allots t ∧ s.Announces t := by
  have answer := exec_shareTick running
  generalize eq : (s.reach d).modHsu (fun u => { u with tick := some (d + 500000) }) = u at answer
  have lanes : u.lanes = s.lanes := by rw [← eq]; rfl
  have cfg : u.cfg = s.cfg := by rw [← eq]; rfl
  have lif : u.lif = s.lif := by rw [← eq]; rfl
  have tick : u.hsu.tick = some (d + 500000) := by rw [← eq]; rfl
  have now : u.now = max s.now d := by rw [← eq]; rfl
  have shared := computeShares_unshared u
  have allots := (computeShares_allots lanes cfg).of_settle
  have announces := (computeShares_announces (u := u) lanes cfg (by rw [lif]) (by rw [lif]) (by rw [lif]) (by rw [lif])
    (by rw [lif])).of_settle
  generalize computeShares u = v at answer shared allots announces
  have same := settle_steady v
  refine ⟨settle v, answer, ?_, ?_, ?_, ?_, allots, announces⟩
  · rw [now_of_steady same, now_of_unshared shared, now]
  · rw [hsu_of_steady same, hsuTick_of_unshared shared, tick]
  · rw [link_of_steady same, link_of_unshared shared, lif]
  · rw [peers_of_steady same, peers_of_unshared shared, lif]

end Sys2Proof.Machine

open Sys2Proof Sys2Proof.Machine

/-- Settles O41, by the computation of each header with the headers' lanes apart, and the laws of the fair level. -/
theorem sharesAreFair : Obligations.SharesAreFair := by
  unfold Obligations.SharesAreFair
  exact ⟨fun s d running => exec_shareTick_effect running, fairGrant_laws⟩

end

section
/-! The rack line: its timers and the ageing of peer entries (R153, R163, R165), the choice of the frame to send (R148 to R152), own
echo (R154), collisions (R149, R158) and the changes of the link state (R155 to R161). -/

namespace Sys2Proof.Machine

/-! #### Line timers (R153, R163, R165) -/

theorem exec_statusPeriodExpiry {s : State} {d : Nat} (running : s.lif.period = some d) (sends : s.lif.link.sends = true)
    (idle : s.lif.due = .none) : exec .statusPeriodExpiry s =
      finish { s with now := max s.now d, lif := { s.lif with period := none, due := .normal } } := by
  change execStatusPeriodExpiry s = _
  rw [execStatusPeriodExpiry, onExpiry_some running]
  exact congrArg finish (if_pos ⟨sends, idle⟩)

theorem exec_statusSpacingExpiry {s : State} {d : Nat} (running : s.lif.spacing = some d) (sends : s.lif.link.sends = true)
    (idle : s.lif.due = .none) : exec .statusSpacingExpiry s =
      finish { s with now := max s.now d, lif := { s.lif with spacing := none, due := .normal } } := by
  change execStatusSpacingExpiry s = _
  rw [execStatusSpacingExpiry, onExpiry_some running]
  exact congrArg finish (if_pos ⟨sends, idle⟩)

theorem exec_secondTimer {s : State} {d : Nat} (running : s.lif.second = some d) : exec .secondTimer s =
    finish { s with now := max s.now d, lif := { s.lif with
      second := some (d + 1000000)
      time := if s.lif.time = BitVec.allOnes 32 then s.lif.time else s.lif.time + 1 } } := by
  change execSecondTimer s = _
  rw [execSecondTimer, onExpiry_some running]
  rfl

theorem ages_of {l : Link} (down : l ≠ .down) (held : l ≠ .heldLine) : l.ages = true := by cases l <;> simp_all [Link.ages]

theorem exec_freshToStale {s : State} {station : Nat} {e : Peer} (entry : s.peer station = some e) (ages : s.lif.link.ages = true)
    (fresh : e.age = .fresh) : exec (.freshToStale station) s =
      finish (mapPeer station (fun x => { x with age := .stale }) (s.reach (e.heardAt + 2000000))) := by
  change execFreshToStale station s = _
  rw [execFreshToStale, entry]
  exact if_pos ⟨ages, fresh⟩

theorem exec_staleToSilent {s : State} {station : Nat} {e : Peer} (entry : s.peer station = some e) (ages : s.lif.link.ages = true)
    (stale : e.age = .stale) : exec (.staleToSilent station) s =
      finish (if e.keeps then mapPeer station (fun x => { x with age := .silent }) (s.reach (e.heardAt + 6000000))
        else dropPeer station (s.reach (e.heardAt + 6000000))) := by
  change execStaleToSilent station s = _
  rw [execStaleToSilent, entry]
  exact if_pos ⟨ages, stale⟩

theorem exec_silentRemoval {s : State} {station : Nat} {e : Peer} (entry : s.peer station = some e) (ages : s.lif.link.ages = true)
    (silent : e.age = .silent) : exec (.silentRemoval station) s =
      if e.halt = false then finish (dropPeer station (s.reach (e.heardAt + 30000000))) else .next s := by
  change execSilentRemoval station s = _
  rw [execSilentRemoval, entry]
  dsimp only
  cases halt : e.halt
  · exact if_pos ⟨ages, silent, rfl⟩
  · exact if_neg fun both => by simp at both

theorem keeps_iff (e : Peer) : e.keeps = true ↔ e.halt = true ∨ ∃ x ∈ e.entries, 0 < x.demand := by
  simp [Peer.keeps]

/-! #### The choice of the frame (R148, R150) -/

/-- The link code, the flags and the time of an own STATUS (Table 12-8). -/
def State.ownStatus (s : State) : Payload :=
  .status (BitVec.ofNat 8 (if s.lif.link = .run then 3 else if s.lif.link = .join then 2 else 4))
    (BitVec.ofNat 8 ((if s.ilm.rstop then 1 else 0) + (if s.lif.timeSet then 2 else 0) +
      (if s.pct.slot ≠ .empty then 8 else 0) + 16))
    (if s.lif.timeSet then s.lif.time else 0) s.lif.slot

theorem statusPayload_eq {s : State} (speaks : s.lif.link = .run ∨ s.lif.link = .alone ∨ s.lif.link = .join) :
    statusPayload s = s.ownStatus := by
  have code : linkCode s.lif.link = if s.lif.link = .run then 3 else if s.lif.link = .join then 2 else 4 := by
    rcases speaks with h | h | h <;> rw [h] <;> rfl
  have flags : bit s.ilm.rstop 0 + bit s.lif.timeSet 1 + bit (s.pct.slot != .empty) 3 + bit true 4 =
      (if s.ilm.rstop then 1 else 0) + (if s.lif.timeSet then 2 else 0) + (if s.pct.slot ≠ .empty then 8 else 0) + 16 := by
    by_cases empty : s.pct.slot = .empty <;> simp [bit, empty]
  rw [statusPayload, code, flags]
  rfl

/-- An access begins an attempt of the frame that is chosen, once its gap is complete. -/
theorem beginAttempt_some {s : State} {l : Lif} {c : Current} {quiet : Nat} (free : s.lif.onLine = none)
    (choice : chooseFrame s.lif = some l) (gap : neededGap l ≤ quiet) (current : l.current = some c) :
    beginAttempt quiet s = { s with lif := { l with onLine := some (txPayload s c.frame), sent := 0 } } := by
  unfold beginAttempt
  rw [free, choice]
  dsimp only
  rw [if_pos gap, current]

theorem beginAttempt_none {s : State} {quiet : Nat}
    (waits : ∀ l, chooseFrame s.lif = some l → quiet < neededGap l) : beginAttempt quiet s = s := by
  unfold beginAttempt
  split
  · rfl
  · split
    · rfl
    · rename_i l choice
      rw [if_neg (Nat.not_le.2 (waits l choice))]

/-! #### Room that is reported to nobody who waits for it (R151) -/

/-- R151: with one frame out of the FIFO and no other report due, the end of an event reports the room. -/
theorem settle_room {s : State} (departed : s.stp.departed = false) (offers : s.sul.recovery ≠ .offering) :
    settle s = portKick (refreshLamps (idleTimer (reportRoom s))) := by
  rw [settle, reportFreeSlot_none departed, recoveryNote_none offers, reportFreeSlot_none departed]

theorem pctRoom_nil {s : State} (none : s.pct.held = []) (n : Nat) : pctRoom n s = s := by
  cases n with
  | zero => rfl
  | succ n => rw [pctRoom, none]

theorem ntbRoom_idle {s : State} (ready : s.ntb.heldReady = none) (sending : ∀ image k, s.ntb.serving ≠ .sending image k) :
    ntbRoom s = s := by
  have offer : offerReady s = s := by rw [offerReady, ready]
  rw [ntbRoom, offer]
  split
  · rename_i image k serving
    exact absurd serving (sending image k)
  · rfl

/-- R151: room that nothing waits for is reported without effect. -/
theorem reportRoom_unclaimed {s : State} (freed : s.lif.roomFreed = true) (empty : s.pct.held = []) (ready : s.ntb.heldReady = none)
    (sending : ∀ image k, s.ntb.serving ≠ .sending image k) :
    reportRoom s = s.modLif fun l => { l with roomFreed := false } := by
  have held := pctRoom_nil (s := s.modLif fun l => { l with roomFreed := false }) empty Config.heldFrames
  have served := ntbRoom_idle (s := s.modLif fun l => { l with roomFreed := false }) ready sending
  rw [reportRoom, if_pos freed]
  exact (congrArg ntbRoom held).trans served

/-- A command whose effect leaves room that nothing waits for yields that effect, without the report. -/
theorem yields_of_room {c : Instr} {s u : State} (answer : exec c s = finish (u.modLif fun l => { l with roomFreed := true }))
    (calm : u.Calm) (empty : u.pct.held = []) (ready : u.ntb.heldReady = none) (idle : u.ntb.serving = .idle) : Yields c s u := by
  have sending (image : Option (List Byte)) (k : Nat) : u.ntb.serving ≠ .sending image k := by rw [idle]; exact ServeState.noConfusion
  have room : u.lif.roomFreed = false := calm.1.2
  have reported : reportRoom (u.modLif fun l => { l with roomFreed := true }) = u.modLif fun l => { l with roomFreed := false } :=
    reportRoom_unclaimed rfl empty ready sending
  have same : (u.modLif fun l => { l with roomFreed := false }) = u := by rw [State.modLif, ← room]
  refine ⟨_, answer, ?_⟩
  rw [settle_room (by exact calm.1.1) (by exact calm.2), reported, same, portKick_apart, refreshLamps_apart, idleTimer_apart]

/-! #### The frame that each link state chooses -/

section

variable {l : Lif}

theorem chooseFrame_join (link : l.link = .join) : chooseFrame l = if l.current.isSome then some l else none := by
  rw [chooseFrame, link]

theorem chooseFrame_quiet (link : l.link = .down ∨ l.link = .listen ∨ l.link = .heldLine ∨ l.link = .mute) :
    chooseFrame l = none := by
  rcases link with h | h | h | h <;> rw [chooseFrame, h]

theorem chooseFrame_urgent (link : l.link = .run ∨ l.link = .alone) (due : l.due = .urgent) (free : l.current = none) :
    chooseFrame l = some { l with current := some { frame := .status, urgent := true } } := by
  rcases link with h | h <;> rw [chooseFrame, h, due, free]

theorem chooseFrame_urgent_status (link : l.link = .run ∨ l.link = .alone) (due : l.due = .urgent) {c : Current}
    (current : l.current = some c) (status : c.frame = .status) :
    chooseFrame l = some { l with current := some { c with urgent := true } } := by
  rcases link with h | h <;> rw [chooseFrame, h, due, current] <;> exact (if_pos status).trans (by rw [makeUrgent, if_pos status])

theorem chooseFrame_urgent_other (link : l.link = .run ∨ l.link = .alone) (due : l.due = .urgent) {c : Current}
    (current : l.current = some c) (other : c.frame ≠ .status) :
    chooseFrame l = some { l with setAside := some c, current := some { frame := .status, urgent := true } } := by
  rcases link with h | h <;> rw [chooseFrame, h, due, current] <;> exact if_neg other

theorem chooseFrame_current (link : l.link = .run ∨ l.link = .alone) (due : l.due ≠ .urgent) {c : Current}
    (current : l.current = some c) : chooseFrame l = some l := by
  rcases link with h | h <;> rw [chooseFrame, h, current] <;> cases d : l.due <;> first | rfl | exact absurd d due

theorem chooseFrame_normal (link : l.link = .run ∨ l.link = .alone) (due : l.due = .normal) (free : l.current = none) :
    chooseFrame l = some { l with current := some { frame := .status } } := by
  rcases link with h | h <;> rw [chooseFrame, h, due, free]

theorem chooseFrame_head (link : l.link = .run ∨ l.link = .alone) (due : l.due = .none) (free : l.current = none)
    {f : TxFrame} {rest : List TxFrame} (fifo : l.fifo = f :: rest) :
    chooseFrame l = some { l with fifo := rest, current := some { frame := f }, roomFreed := true } := by
  rcases link with h | h <;> rw [chooseFrame, h, due, free, fifo]

theorem chooseFrame_nothing (link : l.link = .run ∨ l.link = .alone) (due : l.due = .none) (free : l.current = none)
    (fifo : l.fifo = []) : chooseFrame l = none := by
  rcases link with h | h <;> rw [chooseFrame, h, due, free, fifo]

theorem neededGap_of {c : Current} (current : l.current = some c) (link : l.link = .run ∨ l.link = .alone) :
    neededGap l = if c.urgent then 10 else accessGap l := by
  have speaks : decide (l.link ≠ .join) = true := by rcases link with h | h <;> rw [h] <;> rfl
  rw [neededGap, current]
  dsimp only
  rw [speaks, Bool.and_true]

theorem neededGap_join {c : Current} (current : l.current = some c) (link : l.link = .join) : neededGap l = accessGap l := by
  have silent : decide (l.link ≠ .join) = false := by rw [link]; rfl
  rw [neededGap, current]
  dsimp only
  rw [silent, Bool.and_false]
  rfl

/-- What an access chooses has its station, its link state and its gap, and a current frame. -/
theorem chooseFrame_current_isSome {m : Lif} (link : l.link = .run ∨ l.link = .alone) (choice : chooseFrame l = some m) :
    m.link = l.link ∧ accessGap m = accessGap l ∧ ∃ c, m.current = some c ∧
      (c.urgent = true → l.due = .urgent ∨ ∃ d, l.current = some d ∧ d.urgent = true) := by
  cases due : l.due with
  | urgent =>
    cases current : l.current with
    | none =>
      rw [chooseFrame_urgent link due current, Option.some.injEq] at choice
      subst choice
      exact ⟨rfl, rfl, _, rfl, fun _ => .inl rfl⟩
    | some c =>
      by_cases status : c.frame = .status
      · rw [chooseFrame_urgent_status link due current status, Option.some.injEq] at choice
        subst choice
        exact ⟨rfl, rfl, _, rfl, fun _ => .inl rfl⟩
      · rw [chooseFrame_urgent_other link due current status, Option.some.injEq] at choice
        subst choice
        exact ⟨rfl, rfl, _, rfl, fun _ => .inl rfl⟩
  | normal =>
    cases current : l.current with
    | none =>
      rw [chooseFrame_normal link due current, Option.some.injEq] at choice
      subst choice
      exact ⟨rfl, rfl, _, rfl, fun h => absurd h (by decide)⟩
    | some c =>
      rw [chooseFrame_current link (by rw [due]; decide) current, Option.some.injEq] at choice
      subst choice
      exact ⟨rfl, rfl, c, current, fun h => .inr ⟨c, rfl, h⟩⟩
  | none =>
    cases current : l.current with
    | none =>
      cases fifo : l.fifo with
      | nil => rw [chooseFrame_nothing link due current fifo] at choice; cases choice
      | cons f rest =>
        rw [chooseFrame_head link due current fifo, Option.some.injEq] at choice
        subst choice
        exact ⟨rfl, rfl, _, rfl, fun h => Bool.noConfusion h⟩
    | some c =>
      rw [chooseFrame_current link (by rw [due]; decide) current, Option.some.injEq] at choice
      subst choice
      exact ⟨rfl, rfl, c, current, fun h => .inr ⟨c, rfl, h⟩⟩

end

theorem exec_accessAttempt (quiet : Nat) (s : State) : exec (.accessAttempt quiet) s = finish (beginAttempt quiet s) := rfl

theorem txPayload_or_status {s : State} (speaks : s.lif.link = .run ∨ s.lif.link = .alone ∨ s.lif.link = .join) (f : TxFrame) :
    txPayload s f = if f = .status then s.ownStatus else txPayload s f := by
  split
  · rename_i status
    rw [status]
    exact statusPayload_eq speaks
  · rfl

/-- An access with its gap complete sends the frame that is chosen. -/
theorem exec_accessAttempt_sends {s : State} {l : Lif} {c : Current} {quiet : Nat} (free : s.lif.onLine = none)
    (choice : chooseFrame s.lif = some l) (gap : neededGap l ≤ quiet) (current : l.current = some c) :
    exec (.accessAttempt quiet) s = finish { s with lif := { l with onLine := some (txPayload s c.frame), sent := 0 } } := by
  rw [exec_accessAttempt, beginAttempt_some free choice gap current]

end Sys2Proof.Machine

open Sys2Proof Sys2Proof.Machine

/-- Settles O52, timer by timer. -/
theorem lineTimers : Obligations.LineTimers := by
  refine ⟨fun s d calm => ⟨fun running link idle => ?_, fun running link idle => ?_, fun running => ?_⟩,
    fun s station e calm down held entry => ?_⟩
  · exact yields_of_finish (exec_statusPeriodExpiry running ((sends_iff _).2 link) idle) calm
  · exact yields_of_finish (exec_statusSpacingExpiry running ((sends_iff _).2 link) idle) calm
  · exact yields_of_finish (exec_secondTimer running) calm
  · have ages := ages_of down held
    refine ⟨fun fresh => ?_, fun stale keeps => ?_, fun stale keeps => ?_, fun silent halt => ?_, fun silent halt => ?_⟩
    · exact yields_of_finish (exec_freshToStale entry ages fresh) calm
    · refine yields_of_finish ((exec_staleToSilent entry ages stale).trans ?_) calm
      rw [if_pos ((keeps_iff e).2 keeps)]
      rfl
    · refine yields_of_finish ((exec_staleToSilent entry ages stale).trans ?_) calm
      rw [if_neg (fun k => keeps ((keeps_iff e).1 k))]
      rfl
    · refine yields_of_finish ((exec_silentRemoval entry ages silent).trans ?_) calm
      rw [if_pos halt]
      rfl
    · rw [exec_silentRemoval entry ages silent, if_neg (by simp [halt])]

/-- Settles O51, by the frame that the link state chooses. -/
theorem accessAttempt : Obligations.AccessAttempt := by
  intro s quiet calm free
  refine ⟨fun link => ⟨fun due gap => ⟨fun empty => ?_, fun cur current => ⟨fun status => ?_, fun other => ?_⟩⟩,
    fun cur due current gap => ?_, fun empty due gap => ?_, fun f rest empty due fifo other gap held ready idle => ?_,
    fun early => ?_, fun due empty fifo => ?_⟩,
    fun link => ⟨fun cur current status => ⟨fun gap => ?_, fun early => ?_⟩, fun empty => ?_⟩, fun link => ?_⟩
  · refine yields_of_finish ((exec_accessAttempt_sends free (chooseFrame_urgent link due empty) ?_ rfl).trans ?_) calm
    · rw [neededGap_of rfl (by exact link)]
      exact gap
    · rw [txPayload_or_status (link.imp_right .inl), if_pos rfl]
      rfl
  · refine yields_of_finish ((exec_accessAttempt_sends free (chooseFrame_urgent_status link due current status) ?_ rfl).trans ?_) calm
    · rw [neededGap_of rfl (by exact link)]
      exact gap
    · rw [txPayload_or_status (link.imp_right .inl), if_pos (by exact status)]
      rfl
  · refine yields_of_finish ((exec_accessAttempt_sends free (chooseFrame_urgent_other link due current other) ?_ rfl).trans ?_) calm
    · rw [neededGap_of rfl (by exact link)]
      exact gap
    · rw [txPayload_or_status (link.imp_right .inl), if_pos rfl]
      rfl
  · refine yields_of_finish ((exec_accessAttempt_sends free (chooseFrame_current link due current) ?_ current).trans ?_) calm
    · rw [neededGap_of current link]
      exact gap
    · rw [txPayload_or_status (link.imp_right .inl)]
      by_cases status : cur.frame = .status
      · rw [if_pos status, if_pos status, ← current]
        rfl
      · rw [if_neg status, if_neg status, ← current]
  · refine yields_of_finish ((exec_accessAttempt_sends free (chooseFrame_normal link due empty) gap rfl).trans ?_) calm
    rw [txPayload_or_status (link.imp_right .inl), if_pos rfl]
    rfl
  · refine yields_of_room ((exec_accessAttempt_sends free (chooseFrame_head link due empty fifo) gap rfl).trans ?_) calm held ready idle
    rfl
  · refine yields_of_finish ((exec_accessAttempt quiet s).trans (congrArg finish (beginAttempt_none fun l choice => ?_))) calm
    obtain ⟨linkSame, gapSame, c, current, urgent⟩ := chooseFrame_current_isSome link choice
    rw [neededGap_of current (by rw [linkSame]; exact link), gapSame]
    rcases early with short | ⟨short, due, calmCur⟩
    · have least : 10 ≤ accessGap s.lif := by unfold accessGap; omega
      split <;> omega
    · rw [if_neg fun on => (urgent on).elim due fun ⟨d, has, u⟩ => by rw [calmCur d has] at u; exact Bool.noConfusion u]
      exact short
  · refine yields_of_finish ((exec_accessAttempt quiet s).trans (congrArg finish (beginAttempt_none fun l choice => ?_))) calm
    rw [chooseFrame_nothing link due empty fifo] at choice
    cases choice
  · have choice : chooseFrame s.lif = some s.lif := by rw [chooseFrame_join link, current]; rfl
    refine yields_of_finish ((exec_accessAttempt_sends free choice ?_ current).trans ?_) calm
    · rw [neededGap_join current link]
      exact gap
    · rw [txPayload_or_status (.inr (.inr link)), if_pos status, ← current]
      rfl
  · have choice : chooseFrame s.lif = some s.lif := by rw [chooseFrame_join link, current]; rfl
    refine yields_of_finish ((exec_accessAttempt quiet s).trans (congrArg finish (beginAttempt_none fun l chosen => ?_))) calm
    obtain rfl := Option.some.inj (choice.symm.trans chosen)
    rw [neededGap_join current link]
    exact early
  · refine yields_of_finish ((exec_accessAttempt quiet s).trans (congrArg finish (beginAttempt_none fun l chosen => ?_))) calm
    rw [chooseFrame_join link, empty] at chosen
    cases chosen
  · refine yields_of_finish ((exec_accessAttempt quiet s).trans (congrArg finish (beginAttempt_none fun l chosen => ?_))) calm
    rw [chooseFrame_quiet link] at chosen
    cases chosen

end

section
/-! The events of the link (R155 to R161): what a change of the link state computes and withdraws, own echo (R154) and collisions
(R149, R158). -/

namespace Sys2Proof.Machine

/-! #### What refusals, withdrawn frames and deliveries change -/

/-- The frames of the transmit FIFO and those being sent, left out. -/
def Lif.emptied (l : Lif) : Lif := { l with fifo := [], roomFreed := false, current := none, setAside := none }

/-- The state without what Permit Control and the Note Builder do with a frame or with the link state: their own state, the frames
that wait, the reader port, the lamps' pulse and the store port's reads. -/
def State.undelivered (s : State) : State :=
  { s with pct := {}, ntb := {}, stp := {}, outbox := [], lif := s.lif.emptied, ilm := { s.ilm with pulse := none } }

@[simp] theorem modPct_undelivered (f : Pct → Pct) (s : State) : (s.modPct f).undelivered = s.undelivered := rfl

@[simp] theorem modNtb_undelivered (f : Ntb → Ntb) (s : State) : (s.modNtb f).undelivered = s.undelivered := rfl

@[simp] theorem withdrawClaim_undelivered (permit : Word32) (s : State) :
    (withdrawClaim permit s).undelivered = s.undelivered := rfl

@[simp] theorem refuseTrip_undelivered (r : CardRefusal) (s : State) : (refuseTrip r s).undelivered = s.undelivered := by
  unfold refuseTrip refuseCard refusalPulse
  split <;> rfl

@[simp] theorem askRead_undelivered (owner : Reader) (page : Nat) (s : State) :
    (askRead owner page s).undelivered = s.undelivered := rfl

theorem offerFrame_undelivered {f : TxFrame} {s t : State} {b : Bool} (offer : offerFrame f s = (b, t)) :
    t.undelivered = s.undelivered := by
  unfold offerFrame at offer
  repeat' split at offer
  all_goals
    obtain ⟨_, rfl⟩ := Prod.mk.inj offer
    rfl

@[simp] theorem pctSend_undelivered (f : TxFrame) (s : State) : (pctSend f s).undelivered = s.undelivered := by
  unfold pctSend
  split
  · rfl
  · split
    · rename_i t offer
      exact offerFrame_undelivered offer
    · rename_i t offer
      split
      · exact (modPct_undelivered _ t).trans (offerFrame_undelivered offer)
      · exact offerFrame_undelivered offer

@[simp] theorem serve_undelivered (n : Nat) (s : State) : (serve n s).undelivered = s.undelivered := by
  induction n generalizing s with
  | zero => rfl
  | succ n ih =>
    rw [serve]
    split
    · rfl
    · split
      · exact ih _
      · rfl
    · rfl
    · rfl
    · split
      · rename_i offer
        exact offerFrame_undelivered offer
      · rename_i offer
        split
        · exact (ih _).trans ((modNtb_undelivered _ _).trans (offerFrame_undelivered offer))
        · exact (ih _).trans ((modNtb_undelivered _ _).trans (offerFrame_undelivered offer))

@[simp] theorem hearClaim_undelivered (sender : Nat) (permit : Word32) (s : State) :
    (hearClaim sender permit s).undelivered = s.undelivered := by
  unfold hearClaim
  repeat' split
  all_goals simp

@[simp] theorem hearHeld_undelivered (permit : Word32) (s : State) : (hearHeld permit s).undelivered = s.undelivered := by
  unfold hearHeld
  repeat' split
  all_goals simp

@[simp] theorem hearAsk_undelivered (sender target : Nat) (note : Word32) (s : State) :
    (hearAsk sender target note s).undelivered = s.undelivered := by
  unfold hearAsk takeAsk
  repeat' split
  all_goals simp

@[simp] theorem claimCutOff_undelivered (s : State) : (claimCutOff s).undelivered = s.undelivered := by
  unfold claimCutOff
  repeat' split
  all_goals simp

section

variable {s t : State} (same : t.undelivered = s.undelivered)

include same

theorem emptied_of_undelivered : t.lif.emptied = s.lif.emptied := congrArg (·.lif) same

theorem lanes_of_undelivered : t.lanes = s.lanes := congrArg (·.lanes) same

theorem hsu_of_undelivered : t.hsu = s.hsu := congrArg (·.hsu) same

theorem now_of_undelivered : t.now = s.now := congrArg (·.now) same

theorem injs_of_undelivered : t.injs = s.injs := congrArg (·.injs) same

theorem link_of_undelivered : t.lif.link = s.lif.link := congrArg (·.lif.link) same

theorem slot_of_undelivered : t.lif.slot = s.lif.slot := congrArg (·.lif.slot) same

theorem peers_of_undelivered : t.lif.peers = s.lif.peers := congrArg (·.lif.peers) same

/-- A computation of the shares stands when frames are withdrawn or delivered after it. -/
theorem State.Allots.of_undelivered {b : State} (h : b.Allots s) : b.Allots t := by
  intro k c used header
  have lane (i : LaneNo) : t.lane i = s.lane i := lane_of_lanes (lanes_of_undelivered same) i
  obtain ⟨share, each, entry⟩ := h k c used header
  rw [← link_of_undelivered same, ← peers_of_undelivered same] at share each
  refine ⟨by rw [hsu_of_undelivered same]; exact share, fun i mem => ?_, by rw [slot_of_undelivered same]; exact entry⟩
  rw [lane]
  exact each i mem

end

/-! #### A change of the link state (R131, R155) -/

theorem setLink_plain {l : Link} (held : l ≠ .heldLine) (mute : l ≠ .mute) (s : State) :
    setLink l s = computeShares (s.modLif fun x => { x with link := l }) := by
  unfold setLink
  generalize computeShares _ = t
  cases l <;> first | rfl | exact absurd rfl held | exact absurd rfl mute

theorem setLink_cut {l : Link} (cut : l = .heldLine ∨ l = .mute) (s : State) :
    setLink l s = claimCutOff (computeShares (s.modLif fun x => { x with link := l })) := by
  unfold setLink
  generalize computeShares _ = t
  rcases cut with rfl | rfl <;> rfl

theorem setLink_undelivered (l : Link) (s : State) :
    (setLink l s).undelivered = (computeShares (s.modLif fun x => { x with link := l })).undelivered := by
  unfold setLink
  generalize computeShares _ = t
  cases l <;> first | rfl | exact claimCutOff_undelivered t

/-- R131: at a change of the link state own allotment and the shares are worked out anew. -/
theorem setLink_allots {s u : State} (lanes : u.lanes = s.lanes) (cfg : u.cfg = s.cfg) (l : Link) : s.Allots (setLink l u) :=
  (computeShares_allots (u := u.modLif fun x => { x with link := l }) lanes cfg).of_undelivered (setLink_undelivered l u)

theorem settle_setLink_allots {s u : State} (lanes : u.lanes = s.lanes) (cfg : u.cfg = s.cfg) (l : Link) :
    s.Allots (settle (setLink l u)) := (setLink_allots lanes cfg l).of_settle

/-- The Line Interface without its frames, its STATUS slot and the request of a STATUS. -/
def Lif.linkPart (l : Lif) : Lif := { l.emptied with slot := [], due := .none, spacing := none }

theorem linkPart_of_undelivered {s t : State} (same : t.undelivered = s.undelivered) : t.lif.linkPart = s.lif.linkPart :=
  congrArg (fun l : Lif => { l with slot := [], due := .none, spacing := none }) (emptied_of_undelivered same)

theorem linkPart_of_unshared {s t : State} (same : t.unshared = s.unshared) : t.lif.linkPart = s.lif.linkPart :=
  congrArg Lif.emptied (lif_of_unshared same)

theorem linkPart_of_steady {s t : State} (same : t.steady = s.steady) : t.lif.linkPart = s.lif.linkPart :=
  congrArg (fun l : Lif => { l.emptied with slot := [], due := .none, spacing := none }) (lif_of_steady same)

theorem setLink_linkPart (l : Link) (s : State) : (setLink l s).lif.linkPart = ({ s.lif with link := l } : Lif).linkPart :=
  (linkPart_of_undelivered (setLink_undelivered l s)).trans (linkPart_of_unshared (computeShares_unshared _))

theorem settle_setLink_linkPart (l : Link) (s : State) :
    (settle (setLink l s)).lif.linkPart = ({ s.lif with link := l } : Lif).linkPart :=
  (linkPart_of_steady (settle_steady _)).trans (setLink_linkPart l s)

/-! #### What the reports of a free slot change -/

/-- The state without what requests of the store change: the lanes, the store port, and the offers held for it. -/
def State.unstored (s : State) : State :=
  { s with
    lanes := Vector.replicate 4 {}
    stp := {}
    pct := { s.pct with heldMarks := [] }
    ntb := { s.ntb with build := none, statusList := [] }
    sul := { s.sul with held := [], recovery := .none } }

@[simp] theorem askStatusRead_unstored (q : QItem) (s : State) : (askStatusRead q s).unstored = s.unstored := by
  unfold askStatusRead
  split <;> rfl

@[simp] theorem startNext_unstored (s : State) : (startNext s).unstored = s.unstored := by
  unfold startNext
  split
  · rw [askStatusRead_unstored]
    rfl
  · rfl

theorem enqueue_unstored {q : QItem} {s t : State} {b : Bool} (offer : enqueue q s = (b, t)) : t.unstored = s.unstored := by
  unfold enqueue at offer
  repeat' split at offer
  all_goals obtain ⟨_, rfl⟩ := Prod.mk.inj offer
  · rfl
  · rw [startNext_unstored]
    rfl
  · rfl

@[simp] theorem toIdle_unstored (i : LaneNo) (s : State) : (toIdle i s).unstored = s.unstored := rfl

@[simp] theorem primingCheck_unstored (i : LaneNo) (s : State) : (primingCheck i s).unstored = s.unstored := by
  unfold primingCheck
  repeat' split
  all_goals rfl

@[simp] theorem modLane_unstored (i : LaneNo) (f : Lane → Lane) (s : State) : (s.modLane i f).unstored = s.unstored := rfl

@[simp] theorem offerTotal_unstored (i : LaneNo) (gross std : Word48) (s : State) :
    (offerTotal i gross std s).unstored = s.unstored := by
  unfold offerTotal
  split
  · rename_i offer
    rw [primingCheck_unstored, toIdle_unstored, modLane_unstored, enqueue_unstored offer]
  · rename_i offer
    rw [modLane_unstored, enqueue_unstored offer]

@[simp] theorem offerAfter_unstored (i : LaneNo) (s : State) : (offerAfter i s).unstored = s.unstored := by
  unfold offerAfter offerWaiting
  split
  · split
    · split
      · rename_i offer
        rw [offerTotal_unstored, enqueue_unstored offer]
      · rename_i offer
        exact enqueue_unstored offer
    · exact offerTotal_unstored _ _ _ _
    · rfl
  · rfl

theorem foldl_offerAfter_unstored (lanes : List LaneNo) (s : State) :
    (lanes.foldl (fun t i => offerAfter i t) s).unstored = s.unstored := by
  induction lanes generalizing s with
  | nil => rfl
  | cons i rest ih => exact (ih _).trans (offerAfter_unstored i s)

@[simp] theorem pctFreeSlot_unstored (n : Nat) (s : State) : (pctFreeSlot n s).unstored = s.unstored := by
  induction n generalizing s with
  | zero => rfl
  | succ n ih =>
    rw [pctFreeSlot]
    split
    · rfl
    · split
      · rename_i offer
        have same := enqueue_unstored offer
        exact (ih _).trans same
      · rename_i offer
        exact enqueue_unstored offer

@[simp] theorem offerPages_unstored (n : Nat) (s : State) : (offerPages n s).unstored = s.unstored := by
  induction n generalizing s with
  | zero => rfl
  | succ n ih =>
    rw [offerPages]
    split
    · rfl
    · split
      · split
        · rename_i offer
          have same := enqueue_unstored offer
          exact (ih _).trans same
        · rename_i offer
          exact enqueue_unstored offer
      · rfl

@[simp] theorem offerStatuses_unstored (n : Nat) (s : State) : (offerStatuses n s).unstored = s.unstored := by
  induction n generalizing s with
  | zero => rfl
  | succ n ih =>
    rw [offerStatuses]
    split
    · rfl
    · split
      · rename_i offer
        have same := enqueue_unstored offer
        exact (ih _).trans same
      · rename_i offer
        exact enqueue_unstored offer

@[simp] theorem sulFreeSlot_unstored (n : Nat) (s : State) : (sulFreeSlot n s).unstored = s.unstored := by
  induction n generalizing s with
  | zero => rfl
  | succ n ih =>
    rw [sulFreeSlot]
    split
    · rfl
    · split
      · rename_i offer
        have same := enqueue_unstored offer
        exact (ih _).trans same
      · rename_i offer
        exact enqueue_unstored offer

@[simp] theorem reportFreeSlot_unstored (s : State) : (reportFreeSlot s).unstored = s.unstored := by
  unfold reportFreeSlot
  split
  · rw [sulFreeSlot_unstored, ntbFreeSlot, offerStatuses_unstored, offerPages_unstored, pctFreeSlot_unstored]
    exact foldl_offerAfter_unstored allLanes _
  · rfl

@[simp] theorem beginNote_unstored (h : NoteHead) (lines : List OrderLine) (recovered : Bool) (s : State) :
    (beginNote h lines recovered s).unstored = s.unstored := by
  rw [beginNote, offerPages_unstored]
  rfl

@[simp] theorem recoveryNote_unstored (s : State) : (recoveryNote s).unstored = s.unstored := by
  unfold recoveryNote
  split
  · rfl
  · split
    · rw [beginNote_unstored]
      rfl
    · rfl

/-! #### What the end of an event leaves of the Line Interface -/

theorem portKick_pct (s : State) : (portKick s).pct = s.pct := by
  unfold portKick
  repeat' split
  all_goals rfl

theorem refreshLamps_pct (s : State) : (refreshLamps s).pct = s.pct := by unfold refreshLamps; split <;> rfl

theorem idleTimer_held (s : State) : (idleTimer s).pct.held = s.pct.held := by
  unfold idleTimer
  repeat' split
  all_goals rfl

/-- The Line Interface and Permit Control's kept frames after the reports of a free slot are as they were, and the report of room is
what the end of an event leaves of them. -/
theorem settle_line (s : State) : ∃ u : State, u.unstored = s.unstored ∧ (settle s).lif = (reportRoom u).lif ∧
    (settle s).pct.held = (reportRoom u).pct.held := by
  refine ⟨reportFreeSlot (recoveryNote (reportFreeSlot s)), by simp, ?_, ?_⟩
  · rw [settle, portKick_lif, refreshLamps_lif, idleTimer_lif]
  · rw [settle, portKick_pct, refreshLamps_pct, idleTimer_held]

theorem offerFrame_mute (f : TxFrame) {s : State} (mute : s.lif.link = .mute) : offerFrame f s = (true, s) := by
  rw [offerFrame, mute]

theorem pctRoom_mute (n : Nat) {s : State} (mute : s.lif.link = .mute) : (pctRoom n s).lif = s.lif := by
  induction n generalizing s with
  | zero => rfl
  | succ n ih =>
    rw [pctRoom]
    split
    · rfl
    · rw [offerFrame_mute _ mute]
      exact ih (by exact mute)

theorem serve_mute (n : Nat) {s : State} (mute : s.lif.link = .mute) : (serve n s).lif = s.lif := by
  induction n generalizing s with
  | zero => rfl
  | succ n ih =>
    rw [serve]
    split
    · rfl
    · split
      · exact ih (by exact mute)
      · rfl
    · rfl
    · rfl
    · rw [offerFrame_mute _ mute]
      dsimp only
      split
      · exact ih (by exact mute)
      · exact ih (by exact mute)

theorem ntbRoom_mute {s : State} (mute : s.lif.link = .mute) : (ntbRoom s).lif = s.lif := by
  have ready : (offerReady s).lif = s.lif := by
    unfold offerReady
    split
    · rfl
    · rw [offerFrame_mute _ mute]
      rfl
  unfold ntbRoom
  dsimp only
  split
  · rw [serve_mute _ (by rw [ready]; exact mute), ready]
  · exact ready

/-- R151: in MUTE the report of room leaves the Line Interface as it is. -/
theorem settle_lif_mute {s : State} (mute : s.lif.link = .mute) : (settle s).lif = { s.lif with roomFreed := false } := by
  obtain ⟨u, stored, line, _⟩ := settle_line s
  have lif : u.lif = s.lif := congrArg (·.lif) stored
  rw [line, ← lif]
  rw [← lif] at mute
  unfold reportRoom
  split
  · exact (ntbRoom_mute (by rw [pctRoom_mute _ (by exact mute)]; exact mute)).trans (pctRoom_mute _ (by exact mute))
  · rename_i none
    rw [← show u.lif.roomFreed = false by simpa using none]

/-! #### The Line Interface after a change of the link state -/

/-- The Line Interface without the transmit FIFO, the STATUS slot and the request of a STATUS. -/
def Lif.shareless (l : Lif) : Lif := { l with fifo := [], roomFreed := false, slot := [], due := .none, spacing := none }

theorem shareless_of_unshared {s t : State} (same : t.unshared = s.unshared) : t.lif.shareless = s.lif.shareless :=
  congrArg (fun l : Lif => { l with fifo := [], roomFreed := false }) (lif_of_unshared same)

theorem shareless_of_steady {s t : State} (same : t.steady = s.steady) : t.lif.shareless = s.lif.shareless :=
  congrArg (fun l : Lif => { l with slot := [], due := .none, spacing := none }) (lif_of_steady same)

theorem settle_setLink_shareless {l : Link} (held : l ≠ .heldLine) (mute : l ≠ .mute) (s : State) :
    (settle (setLink l s)).lif.shareless = ({ s.lif with link := l } : Lif).shareless := by
  rw [setLink_plain held mute]
  exact (shareless_of_steady (settle_steady _)).trans (shareless_of_unshared (computeShares_unshared _))

section

variable {a b : Lif} (same : a.shareless = b.shareless)

include same

theorem linkPart_of_shareless : a.linkPart = b.linkPart :=
  congrArg (fun l : Lif => { l with current := none, setAside := none }) same

theorem current_of_shareless : a.current = b.current := congrArg (·.current) same

theorem setAside_of_shareless : a.setAside = b.setAside := congrArg (·.setAside) same

end

section

variable {a b : Lif} (same : a.linkPart = b.linkPart)

include same

theorem link_of_linkPart : a.link = b.link := congrArg (·.link) same

theorem onLine_of_linkPart : a.onLine = b.onLine := congrArg (·.onLine) same

theorem joinTries_of_linkPart : a.joinTries = b.joinTries := congrArg (·.joinTries) same

theorem period_of_linkPart : a.period = b.period := congrArg (·.period) same

theorem alone_of_linkPart : a.alone = b.alone := congrArg (·.alone) same

theorem listen_of_linkPart : a.listen = b.listen := congrArg (·.listen) same

theorem lastStatus_of_linkPart : a.lastStatus = b.lastStatus := congrArg (·.lastStatus) same

theorem lastSent_of_linkPart : a.lastSent = b.lastSent := congrArg (·.lastSent) same

theorem peers_of_linkPart : a.peers = b.peers := congrArg (·.peers) same

theorem time_of_linkPart : a.time = b.time := congrArg (·.time) same

theorem timeSet_of_linkPart : a.timeSet = b.timeSet := congrArg (·.timeSet) same

theorem second_of_linkPart : a.second = b.second := congrArg (·.second) same

end

/-! #### Own echo (R154) -/

theorem exec_ownEcho {s : State} {p : Payload} (onLine : s.lif.onLine = some p) : exec .ownEcho s = finish (ownEchoOf p s) := by
  change execOwnEcho s = _
  rw [execOwnEcho, onLine]

theorem claimingOn_iff (s : State) (permit : Word32) :
    claimingOn s permit = true ↔ s.pct.slot = .claiming ∧ s.pct.trip.map (·.permit) = some permit := by
  rw [claimingOn, State.permit, Bool.and_eq_true, decide_eq_true_eq, decide_eq_true_eq]

/-- R16: the echo of a CLAIM that the slot is CLAIMING on starts the claim window. -/
theorem claimEcho_of_claiming {s : State} {permit : Word32} (claiming : s.pct.slot = .claiming) (silent : s.pct.heard = false)
    (permitIs : s.pct.trip.map (·.permit) = some permit) :
    claimEcho permit s = s.modPct fun p => { p with heard := true, claimWindow := some (s.now + 400000) } :=
  if_pos ⟨(claimingOn_iff s permit).2 ⟨claiming, permitIs⟩, by rw [silent]; rfl⟩

theorem claimEcho_of_other {s : State} {permit : Word32}
    (other : s.pct.slot ≠ .claiming ∨ s.pct.heard = true ∨ s.pct.trip.map (·.permit) ≠ some permit) : claimEcho permit s = s := by
  refine if_neg fun ⟨on, silent⟩ => ?_
  obtain ⟨claiming, permitIs⟩ := (claimingOn_iff s permit).1 on
  rcases other with no | heard | no
  · exact no claiming
  · rw [heard] at silent
    exact Bool.noConfusion silent
  · exact no permitIs

/-- The Line Interface after own frame has been heard back: the set-aside frame is current again. -/
def Lif.echoed (l : Lif) : Lif := { l with onLine := none, ownLast := true, current := l.setAside, setAside := none }

/-- R158: own STATUS heard back in JOIN enters RUN. -/
def Lif.joined (now : Nat) (entries : List HeaderEntry) (l : Lif) : Lif :=
  { l.echoed with
    lastStatus := some now, lastSent := entries, joinTries := 0, alone := some (now + 3000000), period := some (now + 500000)
    due := .none, spacing := none }

theorem ownEchoOf_status_join {s : State} (link flags : Byte) (time : Word32) (entries : List HeaderEntry)
    (join : s.lif.link = .join) : ownEchoOf (.status link flags time entries) s =
      setLink .run { s with lif := s.lif.joined s.now entries } := by
  unfold ownEchoOf
  dsimp only
  rw [if_pos join]
  rfl

theorem ownEchoOf_status {s : State} (link flags : Byte) (time : Word32) (entries : List HeaderEntry)
    (sends : s.lif.link.sends = true) : ownEchoOf (.status link flags time entries) s =
      { s with lif := { s.lif.echoed with
        lastStatus := some s.now, lastSent := entries, due := .none, spacing := none, period := some (s.now + 500000) } } := by
  have join : s.lif.link ≠ .join := fun eq => by rw [eq] at sends; exact Bool.noConfusion sends
  have period : (if s.lif.link.sends then some (s.now + Config.periodTime) else none) = some (s.now + 500000) := if_pos sends
  unfold ownEchoOf
  dsimp only
  rw [if_neg join, ← period]
  rfl

/-! #### The entry to MUTE and to HELD-LINE (R160, R161) -/

/-- The Line Interface at the entry to MUTE: nothing is left to send. -/
def Lif.muted (cause : MuteCause) (l : Lif) : Lif :=
  { l with
    link := .mute, roomFreed := l.roomFreed || !l.fifo.isEmpty, fifo := [], current := none, setAside := none, onLine := none
    due := .none, period := none, spacing := none, alone := none, listen := none, muteCause := some cause }

theorem enterMute_eq (cause : MuteCause) (s : State) :
    enterMute cause s = claimCutOff (computeShares { s with lif := s.lif.muted cause }) := by
  rw [enterMute, setLink_cut (.inr rfl)]
  rfl

/-- R153: in a link state that sends no STATUS a computation makes no request. -/
theorem computeShares_lif {s : State} (quiet : s.lif.link.sends = false) :
    (computeShares s).lif = { s.lif with slot := ownEntries (computed s) } := by
  have slotted_eq : (slotted s).lif = { s.lif with slot := ownEntries (computed s) } := by rw [slotted, modLif_lif, computed_lif]
  have sends : (slotted s).lif.link.sends = false := by rw [slotted_eq]; exact quiet
  rw [computeShares_eq]
  split
  · rw [requestChange_not_kept (fun both => by rw [sends] at both; exact Bool.noConfusion both.1), slotted_eq]
  · exact slotted_eq

/-- What the withdrawal of a CLAIM makes of the Line Interface (R151). -/
def Lif.withdrawn (permit : Word32) (l : Lif) : Lif :=
  { l with
    fifo := dropFirst (.claim permit) l.fifo
    roomFreed := l.roomFreed || decide (.claim permit ∈ l.fifo)
    current := l.current.bind fun c =>
      if c.frame = .claim permit then (if l.onLine.isSome then some { c with withdrawn := true } else none) else some c
    setAside := l.setAside.bind fun c => if c.frame = .claim permit then none else some c }

theorem withdrawClaim_lif (permit : Word32) (s : State) : (withdrawClaim permit s).lif = s.lif.withdrawn permit := by
  rw [withdrawClaim, withdrawFrame, modLif_lif, modPct_lif, Lif.withdrawn]
  cases s.lif.current <;> cases s.lif.setAside <;> rfl

theorem Lif.withdrawn_of_empty {l : Lif} (fifo : l.fifo = []) (current : l.current = none) (aside : l.setAside = none)
    (permit : Word32) : l.withdrawn permit = l := by
  cases l
  subst fifo current aside
  simp [Lif.withdrawn, dropFirst]

theorem claimCutOff_lif_empty {s : State} (fifo : s.lif.fifo = []) (current : s.lif.current = none)
    (aside : s.lif.setAside = none) : (claimCutOff s).lif = s.lif := by
  have withdrawn (permit : Word32) : (withdrawClaim permit s).lif = s.lif :=
    (withdrawClaim_lif permit s).trans (Lif.withdrawn_of_empty fifo current aside permit)
  have refused (t : State) : (refuseTrip .lineBusy t).lif = t.lif := by
    unfold refuseTrip refuseCard refusalPulse
    split <;> rfl
  unfold claimCutOff
  split
  · rfl
  · split
    · rw [refused, withdrawn]
    · rfl

theorem settle_enterMute_lif (cause : MuteCause) (s : State) : ∃ slot : List HeaderEntry,
    (settle (enterMute cause s)).lif = { s.lif.muted cause with slot := slot, roomFreed := false } := by
  have computed := computeShares_lif (s := { s with lif := s.lif.muted cause }) rfl
  have cut := claimCutOff_lif_empty (s := computeShares { s with lif := s.lif.muted cause })
    (by rw [computed]; rfl) (by rw [computed]; rfl) (by rw [computed]; rfl)
  rw [computed, ← enterMute_eq] at cut
  exact ⟨_, (settle_lif_mute (by rw [cut]; rfl)).trans (by rw [cut])⟩

theorem enterMute_allots {s u : State} (lanes : u.lanes = s.lanes) (cfg : u.cfg = s.cfg) (cause : MuteCause) :
    s.Allots (settle (enterMute cause u)) :=
  (setLink_allots (u := u.modLif (Lif.muted cause)) lanes cfg .mute).of_settle

theorem refuseTrip_pct (r : CardRefusal) (s : State) : (refuseTrip r s).pct =
    { s.pct with slot := .empty, trip := none, heard := false, claimWindow := none } := by
  unfold refuseTrip refuseCard refusalPulse
  split <;> rfl

theorem refuseTrip_outbox (r : CardRefusal) (s : State) : (refuseTrip r s).outbox = s.outbox ++ [.reader (refusedMessage r)] := by
  unfold refuseTrip refuseCard refusalPulse
  split <;> rfl

theorem pct_of_unshared {s t : State} (same : t.unshared = s.unshared) : t.pct = s.pct := congrArg (·.pct) same

theorem outbox_of_unshared {s t : State} (same : t.unshared = s.unshared) : t.outbox = s.outbox := congrArg (·.outbox) same

theorem outbox_of_steady {s t : State} (same : t.steady = s.steady) : t.outbox = s.outbox := congrArg (·.outbox) same

/-- R18: the entry to HELD-LINE or MUTE refuses a trip whose CLAIM has not been heard back. -/
theorem claimCutOff_of_claiming {s : State} {tr : Trip} (claiming : s.pct.slot = .claiming) (silent : s.pct.heard = false)
    (trip : s.pct.trip = some tr) : claimCutOff s = refuseTrip .lineBusy (withdrawClaim tr.permit s) := by
  have permit : s.permit = some tr.permit := by rw [State.permit, trip]; rfl
  unfold claimCutOff
  rw [permit]
  exact if_pos ⟨claiming, by rw [silent]; rfl⟩

/-- What the reader and the slot have of a trip that LINE-BUSY refuses, at the end of the event. -/
def State.Refused (s t : State) (r : CardRefusal) : Prop :=
  t.pct.slot = .empty ∧ t.pct.trip = none ∧ t.outbox = s.outbox ++ [.reader (refusedMessage r)]

theorem refused_of_settle {s u : State} (r : CardRefusal) (outbox : u.outbox = s.outbox) :
    s.Refused (settle (refuseTrip r u)) r := by
  have same := settle_steady (refuseTrip r u)
  refine ⟨(slot_of_steady same).trans ?_, (trip_of_steady same).trans ?_, (outbox_of_steady same).trans ?_⟩
  · rw [refuseTrip_pct]
  · rw [refuseTrip_pct]
  · rw [refuseTrip_outbox, outbox]

theorem withdrawClaim_outbox (permit : Word32) (s : State) : (withdrawClaim permit s).outbox = s.outbox := rfl

/-- R18: a link state that the line can no longer carry the CLAIM in refuses the trip. -/
theorem cutOff_refused {s u : State} {tr : Trip} (pct : u.pct = s.pct) (outbox : u.outbox = s.outbox)
    (claiming : s.pct.slot = .claiming) (silent : s.pct.heard = false) (trip : s.pct.trip = some tr) :
    s.Refused (settle (claimCutOff (computeShares u))) .lineBusy := by
  have same := computeShares_unshared u
  have pctSame := (pct_of_unshared same).trans pct
  rw [claimCutOff_of_claiming (by rw [pctSame]; exact claiming) (by rw [pctSame]; exact silent) (by rw [pctSame]; exact trip)]
  exact refused_of_settle _ ((withdrawClaim_outbox _ _).trans ((outbox_of_unshared same).trans outbox))

/-! #### Collisions (R149, R158) -/

/-- The Line Interface without an attempt of the frame that is done: the set-aside frame is current again. -/
def Lif.freed (l : Lif) : Lif := { l with onLine := none, current := l.setAside, setAside := none }

theorem collided_withdrawn {s : State} {c : Current} (current : s.lif.current = some c) (withdrawn : c.withdrawn = true) :
    collided s = { s with lif := s.lif.freed } := by
  rw [collided, current]
  exact if_pos withdrawn

theorem collided_again {s : State} {c : Current} (current : s.lif.current = some c) (kept : c.withdrawn = false)
    (few : c.collisions < 7) : collided s =
      { s with lif := { s.lif with onLine := none, current := some { c with collisions := c.collisions + 1 } } } := by
  have below : ¬Config.collisionLimit ≤ c.collisions + 1 := by rw [show Config.collisionLimit = 8 from rfl]; omega
  rw [collided, current]
  exact (if_neg (by rw [kept]; exact Bool.noConfusion)).trans (if_neg below)

theorem collided_eighth {s : State} {c : Current} (current : s.lif.current = some c) (kept : c.withdrawn = false)
    (seven : c.collisions = 7) : collided s =
      discardFrame c { s with lif := { s.lif with onLine := none, current := some { c with collisions := 8 } } } := by
  have last : Config.collisionLimit ≤ c.collisions + 1 := by rw [seven]; decide
  rw [collided, current]
  refine (if_neg (by rw [kept]; exact Bool.noConfusion)).trans ((if_pos last).trans ?_)
  rw [seven]
  rfl

theorem discardFrame_status {s : State} {c : Current} (status : c.frame = .status) (sends : s.lif.link.sends = true) :
    discardFrame c s = { s with lif := { s.lif with
      current := s.lif.setAside, setAside := none, due := .none, spacing := none, period := some (s.now + 500000) } } := by
  have join : s.lif.link ≠ .join := fun eq => by rw [eq] at sends; exact Bool.noConfusion sends
  have period : (if s.lif.link.sends then some (s.now + Config.periodTime) else none) = some (s.now + 500000) := if_pos sends
  unfold discardFrame
  rw [status]
  dsimp only
  rw [if_neg join, ← period]
  rfl

theorem discardFrame_join {s : State} {c : Current} (status : c.frame = .status) (join : s.lif.link = .join) :
    discardFrame c s = joinFailed s := by
  unfold discardFrame
  rw [status]
  exact if_pos join

theorem discardFrame_claim {s : State} {c : Current} {permit : Word32} (claim : c.frame = .claim permit)
    (claiming : s.pct.slot = .claiming) (silent : s.pct.heard = false) (permitIs : s.pct.trip.map (·.permit) = some permit) :
    discardFrame c s = refuseTrip .lineBusy (nextCurrent s) := by
  unfold discardFrame
  rw [claim]
  exact if_pos ⟨(claimingOn_iff _ permit).2 ⟨claiming, permitIs⟩, by rw [show (nextCurrent s).pct.heard = false from silent]; rfl⟩

theorem discardFrame_other {s : State} {c : Current} (status : c.frame ≠ .status) (claim : ∀ permit, c.frame ≠ .claim permit) :
    discardFrame c s = nextCurrent s := by
  unfold discardFrame
  split
  · rename_i eq
    exact absurd eq status
  · rename_i permit eq
    exact absurd eq (claim permit)
  · rfl

theorem joinFailed_again {s : State} (left : s.lif.joinTries < 3) : joinFailed s =
    { s with lif := { s.lif with joinTries := s.lif.joinTries + 1, current := some { frame := .status }, onLine := none } } :=
  if_pos left

theorem joinFailed_last {s : State} (last : 3 ≤ s.lif.joinTries) : joinFailed s = enterMute .echo s :=
  if_neg (Nat.not_lt.2 last)

theorem exec_collision {s : State} {p : Payload} (onLine : s.lif.onLine = some p) : exec .collision s = finish (collided s) := by
  change execCollision s = _
  rw [execCollision, onLine]

theorem exec_frameDropped {s : State} {p : Payload} {framing : Bool} {raw : List Byte} (onLine : s.lif.onLine = some p)
    (bad : acceptFrame framing raw = none) :
    exec (.frameDropped framing raw) s = finish (echoDropped { s with lif := { s.lif with ownLast := true } }) := by
  change execFrameDropped framing raw s = _
  rw [execFrameDropped, bad, onLine]
  rfl

/-- The end of a join try leaves nothing of the attempt. -/
theorem joinFailed_attempt (s : State) (onLine : Option Payload) (current : Option Current) :
    joinFailed { s with lif := { s.lif with onLine := onLine, current := current } } = joinFailed s := by
  unfold joinFailed
  split
  · rfl
  · rw [enterMute_eq, enterMute_eq]
    rfl

theorem refuseTrip_lif (r : CardRefusal) (s : State) : (refuseTrip r s).lif = s.lif := by
  unfold refuseTrip refuseCard refusalPulse
  split <;> rfl

theorem refuseTrip_stp (r : CardRefusal) (s : State) : (refuseTrip r s).stp = s.stp := by
  unfold refuseTrip refuseCard refusalPulse
  split <;> rfl

theorem refuseTrip_ntb (r : CardRefusal) (s : State) : (refuseTrip r s).ntb = s.ntb := by
  unfold refuseTrip refuseCard refusalPulse
  split <;> rfl

theorem refuseTrip_sul (r : CardRefusal) (s : State) : (refuseTrip r s).sul = s.sul := by
  unfold refuseTrip refuseCard refusalPulse
  split <;> rfl

/-- An attempt that meets a collision, or in RUN and ALONE one whose echo is dropped, collides; the drop lengthens the next gap. -/
theorem exec_collided {s : State} {p : Payload} {c : Instr} (onLine : s.lif.onLine = some p)
    (which : c = .collision ∨ ∃ framing raw, c = .frameDropped framing raw ∧ acceptFrame framing raw = none)
    (outside : c = .collision ∨ s.lif.link ≠ .join) : exec c s = finish (collided
      { s with lif := { s.lif with ownLast := if c = .collision then s.lif.ownLast else true } }) := by
  rcases which with rfl | ⟨framing, raw, rfl, bad⟩
  · rw [exec_collision onLine, if_pos rfl]
  · rw [exec_frameDropped onLine bad, if_neg Instr.noConfusion]
    exact congrArg finish (if_neg (outside.resolve_left Instr.noConfusion))

/-- R158: in JOIN the eighth collision and a dropped echo end the try. -/
theorem exec_joinFailed {s : State} {p : Payload} {c : Instr} {cur : Current} (onLine : s.lif.onLine = some p)
    (current : s.lif.current = some cur) (join : s.lif.link = .join) (status : cur.frame = .status) (kept : cur.withdrawn = false)
    (which : c = .collision ∨ ∃ framing raw, c = .frameDropped framing raw ∧ acceptFrame framing raw = none)
    (ends : c ≠ .collision ∨ cur.collisions = 7) :
    exec c s = finish (joinFailed
      { s with lif := { s.lif with ownLast := if c = .collision then s.lif.ownLast else true } }) := by
  rcases which with rfl | ⟨framing, raw, rfl, bad⟩
  · rw [exec_collision onLine, collided_eighth current kept (ends.resolve_left fun no => no rfl),
      discardFrame_join status (by exact join), joinFailed_attempt, if_pos rfl]
  · rw [exec_frameDropped onLine bad, if_neg Instr.noConfusion]
    exact congrArg finish (if_pos join)

/-! #### The link's own events (R157 to R161) -/

theorem dropFirst_of_not_mem {f : TxFrame} {l : List TxFrame} (no : f ∉ l) : dropFirst f l = l := by
  induction l with
  | nil => rfl
  | cons x rest ih =>
    obtain ⟨ne, out⟩ := not_or.1 (fun either => no (List.mem_cons.2 either))
    rw [dropFirst, if_neg (Ne.symm ne), ih out]

theorem dropFirst_append_cons {f : TxFrame} {a : List TxFrame} (no : f ∉ a) (b : List TxFrame) :
    dropFirst f (a ++ f :: b) = a ++ b := by
  induction a with
  | nil => exact if_pos rfl
  | cons x rest ih =>
    obtain ⟨ne, out⟩ := not_or.1 (fun either => no (List.mem_cons.2 either))
    rw [List.cons_append, dropFirst, if_neg (Ne.symm ne), ih out]
    rfl

/-- The end of an event at which nothing waits for room leaves the Line Interface and Permit Control's frames as they are. -/
theorem settle_unclaimed {s : State} (departed : s.stp.departed = false) (offers : s.sul.recovery ≠ .offering)
    (empty : s.pct.held = []) (ready : s.ntb.heldReady = none) (idle : s.ntb.serving = .idle) :
    (settle s).lif = { s.lif with roomFreed := false } ∧ (settle s).pct.held = [] := by
  have sending (image : Option (List Byte)) (k : Nat) : s.ntb.serving ≠ .sending image k := by rw [idle]; exact ServeState.noConfusion
  rw [settle_room departed offers, portKick_lif, refreshLamps_lif, idleTimer_lif, portKick_pct, refreshLamps_pct, idleTimer_held]
  cases freed : s.lif.roomFreed with
  | true =>
    rw [reportRoom_unclaimed freed empty ready sending]
    exact ⟨rfl, empty⟩
  | false =>
    rw [reportRoom_none freed, ← freed]
    exact ⟨rfl, empty⟩

/-- The Line Interface at the entry to HELD-LINE. -/
def Lif.heldDown (l : Lif) : Lif :=
  { l with
    link := .heldLine, peers := [], listen := none, alone := none, period := none, spacing := none, due := .none
    joinTries := 0, onLine := none
    current := l.current.bind fun c => if (l.link = .join ∧ c.frame = .status) ∨ c.withdrawn then none else some c }

theorem enterHeldLine_eq (s : State) : enterHeldLine s = claimCutOff (computeShares { s with lif := s.lif.heldDown }) := by
  rw [enterHeldLine, setLink_cut (.inl rfl)]
  congr 2
  rw [State.modLif, State.modLif, Lif.heldDown]
  cases s.lif.current <;> rfl

theorem enterHeldLine_setLink (s : State) : enterHeldLine s = setLink .heldLine { s with lif := s.lif.heldDown } := by
  rw [enterHeldLine_eq, setLink_cut (.inl rfl)]
  rfl

/-- The Line Interface at the entry to JOIN. -/
def Lif.joining (l : Lif) : Lif :=
  { l with
    listen := none
    setAside := match l.current with
      | none => l.setAside
      | some c => if c.frame = .status then l.setAside else some c
    current := some { frame := .status }
    onLine := none
    joinTries := 1 }

theorem settle_setLink_now (l : Link) (s : State) : (settle (setLink l s)).now = s.now :=
  (settle_now _).trans ((now_of_undelivered (setLink_undelivered l s)).trans (computeShares_now _))

theorem exec_listenWindowExpiry {s : State} {d : Nat} (running : s.lif.listen = some d) (listens : s.lif.link = .listen) :
    exec .listenWindowExpiry s = finish (setLink .join { s with now := max s.now d, lif := s.lif.joining }) := by
  change execListenWindowExpiry s = _
  rw [execListenWindowExpiry, onExpiry_some running]
  exact congrArg finish (if_pos listens)

theorem exec_aloneTimerExpiry {s : State} {d : Nat} (running : s.lif.alone = some d) (run : s.lif.link = .run) :
    exec .aloneTimerExpiry s =
      finish (setLink .alone { s with now := max s.now d, lif := { s.lif with alone := none } }) := by
  change execAloneTimerExpiry s = _
  rw [execAloneTimerExpiry, onExpiry_some running]
  exact congrArg finish (if_pos run)

theorem watches_iff (l : Link) : l.watchesLine = true ↔ l = .listen ∨ l = .join ∨ l = .run ∨ l = .alone := by
  cases l <;> simp [Link.watchesLine]

theorem exec_heldLineDetected {s : State} (watches : s.lif.link.watchesLine = true) :
    exec .heldLineDetected s = finish (enterHeldLine s) := by
  change execHeldLineDetected s = _
  rw [execHeldLineDetected, if_pos watches]

theorem conflictHeard_of_watches {s : State} (watches : s.lif.link.watchesLine = true) :
    conflictHeard s = enterMute .conflict s := by
  rcases (watches_iff _).1 watches with h | h | h | h <;> rw [conflictHeard, h]

theorem conflictHeard_of_not {s : State} (blind : s.lif.link = .down ∨ s.lif.link = .heldLine ∨ s.lif.link = .mute) :
    conflictHeard s = s := by
  rcases blind with h | h | h <;> rw [conflictHeard, h]

theorem exec_conflict (s : State) : exec .conflict s = if s.sul.done then finish (conflictHeard s) else .next s := rfl

theorem exec_heldLineEnd {s : State} (held : s.lif.link = .heldLine) :
    exec .heldLineEnd s = finish (setLink .listen (s.modLif fun l =>
      { l with listen := if l.listenOnly then none else some (s.now + 1500000) })) := by
  change execHeldLineEnd s = _
  rw [execHeldLineEnd, if_pos held]
  rfl

/-- R18: what the entry to HELD-LINE or MUTE leaves of a CLAIM that has not been heard back. -/
theorem cutOff_frames {s u : State} {tr : Trip} (calm : s.Calm) (pct : u.pct = s.pct) (ntb : u.ntb = s.ntb) (stp : u.stp = s.stp)
    (sul : u.sul = s.sul) (quiet : u.lif.link.sends = false) (claiming : s.pct.slot = .claiming) (silent : s.pct.heard = false)
    (trip : s.pct.trip = some tr) (kept : s.pct.held = [] ∨ s.pct.held = [.claim tr.permit]) (ready : s.ntb.heldReady = none)
    (idle : s.ntb.serving = .idle) :
    ∃ slot, (settle (claimCutOff (computeShares u))).lif =
      { ({ u.lif with slot := slot } : Lif).withdrawn tr.permit with roomFreed := false } ∧
      (settle (claimCutOff (computeShares u))).pct.held = [] := by
  have same := computeShares_unshared u
  have lif := computeShares_lif quiet
  generalize computeShares u = v at same lif
  have pctSame : v.pct = s.pct := (pct_of_unshared same).trans pct
  have ntbSame : v.ntb = s.ntb := (congrArg (·.ntb) same).trans ntb
  have stpSame : v.stp = s.stp := (congrArg (·.stp) same).trans stp
  have sulSame : v.sul = s.sul := (congrArg (·.sul) same).trans sul
  rw [claimCutOff_of_claiming (by rw [pctSame]; exact claiming) (by rw [pctSame]; exact silent) (by rw [pctSame]; exact trip)]
  obtain ⟨⟨departed, _⟩, offers⟩ := calm
  have held : dropFirst (.claim tr.permit) s.pct.held = [] := by
    rcases kept with h | h <;> rw [h]
    · rfl
    · exact if_pos rfl
  have settled := settle_unclaimed (s := refuseTrip .lineBusy (withdrawClaim tr.permit v))
    (by rw [refuseTrip_stp]; exact (congrArg (·.departed) stpSame).trans departed)
    (by rw [refuseTrip_sul]; exact fun eq => offers ((congrArg (·.recovery) sulSame).symm.trans eq))
    (by rw [refuseTrip_pct]; exact (congrArg (fun p : Pct => dropFirst (.claim tr.permit) p.held) pctSame).trans held)
    (by rw [refuseTrip_ntb]; exact (congrArg (·.heldReady) ntbSame).trans ready)
    (by rw [refuseTrip_ntb]; exact (congrArg (·.serving) ntbSame).trans idle)
  rw [refuseTrip_lif, withdrawClaim_lif, lif] at settled
  exact ⟨_, settled⟩

theorem refused_of_heldLine {s : State} {c : Current} {permit : Word32} (current : s.lif.current = some c)
    (claim : c.frame = .claim permit) (slot : List HeaderEntry) :
    (({ s.lif.heldDown with slot := slot } : Lif).withdrawn permit).current = none := by
  rw [Lif.withdrawn, Lif.heldDown, current, Option.bind_some]
  dsimp only
  split
  · rfl
  · exact if_pos claim

theorem listenWindow_joins {s : State} {d : Nat} (running : s.lif.listen = some d) (listens : s.lif.link = .listen) :
    ∃ t, exec .listenWindowExpiry s = .next t ∧ t.now = max s.now d ∧ t.lif.link = .join ∧ t.lif.joinTries = 1 ∧
      t.lif.current = some { frame := .status } ∧ t.lif.listen = none ∧ t.lif.peers = s.lif.peers ∧ s.Allots t := by
  have answer := exec_listenWindowExpiry running listens
  generalize eq : ({ s with now := max s.now d, lif := s.lif.joining } : State) = u at answer
  have lif : u.lif = s.lif.joining := by rw [← eq]
  have now : u.now = max s.now d := by rw [← eq]
  have shareless := settle_setLink_shareless (l := .join) Link.noConfusion Link.noConfusion u
  have allots := settle_setLink_allots (s := s) (u := u) (by rw [← eq]) (by rw [← eq]) .join
  rw [lif] at shareless
  have part := linkPart_of_shareless shareless
  have link := link_of_linkPart part
  have peers := peers_of_linkPart part
  exact ⟨_, answer, (settle_setLink_now .join u).trans now, link, joinTries_of_linkPart part, current_of_shareless shareless,
    listen_of_linkPart part, peers, allots⟩

theorem aloneTimer_isolates {s : State} {d : Nat} (running : s.lif.alone = some d) (run : s.lif.link = .run) :
    ∃ t, exec .aloneTimerExpiry s = .next t ∧ t.now = max s.now d ∧ t.lif.link = .alone ∧ t.lif.alone = none ∧
      t.lif.peers = s.lif.peers ∧ t.lif.period = s.lif.period ∧ s.Allots t ∧ s.Announces t := by
  have answer := exec_aloneTimerExpiry running run
  generalize eq : ({ s with now := max s.now d, lif := { s.lif with alone := none } } : State) = u at answer
  have lif : u.lif = { s.lif with alone := none } := by rw [← eq]
  have now : u.now = max s.now d := by rw [← eq]
  have lanes : u.lanes = s.lanes := by rw [← eq]
  have cfg : u.cfg = s.cfg := by rw [← eq]
  have shareless := settle_setLink_shareless (l := .alone) Link.noConfusion Link.noConfusion u
  have allots := settle_setLink_allots (s := s) (u := u) lanes cfg .alone
  have announces := (computeShares_announces (s := s) (u := u.modLif fun x => { x with link := .alone }) lanes cfg
    (by rw [modLif_lif, lif]) (by rw [modLif_lif, lif]) (by rw [modLif_lif, lif]) (by rw [modLif_lif, lif])
    (by rw [modLif_lif, lif])).of_settle
  rw [← setLink_plain Link.noConfusion Link.noConfusion] at announces
  rw [lif] at shareless
  have part := linkPart_of_shareless shareless
  have link := link_of_linkPart part
  have peers := peers_of_linkPart part
  have period := period_of_linkPart part
  exact ⟨_, answer, (settle_setLink_now .alone u).trans now, link, alone_of_linkPart part, peers, period, allots, announces⟩

theorem heldLine_entered {s : State} (watches : s.lif.link.watchesLine = true) :
    ∃ t, exec .heldLineDetected s = .next t ∧ t.lif.link = .heldLine ∧ t.lif.peers = [] ∧ t.lif.listen = none ∧
      t.lif.alone = none ∧ t.lif.period = none ∧ t.lif.time = s.lif.time ∧ t.lif.timeSet = s.lif.timeSet ∧
      t.lif.second = s.lif.second ∧ s.Allots t := by
  have answer := (exec_heldLineDetected watches).trans (congrArg finish (enterHeldLine_setLink s))
  generalize eq : ({ s with lif := s.lif.heldDown } : State) = u at answer
  have lif : u.lif = s.lif.heldDown := by rw [← eq]
  have part := settle_setLink_linkPart .heldLine u
  have allots := settle_setLink_allots (s := s) (u := u) (by rw [← eq]) (by rw [← eq]) .heldLine
  rw [lif] at part
  have link := link_of_linkPart part
  have time := time_of_linkPart part
  have timeSet := timeSet_of_linkPart part
  have second := second_of_linkPart part
  exact ⟨_, answer, link, peers_of_linkPart part, listen_of_linkPart part, alone_of_linkPart part, period_of_linkPart part,
    time, timeSet, second, allots⟩

theorem exec_conflict_of_watches {s : State} (watches : s.lif.link.watchesLine = true) (done : s.sul.done = true) :
    exec .conflict s = finish (enterMute .conflict s) := by
  rw [exec_conflict, if_pos done, conflictHeard_of_watches watches]

theorem conflict_mutes {s : State} (watches : s.lif.link.watchesLine = true) (done : s.sul.done = true) :
    ∃ t, exec .conflict s = .next t ∧ t.lif.link = .mute ∧ t.lif.muteCause = some .conflict ∧ t.lif.fifo = [] ∧
      t.lif.current = none ∧ t.lif.setAside = none ∧ t.lif.due = .none ∧ t.lif.period = none ∧
      t.lif.alone = none ∧ t.lif.peers = s.lif.peers ∧ t.lif.time = s.lif.time ∧ s.Allots t := by
  obtain ⟨slot, lif⟩ := settle_enterMute_lif .conflict s
  have allots := enterMute_allots (s := s) (u := s) rfl rfl .conflict
  refine ⟨_, exec_conflict_of_watches watches done, ?_, ?_, ?_, ?_, ?_, ?_, ?_, ?_, ?_, ?_, allots⟩
  all_goals
    rw [lif]
    rfl

theorem cutOff_of_conflict {s : State} {tr : Trip} (watches : s.lif.link.watchesLine = true) (done : s.sul.done = true)
    (claiming : s.pct.slot = .claiming) (silent : s.pct.heard = false) (trip : s.pct.trip = some tr) :
    ∃ t, exec .conflict s = .next t ∧ s.Refused t .lineBusy ∧
      (s.Calm → s.pct.held = [] ∨ s.pct.held = [.claim tr.permit] → s.ntb.heldReady = none → s.ntb.serving = .idle →
        t.pct.held = []) := by
  have answer := (exec_conflict_of_watches watches done).trans (congrArg finish (enterMute_eq .conflict s))
  have refused := cutOff_refused (u := { s with lif := s.lif.muted .conflict }) rfl rfl claiming silent trip
  refine ⟨_, answer, refused, fun calm kept ready idle => ?_⟩
  obtain ⟨slot, _, held⟩ := cutOff_frames (u := { s with lif := s.lif.muted .conflict }) calm rfl rfl rfl rfl rfl claiming
    silent trip kept ready idle
  exact held

theorem cutOff_of_heldLine {s : State} {tr : Trip} (watches : s.lif.link.watchesLine = true)
    (claiming : s.pct.slot = .claiming) (silent : s.pct.heard = false) (trip : s.pct.trip = some tr) :
    ∃ t, exec .heldLineDetected s = .next t ∧ s.Refused t .lineBusy ∧
      (s.Calm → s.pct.held = [] ∨ s.pct.held = [.claim tr.permit] → s.ntb.heldReady = none → s.ntb.serving = .idle →
        t.pct.held = [] ∧
          (.claim tr.permit ∉ s.lif.fifo → t.lif.fifo = s.lif.fifo) ∧
          (∀ a b : List TxFrame, s.lif.fifo = a ++ .claim tr.permit :: b → .claim tr.permit ∉ a → t.lif.fifo = a ++ b) ∧
          (∀ cur : Current, s.lif.current = some cur → cur.frame = .claim tr.permit → t.lif.current = none) ∧
          (∀ cur : Current, s.lif.setAside = some cur → cur.frame = .claim tr.permit → t.lif.setAside = none)) := by
  have answer := (exec_heldLineDetected watches).trans (congrArg finish (enterHeldLine_eq s))
  have refused := cutOff_refused (u := { s with lif := s.lif.heldDown }) rfl rfl claiming silent trip
  refine ⟨_, answer, refused, fun calm kept ready idle => ?_⟩
  obtain ⟨slot, lif, held⟩ := cutOff_frames (u := { s with lif := s.lif.heldDown }) calm rfl rfl rfl rfl rfl claiming silent
    trip kept ready idle
  refine ⟨held, fun out => ?_, fun a b fifo out => ?_, fun cur current claim => ?_, fun cur aside claim => ?_⟩ <;> rw [lif]
  · exact dropFirst_of_not_mem out
  · exact (congrArg (dropFirst _) fifo).trans (dropFirst_append_cons out b)
  · exact refused_of_heldLine current claim slot
  · exact (congrArg (fun o : Option Current => o.bind _) aside).trans (if_pos claim)

theorem heldLine_ended {s : State} (held : s.lif.link = .heldLine) :
    ∃ t, exec .heldLineEnd s = .next t ∧ t.lif.link = .listen ∧ t.lif.peers = s.lif.peers ∧
      t.lif.listen = (if s.lif.listenOnly then none else some (s.now + 1500000)) ∧ s.Allots t := by
  have answer := exec_heldLineEnd held
  generalize eq : (s.modLif fun l => { l with listen := if l.listenOnly then none else some (s.now + 1500000) }) = u at answer
  have lif : u.lif = { s.lif with listen := if s.lif.listenOnly then none else some (s.now + 1500000) } := by rw [← eq]; rfl
  have part := settle_setLink_linkPart .listen u
  have allots := settle_setLink_allots (s := s) (u := u) (by rw [← eq]; rfl) (by rw [← eq]; rfl) .listen
  rw [lif] at part
  have link := link_of_linkPart part
  have peers := peers_of_linkPart part
  have listen := listen_of_linkPart part
  exact ⟨_, answer, link, peers, listen, allots⟩

theorem leaves_conflict_of_not {s : State} (blind : s.lif.link = .down ∨ s.lif.link = .heldLine ∨ s.lif.link = .mute) :
    Leaves .conflict s s := by
  have answer := exec_conflict s
  rw [conflictHeard_of_not blind] at answer
  cases done : s.sul.done with
  | true =>
    rw [done] at answer
    exact leaves_of_finish answer
  | false =>
    rw [done] at answer
    exact ⟨s, answer, rfl, fun _ _ => rfl⟩

end Sys2Proof.Machine

open Sys2Proof Sys2Proof.Machine

/-- Settles O49, frame kind by frame kind. -/
theorem ownEcho : Obligations.OwnEcho := by
  intro s
  refine ⟨fun free => ?_, fun permit calm onLine => ⟨fun claiming silent permitIs => ?_, fun other => ?_⟩,
    fun link flags time entries calm onLine sends => ?_, fun link flags time entries onLine join => ?_,
    fun p calm onLine status claim => ?_⟩
  · change execOwnEcho s = _
    rw [execOwnEcho, free]
  · exact yields_of_finish ((exec_ownEcho onLine).trans (congrArg finish (claimEcho_of_claiming claiming silent permitIs))) calm
  · exact yields_of_finish ((exec_ownEcho onLine).trans (congrArg finish (claimEcho_of_other other))) calm
  · exact yields_of_finish ((exec_ownEcho onLine).trans
      (congrArg finish (ownEchoOf_status link flags time entries ((sends_iff _).2 sends)))) calm
  · have answer := (exec_ownEcho onLine).trans (congrArg finish (ownEchoOf_status_join link flags time entries join))
    have shareless := settle_setLink_shareless (l := .run) Link.noConfusion Link.noConfusion
      { s with lif := s.lif.joined s.now entries }
    have allots := (setLink_allots (s := s) (u := { s with lif := s.lif.joined s.now entries }) rfl rfl .run).of_settle
    have part := linkPart_of_shareless shareless
    have link := link_of_linkPart part
    have onLine := onLine_of_linkPart part
    have peers := peers_of_linkPart part
    refine ⟨_, answer, link, alone_of_linkPart part, period_of_linkPart part, lastStatus_of_linkPart part,
      lastSent_of_linkPart part, current_of_shareless shareless, setAside_of_shareless shareless, onLine, peers, allots⟩
  · refine yields_of_finish ((exec_ownEcho onLine).trans (congrArg finish ?_)) calm
    cases p with
    | status a b c d => exact absurd rfl (status a b c d)
    | claim a => exact absurd rfl (claim a)
    | _ => rfl

/-- Settles O50, by the collision count and, in JOIN, by the tries. -/
theorem collisions : Obligations.Collisions := by
  intro s p cur c onLine current which own again gone
  refine ⟨fun calm link => ?_, fun join status kept => ⟨fun calm collision few => ?_, fun ends => ?_⟩⟩
  · have outside : s.lif.link ≠ .join := by rcases link with h | h <;> rw [h] <;> decide
    have answer := exec_collided onLine which (.inr outside)
    have sends := (sends_iff _).2 link
    refine ⟨fun withdrawn => ?_, fun kept few => ?_, fun kept seven => ⟨fun status => ?_, fun permit tr claim claiming silent trip same => ?_,
      fun other noClaim => ?_⟩⟩
    · rw [collided_withdrawn (by exact current) withdrawn] at answer
      exact yields_of_finish answer calm
    · rw [collided_again (by exact current) kept few] at answer
      exact yields_of_finish answer calm
    · rw [collided_eighth (by exact current) kept seven, discardFrame_status status (by exact sends)] at answer
      exact yields_of_finish answer calm
    · rw [collided_eighth (by exact current) kept seven,
        discardFrame_claim claim (by exact claiming) (by exact silent) (by rw [← same]; exact congrArg _ trip)] at answer
      obtain ⟨slot, empty, outbox⟩ := refused_of_settle (s := s) .lineBusy
        (u := nextCurrent { s with lif := { s.lif with
          ownLast := own, onLine := none, current := some { cur with collisions := 8 } } }) rfl
      have lif := shareless_of_steady (settle_steady (refuseTrip .lineBusy (nextCurrent { s with lif := { s.lif with
          ownLast := own, onLine := none, current := some { cur with collisions := 8 } } })))
      rw [refuseTrip_lif] at lif
      exact ⟨_, answer, slot, empty, outbox, current_of_shareless lif, onLine_of_linkPart (linkPart_of_shareless lif)⟩
    · rw [collided_eighth (by exact current) kept seven, discardFrame_other other noClaim] at answer
      exact yields_of_finish answer calm
  · have answer := exec_collided onLine which (.inl collision)
    rw [collided_again (by exact current) kept few] at answer
    exact yields_of_finish answer calm
  · have answer := exec_joinFailed onLine current join status kept which ends
    refine ⟨fun calm left => ?_, fun last => ?_⟩
    · rw [joinFailed_again (by exact left)] at answer
      exact yields_of_finish answer calm
    · rw [joinFailed_last (by exact last)] at answer
      obtain ⟨slot, lif⟩ := settle_enterMute_lif .echo { s with lif := { s.lif with ownLast := own } }
      have allots := enterMute_allots (s := s) (u := { s with lif := { s.lif with ownLast := own } }) rfl rfl .echo
      refine ⟨_, answer, ?_, ?_, ?_, ?_, ?_, ?_, ?_, ?_, ?_, ?_, allots, fun claiming silent isSome => ?_⟩
      rotate_right
      · obtain ⟨tr, trip⟩ := Option.isSome_iff_exists.1 isSome
        rw [enterMute_eq]
        exact cutOff_refused rfl rfl claiming silent trip
      all_goals
        rw [lif]
        rfl

/-- Settles O53, event by event, through what a change of the link state computes and withdraws. -/
theorem linkEvents : Obligations.LinkEvents := by
  intro s
  refine ⟨fun d running listens => listenWindow_joins running listens, fun d running run => aloneTimer_isolates running run,
    fun links => ⟨heldLine_entered ((watches_iff _).2 links), fun done => conflict_mutes ((watches_iff _).2 links) done,
      fun c tr which claiming silent trip => ?_⟩,
    fun held => heldLine_ended held, fun off => onExpiry_none off _ s, fun off => onExpiry_none off _ s,
    fun blind => ⟨?_, leaves_conflict_of_not blind⟩, fun other => ?_⟩
  · have watches := (watches_iff _).2 links
    rcases which with rfl | ⟨rfl, done⟩
    · obtain ⟨t, answer, ⟨slot, empty, outbox⟩, frames⟩ := cutOff_of_heldLine watches claiming silent trip
      refine ⟨t, answer, slot, empty, outbox, fun calm kept ready idle => ?_⟩
      obtain ⟨held, waiting⟩ := frames calm kept ready idle
      exact ⟨held, fun _ => waiting⟩
    · obtain ⟨t, answer, ⟨slot, empty, outbox⟩, held⟩ := cutOff_of_conflict watches done claiming silent trip
      exact ⟨t, answer, slot, empty, outbox, fun calm kept ready idle =>
        ⟨held calm kept ready idle, fun no => Instr.noConfusion no⟩⟩
  · change execHeldLineDetected s = _
    rw [execHeldLineDetected, if_neg (by rcases blind with h | h | h <;> rw [h] <;> decide)]
  · change execHeldLineEnd s = _
    rw [execHeldLineEnd, if_neg other]

end

section
/-! Frames of other stations (R154): what every one refreshes, a STATUS (R162, R166), and what Permit Control and the Note Builder
make of a CLAIM, a HELD and a NOTE-ASK (R15 to R20, R184). -/

namespace Sys2Proof.Machine

/-! #### What every peer frame refreshes (R154, R159, R162) -/

/-- The Line Interface after a peer frame of a kind other than STATUS has refreshed its station's entry. -/
def Lif.noted (sender now : Nat) (l : Lif) : Lif :=
  { l with
    ownLast := false
    peers := l.peers.map fun e => if e.station = sender then { e with age := .fresh, heardAt := now } else e }

/-- R159: the Line Interface when a peer frame has been taken: in RUN and ALONE the link is RUN with the ALONE timer anew. -/
def Lif.heardPeer (now : Nat) (l : Lif) : Lif :=
  if l.link = .run ∨ l.link = .alone then { l with link := .run, alone := some (now + 3000000) } else l

theorem heardPeer_of_links {l : Lif} (now : Nat) (links : l.link = .run ∨ l.link = .alone) :
    l.heardPeer now = { l with link := .run, alone := some (now + 3000000) } := if_pos links

theorem heardPeer_of_other {l : Lif} (now : Nat) (run : l.link ≠ .run) (alone : l.link ≠ .alone) : l.heardPeer now = l :=
  if_neg fun either => either.elim run alone

theorem Lif.heardPeer_fields (now : Nat) (l : Lif) :
    (l.heardPeer now).peers = l.peers ∧ (l.heardPeer now).time = l.time ∧ (l.heardPeer now).timeSet = l.timeSet := by
  unfold Lif.heardPeer
  split <;> exact ⟨rfl, rfl, rfl⟩

theorem Lif.heardPeer_second (now : Nat) (l : Lif) : (l.heardPeer now).second = l.second := by
  unfold Lif.heardPeer
  split <;> rfl

theorem heardPeer_linkPart (now : Nat) (l : Lif) : (l.heardPeer now).linkPart = l.linkPart.heardPeer now := by
  by_cases links : l.link = .run ∨ l.link = .alone
  · rw [heardPeer_of_links now links, heardPeer_of_links now (by exact links)]
    rfl
  · rw [Lif.heardPeer, if_neg links, Lif.heardPeer, if_neg (by exact links)]

/-- In the states that stay, a peer frame restarts the ALONE timer of RUN and changes nothing else. -/
theorem peerHeard_of_stays {s : State} (stays : s.lif.link ≠ .alone) :
    peerHeard s = { s with lif := s.lif.heardPeer s.now } := by
  by_cases run : s.lif.link = .run
  · rw [heardPeer_of_links _ (.inl run), ← run]
    unfold peerHeard
    split
    · rfl
    · rename_i eq
      exact absurd eq stays
    · rename_i no _
      exact absurd run no
  · rw [heardPeer_of_other _ run stays]
    unfold peerHeard
    split
    · rename_i eq
      exact absurd eq run
    · rename_i eq
      exact absurd eq stays
    · rfl

/-- R159: a peer frame in ALONE returns the link to RUN, with the shares worked out anew. -/
theorem peerHeard_of_alone {s : State} (alone : s.lif.link = .alone) :
    peerHeard s = computeShares { s with lif := s.lif.heardPeer s.now } := by
  rw [peerHeard, alone, heardPeer_of_links _ (.inr alone), setLink_plain Link.noConfusion Link.noConfusion]
  rfl

theorem peerHeard_unshared (s : State) : (peerHeard s).unshared = ({ s with lif := s.lif.heardPeer s.now } : State).unshared := by
  by_cases alone : s.lif.link = .alone
  · rw [peerHeard_of_alone alone, computeShares_unshared]
  · rw [peerHeard_of_stays alone]

theorem injs_of_unshared {s t : State} (same : t.unshared = s.unshared) : t.injs = s.injs := congrArg (·.injs) same

/-- The payload is not that of a STATUS. -/
def Plain (p : Payload) : Prop := ∀ link flags time entries, p ≠ .status link flags time entries

theorem any_halt_refreshed (peers : List Peer) (sender now : Nat) :
    (peers.map fun e => if e.station = sender then { e with age := .fresh, heardAt := now } else e).any (·.halt) =
      peers.any (·.halt) := by
  rw [List.any_map]
  congr 1
  funext e
  dsimp only [Function.comp]
  split <;> rfl

theorem tablePeer_plain {p : Payload} (plain : Plain p) (sender : Nat) (s : State) :
    tablePeer sender p (s.modLif fun l => { l with ownLast := false }) = { s with lif := s.lif.noted sender s.now } := by
  cases p with
  | status a b c d => exact absurd rfl (plain a b c d)
  | _ => rfl

theorem adoptRackTime_plain {p : Payload} (plain : Plain p) (s : State) : adoptRackTime p s = s := by
  cases p with
  | status a b c d => exact absurd rfl (plain a b c d)
  | _ => rfl

theorem haltEdge_of_same {before : Bool} {s : State} (same : s.halted = before) : haltEdge before s = s := by
  rw [haltEdge, same]
  cases before <;> rfl

/-- R154: a peer frame of a kind other than STATUS is noted in the table, delivered, and heard by the link. -/
theorem takePeer_plain {p : Payload} (plain : Plain p) (sender : Nat) (deliver : State → State) (s : State) :
    takePeer sender p deliver s = peerHeard (deliver { s with lif := s.lif.noted sender s.now }) := by
  have halted : ({ s with lif := s.lif.noted sender s.now } : State).halted = s.halted := by
    rw [State.halted, State.halted, Lif.noted, any_halt_refreshed]
  rw [takePeer, tablePeer_plain plain, haltEdge_of_same halted, adoptRackTime_plain plain]

theorem peerFrame_taken {sender : Nat} {p : Payload} {s : State} (deliver : State → State) (done : s.sul.done = true)
    (ok : frameOk sender p = true) (peer : sender ≠ s.lif.station) (down : s.lif.link ≠ .down) (held : s.lif.link ≠ .heldLine) :
    peerFrame sender p deliver s = takePeer sender p deliver s := by
  unfold peerFrame
  rw [if_neg (by rw [done, ok]; decide), if_neg peer]
  split
  · rename_i eq
    exact absurd eq down
  · rename_i eq
    exact absurd eq held
  · rfl

theorem peerFrame_ignored {sender : Nat} {p : Payload} {s : State} (deliver : State → State)
    (peer : sender ≠ s.lif.station) (deaf : s.lif.link = .down ∨ s.lif.link = .heldLine) :
    peerFrame sender p deliver s = s := by
  unfold peerFrame
  split
  · rfl
  · rcases deaf with h | h <;> rw [h]

/-- A command that is a peer frame of a kind other than STATUS, with what it is delivered to. -/
def PlainFrame (c : Instr) (sender : Nat) (s : State) (deliver : State → State) : Prop :=
  ∃ p : Payload, Plain p ∧ frameOk sender p = true ∧ exec c s = finish (peerFrame sender p deliver s) ∧
    ∀ t, (deliver t).undelivered = t.undelivered

theorem plainFrame_id {c : Instr} {sender : Nat} (s : State) (wf : c.wf = true)
    (kind : (∃ permit, c = .release sender permit) ∨ (∃ note permit, c = .noteReady sender note permit) ∨
      (∃ requester note index count isPresent bytes, c = .notePart sender requester note index count isPresent bytes)) :
    PlainFrame c sender s id := by
  rcases kind with ⟨permit, rfl⟩ | ⟨note, permit, rfl⟩ | ⟨requester, note, index, count, isPresent, bytes, rfl⟩
  · exact ⟨.release permit, fun _ _ _ _ => Payload.noConfusion, wf, rfl, fun _ => rfl⟩
  · exact ⟨.noteReady note permit, fun _ _ _ _ => Payload.noConfusion, wf, rfl, fun _ => rfl⟩
  · exact ⟨.notePart requester note index count isPresent bytes, fun _ _ _ _ => Payload.noConfusion, wf, rfl, fun _ => rfl⟩

theorem plainFrame_claim {sender : Nat} {permit : Word32} (s : State) (wf : (Instr.claim sender permit).wf = true) :
    PlainFrame (.claim sender permit) sender s (hearClaim sender permit) :=
  ⟨.claim permit, fun _ _ _ _ => Payload.noConfusion, wf, rfl, hearClaim_undelivered sender permit⟩

theorem plainFrame_held {sender claimant : Nat} {permit : Word32} (s : State) (wf : (Instr.held sender permit claimant).wf = true) :
    PlainFrame (.held sender permit claimant) sender s (hearHeld permit) :=
  ⟨.held permit claimant, fun _ _ _ _ => Payload.noConfusion, wf, rfl, hearHeld_undelivered permit⟩

theorem plainFrame_ask {sender target : Nat} {note : Word32} (s : State) (wf : (Instr.noteAsk sender target note).wf = true) :
    PlainFrame (.noteAsk sender target note) sender s (hearAsk sender target note) :=
  ⟨.noteAsk target note, fun _ _ _ _ => Payload.noConfusion, wf, rfl, hearAsk_undelivered sender target note⟩

section

variable {c : Instr} {sender : Nat} {s : State} {deliver : State → State} (frame : PlainFrame c sender s deliver)
  (peer : sender ≠ s.lif.station)

include frame peer

theorem exec_plainFrame (done : s.sul.done = true) (down : s.lif.link ≠ .down) (held : s.lif.link ≠ .heldLine) :
    exec c s = finish (peerHeard (deliver { s with lif := s.lif.noted sender s.now })) := by
  obtain ⟨p, plain, ok, answer, _⟩ := frame
  rw [answer, peerFrame_taken deliver done ok peer down held, takePeer_plain plain]

theorem leaves_plainFrame (deaf : s.lif.link = .down ∨ s.lif.link = .heldLine) : Leaves c s s := by
  obtain ⟨p, plain, ok, answer, _⟩ := frame
  rw [peerFrame_ignored deliver peer deaf] at answer
  exact leaves_of_finish answer

/-- What a peer frame refreshes, whatever it is delivered to. -/
theorem plainFrame_refreshes (done : s.sul.done = true) (down : s.lif.link ≠ .down) (held : s.lif.link ≠ .heldLine) :
    ∃ t, exec c s = .next t ∧ t.lif.linkPart = ((s.lif.noted sender s.now).heardPeer s.now).linkPart ∧ t.now = s.now ∧
      t.injs = s.injs := by
  have answer := exec_plainFrame frame peer done down held
  obtain ⟨_, _, _, _, keeps⟩ := frame
  have same := keeps { s with lif := s.lif.noted sender s.now }
  generalize deliver { s with lif := s.lif.noted sender s.now } = u at answer same
  have now := now_of_undelivered same
  have injs := injs_of_undelivered same
  have heard := peerHeard_unshared u
  have steady := settle_steady (peerHeard u)
  refine ⟨_, answer, ?_, ?_, ?_⟩
  · have part : u.lif.linkPart = (s.lif.noted sender s.now).linkPart := linkPart_of_undelivered same
    rw [linkPart_of_steady steady, linkPart_of_unshared heard, heardPeer_linkPart, heardPeer_linkPart, now, part]
  · rw [now_of_steady steady, now_of_unshared heard, now]
  · rw [injs_of_steady steady, injs_of_unshared heard]
    exact injs

end

/-! #### A STATUS of another station (R35, R162, R166) -/

theorem find_upsertPeer_self (e : Peer) (l : List Peer) : (upsertPeer e l).find? (fun p => p.station == e.station) = some e := by
  induction l with
  | nil => simp [upsertPeer]
  | cons p rest ih =>
    rw [upsertPeer]
    split
    · rename_i below
      rw [List.find?_cons_of_neg (by simp; omega), ih]
    · split <;> exact List.find?_cons_of_pos (by simp)

theorem find_upsertPeer_other {e : Peer} {station : Nat} (other : station ≠ e.station) (l : List Peer) :
    (upsertPeer e l).find? (fun p => p.station == station) = l.find? fun p => p.station == station := by
  have skip : (e.station == station) = false := by simpa using Ne.symm other
  induction l with
  | nil => rw [upsertPeer, List.find?_cons, skip]
  | cons p rest ih =>
    rw [upsertPeer]
    split
    · rw [List.find?_cons, List.find?_cons, ih]
    · split
      · rename_i same
        rw [List.find?_cons, List.find?_cons, same, skip]
      · rw [List.find?_cons, skip]

theorem any_halt_upsertPeer {l : List Peer} (calm : l.any (·.halt) = false) (e : Peer) : (upsertPeer e l).any (·.halt) = e.halt := by
  induction l with
  | nil => simp [upsertPeer]
  | cons p rest ih =>
    rw [List.any_cons, Bool.or_eq_false_iff] at calm
    obtain ⟨here, later⟩ := calm
    rw [upsertPeer]
    split
    · rw [List.any_cons, here, ih later, Bool.false_or]
    · split
      · rw [List.any_cons, later, Bool.or_false]
      · rw [List.any_cons, List.any_cons, here, later, Bool.or_false, Bool.or_false]

/-- The entry that a STATUS makes of its station. -/
def statusEntry (sender now : Nat) (flags : Byte) (entries : List HeaderEntry) : Peer :=
  ⟨sender, .fresh, now, hasBit flags.toNat 0, entries.map fun e => ⟨e.header, e.demand⟩⟩

/-- R162: the peer table takes the STATUS. -/
def State.tabled (s : State) (sender : Nat) (flags : Byte) (entries : List HeaderEntry) : State :=
  { s with lif := { s.lif with ownLast := false, peers := upsertPeer (statusEntry sender s.now flags entries) s.lif.peers } }

/-- R35: a STATUS starts a halt just when it carries the halt flag and none was in force. -/
theorem haltEdge_tabled (s : State) (sender : Nat) (flags : Byte) (entries : List HeaderEntry) :
    haltEdge s.halted (s.tabled sender flags entries) =
      if hasBit flags.toNat 0 = true ∧ s.halted = false then suspendAll .halt (s.tabled sender flags entries)
      else s.tabled sender flags entries := by
  unfold haltEdge
  cases before : s.halted with
  | true => simp
  | false =>
    have parts : s.ilm.rstop = false ∧ s.lif.peers.any (·.halt) = false := Bool.or_eq_false_iff.1 before
    have after : (s.tabled sender flags entries).halted = hasBit flags.toNat 0 := by
      change (s.ilm.rstop || (upsertPeer (statusEntry sender s.now flags entries) s.lif.peers).any (·.halt)) = _
      rw [parts.1, any_halt_upsertPeer parts.2, Bool.false_or]
      rfl
    simp [after]

theorem suspendAll_lif (cause : Cause) (s : State) : (suspendAll cause s).lif = s.lif := suspendMany_lif cause allLanes s

theorem suspendAll_now (cause : Cause) (s : State) : (suspendAll cause s).now = s.now := by
  have one (t : State) (i : LaneNo) : (suspendIfFlowing cause t i).now = t.now := by
    obtain ⟨left, -, -, e⟩ | ⟨-, e⟩ := suspendIfFlowing_cases cause t i
    · rw [e]
      exact now_of_beyond (suspendFlowing_beyond (i := i) (s := t) cause left)
    · rw [e]
  have each : ∀ (lanes : List LaneNo) (t : State), (lanes.foldl (suspendIfFlowing cause) t).now = t.now := fun lanes => by
    induction lanes with
    | nil => exact fun _ => rfl
    | cons i rest ih => exact fun t => (ih _).trans (one t i)
  exact each allLanes s

/-- R166: a STATUS's time is adopted. -/
def Lif.Adopts (l : Lif) (flags : Byte) (time : Word32) : Prop :=
  hasBit flags.toNat 1 = true ∧ (l.timeSet = false ∨
    (l.time.toNat + 2 ≤ time.toNat ∧ time.toNat ≤ l.time.toNat + 86400))

theorem adopts_iff (l : Lif) (flags : Byte) (time : Word32) :
    (hasBit flags.toNat 1 && adoptTime l.timeSet l.time.toNat time.toNat) = true ↔ l.Adopts flags time := by
  simp [adoptTime, Lif.Adopts]

/-! #### Setpoints fall only (R55, R131) -/

theorem computeHeader_setpoint_le (h : Nat) (s : State) (j : LaneNo) :
    ((computeHeader h s).lane j).setpoint ≤ (s.lane j).setpoint := by
  by_cases unused : s.lanesOn h = []
  · have same : computeHeader h s = s := by
      unfold computeHeader
      exact if_pos unused
    rw [same]
  · cases cfg : s.headerCfg h with
    | none =>
      have same : computeHeader h s = s := by
        unfold computeHeader
        rw [if_neg unused, cfg]
      rw [same]
    | some c =>
      rw [computeHeader_eq cfg unused]
      obtain ⟨stays, takes⟩ := foldl_giveShare (lanesOn_nodup s h)
        (fun i => fairGrant (allotmentOn s c h (ownDemand s h)) (laneClaims s h) (s.lane i).wanted)
        (setShare h ⟨ownDemand s h, allotmentOn s c h (ownDemand s h)⟩ s) j
      by_cases mem : j ∈ s.lanesOn h
      · exact (takes mem).2.2
      · exact (congrArg (·.setpoint) (stays mem)).le

theorem computeShares_setpoint_le (s : State) (j : LaneNo) : ((computeShares s).lane j).setpoint ≤ (s.lane j).setpoint := by
  have each : ∀ (l : List Nat) (t : State), ((l.foldl (fun u h => computeHeader h u) t).lane j).setpoint ≤ (t.lane j).setpoint :=
    fun l => by
      induction l with
      | nil => exact fun _ => Nat.le_refl _
      | cons h rest ih => exact fun t => (ih _).trans (computeHeader_setpoint_le h t j)
  rw [lane_of_lanes (computeShares_keeps s).1]
  exact each allHeaders s

theorem peerHeard_setpoint_le (s : State) (j : LaneNo) : ((peerHeard s).lane j).setpoint ≤ (s.lane j).setpoint := by
  by_cases alone : s.lif.link = .alone
  · rw [peerHeard_of_alone alone]
    exact computeShares_setpoint_le _ j
  · rw [peerHeard_of_stays alone]
    exact Nat.le_refl _

/-- A computation of the shares leaves the checkpoint that a lane has to offer. -/
theorem checkpoint_of_unshared {s t : State} (same : t.unshared = s.unshared) (i : LaneNo) : t.checkpoint i = s.checkpoint i := by
  have trip : t.pct.trip = s.pct.trip := congrArg (·.pct.trip) same
  have lane := lane_of_unshared same i
  have line : (t.lane i).line = (s.lane i).line := congrArg (·.line) lane
  have ven : (t.lane i).ven = (s.lane i).ven := congrArg (·.ven) lane
  have stage : (t.lane i).stage = (s.lane i).stage := congrArg (·.stage) lane
  have reason : (t.lane i).closeReason = (s.lane i).closeReason := congrArg (·.closeReason) lane
  have codes : (t.lane i).checkCodes = (s.lane i).checkCodes := by rw [Lane.checkCodes, Lane.checkCodes, stage, reason]
  unfold State.checkpoint
  rw [trip, line, ven, codes]

/-! #### What a STATUS leaves -/

/-- The Line Interface with the time of a STATUS, where it is adopted. -/
def Lif.adopted (now : Nat) (flags : Byte) (time : Word32) (l : Lif) : Lif :=
  if hasBit flags.toNat 1 && adoptTime l.timeSet l.time.toNat time.toNat then
    { l with time := time, timeSet := true, second := some (now + 1000000) }
  else l

theorem adopted_of_adopts {l : Lif} {flags : Byte} {time : Word32} (now : Nat) (adopts : l.Adopts flags time) :
    l.adopted now flags time = { l with time := time, timeSet := true, second := some (now + 1000000) } :=
  if_pos ((adopts_iff _ _ _).2 adopts)

theorem adopted_of_not {l : Lif} {flags : Byte} {time : Word32} (now : Nat) (not : ¬l.Adopts flags time) :
    l.adopted now flags time = l := if_neg fun adopts => not ((adopts_iff _ _ _).1 adopts)

theorem adopted_link (now : Nat) (flags : Byte) (time : Word32) (l : Lif) :
    (l.adopted now flags time).link = l.link ∧ (l.adopted now flags time).alone = l.alone ∧
      (l.adopted now flags time).peers = l.peers := by
  unfold Lif.adopted
  split <;> exact ⟨rfl, rfl, rfl⟩

theorem adopted_roomFreed (now : Nat) (flags : Byte) (time : Word32) (l : Lif) :
    (l.adopted now flags time).roomFreed = l.roomFreed := by
  unfold Lif.adopted
  split <;> rfl

theorem adoptRackTime_status (s : State) (link flags : Byte) (time : Word32) (entries : List HeaderEntry) :
    adoptRackTime (.status link flags time entries) s = { s with lif := s.lif.adopted s.now flags time } := by
  unfold adoptRackTime Lif.adopted
  dsimp only
  split <;> rfl

/-- The state after a STATUS's halt, with its time adopted. -/
def State.statusTaken (s : State) (sender : Nat) (flags : Byte) (time : Word32) (entries : List HeaderEntry) : State :=
  let w := haltEdge s.halted (s.tabled sender flags entries)
  { w with lif := w.lif.adopted w.now flags time }

section

variable {s : State} {sender : Nat} {link flags : Byte} {time : Word32} {entries : List HeaderEntry}

theorem exec_status (wf : Instr.wf (.status sender link flags time entries) = true) (done : s.sul.done = true)
    (peer : sender ≠ s.lif.station) (down : s.lif.link ≠ .down) (held : s.lif.link ≠ .heldLine) :
    exec (.status sender link flags time entries) s = finish (peerHeard (s.statusTaken sender flags time entries)) := by
  change finish (peerFrame sender (.status link flags time entries) id s) = _
  rw [peerFrame_taken id done wf peer down held, takePeer, id, adoptRackTime_status]
  rfl

theorem leaves_status (peer : sender ≠ s.lif.station) (deaf : s.lif.link = .down ∨ s.lif.link = .heldLine) :
    Leaves (.status sender link flags time entries) s s :=
  leaves_of_finish (congrArg finish (peerFrame_ignored (p := .status link flags time entries) id peer deaf))

theorem haltEdge_lif (before : Bool) (s : State) : (haltEdge before s).lif = s.lif := by
  unfold haltEdge
  split
  · exact suspendAll_lif _ _
  · rfl

theorem haltEdge_now (before : Bool) (s : State) : (haltEdge before s).now = s.now := by
  unfold haltEdge
  split
  · exact suspendAll_now _ _
  · rfl

theorem statusTaken_lif (s : State) (sender : Nat) (flags : Byte) (time : Word32) (entries : List HeaderEntry) :
    (s.statusTaken sender flags time entries).lif = (s.tabled sender flags entries).lif.adopted s.now flags time := by
  rw [State.statusTaken]
  dsimp only
  rw [haltEdge_lif, haltEdge_now]
  rfl

theorem statusTaken_now (s : State) (sender : Nat) (flags : Byte) (time : Word32) (entries : List HeaderEntry) :
    (s.statusTaken sender flags time entries).now = s.now := haltEdge_now _ _

theorem statusTaken_slot (s : State) (sender : Nat) (flags : Byte) (time : Word32) (entries : List HeaderEntry) :
    (s.statusTaken sender flags time entries).pct.slot = s.pct.slot :=
  congrArg Prod.fst (haltEdge_slotHeld s.halted (s.tabled sender flags entries))

/-- The Line Interface after a STATUS. -/
theorem status_linkPart (s : State) (sender : Nat) (flags : Byte) (time : Word32) (entries : List HeaderEntry) :
    (settle (peerHeard (s.statusTaken sender flags time entries))).lif.linkPart =
      (((s.tabled sender flags entries).lif.adopted s.now flags time).heardPeer s.now).linkPart := by
  have heard := peerHeard_unshared (s.statusTaken sender flags time entries)
  rw [linkPart_of_steady (settle_steady _), linkPart_of_unshared heard, statusTaken_lif, statusTaken_now]

theorem status_slot (s : State) (sender : Nat) (flags : Byte) (time : Word32) (entries : List HeaderEntry) :
    (settle (peerHeard (s.statusTaken sender flags time entries))).pct.slot = s.pct.slot := by
  rw [settle_slot, ← statusTaken_slot s sender flags time entries]
  exact congrArg (·.slot) (pct_of_unshared (peerHeard_unshared _))

/-- A STATUS that starts a halt suspends every flowing lane. -/
theorem statusTaken_lane {i : LaneNo} {left : LeftStage} (flag : hasBit flags.toNat 0 = true) (free : s.halted = false)
    (flows : (s.stage i).flowing = true) (leaves : leftOf (s.stage i) = some left) :
    (s.statusTaken sender flags time entries).lane i = (s.lane i).suspendedFrom .halt left := by
  have edge := haltEdge_tabled s sender flags entries
  rw [if_pos ⟨flag, free⟩] at edge
  have lane := suspendAll_lane_of_flowing .halt (s := s.tabled sender flags entries) flows leaves
  rw [← edge] at lane
  exact lane

theorem status_lane {i : LaneNo} {left : LeftStage} (flag : hasBit flags.toNat 0 = true) (free : s.halted = false)
    (flows : (s.stage i).flowing = true) (leaves : leftOf (s.stage i) = some left) :
    (settle (peerHeard (s.statusTaken sender flags time entries))).stage i = .suspended .halt left ∧
    ((settle (peerHeard (s.statusTaken sender flags time entries))).lane i).setpoint = 0 ∧
    ((settle (peerHeard (s.statusTaken sender flags time entries))).lane i).openOut = false ∧
    ((settle (peerHeard (s.statusTaken sender flags time entries))).lane i).holdOut = false := by
  have lane := statusTaken_lane (sender := sender) (time := time) (entries := entries) flag free flows leaves
  generalize s.statusTaken sender flags time entries = x at lane
  have same := lane_of_unshared (peerHeard_unshared x) i
  have heard : ((peerHeard x).lane i).unshared = ((s.lane i).suspendedFrom .halt left).unshared := same.trans (by rw [← lane]; rfl)
  have setpoint : ((peerHeard x).lane i).setpoint = 0 := by
    have le := peerHeard_setpoint_le x i
    rw [lane] at le
    exact Nat.le_zero.1 le
  generalize peerHeard x = y at heard setpoint
  have stage : y.stage i = .suspended .halt left := congrArg (·.stage) heard
  have kept := settle_lane (s := y) (j := i) (by rw [stage]; exact Stage.noConfusion)
  rw [State.stage, kept]
  exact ⟨stage, setpoint, congrArg (·.openOut) heard, congrArg (·.holdOut) heard⟩

theorem heardPeer_roomFreed (now : Nat) (l : Lif) : (l.heardPeer now).roomFreed = l.roomFreed := by
  unfold Lif.heardPeer
  split <;> rfl

theorem stage_of_unshared {s t : State} (same : t.unshared = s.unshared) (i : LaneNo) : t.stage i = s.stage i :=
  congrArg (·.stage) (lane_of_unshared same i)

/-- R72: each lane that a STATUS's halt suspends offers a checkpoint of its line. -/
theorem status_checkpoints (s : State) (sender : Nat) (flags : Byte) (time : Word32) (entries : List HeaderEntry) :
    s.Checkpoints (settle (peerHeard (s.statusTaken sender flags time entries)))
      (if hasBit flags.toNat 0 = true ∧ s.halted = false then s.flowingLanes else []) := by
  intro calm ok flight own
  have same := peerHeard_unshared (s.statusTaken sender flags time entries)
  have edge := haltEdge_tabled s sender flags entries
  have lif : (s.statusTaken sender flags time entries).lif.roomFreed = false := by
    rw [statusTaken_lif, adopted_roomFreed]
    exact calm.1.2
  have stp : (peerHeard (s.statusTaken sender flags time entries)).stp = (haltEdge s.halted (s.tabled sender flags entries)).stp :=
    congrArg (·.stp) same
  have sul : (peerHeard (s.statusTaken sender flags time entries)).sul = (haltEdge s.halted (s.tabled sender flags entries)).sul :=
    congrArg (·.sul) same
  have room : (peerHeard (s.statusTaken sender flags time entries)).lif.roomFreed = false := by
    have heard : (peerHeard (s.statusTaken sender flags time entries)).lif.roomFreed = _ :=
      congrArg (·.roomFreed) (lif_of_unshared same)
    rw [heard]
    exact (heardPeer_roomFreed _ _).trans lif
  have check (i : LaneNo) : (peerHeard (s.statusTaken sender flags time entries)).checkpoint i =
      (haltEdge s.halted (s.tabled sender flags entries)).checkpoint i := checkpoint_of_unshared same i
  have stage (i : LaneNo) : (peerHeard (s.statusTaken sender flags time entries)).stage i =
      (haltEdge s.halted (s.tabled sender flags entries)).stage i := stage_of_unshared same i
  generalize peerHeard (s.statusTaken sender flags time entries) = y at stp sul room check stage
  rw [edge] at stp sul check stage
  split at own
  · rename_i starts
    rw [if_pos starts] at stp sul check stage ⊢
    have quiet := suspendAll_calm .halt (s := s.tabled sender flags entries) calm flight
    have calmY : y.Calm := ⟨⟨by rw [stp]; exact quiet.1.1, room⟩, by rw [sul]; exact quiet.2⟩
    obtain ⟨queue, inFlight⟩ := settle_queue_flight calmY
    have offered := suspendAll_stp .halt (s := s.tabled sender flags entries) ok flight own
    have checks : s.flowingLanes.filterMap (settle y).checkpoint =
        s.flowingLanes.filterMap (suspendAll .halt (s.tabled sender flags entries)).checkpoint :=
      List.filterMap_congr fun i mem => by
        have flows := (List.mem_filter.1 mem).2
        have open_ := suspendAll_stage_ne_ended .halt (s := s.tabled sender flags entries) (ne_ended_of_flowing flows)
        rw [settle_checkpoint (by rw [stage]; exact open_), check]
    exact ⟨s.flowingLanes, .refl _, by rw [queue, checks, stp, offered]; rfl, by rw [inFlight, stp, offered]; rfl⟩
  · rename_i starts
    rw [if_neg starts] at stp sul ⊢
    have calmY : y.Calm := ⟨⟨by rw [stp]; exact calm.1.1, room⟩, by rw [sul]; exact calm.2⟩
    obtain ⟨queue, inFlight⟩ := settle_queue_flight calmY
    exact ⟨[], .refl _, by rw [queue, stp]; rfl, by rw [inFlight, stp]; rfl⟩

end

end Sys2Proof.Machine

open Sys2Proof Sys2Proof.Machine

/-- Settles O44, by what every frame refreshes whatever it is delivered to. -/
theorem peerFramesRefresh : Obligations.PeerFramesRefresh := by
  refine ⟨fun c sender s wf done peer kind => ?_, fun c sender s wf done peer calm kind link => ?_⟩
  · have frame : ∃ deliver, PlainFrame c sender s deliver := by
      rcases kind with ⟨permit, rfl⟩ | ⟨permit, claimant, rfl⟩ | release | ready | ⟨target, note, rfl⟩ | part
      · exact ⟨_, plainFrame_claim s wf⟩
      · exact ⟨_, plainFrame_held s wf⟩
      · exact ⟨_, plainFrame_id s wf (.inl release)⟩
      · exact ⟨_, plainFrame_id s wf (.inr (.inl ready))⟩
      · exact ⟨_, plainFrame_ask s wf⟩
      · exact ⟨_, plainFrame_id s wf (.inr (.inr part))⟩
    obtain ⟨deliver, frame⟩ := frame
    refine ⟨fun down held => ?_, fun deaf => leaves_plainFrame frame peer deaf⟩
    obtain ⟨t, answer, part, now, injs⟩ := plainFrame_refreshes frame peer done down held
    have same := Lif.heardPeer_fields s.now (s.lif.noted sender s.now)
    refine ⟨t, answer, ?_, ?_, ?_, now, injs, fun links => ⟨?_, ?_⟩, fun run alone => ⟨?_, ?_⟩⟩
    · exact (peers_of_linkPart part).trans same.1
    · exact (time_of_linkPart part).trans same.2.1
    · exact (timeSet_of_linkPart part).trans same.2.2
    · rw [link_of_linkPart part, heardPeer_of_links _ (by exact links)]
    · rw [alone_of_linkPart part, heardPeer_of_links _ (by exact links)]
    · rw [link_of_linkPart part, heardPeer_of_other _ (by exact run) (by exact alone)]
      rfl
    · rw [alone_of_linkPart part, heardPeer_of_other _ (by exact run) (by exact alone)]
      rfl
  · have answer := exec_plainFrame (plainFrame_id s wf kind) peer done (by rcases link with h | h | h | h <;> rw [h] <;> decide)
      (by rcases link with h | h | h | h <;> rw [h] <;> decide)
    rw [id, peerHeard_of_stays (by rcases link with h | h | h | h <;> exact fun eq => by rw [show s.lif.link = _ from eq] at h; exact Link.noConfusion h)] at answer
    have eq : (s.lif.noted sender s.now).heardPeer s.now = { s.lif with
       ownLast := false
       peers := s.lif.peers.map fun e => if e.station = sender then { e with age := .fresh, heardAt := s.now } else e
       alone := if s.lif.link = .run then some (s.now + 3000000) else s.lif.alone } := by
      by_cases run : s.lif.link = .run
      · rw [heardPeer_of_links _ (.inl (by exact run)), if_pos run, ← run]
        rfl
      · have alone : s.lif.link ≠ .alone := by rcases link with h | h | h | h <;> rw [h] <;> decide
        rw [heardPeer_of_other _ (by exact run) (by exact alone), if_neg run]
        rfl
    rw [← eq]
    exact yields_of_finish answer (by
      refine ⟨⟨calm.1.1, ?_⟩, calm.2⟩
      rw [eq]
      exact calm.1.2)

/-- Settles O45, by what a STATUS makes of the table, of rack time, of a halt and of the link. -/
theorem statusHeard : Obligations.StatusHeard := by
  intro s sender link flags time entries wf done peer
  refine ⟨fun deaf => leaves_status peer deaf, fun down held => ?_⟩
  intro adopt
  have part := status_linkPart s sender flags time entries
  obtain ⟨linkSame, aloneSame, peersSame⟩ := adopted_link s.now flags time (s.tabled sender flags entries).lif
  have fields := Lif.heardPeer_fields s.now ((s.tabled sender flags entries).lif.adopted s.now flags time)
  have peers := (peers_of_linkPart part).trans (fields.1.trans peersSame)
  have timeIs := (time_of_linkPart part).trans fields.2.1
  have timeSetIs := (timeSet_of_linkPart part).trans fields.2.2
  have secondIs := (second_of_linkPart part).trans (Lif.heardPeer_second s.now _)
  have linkIs := link_of_linkPart part
  have aloneIs := alone_of_linkPart part
  refine ⟨_, exec_status wf done peer down held, ?_, fun station other => ?_, fun adopts => ?_, fun not => ?_,
    status_slot s sender flags time entries, fun links => ⟨?_, ?_⟩, fun run alone => ⟨?_, ?_⟩,
    status_checkpoints s sender flags time entries, fun flag free i left flows leaves => status_lane flag free flows leaves⟩
  · rw [State.peer, peers]
    exact find_upsertPeer_self (statusEntry sender s.now flags entries) s.lif.peers
  · rw [State.peer, peers]
    exact find_upsertPeer_other (e := statusEntry sender s.now flags entries) other s.lif.peers
  · rw [timeIs, timeSetIs, secondIs, adopted_of_adopts s.now (by exact adopts)]
    exact ⟨rfl, rfl, rfl⟩
  · rw [timeIs, timeSetIs, secondIs, adopted_of_not s.now (by exact not)]
    exact ⟨rfl, rfl, rfl⟩
  · rw [linkIs, heardPeer_of_links _ (by rw [linkSame]; exact links)]
  · rw [aloneIs, heardPeer_of_links _ (by rw [linkSame]; exact links)]
  · rw [linkIs, heardPeer_of_other _ (by rw [linkSame]; exact run) (by rw [linkSame]; exact alone), linkSame]
    rfl
  · rw [aloneIs, heardPeer_of_other _ (by rw [linkSame]; exact run) (by rw [linkSame]; exact alone), aloneSame]
    rfl

end

section
/-! What Permit Control makes of a CLAIM or a HELD of another station (R15, R17, R20), and the CLAIM that a refused trip withdraws
(R151). -/

namespace Sys2Proof.Machine

/-! #### What a peer frame leaves of the frames that wait -/

section

variable {s t : State} (same : t.unshared = s.unshared)

include same

theorem fifo_of_unshared : t.lif.fifo = s.lif.fifo := congrArg (·.fifo) (lif_of_unshared same)

theorem roomFreed_of_unshared : t.lif.roomFreed = s.lif.roomFreed := congrArg (·.roomFreed) (lif_of_unshared same)

theorem setAside_of_unshared : t.lif.setAside = s.lif.setAside := congrArg (·.setAside) (lif_of_unshared same)

theorem onLine_of_unshared : t.lif.onLine = s.lif.onLine := congrArg (·.onLine) (lif_of_unshared same)

theorem ntb_of_unshared : t.ntb = s.ntb := congrArg (·.ntb) same

theorem stp_of_unshared : t.stp = s.stp := congrArg (·.stp) same

theorem sul_of_unshared : t.sul = s.sul := congrArg (·.sul) same

end

/-- The Line Interface's frames: the FIFO, the current, the set-aside and the attempt, and the room that is to be reported. -/
def Lif.frames (l : Lif) : List TxFrame × Option Current × Option Current × Option Payload × Bool :=
  (l.fifo, l.current, l.setAside, l.onLine, l.roomFreed)

theorem heardPeer_frames (now : Nat) (l : Lif) : (l.heardPeer now).frames = l.frames := by
  unfold Lif.heardPeer
  split <;> rfl

theorem peerHeard_frames (s : State) : (peerHeard s).lif.frames = s.lif.frames := by
  have same := peerHeard_unshared s
  rw [Lif.frames, fifo_of_unshared same, current_of_unshared same, setAside_of_unshared same, onLine_of_unshared same,
    roomFreed_of_unshared same]
  exact heardPeer_frames s.now s.lif

section

variable {a b : Lif} (same : a.frames = b.frames)

include same

theorem fifo_of_frames : a.fifo = b.fifo := congrArg (·.1) same

theorem current_of_frames : a.current = b.current := congrArg (·.2.1) same

theorem setAside_of_frames : a.setAside = b.setAside := congrArg (·.2.2.1) same

theorem onLine_of_frames : a.onLine = b.onLine := congrArg (·.2.2.2.1) same

theorem roomFreed_of_frames : a.roomFreed = b.roomFreed := congrArg (·.2.2.2.2) same

end

/-- The link takes offers to the transmit FIFO. -/
def Link.Open (l : Link) : Prop := l ≠ .down ∧ l ≠ .mute

theorem heardPeer_open {l : Lif} (now : Nat) (isOpen : l.link.Open) : (l.heardPeer now).link.Open := by
  unfold Lif.heardPeer
  split
  · exact ⟨Link.noConfusion, Link.noConfusion⟩
  · exact isOpen

theorem peerHeard_open {s : State} (isOpen : s.lif.link.Open) : (peerHeard s).lif.link.Open := by
  rw [link_of_unshared (peerHeard_unshared s)]
  exact heardPeer_open s.now isOpen

theorem settle_lif_calm {s : State} (calm : s.Calm) : (settle s).lif = s.lif := by
  rw [settle_calm calm, portKick_lif, refreshLamps_lif, idleTimer_lif]

theorem idleTimer_pct (s : State) : { (idleTimer s).pct with idleTimer := none } = { s.pct with idleTimer := none } := by
  unfold idleTimer
  repeat' split
  all_goals rfl

theorem settle_pct_calm {s : State} (calm : s.Calm) :
    { (settle s).pct with idleTimer := none } = { s.pct with idleTimer := none } := by
  rw [settle_calm calm, portKick_pct, refreshLamps_pct, idleTimer_pct]

theorem settle_held_calm {s : State} (calm : s.Calm) : (settle s).pct.held = s.pct.held := by
  rw [settle_calm calm, portKick_pct, refreshLamps_pct, idleTimer_held]

/-! #### Kept frames take the room (R14, R151) -/

theorem offerFrame_open {s : State} (isOpen : s.lif.link.Open) (f : TxFrame) : offerFrame f s =
    if s.lif.fifo.length < 6 then (true, s.modLif fun l => { l with fifo := l.fifo ++ [f] }) else (false, s) := by
  obtain ⟨down, mute⟩ := isOpen
  unfold offerFrame
  split
  · rename_i eq
    exact absurd eq mute
  · rename_i eq
    exact absurd eq down
  · rfl

/-- R14: at a report of room the kept frames enter the FIFO in their order, as far as it has room. -/
theorem pctRoom_open {n : Nat} {s : State} (isOpen : s.lif.link.Open) (enough : 6 - s.lif.fifo.length < n) :
    pctRoom n s = { s with
      lif := { s.lif with fifo := s.lif.fifo ++ s.pct.held.take (6 - s.lif.fifo.length) }
      pct := { s.pct with held := s.pct.held.drop (6 - s.lif.fifo.length) } } := by
  induction n generalizing s with
  | zero => exact absurd enough (Nat.not_lt_zero _)
  | succ n ih =>
    rw [pctRoom]
    cases held : s.pct.held with
    | nil =>
      dsimp only
      rw [List.take_nil, List.drop_nil, List.append_nil, ← held]
    | cons f rest =>
      dsimp only
      rw [offerFrame_open isOpen]
      by_cases room : s.lif.fifo.length < 6
      · obtain ⟨k, left⟩ : ∃ k, 6 - s.lif.fifo.length = k + 1 := ⟨5 - s.lif.fifo.length, by omega⟩
        have after : 6 - (s.lif.fifo ++ [f]).length = k := by rw [List.length_append, List.length_singleton]; omega
        rw [if_pos room, left, List.take_succ_cons, List.drop_succ_cons]
        refine (ih (s := (s.modLif fun l => { l with fifo := l.fifo ++ [f] }).modPct fun p => { p with held := rest })
          isOpen (by rw [show 6 - ((s.modLif fun l => { l with fifo := l.fifo ++ [f] }).modPct fun p =>
            { p with held := rest }).lif.fifo.length = k from after]; omega)).trans ?_
        dsimp only [State.modLif, State.modPct]
        rw [after, List.append_assoc]
        rfl
      · have full : 6 - s.lif.fifo.length = 0 := by omega
        rw [if_neg room, full, List.take_zero, List.drop_zero, List.append_nil, ← held]

/-- R151: the room that a withdrawn frame leaves is taken by the kept frames. -/
theorem settle_withdrawn {s : State} (departed : s.stp.departed = false) (offers : s.sul.recovery ≠ .offering)
    (freed : s.lif.roomFreed = true) (isOpen : s.lif.link.Open) (ready : s.ntb.heldReady = none)
    (sending : ∀ image k, s.ntb.serving ≠ .sending image k) :
    (settle s).lif.fifo = s.lif.fifo ++ s.pct.held.take (6 - s.lif.fifo.length) ∧
      (settle s).pct.held = s.pct.held.drop (6 - s.lif.fifo.length) := by
  have taken := pctRoom_open (n := 24) (s := s.modLif fun l => { l with roomFreed := false }) isOpen
    (by show 6 - s.lif.fifo.length < 24; omega)
  have reported : reportRoom s = pctRoom 24 (s.modLif fun l => { l with roomFreed := false }) := by
    have idle := ntbRoom_idle (s := pctRoom 24 (s.modLif fun l => { l with roomFreed := false }))
      (by rw [taken]; exact ready) (by rw [taken]; exact sending)
    rw [reportRoom, if_pos freed]
    exact idle
  rw [settle_room departed offers, portKick_lif, refreshLamps_lif, idleTimer_lif, portKick_pct, refreshLamps_pct, idleTimer_held,
    reported, taken]
  exact ⟨rfl, rfl⟩

/-! #### A trip that is refused withdraws its CLAIM (R15, R17, R151) -/

/-- A frame that waits, current or set aside, is marked withdrawn where its attempt has begun and discarded otherwise; another frame
stays. -/
def Waits (claim : TxFrame) (before after : Option Current) (begun : Prop) : Prop :=
  (∀ c : Current, before = some c → c.frame = claim →
    (begun → after = some { c with withdrawn := true }) ∧ (¬begun → after = none)) ∧
  ((∀ c : Current, before = some c → c.frame ≠ claim) → after = before)

/-- A CLAIM that has been withdrawn wherever it waited, and the room that it left taken by the kept frames. -/
def State.Withdraws (s t : State) (claim : TxFrame) : Prop :=
  Waits claim s.lif.current t.lif.current (s.lif.onLine ≠ none) ∧ Waits claim s.lif.setAside t.lif.setAside False ∧
  t.lif.onLine = s.lif.onLine ∧
  ∀ kept : List TxFrame,
    ((claim ∉ s.pct.held ∧ kept = s.pct.held) ∨ ∃ a b, s.pct.held = a ++ claim :: b ∧ claim ∉ a ∧ kept = a ++ b) →
    s.Calm →
    (claim ∉ s.lif.fifo → t.lif.fifo = s.lif.fifo ∧ t.pct.held = kept) ∧
    ∀ a b : List TxFrame, s.lif.fifo = a ++ claim :: b → claim ∉ a → s.lif.fifo.length ≤ 6 → s.lif.link ≠ .mute →
      s.ntb.heldReady = none → (∀ image n, s.ntb.serving ≠ .sending image n) →
      let room := 6 - (a ++ b).length
      t.lif.fifo = a ++ b ++ kept.take room ∧ t.pct.held = kept.drop room

theorem withdrawn_current (permit : Word32) (l : Lif) :
    Waits (.claim permit) l.current (l.withdrawn permit).current (l.onLine ≠ none) := by
  refine ⟨fun c current claim => ?_, fun other => ?_⟩ <;> rw [Lif.withdrawn]
  · dsimp only
    rw [current, Option.bind_some, if_pos claim]
    refine ⟨fun begun => if_pos (Option.isSome_iff_ne_none.2 begun), fun idle => if_neg fun some => ?_⟩
    exact idle (Option.isSome_iff_ne_none.1 some)
  · dsimp only
    cases current : l.current with
    | none => rfl
    | some c => exact if_neg (other c current)

theorem withdrawn_setAside (permit : Word32) (l : Lif) :
    Waits (.claim permit) l.setAside (l.withdrawn permit).setAside False := by
  refine ⟨fun c aside claim => ⟨False.elim, fun _ => ?_⟩, fun other => ?_⟩ <;> rw [Lif.withdrawn]
  · dsimp only
    rw [aside, Option.bind_some, if_pos claim]
  · dsimp only
    cases aside : l.setAside with
    | none => rfl
    | some c => exact if_neg (other c aside)

theorem dropFirst_of_split {claim : TxFrame} {held kept : List TxFrame}
    (split : (claim ∉ held ∧ kept = held) ∨ ∃ a b, held = a ++ claim :: b ∧ claim ∉ a ∧ kept = a ++ b) :
    dropFirst claim held = kept := by
  rcases split with ⟨out, rfl⟩ | ⟨a, b, rfl, out, rfl⟩
  · exact dropFirst_of_not_mem out
  · exact dropFirst_append_cons out b

/-- What the end of an event leaves of a withdrawn CLAIM. -/
theorem withdraws_of_settle {s u : State} {permit : Word32} (frames : u.lif.frames = (s.lif.withdrawn permit).frames)
    (held : u.pct.held = dropFirst (.claim permit) s.pct.held) (stp : u.stp = s.stp) (sul : u.sul = s.sul) (ntb : u.ntb = s.ntb)
    (isOpen : s.lif.link ≠ .mute → u.lif.link.Open) : s.Withdraws (settle u) (.claim permit) := by
  have same := shareless_of_steady (settle_steady u)
  have part := linkPart_of_shareless same
  refine ⟨?_, ?_, ?_, fun kept split calm => ⟨fun out => ?_, fun a b fifo out few mute ready sending => ?_⟩⟩
  · rw [current_of_shareless same, current_of_frames frames]
    exact withdrawn_current permit s.lif
  · rw [setAside_of_shareless same, setAside_of_frames frames]
    exact withdrawn_setAside permit s.lif
  · rw [onLine_of_linkPart part, onLine_of_frames frames]
    rfl
  · obtain ⟨⟨departed, room⟩, offers⟩ := calm
    have freed : u.lif.roomFreed = false := by
      rw [roomFreed_of_frames frames, Lif.withdrawn, room, Bool.false_or]
      exact decide_eq_false out
    have calmU : u.Calm := ⟨⟨by rw [stp]; exact departed, freed⟩, by rw [sul]; exact offers⟩
    rw [settle_lif_calm calmU, settle_held_calm calmU, held, dropFirst_of_split split, fifo_of_frames frames]
    exact ⟨dropFirst_of_not_mem out, rfl⟩
  · obtain ⟨⟨departed, room⟩, offers⟩ := calm
    have mem : .claim permit ∈ s.lif.fifo := by rw [fifo]; exact List.mem_append_right _ (List.mem_cons_self ..)
    have freed : u.lif.roomFreed = true := by
      rw [roomFreed_of_frames frames, Lif.withdrawn, decide_eq_true mem, Bool.or_true]
    have left : u.lif.fifo = a ++ b := by
      rw [fifo_of_frames frames]
      exact (congrArg (dropFirst _) fifo).trans (dropFirst_append_cons out b)
    have taken := settle_withdrawn (s := u) (by rw [stp]; exact departed) (by rw [sul]; exact offers) freed (isOpen mute)
      (by rw [ntb]; exact ready) (by rw [ntb]; exact sending)
    rw [left, held, dropFirst_of_split split] at taken
    exact taken

/-! #### CLAIM and HELD heard (R15, R17, R20) -/

theorem claimingOn_false {s : State} {permit : Word32} (other : s.pct.slot ≠ .claiming ∨ s.pct.trip.map (·.permit) ≠ some permit) :
    claimingOn s permit = false := by
  rw [← Bool.not_eq_true, claimingOn_iff]
  exact fun ⟨claiming, permitIs⟩ => other.elim (· claiming) (· permitIs)

theorem hearClaim_refuses {s : State} {permit : Word32} (sender : Nat) (claiming : s.pct.slot = .claiming)
    (silent : s.pct.heard = false) (permitIs : s.pct.trip.map (·.permit) = some permit) :
    hearClaim sender permit s = refuseTrip .inUse (withdrawClaim permit s) :=
  if_pos ⟨(claimingOn_iff s permit).2 ⟨claiming, permitIs⟩, by rw [silent]; rfl⟩

theorem hearHeld_refuses {s : State} {permit : Word32} (claiming : s.pct.slot = .claiming)
    (permitIs : s.pct.trip.map (·.permit) = some permit) :
    hearHeld permit s = refuseTrip .inUse (if s.pct.heard then s else withdrawClaim permit s) :=
  if_pos ((claimingOn_iff s permit).2 ⟨claiming, permitIs⟩)

theorem hearHeld_other {s : State} {permit : Word32} (other : s.pct.slot ≠ .claiming ∨ s.pct.trip.map (·.permit) ≠ some permit) :
    hearHeld permit s = s := if_neg (by rw [claimingOn_false other]; exact Bool.noConfusion)

theorem holdsPermit_of {s : State} {permit : Word32} (permitIs : s.pct.trip.map (·.permit) = some permit)
    (holds : s.pct.slot = .authorized ∨ s.pct.slot = .released ∨ s.pct.slot = .closing ∨ s.pct.slot = .awaitStamp ∨
      (s.pct.slot = .claiming ∧ s.pct.heard = true)) : holdsPermit s permit = true := by
  have permit : decide (s.permit = some permit) = true := decide_eq_true permitIs
  unfold holdsPermit
  rw [permit, Bool.true_and]
  rcases holds with h | h | h | h | ⟨h, heard⟩ <;> rw [h]
  exact heard

theorem holdsPermit_false {s : State} {permit : Word32}
    (other : s.pct.slot = .empty ∨ s.pct.slot = .checking ∨ s.pct.trip.map (·.permit) ≠ some permit) :
    holdsPermit s permit = false := by
  unfold holdsPermit
  rcases other with h | h | h
  · rw [h, Bool.and_false]
  · rw [h, Bool.and_false]
  · rw [decide_eq_false (show ¬s.permit = some permit from h), Bool.false_and]

/-- R20: a station that holds the permit answers a CLAIM. -/
theorem hearClaim_answers {s : State} {permit : Word32} (sender : Nat) (permitIs : s.pct.trip.map (·.permit) = some permit)
    (holds : s.pct.slot = .authorized ∨ s.pct.slot = .released ∨ s.pct.slot = .closing ∨ s.pct.slot = .awaitStamp ∨
      (s.pct.slot = .claiming ∧ s.pct.heard = true)) :
    hearClaim sender permit s = pctSend (.held permit sender) s := by
  have notNew : ¬(claimingOn s permit = true ∧ (!s.pct.heard) = true) := fun ⟨on, silent⟩ => by
    obtain ⟨claiming, -⟩ := (claimingOn_iff s permit).1 on
    rcases holds with h | h | h | h | ⟨-, heard⟩
    · rw [h] at claiming; exact Slot.noConfusion claiming
    · rw [h] at claiming; exact Slot.noConfusion claiming
    · rw [h] at claiming; exact Slot.noConfusion claiming
    · rw [h] at claiming; exact Slot.noConfusion claiming
    · rw [heard] at silent; exact Bool.noConfusion silent
  unfold hearClaim
  rw [if_neg notNew, if_pos (holdsPermit_of permitIs holds)]

theorem hearClaim_other {s : State} {permit : Word32} (sender : Nat)
    (other : s.pct.slot = .empty ∨ s.pct.slot = .checking ∨ s.pct.trip.map (·.permit) ≠ some permit) :
    hearClaim sender permit s = s := by
  have notOn : claimingOn s permit = false := by
    refine claimingOn_false ?_
    rcases other with h | h | h
    · exact .inl (by rw [h]; decide)
    · exact .inl (by rw [h]; decide)
    · exact .inr h
  unfold hearClaim
  rw [notOn, if_neg (fun both => Bool.noConfusion both.1), holdsPermit_false other, if_neg Bool.noConfusion]

/-- R14: a HELD that meets room in the FIFO enters it. -/
theorem pctSend_open {s : State} {f : TxFrame} (fresh : f ∉ s.pct.held) (isOpen : s.lif.link.Open)
    (room : s.lif.fifo.length < 6) : pctSend f s = s.modLif fun l => { l with fifo := l.fifo ++ [f] } := by
  unfold pctSend
  rw [if_neg (fun both => fresh both.2), offerFrame_open isOpen, if_pos room]

/-! #### The event as a whole -/

theorem peerHeard_pct (s : State) : (peerHeard s).pct = s.pct :=
  pct_of_unshared (s := { s with lif := s.lif.heardPeer s.now }) (peerHeard_unshared s)

theorem peerHeard_outbox (s : State) : (peerHeard s).outbox = s.outbox :=
  outbox_of_unshared (s := { s with lif := s.lif.heardPeer s.now }) (peerHeard_unshared s)

theorem wf_claim_of_held {sender claimant : Nat} {permit : Word32} (wf : Instr.wf (.held sender permit claimant) = true) :
    Instr.wf (.claim sender permit) = true := by
  simp only [Instr.wf, frameOk, payloadOk, payloadFits, Bool.and_true] at wf ⊢
  exact (Bool.and_eq_true_iff.1 wf).1

/-- A trip that a peer frame refuses, at the end of the event. -/
theorem refused_heard {s w : State} (r : CardRefusal) (outbox : w.outbox = s.outbox) (stamp : w.pct.pendingStamp = s.pct.pendingStamp) :
    s.Refused (settle (peerHeard (refuseTrip r w))) r ∧
      (settle (peerHeard (refuseTrip r w))).pct.pendingStamp = s.pct.pendingStamp := by
  have pct := peerHeard_pct (refuseTrip r w)
  have out := peerHeard_outbox (refuseTrip r w)
  rw [refuseTrip_pct] at pct
  rw [refuseTrip_outbox, outbox] at out
  generalize peerHeard (refuseTrip r w) = y at pct out
  have same := settle_steady y
  have stampSame : (settle y).pct.pendingStamp = y.pct.pendingStamp := congrArg (·.pct.pendingStamp) same
  refine ⟨⟨?_, ?_, ?_⟩, ?_⟩
  · rw [slot_of_steady same, pct]
  · rw [trip_of_steady same, pct]
  · rw [outbox_of_steady same, out]
  · rw [stampSame, pct, ← stamp]

/-- The CLAIM of a trip that a peer frame refuses, at the end of the event. -/
theorem withdraws_heard {s : State} {permit : Word32} (sender : Nat) (down : s.lif.link ≠ .down) :
    s.Withdraws (settle (peerHeard (refuseTrip .inUse (withdrawClaim permit { s with lif := s.lif.noted sender s.now }))))
      (.claim permit) := by
  generalize eq : refuseTrip .inUse (withdrawClaim permit { s with lif := s.lif.noted sender s.now }) = u
  have lif : u.lif = (s.lif.noted sender s.now).withdrawn permit := by rw [← eq, refuseTrip_lif, withdrawClaim_lif]
  have held : u.pct.held = dropFirst (.claim permit) s.pct.held := by rw [← eq, refuseTrip_pct]; rfl
  have stp : u.stp = s.stp := by rw [← eq, refuseTrip_stp]; rfl
  have sul : u.sul = s.sul := by rw [← eq, refuseTrip_sul]; rfl
  have ntb : u.ntb = s.ntb := by rw [← eq, refuseTrip_ntb]; rfl
  have heard := peerHeard_unshared u
  refine withdraws_of_settle ?_ ?_ ?_ ?_ ?_ fun mute => peerHeard_open ?_
  · rw [peerHeard_frames, lif]
    rfl
  · rw [pct_of_unshared heard]
    exact held
  · rw [stp_of_unshared heard]
    exact stp
  · rw [sul_of_unshared heard]
    exact sul
  · rw [ntb_of_unshared heard]
    exact ntb
  · rw [lif]
    exact ⟨down, mute⟩

/-- A peer frame that only refreshes, or that changes Permit Control and the FIFO alone, leaves them so at the end of the event. -/
theorem heard_calm {s u : State} (calm : s.Calm) (stp : u.stp = s.stp) (sul : u.sul = s.sul)
    (room : u.lif.roomFreed = s.lif.roomFreed) :
    { (settle (peerHeard u)).pct with idleTimer := none } = { u.pct with idleTimer := none } ∧
    (settle (peerHeard u)).outbox = u.outbox ∧ (settle (peerHeard u)).lif.frames = u.lif.frames ∧
    (settle (peerHeard u)).pct.held = u.pct.held := by
  have heard := peerHeard_unshared u
  have calmY : (peerHeard u).Calm := by
    obtain ⟨⟨departed, freed⟩, offers⟩ := calm
    have stpY := stp_of_unshared heard
    have sulY := sul_of_unshared heard
    have roomY := roomFreed_of_frames (peerHeard_frames u)
    exact ⟨⟨by rw [stpY]; exact (congrArg (·.departed) stp).trans departed, roomY.trans (room.trans freed)⟩,
      by rw [sulY]; exact fun eq => offers ((congrArg (·.recovery) sul).symm.trans eq)⟩
  have pct := peerHeard_pct u
  have outbox := peerHeard_outbox u
  have frames := peerHeard_frames u
  generalize peerHeard u = y at calmY pct outbox frames
  refine ⟨?_, ?_, ?_, ?_⟩
  · rw [settle_pct_calm calmY, pct]
  · rw [outbox_of_steady (settle_steady y), outbox]
  · rw [settle_lif_calm calmY, frames]
  · rw [settle_held_calm calmY, pct]

end Sys2Proof.Machine

open Sys2Proof Sys2Proof.Machine

/-- Settles O46, by what a CLAIM and a HELD of another station make of the slot. -/
theorem claimsHeard : Obligations.ClaimsHeard := by
  refine ⟨fun s sender permit claimant tr wf done peer down held trip => ?_,
    fun s sender permit claimant wf done peer calm down held => ⟨fun other => ?_, fun other => ?_⟩⟩
  · intro claim waits withdraws
    have answerClaim := exec_plainFrame (plainFrame_claim s (wf_claim_of_held wf)) peer done down held
    have answerHeld := exec_plainFrame (plainFrame_held (claimant := claimant) s wf) peer done down held
    have permitIs (same : tr.permit = permit) : s.pct.trip.map (·.permit) = some permit := by rw [trip, ← same]; rfl
    refine ⟨fun claiming silent same => ?_, fun claiming same => ?_, fun holds same calm fresh mute room => ?_⟩
    · rw [hearClaim_refuses sender (by exact claiming) (by exact silent) (by exact permitIs same)] at answerClaim
      obtain ⟨⟨slot, empty, outbox⟩, stamp⟩ := refused_heard (s := s)
        (w := withdrawClaim permit { s with lif := s.lif.noted sender s.now }) .inUse rfl rfl
      exact ⟨_, answerClaim, slot, empty, outbox, stamp, withdraws_heard sender down⟩
    · rw [hearHeld_refuses (by exact claiming) (by exact permitIs same)] at answerHeld
      cases heard : s.pct.heard with
      | false =>
        rw [if_neg (by exact fun yes => by rw [show s.pct.heard = true from yes] at heard; exact Bool.noConfusion heard)] at answerHeld
        obtain ⟨⟨slot, empty, outbox⟩, stamp⟩ := refused_heard (s := s)
          (w := withdrawClaim permit { s with lif := s.lif.noted sender s.now }) .inUse rfl rfl
        exact ⟨_, answerHeld, slot, empty, outbox, stamp, fun _ => withdraws_heard sender down, fun no => Bool.noConfusion no⟩
      | true =>
        rw [if_pos (by exact heard)] at answerHeld
        obtain ⟨⟨slot, empty, outbox⟩, stamp⟩ := refused_heard (s := s)
          (w := { s with lif := s.lif.noted sender s.now }) .inUse rfl rfl
        refine ⟨_, answerHeld, slot, empty, outbox, stamp, fun no => Bool.noConfusion no, fun _ calm => ?_⟩
        have after := heard_calm (s := s) (u := refuseTrip .inUse { s with lif := s.lif.noted sender s.now }) calm
          (refuseTrip_stp _ _) (refuseTrip_sul _ _) (by rw [refuseTrip_lif]; rfl)
        rw [refuseTrip_lif, refuseTrip_pct] at after
        obtain ⟨-, -, frames, kept⟩ := after
        exact ⟨fifo_of_frames frames, kept, current_of_frames frames, setAside_of_frames frames, onLine_of_frames frames⟩
    · have sent := pctSend_open (s := { s with lif := s.lif.noted sender s.now }) (f := .held permit sender) fresh ⟨down, mute⟩ room
      rw [hearClaim_answers sender (by exact permitIs same) (by exact holds), sent] at answerClaim
      obtain ⟨pct, outbox, frames, -⟩ := heard_calm (s := s)
        (u := ({ s with lif := s.lif.noted sender s.now } : State).modLif fun l => { l with fifo := l.fifo ++ [.held permit sender] })
        calm rfl rfl rfl
      exact ⟨_, answerClaim, fifo_of_frames frames, congrArg (·.slot) pct, congrArg (·.trip) pct, outbox⟩
  · have answer := exec_plainFrame (plainFrame_held (claimant := claimant) s wf) peer done down held
    rw [hearHeld_other (by exact other)] at answer
    obtain ⟨pct, outbox, frames, -⟩ := heard_calm (s := s) (u := { s with lif := s.lif.noted sender s.now }) calm rfl rfl rfl
    exact ⟨_, answer, pct, outbox, fifo_of_frames frames⟩
  · have answer := exec_plainFrame (plainFrame_claim s (wf_claim_of_held wf)) peer done down held
    rw [hearClaim_other sender (by exact other)] at answer
    obtain ⟨pct, outbox, frames, -⟩ := heard_calm (s := s) (u := { s with lif := s.lif.noted sender s.now }) calm rfl rfl rfl
    exact ⟨_, answer, pct, outbox, fifo_of_frames frames⟩

end

section
/-! What the Note Builder makes of a NOTE-ASK of another station (R184 to R186). -/

namespace Sys2Proof.Machine

theorem settle_stp_busy {s : State} (calm : s.Calm) (busy : s.stp.port ≠ .idle) : (settle s).stp = s.stp := by
  rw [settle_stp calm, portKick_busy (by rwa [refreshLamps_stp, idleTimer_stp]), refreshLamps_stp, idleTimer_stp]

theorem portKick_alone {s : State} {r : ReadReq} (idle : s.stp.port = .idle) (alone : s.stp.reads = [r])
    (free : s.stp.flight = none) : portKick s = { s with stp := { s.stp with port := .reading r, reads := [] } } := by
  have kick : portKick s = s.modStp fun p => { p with reads := [], port := .reading r } := by
    rw [portKick, idle]
    dsimp only
    rw [alone, free]
    rfl
  exact kick

theorem settle_stp_read {s : State} {r : ReadReq} (calm : s.Calm) (idle : s.stp.port = .idle) (alone : s.stp.reads = [r])
    (free : s.stp.flight = none) : (settle s).stp = { s.stp with port := .reading r, reads := [] } := by
  have same : (refreshLamps (idleTimer s)).stp = s.stp := by rw [refreshLamps_stp, idleTimer_stp]
  rw [settle_stp calm, portKick_alone (by rwa [same]) (by rwa [same]) (by rwa [same])]
  dsimp only
  rw [same]

theorem peerHeard_ntb (s : State) : (peerHeard s).ntb = s.ntb :=
  ntb_of_unshared (s := { s with lif := s.lif.heardPeer s.now }) (peerHeard_unshared s)

theorem peerHeard_stp (s : State) : (peerHeard s).stp = s.stp :=
  stp_of_unshared (s := { s with lif := s.lif.heardPeer s.now }) (peerHeard_unshared s)

theorem peerHeard_sul (s : State) : (peerHeard s).sul = s.sul :=
  sul_of_unshared (s := { s with lif := s.lif.heardPeer s.now }) (peerHeard_unshared s)

theorem peerHeard_calm {s u : State} (calm : s.Calm) (departed : u.stp.departed = s.stp.departed) (sul : u.sul = s.sul)
    (room : u.lif.roomFreed = s.lif.roomFreed) : (peerHeard u).Calm := by
  obtain ⟨⟨flown, freed⟩, offers⟩ := calm
  exact ⟨⟨by rw [peerHeard_stp, departed, flown], (roomFreed_of_frames (peerHeard_frames u)).trans (room.trans freed)⟩,
    by rw [peerHeard_sul, sul]; exact offers⟩

/-! #### An ask that is taken (R184) -/

theorem takeAsk_fresh {a : Ask} {s : State} (fresh : a ∉ s.ntb.asks) (few : s.ntb.asks.length < 4) :
    takeAsk a s = match s.ntb.serving with
      | .idle => serve 64 (s.modNtb fun x => { x with asks := x.asks ++ [a] })
      | _ => s.modNtb fun x => { x with asks := x.asks ++ [a] } := by
  unfold takeAsk
  rw [if_neg fresh, if_neg (show ¬Config.askSize ≤ _ from Nat.not_le.2 few)]
  rfl

theorem takeAsk_dropped {a : Ask} {s : State} (out : a ∈ s.ntb.asks ∨ 4 ≤ s.ntb.asks.length) : takeAsk a s = s := by
  unfold takeAsk
  by_cases twice : a ∈ s.ntb.asks
  · rw [if_pos twice]
  · rw [if_neg twice, if_pos (show Config.askSize ≤ _ from out.resolve_left twice)]

theorem takeAsk_busy {a : Ask} {s : State} (fresh : a ∉ s.ntb.asks) (few : s.ntb.asks.length < 4) (busy : s.ntb.serving ≠ .idle) :
    takeAsk a s = s.modNtb fun x => { x with asks := x.asks ++ [a] } := by
  rw [takeAsk_fresh fresh few]
  split
  · rename_i idle
    exact absurd idle busy
  · rfl

theorem takeAsk_alone {a : Ask} {s : State} (empty : s.ntb.asks = []) (idle : s.ntb.serving = .idle) :
    takeAsk a s = serve 64 (s.modNtb fun x => { x with asks := [a] }) := by
  rw [takeAsk_fresh (by rw [empty]; exact List.not_mem_nil) (by rw [empty]; decide), idle]
  dsimp only
  rw [State.modNtb, empty]
  rfl

theorem unsealed_iff (s : State) (note : Nat) : unsealed s note = true ↔ note = 0 ∨ s.ntb.next ≤ note := by
  simp [unsealed]

theorem serve_sealed {n : Nat} {s : State} {a : Ask} {rest : List Ask} (idle : s.ntb.serving = .idle) (asks : s.ntb.asks = a :: rest)
    (held : a.note.toNat ≠ 0 ∧ a.note.toNat < s.ntb.next) :
    serve (n + 1) s = askRead .ask (128 + 4 * (a.note.toNat % 240)) (s.modNtb fun x => { x with serving := .reading [] 0 }) := by
  have known : ¬unsealed s a.note.toNat = true := fun no => (unsealed_iff s _).1 no |>.elim held.1 (Nat.not_le.2 held.2)
  rw [serve, idle, asks]
  exact if_neg known

/-- R185: a note that is not sealed is answered with the one ABSENT segment, as soon as the FIFO has room. -/
theorem serve_unsealed {n : Nat} {s : State} {a : Ask} (idle : s.ntb.serving = .idle) (asks : s.ntb.asks = [a])
    (absent : a.note.toNat = 0 ∨ s.ntb.next ≤ a.note.toNat) (isOpen : s.lif.link.Open) :
    serve (n + 3) s = if s.lif.fifo.length < 6 then
        { s with
          lif := { s.lif with fifo := s.lif.fifo ++ [.notePart a.requester a.note 0 1 false []] }
          ntb := { s.ntb with asks := [], serving := .idle } }
      else { s with ntb := { s.ntb with serving := .sending none 0 } } := by
  have offer := offerFrame_open (s := s.modNtb fun x => { x with serving := .sending none 0 }) isOpen (segmentFrame a none 0)
  have first : serve (n + 3) s = serve (n + 2) (s.modNtb fun x => { x with serving := .sending none 0 }) := by
    rw [serve, idle, asks]
    exact if_pos ((unsealed_iff s _).2 absent)
  have second : serve (n + 2) (s.modNtb fun x => { x with serving := .sending none 0 }) =
      match offerFrame (segmentFrame a none 0) (s.modNtb fun x => { x with serving := .sending none 0 }) with
      | (false, t) => t
      | (true, t) => serve (n + 1) (t.modNtb fun x => { x with asks := [], serving := .idle }) := by
    rw [serve]
    dsimp only [modNtb_ntb]
    rw [asks]
    rfl
  rw [first, second, offer]
  by_cases room : s.lif.fifo.length < 6
  · rw [if_pos room, if_pos (by exact room)]
    rfl
  · rw [if_neg room, if_neg (by exact room)]
    rfl

theorem hearAsk_own {sender target : Nat} {note : Word32} {s : State} (own : target = s.lif.station)
    (sends : s.lif.link.sends = true) : hearAsk sender target note s = takeAsk ⟨sender, note⟩ s := if_pos ⟨own, sends⟩

theorem hearAsk_dropped {sender target : Nat} {note : Word32} {s : State}
    (out : target ≠ s.lif.station ∨ s.lif.link.sends = false ∨ (⟨sender, note⟩ : Ask) ∈ s.ntb.asks ∨ 4 ≤ s.ntb.asks.length) :
    hearAsk sender target note s = s := by
  unfold hearAsk
  split
  · rename_i own
    refine takeAsk_dropped ?_
    rcases out with no | no | dropped
    · exact absurd own.1 no
    · rw [own.2] at no
      exact Bool.noConfusion no
    · exact dropped
  · rfl

/-- What is left at the end of the event that an ask is. -/
theorem ask_heard {s u : State} (calm : s.Calm) (departed : u.stp.departed = s.stp.departed) (sul : u.sul = s.sul)
    (room : u.lif.roomFreed = s.lif.roomFreed) :
    (settle (peerHeard u)).ntb = u.ntb ∧ (settle (peerHeard u)).lif.fifo = u.lif.fifo ∧
      (u.stp.port ≠ .idle → (settle (peerHeard u)).stp = u.stp) := by
  have calmY := peerHeard_calm calm departed sul room
  have ntb := peerHeard_ntb u
  have stp := peerHeard_stp u
  have frames := peerHeard_frames u
  generalize peerHeard u = y at calmY ntb stp frames
  refine ⟨?_, ?_, fun busy => ?_⟩
  · rw [settle_ntb calmY, ntb]
  · rw [settle_lif_calm calmY, fifo_of_frames frames]
  · rw [settle_stp_busy calmY (by rw [stp]; exact busy), stp]

/-- An ask whose note is sealed has its first page read at once when the port is free. -/
theorem ask_reads {s u : State} {r : ReadReq} (calm : s.Calm) (departed : u.stp.departed = s.stp.departed) (sul : u.sul = s.sul)
    (room : u.lif.roomFreed = s.lif.roomFreed) (idle : u.stp.port = .idle) (alone : u.stp.reads = [r]) (free : u.stp.flight = none) :
    (settle (peerHeard u)).stp.port = .reading r ∧ (settle (peerHeard u)).stp.reads = [] := by
  have calmY := peerHeard_calm calm departed sul room
  have stp := peerHeard_stp u
  generalize peerHeard u = y at calmY stp
  rw [settle_stp_read calmY (by rw [stp]; exact idle) (by rw [stp]; exact alone) (by rw [stp]; exact free)]
  exact ⟨rfl, rfl⟩

end Sys2Proof.Machine

open Sys2Proof Sys2Proof.Machine

/-- Settles O47, by what the Note Builder does and what waits. -/
theorem noteAsked : Obligations.NoteAsked := by
  intro s sender target note wf done peer calm
  refine ⟨fun link own => ⟨fun empty idle => ⟨fun absent => ?_, fun nonzero sealed => ?_⟩, fun busy few fresh => ?_⟩, fun out => ?_⟩
  · have sends := (sends_iff _).2 link
    have isOpen : s.lif.link.Open := by rcases link with h | h <;> rw [h] <;> exact ⟨Link.noConfusion, Link.noConfusion⟩
    have answer := exec_plainFrame (plainFrame_ask s wf) peer done (by rcases link with h | h <;> rw [h] <;> decide)
      (by rcases link with h | h <;> rw [h] <;> decide)
    rw [hearAsk_own (by exact own) (by exact sends), takeAsk_alone (by exact empty) (by exact idle),
      serve_unsealed (n := 61) (by exact idle) rfl (by exact absent) (by exact isOpen)] at answer
    by_cases room : s.lif.fifo.length < 6
    · rw [if_pos (by exact room)] at answer
      obtain ⟨ntb, fifo, busy⟩ := ask_heard (s := s) (u := { s with
        lif := { (s.lif.noted sender s.now) with fifo := s.lif.fifo ++ [.notePart sender note 0 1 false []] }
        ntb := { s.ntb with asks := [], serving := .idle } }) calm rfl rfl rfl
      refine ⟨_, answer, fun port => busy port, fun _ => ⟨?_, fifo⟩, fun full => absurd room (Nat.not_lt.2 full)⟩
      exact ntb.trans (by rw [← empty, ← idle])
    · rw [if_neg (by exact room)] at answer
      obtain ⟨ntb, fifo, busy⟩ := ask_heard (s := s) (u := { s with
        lif := s.lif.noted sender s.now
        ntb := { s.ntb with asks := [⟨sender, note⟩], serving := .sending none 0 } }) calm rfl rfl rfl
      exact ⟨_, answer, fun port => busy port, fun some => absurd some room, fun _ => ⟨fifo, ntb⟩⟩
  · have sends := (sends_iff _).2 link
    have answer := exec_plainFrame (plainFrame_ask s wf) peer done (by rcases link with h | h <;> rw [h] <;> decide)
      (by rcases link with h | h <;> rw [h] <;> decide)
    rw [hearAsk_own (by exact own) (by exact sends), takeAsk_alone (by exact empty) (by exact idle),
      serve_sealed (n := 63) (by exact idle) rfl (by exact ⟨nonzero, sealed⟩)] at answer
    intro read
    obtain ⟨ntb, fifo, busy⟩ := ask_heard (s := s) (u := { s with
      lif := s.lif.noted sender s.now
      ntb := { s.ntb with asks := [⟨sender, note⟩], serving := .reading [] 0 }
      stp := { s.stp with reads := s.stp.reads ++ [read] } }) calm rfl rfl rfl
    refine ⟨_, answer, fifo, ntb, fun port reads flight => ?_, fun port => ?_⟩
    · have alone : s.stp.reads ++ [read] = [read] := by rw [reads]; rfl
      exact ask_reads (s := s) calm rfl rfl rfl port alone flight
    · have stp := busy port
      exact ⟨congrArg (·.port) stp, congrArg (·.reads) stp⟩
  · have sends := (sends_iff _).2 link
    have answer := exec_plainFrame (plainFrame_ask s wf) peer done (by rcases link with h | h <;> rw [h] <;> decide)
      (by rcases link with h | h <;> rw [h] <;> decide)
    rw [hearAsk_own (by exact own) (by exact sends), takeAsk_busy (by exact fresh) (by exact few) (by exact busy)] at answer
    obtain ⟨ntb, fifo, -⟩ := ask_heard (s := s) (u := { s with
      lif := s.lif.noted sender s.now
      ntb := { s.ntb with asks := s.ntb.asks ++ [⟨sender, note⟩] } }) calm rfl rfl rfl
    exact ⟨_, answer, fifo, ntb⟩
  · by_cases deaf : s.lif.link = .down ∨ s.lif.link = .heldLine
    · obtain ⟨p, plain, ok, answer, _⟩ := plainFrame_ask s wf
      rw [peerFrame_ignored _ peer deaf] at answer
      exact ⟨_, answer, settle_ntb calm, by rw [settle_lif_calm calm]⟩
    · obtain ⟨down, held⟩ := not_or.1 deaf
      have answer := exec_plainFrame (plainFrame_ask s wf) peer done down held
      have dropped : target ≠ s.lif.station ∨ s.lif.link.sends = false ∨ (⟨sender, note⟩ : Ask) ∈ s.ntb.asks ∨
          4 ≤ s.ntb.asks.length := by
        rcases out with full | twice | other | h | h | h | h | h
        · exact .inr (.inr (.inr full))
        · exact .inr (.inr (.inl twice))
        · exact .inl other
        all_goals exact .inr (.inl (by rw [h]; rfl))
      rw [hearAsk_dropped (by exact dropped)] at answer
      obtain ⟨ntb, fifo, -⟩ := ask_heard (s := s) (u := { s with lif := s.lif.noted sender s.now }) calm rfl rfl rfl
      exact ⟨_, answer, ntb, fifo⟩

end

section
/-! The rack stop, the arms, the permissive inputs and the START key (R21, R28 to R35, R39). -/

namespace Sys2Proof.Machine

/-- What the checkpoints of an event are offered from: the store port and the lanes. -/
theorem State.Checkpoints.congr {s v t : State} {lanes : List LaneNo} (h : v.Checkpoints t lanes) (calm : s.Calm → v.Calm)
    (stp : v.stp = s.stp) (lane : v.lanes = s.lanes) : s.Checkpoints t lanes := by
  intro quiet ok flight own
  have same (i : LaneNo) : v.lane i = s.lane i := lane_of_lanes lane i
  rw [← stp]
  refine h (calm quiet) ?_ (by rw [stp]; exact flight) fun i mem j ne => ?_
  · unfold State.QueueOk at ok ⊢
    rw [stp]
    exact ok
  · rw [same, same]
    exact own i mem j ne

theorem flowingLanes_of_lanes {s v : State} (lanes : v.lanes = s.lanes) : v.flowingLanes = s.flowingLanes := by
  have same (i : LaneNo) : v.lane i = s.lane i := lane_of_lanes lanes i
  unfold State.flowingLanes State.stage
  simp only [same]

/-! #### The rack stop (R34, R35) -/

/-- The state with the rack stop taken and the STATUS asked for that it makes urgent. -/
def State.rstopTaken (s : State) (pressed : Bool) : State :=
  requestUrgent (s.modIlm fun m => { m with rstop := pressed })

theorem requestUrgent_of_sends {s : State} (sends : s.lif.link.sends = true) : requestUrgent s =
    s.modLif fun l => { l with due := .urgent, current := l.current.map makeUrgent } := if_pos sends

theorem requestUrgent_of_not {s : State} (quiet : s.lif.link.sends = false) : requestUrgent s = s :=
  if_neg (by rw [quiet]; exact Bool.noConfusion)

/-- The state without what an urgent STATUS changes. -/
def State.unasked (s : State) : State := { s with lif := { s.lif with due := .none, current := none } }

theorem requestUrgent_unasked (s : State) : (requestUrgent s).unasked = s.unasked := by
  unfold requestUrgent
  split <;> rfl

section

variable {s t : State} (same : t.unasked = s.unasked)

include same

theorem lanes_of_unasked : t.lanes = s.lanes := congrArg (·.lanes) same

theorem stp_of_unasked : t.stp = s.stp := congrArg (·.stp) same

theorem pct_of_unasked : t.pct = s.pct := congrArg (·.pct) same

theorem ilm_of_unasked : t.ilm = s.ilm := congrArg (·.ilm) same

theorem peers_of_unasked : t.lif.peers = s.lif.peers := congrArg (·.lif.peers) same

theorem calm_of_unasked (calm : s.Calm) : t.Calm := by
  obtain ⟨⟨departed, room⟩, offers⟩ := calm
  have sul : t.sul = s.sul := congrArg (·.sul) same
  have freed : t.lif.roomFreed = s.lif.roomFreed := congrArg (·.lif.roomFreed) same
  exact ⟨⟨by rw [stp_of_unasked same]; exact departed, by rw [freed]; exact room⟩, by rw [sul]; exact offers⟩

end

theorem rstopTaken_unasked (s : State) (pressed : Bool) :
    (s.rstopTaken pressed).unasked = (s.modIlm fun m => { m with rstop := pressed }).unasked := requestUrgent_unasked _

theorem exec_rstopChange {s : State} {pressed : Bool} (done : s.sul.done = true) (change : s.ilm.rstop ≠ pressed) :
    exec (.rstopChange pressed) s = finish (haltEdge s.halted (s.rstopTaken pressed)) := by
  change execRstopChange pressed s = _
  rw [execRstopChange, if_neg change]
  exact congrArg finish (if_pos done)

/-- R35: a press starts a halt just when none was in force. -/
theorem haltEdge_rstop (s : State) (pressed : Bool) : haltEdge s.halted (s.rstopTaken pressed) =
    if pressed = true ∧ s.halted = false then suspendAll .halt (s.rstopTaken pressed) else s.rstopTaken pressed := by
  have same := rstopTaken_unasked s pressed
  have after : (s.rstopTaken pressed).halted = (pressed || s.lif.peers.any (·.halt)) := by
    rw [State.halted, ilm_of_unasked same, peers_of_unasked same]
    rfl
  unfold haltEdge
  rw [after]
  cases before : s.halted with
  | true => simp
  | false =>
    obtain ⟨-, calm⟩ := Bool.or_eq_false_iff.1 before
    rw [calm]
    cases pressed <;> rfl

theorem suspendAll_steadyIlm (cause : Cause) (s : State) : (suspendAll cause s).ilm = s.ilm := by
  have one (t : State) (i : LaneNo) : (suspendIfFlowing cause t i).ilm = t.ilm := by
    obtain ⟨left, -, -, e⟩ | ⟨-, e⟩ := suspendIfFlowing_cases cause t i
    · rw [e]
      exact ilm_of_beyond (suspendFlowing_beyond (i := i) (s := t) cause left)
    · rw [e]
  have each : ∀ (lanes : List LaneNo) (t : State), (lanes.foldl (suspendIfFlowing cause) t).ilm = t.ilm := fun lanes => by
    induction lanes with
    | nil => exact fun _ => rfl
    | cons i rest ih => exact fun t => (ih _).trans (one t i)
  exact each allLanes s

theorem haltEdge_ilm (before : Bool) (s : State) : (haltEdge before s).ilm = s.ilm := by
  unfold haltEdge
  split
  · exact suspendAll_steadyIlm _ _
  · rfl

/-- The interlock part of the state without the lamps. -/
def Ilm.unlit (m : Ilm) : Ilm := { m with ready := {}, flow := {}, card := {}, attend := {} }

theorem unlit_of_steady {s t : State} (same : t.steady = s.steady) : t.ilm.unlit = s.ilm.unlit := congrArg (·.ilm) same

section

variable {a b : Ilm} (same : a.unlit = b.unlit)

include same

theorem rstop_of_unlit : a.rstop = b.rstop := congrArg (·.rstop) same

theorem bayLatch_of_unlit : a.bayLatch = b.bayLatch := congrArg (·.bayLatch) same

theorem laneLatch_of_unlit : a.laneLatch = b.laneLatch := congrArg (·.laneLatch) same

theorem leakAlarm_of_unlit : a.leakAlarm = b.leakAlarm := congrArg (·.leakAlarm) same

theorem level_of_unlit (p : Permissive) : a.level p = b.level p := by
  cases p
  · exact congrArg (·.ground) same
  · exact congrArg (·.overfill) same
  · exact congrArg (·.vapour) same
  · exact congrArg (·.estop) same

end

theorem due_of_steady {s t : State} (same : t.steady = s.steady) : t.lif.due = s.lif.due := congrArg (·.lif.due) same

theorem current_of_steady {s t : State} (same : t.steady = s.steady) : t.lif.current = s.lif.current :=
  congrArg (·.lif.current) same

/-! #### A lane that leaves a flowing stage, as one change of the lane and its line -/

theorem modLane_modLane (i : LaneNo) (f g : Lane → Lane) (s : State) :
    (s.modLane i f).modLane i g = s.modLane i fun l => g (f l) := by
  simp [State.modLane, Vector.set_set]

/-- A lane's order line can be changed before or after the lane, when the lane keeps its line. -/
theorem modHeld_modLane {i : LaneNo} {g : Lane → Lane} (keeps : ∀ l, (g l).line = l.line) (f : OrderLine → OrderLine) (s : State) :
    (s.modHeld i f).modLane i g = (s.modLane i g).modHeld i f := by
  have line : ((s.modLane i g).lane i).line = (s.lane i).line := by rw [modLane_lane_self, keeps]
  unfold State.modHeld
  rw [line]
  cases (s.lane i).line <;> rfl

theorem setStage_eq {i : LaneNo} {st : Stage} (still : st.flowing = false) (s : State) :
    setStage i st s = s.modLane i fun l => { l with stage := st, setpoint := 0, wanted := 0 } := by
  have stays : ((s.modLane i fun l => { l with stage := st }).stage i).flowing = false := by
    rw [State.stage, modLane_lane_self]
    exact still
  rw [setStage, retarget, target_of_not_flowing stays, wantedNow_of_not_flowing stays, modLane_modLane]
  simp only [Nat.min_zero]

theorem toIdle_eq (i : LaneNo) (s : State) : toIdle i s = s.modLane i fun l =>
    { l with stage := .idle, line := none, setpoint := 0, wanted := 0, openOut := false, holdOut := false, step := none } := by
  rw [toIdle, setStage_eq rfl, outputsOff, modLane_modLane, modLane_modLane]

theorem suspendFlowing_eq (i : LaneNo) (cause : Cause) (left : LeftStage) (s : State) : suspendFlowing i cause left s =
    offerCheckpoint i ((s.modLane i (Lane.suspendedFrom cause left)).modHeld i fun l => { l with status := .suspended cause }) := by
  rw [suspendFlowing, setStage_eq rfl, setStatus, outputsOff,
    modHeld_modLane (g := fun l => { l with stage := .suspended cause left, setpoint := 0, wanted := 0 }) (fun _ => rfl), modLane_modLane]
  rfl

theorem offerCheckpoint_steady (i : LaneNo) (s : State) : (offerCheckpoint i s).steady = s.steady := by
  rw [offerCheckpoint_modStp]
  rfl

/-! #### The arms (R31, R32, R48, R49) -/

/-- The state with the level of an arm taken. -/
def State.armTaken (s : State) (i : LaneNo) (on : Bool) : State :=
  { s with ilm := { s.ilm with arm := s.ilm.arm.set i on } }

theorem exec_armConnect {s : State} {i : LaneNo} (done : s.sul.done = true) (off : s.armOn i = false) :
    exec (.armConnect i) s = finish (primingCheck i (s.armTaken i true)) := by
  change execArmConnect i s = _
  rw [execArmConnect, off]
  exact congrArg finish (if_pos done)

theorem exec_armDrop {s : State} {i : LaneNo} (done : s.sul.done = true) (on : s.armOn i = true) :
    exec (.armDrop i) s = finish (armLost i (s.armTaken i false)) := by
  change execArmDrop i s = _
  rw [execArmDrop, on]
  exact congrArg finish (if_pos done)

theorem primes_iff (s : State) : s.primes = true ↔ s.pct.slot = .authorized ∨ s.pct.slot = .released := by
  simp [State.primes]

theorem waitingFor_iff (i : LaneNo) (l : OrderLine) : waitingFor i l = true ↔ l.status = .waiting ∧ l.lane = some i := by
  simp [waitingFor]

theorem armTaken_armOn (s : State) (i : LaneNo) (on : Bool) : (s.armTaken i on).armOn i = on := by
  simp [State.armOn, State.armTaken]

/-- R48: an IDLE lane takes the first WAITING line that is its own. -/
theorem primingCheck_takes {s : State} {i : LaneNo} {k : Nat} (idle : s.stage i = .idle) (on : s.armOn i = true)
    (primes : s.pct.slot = .authorized ∨ s.pct.slot = .released) (first : s.lines.findIdx? (waitingFor i) = some k) :
    primingCheck i s = s.modLane i fun l => { l with stage := .primed, line := some k } := by
  unfold primingCheck
  rw [if_pos ⟨idle, on, (primes_iff s).2 primes⟩, State.firstWaiting, first]

theorem primingCheck_stays {s : State} {i : LaneNo} (stays : s.stage i ≠ .idle ∨ s.armOn i = false ∨
    (s.pct.slot ≠ .authorized ∧ s.pct.slot ≠ .released) ∨ s.lines.findIdx? (waitingFor i) = none) : primingCheck i s = s := by
  unfold primingCheck
  split
  · rename_i all
    obtain ⟨idle, on, primes⟩ := all
    rcases stays with no | off | ⟨authorized, released⟩ | none
    · exact absurd idle no
    · rw [on] at off
      exact Bool.noConfusion off
    · exact ((primes_iff s).1 primes).elim (absurd · authorized) (absurd · released)
    · rw [State.firstWaiting, none]
  · rfl

theorem findIdx_waitingFor_some {lines : List OrderLine} {i : LaneNo} {k : Nat} {l : OrderLine} (here : lines[k]? = some l)
    (waits : l.status = .waiting) (own : l.lane = some i)
    (first : ∀ (j : Nat) (m : OrderLine), j < k → lines[j]? = some m → m.status = .waiting → m.lane ≠ some i) :
    lines.findIdx? (waitingFor i) = some k := by
  obtain ⟨lt, eq⟩ := List.getElem?_eq_some_iff.1 here
  refine List.findIdx?_eq_some_iff_getElem.2 ⟨lt, by rw [eq]; exact (waitingFor_iff i l).2 ⟨waits, own⟩, fun j below => ?_⟩
  intro is
  obtain ⟨status, lane⟩ := (waitingFor_iff i _).1 is
  exact first j _ below (List.getElem?_eq_getElem (below.trans lt)) status lane

theorem findIdx_waitingFor_none {lines : List OrderLine} {i : LaneNo}
    (none : ∀ l ∈ lines, l.status = .waiting → l.lane ≠ some i) : lines.findIdx? (waitingFor i) = Option.none :=
  List.findIdx?_eq_none_iff.2 fun l mem => by
    rw [← Bool.not_eq_true, waitingFor_iff]
    exact fun ⟨status, lane⟩ => none l mem status lane

theorem armLost_idle {s : State} {i : LaneNo}
    (rests : s.stage i = .idle ∨ s.stage i = .ended ∨ ∃ cause left, s.stage i = .suspended cause left) : armLost i s = s := by
  rcases rests with h | h | ⟨cause, left, h⟩ <;> rw [armLost, h]

theorem armLost_flowing {s : State} {i : LaneNo} {left : LeftStage} (flows : (s.stage i).flowing = true)
    (leaves : leftOf (s.stage i) = some left) : armLost i s = suspendFlowing i .arm left (latchLane i s) := by
  rw [← suspendLane_of_flowing (s := latchLane i s) .arm flows leaves]
  obtain ⟨h, -⟩ | ⟨h, -⟩ | ⟨h, -⟩ := flowing_cases flows leaves <;> rw [armLost, h]

theorem armLost_closing {s : State} {i : LaneNo} (closing : s.stage i = .closing) :
    armLost i s = (latchLane i s).modFlags i fun f => { f with lapseInClosing := true } := by
  rw [armLost, closing]
  exact if_pos closing

end Sys2Proof.Machine

open Sys2Proof Sys2Proof.Machine

/-- Settles O21, by whether the press starts a halt. -/
theorem rackStopChanges : Obligations.RackStopChanges := by
  intro s pressed done change
  have same := rstopTaken_unasked s pressed
  have lanes := lanes_of_unasked same
  have pct := pct_of_unasked same
  have stp := stp_of_unasked same
  have peers := peers_of_unasked same
  rw [modIlm_lanes] at lanes
  rw [modIlm_pct] at pct
  rw [modIlm_stp] at stp
  have slot : (haltEdge s.halted (s.rstopTaken pressed)).pct.slot = s.pct.slot :=
    (congrArg Prod.fst (haltEdge_slotHeld _ _)).trans (congrArg (·.slot) pct)
  have edge := haltEdge_rstop s pressed
  have calm (quiet : s.Calm) : (s.rstopTaken pressed).Calm := calm_of_unasked same quiet
  have lane (i : LaneNo) : (s.rstopTaken pressed).lane i = s.lane i := lane_of_lanes lanes i
  have steady := settle_steady (haltEdge s.halted (s.rstopTaken pressed))
  have unlit := unlit_of_steady steady
  rw [haltEdge_ilm, ilm_of_unasked same] at unlit
  have lif := haltEdge_lif s.halted (s.rstopTaken pressed)
  have bayLatch := bayLatch_of_unlit unlit
  have laneLatch := laneLatch_of_unlit unlit
  have quiet (run : s.lif.link ≠ .run) (alone : s.lif.link ≠ .alone) : s.rstopTaken pressed =
      s.modIlm fun m => { m with rstop := pressed } :=
    requestUrgent_of_not (by rw [← Bool.not_eq_true, sends_iff]; exact fun either => either.elim run alone)
  have urgent (links : s.lif.link = .run ∨ s.lif.link = .alone) : (s.rstopTaken pressed).lif.due = .urgent := by
    rw [State.rstopTaken, requestUrgent_of_sends (by exact (sends_iff _).2 links)]
    rfl
  refine ⟨_, exec_rstopChange done change, rstop_of_unlit unlit, bayLatch, laneLatch,
    (slot_of_steady steady).trans slot, ?_, fun links => ?_, fun run alone => ⟨?_, ?_⟩, ?_, fun i =>
      ⟨fun left isPressed free flows leaves => ?_, fun none open_ => ?_⟩⟩
  · rw [peers_of_steady steady, lif]
    exact peers
  · rw [due_of_steady steady, lif, urgent links]
  · rw [due_of_steady steady, lif, quiet run alone]
    rfl
  · rw [current_of_steady steady, lif, quiet run alone]
    rfl
  · rw [edge]
    split
    · rw [← flowingLanes_of_lanes lanes]
      exact (settle_suspendAll_checkpoints .halt _).congr calm stp lanes
    · exact checkpoints_of_none calm stp
  · rw [edge, if_pos ⟨isPressed, free⟩]
    obtain ⟨laneIs, linesAre⟩ := settle_suspendAll_of_flowing .halt (s := s.rstopTaken pressed) (i := i) (left := left)
      (by rw [State.stage, lane]; exact flows) (by rw [State.stage, lane]; exact leaves)
    rw [lane] at laneIs linesAre
    exact ⟨laneIs, fun k l line here => linesAre k l line (by rw [State.lines, pct]; exact here)⟩
  · rw [edge]
    split
    · rename_i starts
      have still : (s.stage i).flowing = false := by
        rcases none with h | h | h
        · exact absurd starts.1 (by rw [h]; decide)
        · exact absurd starts.2 (by rw [h]; decide)
        · exact h
      have stage : (s.rstopTaken pressed).stage i = s.stage i := congrArg (·.stage) (lane i)
      rw [settle_suspendAll_lane .halt (by rw [stage]; exact open_), Lane.suspend_of_not_flowing (by rw [lane]; exact still), lane]
    · have stage : (s.rstopTaken pressed).stage i = s.stage i := congrArg (·.stage) (lane i)
      rw [settle_lane (by rw [stage]; exact open_), lane]

/-- Settles O20, by the stage of the arm's lane. -/
theorem armChanges : Obligations.ArmChanges := by
  refine ⟨fun s i done off => ⟨fun k l idle primes here waits own first => ?_, fun rests => ?_⟩,
    fun s i done on => ⟨fun primed => ?_, fun left flows leaves => ?_, fun closing => ?_, fun rests => ?_⟩,
    fun s i => ⟨fun on => ?_, fun off => ?_⟩⟩
  · have takes := primingCheck_takes (s := s.armTaken i true) idle (armTaken_armOn s i true) primes
      (findIdx_waitingFor_some here waits own first)
    exact leaves_of_finish ((exec_armConnect done off).trans (congrArg finish takes))
  · have stays := primingCheck_stays (s := s.armTaken i true) (i := i) (by
      rcases rests with h | h | h
      · exact .inl h
      · exact .inr (.inr (.inl h))
      · exact .inr (.inr (.inr (findIdx_waitingFor_none h))))
    exact leaves_of_finish ((exec_armConnect done off).trans (congrArg finish stays))
  · have answer := exec_armDrop done on
    rw [show armLost i (s.armTaken i false) = toIdle i (s.armTaken i false) by rw [armLost, show (s.armTaken i false).stage i = .primed from primed],
      toIdle_eq] at answer
    exact leaves_of_finish answer
  · have answer := exec_armDrop done on
    rw [armLost_flowing (s := s.armTaken i false) flows leaves, suspendFlowing_eq] at answer
    refine ⟨leaves_of_steady answer (offerCheckpoint_steady _ _) (offerCheckpoint_lanes _ _), fun t next => ?_⟩
    obtain rfl := Host.Outcome.next.inj (answer.symm.trans next)
    refine checkpoints_of_offer ?_ (fun calm => ?_) ?_
    · rw [State.stage, lane_of_lanes (modHeld_lanes _ _ _), modLane_lane_self]
      exact Stage.noConfusion
    · exact calm_of_same (by simp; rfl) (by simp; rfl) (by simp; rfl) calm
    · rw [modHeld_stp, modLane_stp]
      rfl
  · exact leaves_of_finish ((exec_armDrop done on).trans (congrArg finish (armLost_closing closing)))
  · exact leaves_of_finish ((exec_armDrop done on).trans (congrArg finish (armLost_idle rests)))
  · change execArmConnect i s = _
    rw [execArmConnect, if_pos on]
  · change execArmDrop i s = _
    rw [execArmDrop, off]
    rfl

end

section
/-! An order given to each lane in turn (R30, R39): what one lane has after it, and the checkpoints that the lanes offer (R72). -/

namespace Sys2Proof.Machine

/-- The state without the lanes, the order lines, the injectors and the Store Port. -/
def State.aside (s : State) : State :=
  { s with
    lanes := Vector.replicate 4 {}
    injs := Vector.replicate 8 {}
    stp := {}
    pct := { s.pct with trip := s.pct.trip.map fun t => { t with lines := [] } } }

theorem aside_of_beyond {i : LaneNo} {s t : State} (same : t.beyond i = s.beyond i) : t.aside = s.aside :=
  congrArg (fun u : State => { u with lanes := Vector.replicate 4 {} }) same

section

variable {s t : State} (same : t.aside = s.aside)

include same

theorem now_of_aside : t.now = s.now := congrArg (·.now) same

theorem ilm_of_aside : t.ilm = s.ilm := congrArg (·.ilm) same

theorem lif_of_aside : t.lif = s.lif := congrArg (·.lif) same

theorem sul_of_aside : t.sul = s.sul := congrArg (·.sul) same

theorem cfg_of_aside : t.cfg = s.cfg := congrArg (·.cfg) same

theorem slot_of_aside : t.pct.slot = s.pct.slot := congrArg (·.pct.slot) same

theorem tripNumber_of_aside : t.tripNumber = s.tripNumber := by
  have trip : t.pct.trip.map (fun t => ({ t with lines := [] } : Trip)) = s.pct.trip.map fun t => { t with lines := [] } :=
    congrArg (·.pct.trip) same
  have number := congrArg (fun o : Option Trip => o.map (·.number)) trip
  simpa [State.tripNumber, Option.map_map, Function.comp_def] using number

theorem whole_of_aside : t.whole = s.whole := by rw [State.whole, State.whole, ilm_of_aside same]

theorem halted_of_aside : t.halted = s.halted := by rw [State.halted, State.halted, ilm_of_aside same, lif_of_aside same]

end

/-- What one lane has is the same: the lane, its order line, and all that is beside the lanes. -/
structure SameFor (i : LaneNo) (s t : State) : Prop where
  aside : t.aside = s.aside
  lane : t.lane i = s.lane i
  held : t.heldLine i = s.heldLine i

theorem SameFor.refl (i : LaneNo) (s : State) : SameFor i s s := ⟨rfl, rfl, rfl⟩

theorem SameFor.trans {i : LaneNo} {s t u : State} (h : SameFor i s t) (k : SameFor i t u) : SameFor i s u :=
  ⟨k.aside.trans h.aside, k.lane.trans h.lane, k.held.trans h.held⟩

theorem SameFor.checkpoint {i : LaneNo} {s t : State} (h : SameFor i s t) : t.checkpoint i = s.checkpoint i :=
  checkpoint_congr (tripNumber_of_aside h.aside) h.lane h.held

/-- An order to one lane: it touches the lane, its order line, the injectors and the store port, and the lane keeps its line. -/
structure LaneOrder (f : LaneNo → State → State) : Prop where
  beyond : ∀ i s, (f i s).beyond i = s.beyond i
  line : ∀ i s, ((f i s).lane i).line = (s.lane i).line
  lines : ∀ i s k, (s.lane i).line ≠ some k → (f i s).lines[k]? = s.lines[k]?

/-- The lane shares its order line with none of the other lanes. -/
def State.OwnLine (s : State) (i : LaneNo) : Prop := ∀ j : LaneNo, j ≠ i → (s.lane i).line = none ∨ (s.lane j).line ≠ (s.lane i).line

section

variable {f : LaneNo → State → State} (order : LaneOrder f)

include order

theorem LaneOrder.aside (i : LaneNo) (s : State) : (f i s).aside = s.aside := aside_of_beyond (order.beyond i s)

theorem LaneOrder.lane_ne {i j : LaneNo} (ne : i ≠ j) (s : State) : (f i s).lane j = s.lane j :=
  lane_of_beyond (order.beyond i s) ne

theorem LaneOrder.line_any (i j : LaneNo) (s : State) : ((f i s).lane j).line = (s.lane j).line := by
  by_cases eq : i = j
  · subst eq
    exact order.line i s
  · rw [order.lane_ne eq]

/-- An order to another lane, of another order line, leaves what a lane has. -/
theorem LaneOrder.sameFor {i j : LaneNo} (ne : i ≠ j) {s : State} (own : (s.lane j).line = none ∨ (s.lane i).line ≠ (s.lane j).line) :
    SameFor j s (f i s) := by
  refine ⟨order.aside i s, order.lane_ne ne s, ?_⟩
  rw [State.heldLine, State.heldLine, order.lane_ne ne]
  cases line : (s.lane j).line with
  | none => rfl
  | some k => exact order.lines i s k fun eq => own.elim (fun none => by rw [line] at none; cases none) fun other => other (eq.trans line.symm)

theorem foldl_orders_aside (lanes : List LaneNo) (s : State) : (lanes.foldl (fun t i => f i t) s).aside = s.aside := by
  induction lanes generalizing s with
  | nil => rfl
  | cons i rest ih => exact (ih _).trans (order.aside i s)

theorem foldl_orders_lane {lanes : List LaneNo} {j : LaneNo} (out : j ∉ lanes) (s : State) :
    (lanes.foldl (fun t i => f i t) s).lane j = s.lane j := by
  induction lanes generalizing s with
  | nil => rfl
  | cons i rest ih =>
    obtain ⟨ne, out⟩ := List.ne_and_not_mem_of_not_mem_cons out
    exact (ih out _).trans (order.lane_ne (Ne.symm ne) s)

/-- Orders to other lanes, of other order lines, leave what a lane has. -/
theorem foldl_orders_sameFor {lanes : List LaneNo} {j : LaneNo} (out : j ∉ lanes) {s : State}
    (own : ∀ i ∈ lanes, (s.lane j).line = none ∨ (s.lane i).line ≠ (s.lane j).line) :
    SameFor j s (lanes.foldl (fun t i => f i t) s) := by
  induction lanes generalizing s with
  | nil => exact .refl j s
  | cons i rest ih =>
    obtain ⟨ne, out⟩ := List.ne_and_not_mem_of_not_mem_cons out
    have first := order.sameFor (Ne.symm ne) (own i (List.mem_cons_self ..))
    refine first.trans (ih out fun m mem => ?_)
    rw [order.line_any, order.line_any]
    exact own m (List.mem_cons_of_mem i mem)

/-- What a lane with a line of its own has after an order to each lane: what the order to it leaves, in a state in which it has what
it had. -/
theorem foldl_orders_at {lanes : List LaneNo} (once : lanes.Nodup) {j : LaneNo} (mem : j ∈ lanes) {s : State} (own : s.OwnLine j) :
    ∃ pre, SameFor j s pre ∧ SameFor j (f j pre) (lanes.foldl (fun t i => f i t) s) := by
  induction lanes generalizing s with
  | nil => cases mem
  | cons i rest ih =>
    obtain ⟨out, once⟩ := List.nodup_cons.1 once
    rw [List.foldl_cons]
    by_cases eq : i = j
    · subst eq
      refine ⟨s, .refl i s, foldl_orders_sameFor order out fun m memRest => ?_⟩
      rw [order.line_any, order.line_any]
      exact own m (ne_of_mem_of_not_mem memRest out)
    · have first := order.sameFor eq (own i eq)
      obtain ⟨pre, before, after⟩ := ih once ((List.mem_cons.1 mem).resolve_left (Ne.symm eq)) (s := f i s) fun m ne => by
        rw [order.line_any, order.line_any]
        exact own m ne
      exact ⟨pre, first.trans before, after⟩

/-- R72: while a write is in flight, an order to each lane offers one checkpoint of each lane that it makes offer, and nothing else
joins the store write queue. -/
theorem foldl_orders_stp {acts : LaneNo → State → Bool}
    (kept : ∀ i j s, i ≠ j → (acts i s = true → s.OwnLine i) → acts j (f i s) = acts j s)
    (rests : ∀ i s, acts i s = false → (f i s).stp = s.stp)
    (offers : ∀ i s, acts i s = true → s.QueueOk → s.stp.flight.isSome = true → (f i s).stp =
      { s.stp with queue := ((f i s).checkpoint i).toList.foldl withCheckpoint s.stp.queue })
    (ok : ∀ i s, s.QueueOk → (f i s).QueueOk)
    {lanes : List LaneNo} (once : lanes.Nodup) {s : State} (queueOk : s.QueueOk) (flight : s.stp.flight.isSome = true)
    (own : ∀ i ∈ lanes, acts i s = true → s.OwnLine i) :
    (lanes.foldl (fun t i => f i t) s).stp = { s.stp with
      queue := ((lanes.filter (acts · s)).filterMap (lanes.foldl (fun t i => f i t) s).checkpoint).foldl withCheckpoint s.stp.queue } := by
  induction lanes generalizing s with
  | nil => rfl
  | cons i rest ih =>
    obtain ⟨out, once⟩ := List.nodup_cons.1 once
    have ownRest (j : LaneNo) (mem : j ∈ rest) (on : acts j s = true) : (f i s).OwnLine j := fun m ne => by
      rw [order.line_any, order.line_any]
      exact own j (List.mem_cons_of_mem i mem) on m ne
    have same (j : LaneNo) (mem : j ∈ rest) : acts j (f i s) = acts j s :=
      kept i j s (ne_of_mem_of_not_mem mem out).symm (own i (List.mem_cons_self ..))
    have filter : (rest.filter (acts · (f i s))) = rest.filter (acts · s) := List.filter_congr fun j mem => same j mem
    have flies : (f i s).stp.flight.isSome = true := by
      cases on : acts i s with
      | true =>
        rw [offers i s on queueOk flight]
        exact flight
      | false =>
        rw [rests i s on]
        exact flight
    rw [List.foldl_cons]
    rw [ih once (ok i s queueOk) flies (fun j mem on => ownRest j mem (by rwa [same j mem] at on)), filter, List.filter_cons]
    cases on : acts i s with
    | true =>
      have stays := foldl_orders_sameFor order out (s := f i s) fun m mem => by
        rw [order.line_any, order.line_any]
        exact own i (List.mem_cons_self ..) on m (ne_of_mem_of_not_mem mem out)
      rw [if_pos rfl, List.filterMap_cons, stays.checkpoint, offers i s on queueOk flight]
      cases (f i s).checkpoint i <;> rfl
    | false => rw [if_neg Bool.false_ne_true, rests i s on]

end

end Sys2Proof.Machine

end

section
/-! START in RELEASED (R39, R50, R65) and at the release event (R3, R21). -/

namespace Sys2Proof.Machine

/-! ### One lane opens or resumes -/

/-- R50: the lane's compartment is open, its checkpoint not offered yet. -/
def opened (i : LaneNo) (s : State) : State :=
  steerNow i (retarget i (giveLimit i (renewInjectors i ((s.modHeld i openRecord).modLane i openLane))))

/-- The line ACTIVE again and the lane's no-flow count 0 (R65). -/
def reactivated (i : LaneNo) (s : State) : State := (setStatus i .active s).modLane i fun l => { l with noFlow := 0 }

/-- R65: the lane's compartment is resumed, its checkpoint not offered yet. -/
def resumed (c : LaneCfg) (i : LaneNo) (s : State) : State :=
  match resumeStage c (s.preset i) (s.gross i) (s.lane i).learned with
  | none => closeDecision i .preset (reactivated i s)
  | some st => enterFlowing i st (reactivated i s)

/-- A lane that START opens or resumes, its checkpoint not offered yet. -/
def started (i : LaneNo) (s : State) : State :=
  match s.stage i with
  | .suspended _ .primed => opened i s
  | .suspended _ _ => match s.laneCfg i with
    | none => s
    | some c => resumed c i s
  | _ => opened i s

/-- R39: all that START asks for at a lane but a line that has not been ended. -/
def State.mayMove (s : State) (i : LaneNo) : Bool :=
  s.whole && !s.ilm.bayLatch && !s.laneLatched i && !s.halted && s.armOn i && match s.stage i with
    | .primed => true
    | .suspended _ .primed => true
    | .suspended _ _ => s.fitted i
    | _ => false

/-- R39: START opens or resumes the lane. -/
def starts (i : LaneNo) (s : State) : Bool := s.mayMove i && holdsOpenLine s i

theorem startLane_of_starts {i : LaneNo} {s : State} (on : starts i s = true) :
    startLane i s = offerCheckpoint i (started i s) := by
  have may : mayStart s i = true := by
    simp only [starts, State.mayMove, Bool.and_eq_true] at on
    simp only [mayStart, Bool.and_eq_true]
    exact ⟨on.1.1, on.2⟩
  simp only [starts, State.mayMove, Bool.and_eq_true] at on
  obtain ⟨⟨-, stage⟩, -⟩ := on
  unfold startLane started
  rw [if_pos may]
  cases h : s.stage i with
  | suspended cause left =>
    cases left with
    | primed => rfl
    | _ =>
      obtain ⟨c, cfg⟩ := Option.isSome_iff_exists.1 (by simpa [h, State.fitted] using stage : (s.laneCfg i).isSome = true)
      simp only [resumeOpen, cfg]
      rfl
  | primed => rfl
  | _ => simp [h] at stage

theorem startLane_of_rests {i : LaneNo} {s : State} (off : starts i s = false) : startLane i s = s := by
  unfold startLane
  split
  · rename_i may
    simp only [mayStart, Bool.and_eq_true] at may
    obtain ⟨conditions, held⟩ := may
    cases h : s.stage i with
    | suspended cause left =>
      cases left with
      | primed => simp [starts, State.mayMove, h, conditions, held] at off
      | _ =>
        have unfitted : s.laneCfg i = none := by
          simpa [starts, State.mayMove, h, conditions, held, State.fitted] using off
        simp only [resumeOpen, unfitted]
    | primed => simp [starts, State.mayMove, h, conditions, held] at off
    | _ => rfl
  · rfl

theorem starts_of_startable {i : LaneNo} {s : State} (whole : s.whole = true) (bay : s.ilm.bayLatch = false) (halted : s.halted = false)
    (fitted : s.fitted i = true) (startable : s.Startable i) : starts i s = true := by
  obtain ⟨stage, latch, arm, l, held, open_⟩ := startable
  have holds : holdsOpenLine s i = true := by
    cases status : l.status with
    | ended reason => exact absurd status (open_ reason)
    | _ => simp only [holdsOpenLine, held, status]
  rcases stage with h | ⟨cause, left, h⟩
  · simp [starts, State.mayMove, whole, bay, latch, halted, arm, holds, h]
  · cases left <;> simp [starts, State.mayMove, whole, bay, latch, halted, arm, holds, h, fitted]

theorem conditions_of_starts {i : LaneNo} {s : State} (on : starts i s = true) :
    s.whole = true ∧ s.ilm.bayLatch = false ∧ s.laneLatched i = false ∧ s.halted = false := by
  simp only [starts, State.mayMove, Bool.and_eq_true, Bool.not_eq_true'] at on
  obtain ⟨⟨⟨⟨⟨⟨whole, bay⟩, latch⟩, halted⟩, -⟩, -⟩, -⟩ := on
  exact ⟨whole, bay, latch, halted⟩

theorem startable_of_starts {i : LaneNo} {s : State} (on : starts i s = true) : s.Startable i := by
  simp only [starts, State.mayMove, Bool.and_eq_true, Bool.not_eq_true'] at on
  obtain ⟨⟨⟨⟨⟨-, latch⟩, -⟩, arm⟩, stage⟩, holds⟩ := on
  refine ⟨?_, latch, arm, ?_⟩
  · cases h : s.stage i with
    | primed => exact .inl rfl
    | suspended cause left => exact .inr ⟨cause, left, rfl⟩
    | _ => simp [h] at stage
  · unfold holdsOpenLine at holds
    cases held : s.heldLine i with
    | none => simp [held] at holds
    | some l =>
      refine ⟨l, rfl, fun reason ended => ?_⟩
      simp [held, ended] at holds

/-! #### What opening and resuming leave -/

theorem retarget_lane_self (i : LaneNo) (s : State) : (retarget i s).lane i =
    { s.lane i with setpoint := min (s.lane i).setpoint (s.target i), wanted := s.wantedNow i } := modLane_lane_self _ _ _

theorem giveLimit_lane_self (i : LaneNo) (s : State) : ∃ limit setpoint wanted, setpoint ≤ (s.lane i).setpoint ∧
    (giveLimit i s).lane i = { s.lane i with limit := limit, setpoint := setpoint, wanted := wanted } := by
  unfold giveLimit
  split
  · exact ⟨_, _, _, le_rfl, rfl⟩
  · have e := retarget_lane_self i (s.modLane i fun l => { l with limit := s.limitOf i })
    rw [modLane_lane_self] at e
    exact ⟨_, _, _, Nat.min_le_left _ _, e⟩

theorem renewInjectors_injs (i : LaneNo) (s : State) : ∃ injs, renewInjectors i s = { s with injs := injs } := by
  have each : ∀ (l : List InjNo) (t : State), ∃ injs,
      l.foldl (fun u j => if s.injLane j = some i then u.modInj j renewInjector else u) t = { t with injs := injs } := by
    intro l
    induction l with
    | nil => exact fun t => ⟨t.injs, rfl⟩
    | cons j rest ih =>
      intro t
      rw [List.foldl_cons]
      split
      · obtain ⟨injs, e⟩ := ih (t.modInj j renewInjector)
        exact ⟨injs, e.trans rfl⟩
      · exact ih t
  unfold renewInjectors eachInjOf
  exact each _ s

theorem laneCfg_of_cfg {s t : State} (cfg : t.cfg = s.cfg) (i : LaneNo) : t.laneCfg i = s.laneCfg i := by
  rw [State.laneCfg, State.laneCfg, cfg]

theorem mayEnergise_of_ilm {s t : State} {i : LaneNo} (ilm : t.ilm = s.ilm) (lif : t.lif = s.lif) (whole : s.whole = true)
    (bay : s.ilm.bayLatch = false) (latch : s.laneLatched i = false) (halted : s.halted = false)
    (flows : (t.stage i).flowing = true) : t.mayEnergise i = true := by
  have same : t.whole = s.whole ∧ t.halted = s.halted ∧ t.laneLatched i = s.laneLatched i :=
    ⟨by rw [State.whole, State.whole, ilm], by rw [State.halted, State.halted, ilm, lif],
      by rw [State.laneLatched, State.laneLatched, ilm]⟩
  obtain ⟨sameWhole, sameHalted, sameLatch⟩ := same
  simp only [State.mayEnergise, sameWhole, sameHalted, sameLatch, ilm, whole, bay, latch, halted, flows, Bool.not_false, Bool.and_true]

/-- R57: with S at 0 no step opens, and Q within the band holds. -/
theorem steer_zero (q : Nat) : (q ≤ 20 ∧ steer q 0 = .hold) ∨ (20 < q ∧ steer q 0 = .close) := by
  unfold steer
  by_cases slow : q ≤ 20
  · exact .inl ⟨slow, by rw [if_neg (by omega), if_neg (by omega)]⟩
  · exact .inr ⟨by omega, by rw [if_neg (by omega), if_pos (by omega)]⟩

theorem commandOutputs_hold (now : Nat) (l : Lane) :
    commandOutputs .hold now l = { l with openOut := false, holdOut := true, step := none } := rfl

theorem commandOutputs_close (now : Nat) (l : Lane) :
    commandOutputs .close now l = { l with openOut := false, holdOut := false, step := some ⟨false, now + Config.stepTime⟩ } := rfl

/-- A steering decision from standstill, S at 0: OPEN off, and HOLD on where Q is within the band. -/
theorem steerNow_from_zero {s : State} {i : LaneNo} (may : s.mayEnergise i = true) (zero : (s.lane i).setpoint = 0) :
    ∃ hold step, (steerNow i s).lane i = { s.lane i with openOut := false, holdOut := hold, step := step } ∧
      ((s.lane i).ven.q ≤ 20 → hold = true) := by
  have e : (steerNow i s).lane i = commandOutputs (steer (s.lane i).ven.q 0) s.now (s.lane i) := by
    rw [steerNow, if_pos may, modLane_lane_self, State.decision, zero]
  obtain ⟨-, hold⟩ | ⟨fast, close⟩ := steer_zero (s.lane i).ven.q
  · exact ⟨true, none, by rw [e, hold, commandOutputs_hold], fun _ => rfl⟩
  · exact ⟨false, _, by rw [e, close, commandOutputs_close], fun slow => absurd fast (Nat.not_lt.2 slow)⟩

/-! #### What the opening and the resumption of a compartment keep -/

theorem steerNow_pct (i : LaneNo) (s : State) : (steerNow i s).pct = s.pct := by
  unfold steerNow outputsOff
  split <;> rfl

theorem steerNow_stp (i : LaneNo) (s : State) : (steerNow i s).stp = s.stp := by
  unfold steerNow outputsOff
  split <;> rfl

theorem retarget_pct (i : LaneNo) (s : State) : (retarget i s).pct = s.pct := modLane_pct _ _ _

theorem retarget_stp (i : LaneNo) (s : State) : (retarget i s).stp = s.stp := modLane_stp _ _ _

theorem giveLimit_pct (i : LaneNo) (s : State) : (giveLimit i s).pct = s.pct := by
  unfold giveLimit
  split
  · rfl
  · exact (retarget_pct _ _).trans (modLane_pct _ _ _)

theorem renewInjectors_pct (i : LaneNo) (s : State) : (renewInjectors i s).pct = s.pct := by
  obtain ⟨injs, e⟩ := renewInjectors_injs i s
  rw [e]

theorem renewInjectors_stp (i : LaneNo) (s : State) : (renewInjectors i s).stp = s.stp := by
  obtain ⟨injs, e⟩ := renewInjectors_injs i s
  rw [e]

theorem opened_pct (i : LaneNo) (s : State) : (opened i s).pct = (s.modHeld i openRecord).pct := by
  rw [opened, steerNow_pct, retarget_pct, giveLimit_pct, renewInjectors_pct, modLane_pct]

theorem opened_stp (i : LaneNo) (s : State) : (opened i s).stp = s.stp := by
  rw [opened, steerNow_stp, retarget_stp, giveLimit_stp, renewInjectors_stp, modLane_stp, modHeld_stp]

/-- R50: the lane of a compartment that has just been opened. -/
theorem opened_lane {s : State} {i : LaneNo} (may : starts i s = true) :
    ∃ limit wanted step, (opened i s).lane i = { openLane (s.lane i) with
      limit := limit, setpoint := 0, wanted := wanted, openOut := false, holdOut := true, step := step } ∧
      ∀ c, s.laneCfg i = some c → wanted = underLimit limit (min c.lowRate c.maxFlow) := by
  obtain ⟨whole, bay, latch, halted⟩ := conditions_of_starts may
  obtain ⟨injs, renewed⟩ := renewInjectors_injs i ((s.modHeld i openRecord).modLane i openLane)
  have first : (renewInjectors i ((s.modHeld i openRecord).modLane i openLane)).lane i = openLane (s.lane i) := by
    rw [renewed]
    exact (modLane_lane_self _ _ _).trans (congrArg openLane (lane_of_lanes (modHeld_lanes _ _ _) i))
  have beyond : (renewInjectors i ((s.modHeld i openRecord).modLane i openLane)).beyond i = s.beyond i := by simp
  unfold opened
  generalize renewInjectors i ((s.modHeld i openRecord).modLane i openLane) = u at first beyond
  obtain ⟨limit, setpoint, wanted, low, second⟩ := giveLimit_lane_self i u
  have beyond2 : (giveLimit i u).beyond i = s.beyond i := by rw [giveLimit_beyond, beyond]
  generalize giveLimit i u = v at second beyond2
  rw [first] at low second
  obtain rfl : setpoint = 0 := Nat.le_zero.1 low
  have wants (c : LaneCfg) (cfg : s.laneCfg i = some c) : v.wantedNow i = underLimit limit (min c.lowRate c.maxFlow) := by
    rw [State.wantedNow, laneCfg_of_cfg (cfg_of_beyond beyond2), cfg, State.stage, second]
    rfl
  have third := retarget_lane_self i v
  rw [second] at third
  have beyond3 : (retarget i v).beyond i = s.beyond i := by rw [retarget_beyond, beyond2]
  generalize retarget i v = w at third beyond3
  obtain ⟨hold, step, fourth, holds⟩ := steerNow_from_zero (mayEnergise_of_ilm (ilm_of_beyond beyond3) (lif_of_beyond beyond3)
    whole bay latch halted (by rw [State.stage, third]; rfl)) (by rw [third]; exact Nat.zero_min _)
  obtain rfl := holds (by rw [third]; exact Nat.zero_le _)
  exact ⟨limit, _, step, by rw [fourth, third, Nat.zero_min], wants⟩

/-! #### A resumed compartment (R65) -/

theorem reactivated_lane (i : LaneNo) (s : State) : (reactivated i s).lane i = { s.lane i with noFlow := 0 } :=
  (modLane_lane_self _ _ _).trans (congrArg (fun l : Lane => { l with noFlow := 0 }) (lane_of_lanes (modHeld_lanes _ _ _) i))

theorem reactivated_beyond (i : LaneNo) (s : State) : (reactivated i s).beyond i = s.beyond i := by simp [reactivated, setStatus]

theorem reactivated_stp (i : LaneNo) (s : State) : (reactivated i s).stp = s.stp := modHeld_stp _ _ _

theorem reactivated_record (i : LaneNo) (s : State) : (reactivated i s).record i = s.record i := by
  have held : (reactivated i s).heldLine i = (setStatus i .active s).heldLine i := by
    rw [State.heldLine, reactivated_lane, State.heldLine, setStatus, lane_of_lanes (modHeld_lanes _ _ _)]
    rfl
  rw [State.record, held, setStatus, modHeld_heldLine, State.record]
  cases s.heldLine i <;> rfl

theorem enterFlowing_pct (i : LaneNo) (st : Stage) (s : State) : (enterFlowing i st s).pct = s.pct := by
  rw [enterFlowing, steerNow_pct, retarget_pct, modLane_pct]

theorem enterFlowing_stp (i : LaneNo) (st : Stage) (s : State) : (enterFlowing i st s).stp = s.stp := by
  rw [enterFlowing, steerNow_stp, retarget_stp, modLane_stp]

theorem resumed_pct (c : LaneCfg) (i : LaneNo) (s : State) : (resumed c i s).pct = (setStatus i .active s).pct := by
  unfold resumed
  split
  · rfl
  · exact enterFlowing_pct _ _ _

theorem resumed_stp (c : LaneCfg) (i : LaneNo) (s : State) : (resumed c i s).stp = s.stp := by
  unfold resumed
  split
  · exact reactivated_stp i s
  · exact (enterFlowing_stp _ _ _).trans (reactivated_stp i s)

/-- R65: a resumed lane enters a flowing stage with S at 0 and OPEN off, and HOLD on where Q is within the band. -/
theorem enterFlowing_lane {s : State} {i : LaneNo} {st : Stage} (flows : st.flowing = true) (whole : s.whole = true)
    (bay : s.ilm.bayLatch = false) (latch : s.laneLatched i = false) (halted : s.halted = false) :
    ∃ wanted hold step, (enterFlowing i st s).lane i = { s.lane i with
      stage := st, setpoint := 0, wanted := wanted, openOut := false, holdOut := hold, step := step } ∧
      ((s.lane i).ven.q ≤ 20 → hold = true) := by
  have first := retarget_lane_self i (s.modLane i fun l => { l with stage := st, setpoint := 0 })
  have beyond : (retarget i (s.modLane i fun l => { l with stage := st, setpoint := 0 })).beyond i = s.beyond i := by simp
  rw [modLane_lane_self] at first
  unfold enterFlowing
  generalize retarget i (s.modLane i fun l => { l with stage := st, setpoint := 0 }) = w at first beyond
  obtain ⟨hold, step, second, holds⟩ := steerNow_from_zero (mayEnergise_of_ilm (ilm_of_beyond beyond) (lif_of_beyond beyond)
    whole bay latch halted (by rw [State.stage, first]; exact flows)) (by rw [first]; exact Nat.zero_min _)
  rw [first] at second holds
  exact ⟨_, hold, step, by rw [second, Nat.zero_min], holds⟩

theorem resumeStage_flowing {c : LaneCfg} {preset gross learned : Nat} {st : Stage} (stage : resumeStage c preset gross learned = some st) :
    st.flowing = true := by
  unfold resumeStage at stage
  repeat' split at stage
  · cases stage
  all_goals
    obtain rfl := Option.some.inj stage
    rfl

/-- R65: the lane of a compartment that has just been resumed. -/
theorem resumed_lane {s : State} {i : LaneNo} (c : LaneCfg) (may : starts i s = true) :
    (resumeStage c (s.preset i) (s.gross i) (s.lane i).learned = none ∧ (resumed c i s).lane i = { s.lane i with
      noFlow := 0, stage := .closing, grossAtClose := s.gross i, closeReason := some .preset, openOut := false, holdOut := false
      step := none, setpoint := 0, wanted := 0, quiet := 0, closing := some (s.now + Config.closingTime) }) ∨
    ∃ st wanted hold step, resumeStage c (s.preset i) (s.gross i) (s.lane i).learned = some st ∧
      (resumed c i s).lane i = { s.lane i with
        noFlow := 0, stage := st, setpoint := 0, wanted := wanted, openOut := false, holdOut := hold, step := step } ∧
      ((s.lane i).ven.q ≤ 20 → hold = true) := by
  obtain ⟨whole, bay, latch, halted⟩ := conditions_of_starts may
  have beyond := reactivated_beyond i s
  have lane := reactivated_lane i s
  have gross : (reactivated i s).gross i = s.gross i := by rw [State.gross, reactivated_record, State.gross]
  unfold resumed
  cases stage : resumeStage c (s.preset i) (s.gross i) (s.lane i).learned with
  | none =>
    refine .inl ⟨rfl, ?_⟩
    have e := closeDecision_lane i .preset (reactivated i s)
    rw [lane, gross, now_of_beyond beyond] at e
    exact e
  | some st =>
    have ilm := ilm_of_beyond beyond
    have lif := lif_of_beyond beyond
    obtain ⟨wanted, hold, step, e, holds⟩ := enterFlowing_lane (s := reactivated i s) (i := i) (resumeStage_flowing stage)
      (by rw [State.whole, ilm]; exact whole) (by rw [ilm]; exact bay) (by rw [State.laneLatched, ilm]; exact latch)
      (by rw [State.halted, ilm, lif]; exact halted)
    rw [lane] at e holds
    exact .inr ⟨st, wanted, hold, step, rfl, e, holds⟩

/-! ### START as an order to each lane -/

/-- What START makes of the order line that a started lane holds. -/
def startedLine (i : LaneNo) (s : State) (l : OrderLine) : OrderLine :=
  match s.stage i with
  | .suspended _ .primed => openRecord l
  | .suspended _ _ => { l with status := .active }
  | _ => openRecord l

/-- A started lane is the one of an opened compartment, or of a resumed one. -/
theorem started_cases {i : LaneNo} {s : State} (on : starts i s = true) :
    ((s.stage i = .primed ∨ ∃ cause, s.stage i = .suspended cause .primed) ∧ started i s = opened i s) ∨
    ∃ cause left c, s.stage i = .suspended cause left ∧ left ≠ .primed ∧ s.laneCfg i = some c ∧ started i s = resumed c i s := by
  simp only [starts, State.mayMove, Bool.and_eq_true] at on
  obtain ⟨⟨-, stage⟩, -⟩ := on
  unfold started
  cases h : s.stage i with
  | suspended cause left =>
    cases left with
    | primed => exact .inl ⟨.inr ⟨cause, rfl⟩, rfl⟩
    | _ =>
      obtain ⟨c, cfg⟩ := Option.isSome_iff_exists.1 (by simpa [h, State.fitted] using stage : (s.laneCfg i).isSome = true)
      exact .inr ⟨cause, _, c, rfl, LeftStage.noConfusion, cfg, by simp only [cfg]⟩
  | primed => exact .inl ⟨.inl rfl, rfl⟩
  | _ => simp [h] at stage

theorem started_stp {i : LaneNo} {s : State} (on : starts i s = true) : (started i s).stp = s.stp := by
  obtain ⟨-, e⟩ | ⟨_, _, c, -, -, -, e⟩ := started_cases on
  · rw [e, opened_stp]
  · rw [e, resumed_stp]

/-- The order line of a started lane is the only one that changes. -/
theorem started_pct {i : LaneNo} {s : State} (on : starts i s = true) : (started i s).pct = (s.modHeld i (startedLine i s)).pct := by
  obtain ⟨stage, e⟩ | ⟨cause, left, c, stage, open_, -, e⟩ := started_cases on
  · rw [e, opened_pct]
    have same : startedLine i s = openRecord := by
      funext l
      rcases stage with h | ⟨cause, h⟩ <;> simp only [startedLine, h]
    rw [same]
  · rw [e, resumed_pct]
    have same : startedLine i s = fun l => { l with status := .active } := by
      funext l
      cases left with
      | primed => exact absurd rfl open_
      | _ => simp only [startedLine, stage]
    rw [same]
    rfl

theorem modHeld_lines_ne {i : LaneNo} {s : State} {k : Nat} (other : (s.lane i).line ≠ some k) (f : OrderLine → OrderLine) :
    (s.modHeld i f).lines[k]? = s.lines[k]? := by
  unfold State.modHeld
  cases line : (s.lane i).line with
  | none => rfl
  | some n =>
    rw [line] at other
    simp only [modLine_lines]
    rw [List.getElem?_modify_ne]
    exact fun eq => other (congrArg some eq)

/-- A started lane keeps its line and does not wait in ENDED. -/
theorem started_lane {i : LaneNo} {s : State} (on : starts i s = true) :
    ((started i s).lane i).line = (s.lane i).line ∧ (started i s).stage i ≠ .ended := by
  rw [State.stage]
  obtain ⟨-, e⟩ | ⟨_, _, c, -, -, -, e⟩ := started_cases on
  · obtain ⟨limit, wanted, step, lane, -⟩ := opened_lane on
    rw [e, lane]
    exact ⟨rfl, Stage.noConfusion⟩
  · rw [e]
    obtain ⟨-, lane⟩ | ⟨st, wanted, hold, step, stage, lane, -⟩ := resumed_lane c on
    · rw [lane]
      exact ⟨rfl, Stage.noConfusion⟩
    · rw [lane]
      refine ⟨rfl, fun ended => ?_⟩
      have flows := resumeStage_flowing stage
      rw [show st = .ended from ended] at flows
      exact Bool.noConfusion flows

theorem startLane_line (i : LaneNo) (s : State) : ((startLane i s).lane i).line = (s.lane i).line := by
  cases on : starts i s with
  | true => rw [startLane_of_starts on, lane_of_lanes (offerCheckpoint_lanes _ _), (started_lane on).1]
  | false => rw [startLane_of_rests on]

theorem startLane_lines (i : LaneNo) (s : State) (k : Nat) (other : (s.lane i).line ≠ some k) :
    (startLane i s).lines[k]? = s.lines[k]? := by
  cases on : starts i s with
  | true =>
    rw [startLane_of_starts on, State.lines, offerCheckpoint_pct, started_pct on]
    exact modHeld_lines_ne other _
  | false => rw [startLane_of_rests on]

theorem startLane_order : LaneOrder startLane where
  beyond i s := startLane_beyond i s
  line := startLane_line
  lines := startLane_lines

/-! #### START at each lane in turn -/

theorem mayMove_congr {i : LaneNo} {s t : State} (aside : t.aside = s.aside) (lane : t.lane i = s.lane i) : t.mayMove i = s.mayMove i := by
  have ilm := ilm_of_aside aside
  have stage : t.stage i = s.stage i := congrArg (·.stage) lane
  have latched : t.laneLatched i = s.laneLatched i := by rw [State.laneLatched, State.laneLatched, ilm]
  have arm : t.armOn i = s.armOn i := by rw [State.armOn, State.armOn, ilm]
  have fitted : t.fitted i = s.fitted i := by rw [State.fitted, State.fitted, laneCfg_of_cfg (cfg_of_aside aside)]
  rw [State.mayMove, State.mayMove, whole_of_aside aside, halted_of_aside aside, ilm, latched, arm, stage, fitted]

theorem holdsOpenLine_congr {i : LaneNo} {s t : State} (held : t.heldLine i = s.heldLine i) : holdsOpenLine t i = holdsOpenLine s i := by
  rw [holdsOpenLine, holdsOpenLine, held]

theorem starts_congr {i : LaneNo} {s t : State} (same : SameFor i s t) : starts i t = starts i s := by
  rw [starts, starts, mayMove_congr same.aside same.lane, holdsOpenLine_congr same.held]

theorem line_of_starts {i : LaneNo} {s : State} (on : starts i s = true) : (s.lane i).line ≠ none := by
  obtain ⟨-, -, -, l, held, -⟩ := startable_of_starts on
  intro none
  rw [State.heldLine, none] at held
  cases held

/-- A START at one lane changes for no other lane whether it starts. -/
theorem starts_startLane {i j : LaneNo} {s : State} (ne : i ≠ j) (own : starts i s = true → s.OwnLine i) :
    starts j (startLane i s) = starts j s := by
  cases on : starts i s with
  | false => rw [startLane_of_rests on]
  | true =>
    refine starts_congr (startLane_order.sameFor ne (.inr fun eq => ?_))
    exact (own on j (Ne.symm ne)).elim (line_of_starts on) (· eq.symm)

theorem startLane_queueOk (i : LaneNo) (s : State) (ok : s.QueueOk) : (startLane i s).QueueOk :=
  (queueOk_iff _).2 (startLane_stpHas queueWithin_law i ((queueOk_iff s).1 ok))

theorem startLane_stp_of_starts (i : LaneNo) (s : State) (on : starts i s = true) (ok : s.QueueOk) (flight : s.stp.flight.isSome = true) :
    (startLane i s).stp = { s.stp with queue := ((startLane i s).checkpoint i).toList.foldl withCheckpoint s.stp.queue } := by
  have stp := started_stp on
  rw [startLane_of_starts on, offerCheckpoint_checkpoint,
    offerCheckpoint_eq _ _ (by rw [State.QueueOk, stp]; exact ok) (by rw [stp]; exact flight), modStp_stp, stp]

theorem eachLane_startLane_stage {s : State} {i : LaneNo} (open_ : s.stage i ≠ .ended) : (s.eachLane startLane).stage i ≠ .ended := by
  have one (j : LaneNo) (t : State) (still : t.stage i ≠ .ended) : (startLane j t).stage i ≠ .ended := by
    by_cases eq : j = i
    · subst eq
      cases on : starts j t with
      | true =>
        rw [startLane_of_starts on, offerCheckpoint_stage]
        exact (started_lane on).2
      | false => rwa [startLane_of_rests on]
    · rwa [State.stage, startLane_order.lane_ne eq]
  have each : ∀ (lanes : List LaneNo) (t : State), t.stage i ≠ .ended → (lanes.foldl (fun u j => startLane j u) t).stage i ≠ .ended := by
    intro lanes
    induction lanes with
    | nil => exact fun _ still => still
    | cons j rest ih => exact fun t still => ih _ (one j t still)
  exact each allLanes s open_

/-- R72: a START in RELEASED offers one checkpoint of each lane that it opens or resumes. -/
theorem settle_start_checkpoints {s : State} (whole : s.whole = true) (bay : s.ilm.bayLatch = false) (halted : s.halted = false) :
    s.StartCheckpoints (settle (s.eachLane startLane)) := by
  intro lanes sub mem fitted calm ok flight own
  have started (i : LaneNo) : i ∈ lanes ↔ starts i s = true := ⟨fun m => starts_of_startable whole bay halted (fitted i m) ((mem i).1 m),
    fun on => (mem i).2 (startable_of_starts on)⟩
  have stp := foldl_orders_stp startLane_order (acts := starts) (fun i j t ne own => starts_startLane ne own)
    (fun i t off => by rw [startLane_of_rests off]) startLane_stp_of_starts startLane_queueOk allLanes_nodup ok flight
    fun i _ on => own i ((started i).2 on)
  have aside := foldl_orders_aside startLane_order allLanes s
  have quiet : (s.eachLane startLane).Calm := by
    obtain ⟨⟨departed, room⟩, offers⟩ := calm
    refine ⟨⟨?_, ?_⟩, ?_⟩
    · rw [State.eachLane, stp]
      exact departed
    · rw [State.eachLane, lif_of_aside aside]
      exact room
    · rw [State.eachLane, sul_of_aside aside]
      exact offers
  obtain ⟨queue, inFlight⟩ := settle_queue_flight quiet
  refine ⟨allLanes.filter (starts · s), ?_, ?_, ?_⟩
  · refine (List.perm_ext_iff_of_nodup (allLanes_nodup.filter _) (allLanes_nodup.sublist sub)).2 fun i => ?_
    rw [List.mem_filter, started]
    exact ⟨And.right, fun on => ⟨mem_allLanes i, on⟩⟩
  · rw [queue, List.filterMap_congr fun i m => ?_]
    · exact congrArg (·.queue) stp
    · refine settle_checkpoint (eachLane_startLane_stage ?_)
      obtain ⟨stage | ⟨cause, left, stage⟩, -⟩ := startable_of_starts (List.mem_filter.1 m).2 <;> rw [stage] <;> exact Stage.noConfusion
  · rw [inFlight]
    exact congrArg (·.flight) stp

/-! ### The START event -/

/-- The state with the START key pressed. -/
def State.startPressed (s : State) : State := { s with ilm := { s.ilm with startKey := true } }

theorem exec_start {s : State} (done : s.sul.done = true) (up : s.ilm.startKey = false) :
    exec .start s = finish (startEffect s.startPressed) := by
  change execStart s = _
  rw [execStart, up]
  exact congrArg finish (if_pos done)

theorem startEffect_released {s : State} (slot : s.pct.slot = .released) : startEffect s = s.eachLane startLane := by
  rw [startEffect, slot]

theorem settle_heldLine {s : State} {i : LaneNo} (open_ : s.stage i ≠ .ended) : (settle s).heldLine i = s.heldLine i := by
  rw [State.heldLine, settle_lane open_, settle_lines, State.heldLine]

theorem startPressed_checkpoints {s t : State} (h : s.startPressed.StartCheckpoints t) : s.StartCheckpoints t :=
  fun lanes sub mem fitted => (h lanes sub mem fitted).congr (fun calm => calm) rfl rfl

/-- What a START in RELEASED leaves at a lane that it starts: the lane and its line as its own order makes them. -/
theorem settle_start_at {s : State} {i : LaneNo} (on : starts i s = true) (own : s.OwnLine i) :
    (settle (s.eachLane startLane)).pct.slot = s.pct.slot ∧
    ∃ pre, SameFor i s pre ∧ starts i pre = true ∧ (settle (s.eachLane startLane)).lane i = (started i pre).lane i ∧
      (settle (s.eachLane startLane)).heldLine i = (s.heldLine i).map (startedLine i s) := by
  obtain ⟨pre, before, after⟩ := foldl_orders_at startLane_order allLanes_nodup (mem_allLanes i) own
  have onPre : starts i pre = true := (starts_congr before).trans on
  have ordered := startLane_of_starts onPre
  have laneIs : (s.eachLane startLane).lane i = (started i pre).lane i := by
    rw [State.eachLane, after.lane, ordered, lane_of_lanes (offerCheckpoint_lanes _ _)]
  obtain ⟨line, open_⟩ := started_lane onPre
  have stays : (s.eachLane startLane).stage i ≠ .ended := by
    rw [State.stage, laneIs]
    exact open_
  refine ⟨?_, pre, before, onPre, (settle_lane stays).trans laneIs, ?_⟩
  · rw [settle_slot]
    exact slot_of_aside (foldl_orders_aside startLane_order allLanes s)
  · have held : (started i pre).heldLine i = (pre.modHeld i (startedLine i pre)).heldLine i := by
      rw [State.heldLine, State.heldLine, line, lane_of_lanes (modHeld_lanes _ _ _), State.lines, started_pct onPre, State.lines]
    have same : startedLine i pre = startedLine i s := by
      funext l
      rw [startedLine, startedLine, State.stage, State.stage, before.lane]
    rw [settle_heldLine stays, State.eachLane, after.held, ordered, State.heldLine, lane_of_lanes (offerCheckpoint_lanes _ _),
      State.lines, offerCheckpoint_pct, ← State.lines, ← State.heldLine, held, modHeld_heldLine, before.held, same]

theorem ownLine_of_line {s : State} {i : LaneNo} {k : Nat} (line : (s.lane i).line = some k)
    (own : ∀ j : LaneNo, j ≠ i → (s.lane j).line ≠ some k) : s.OwnLine i := fun j ne => .inr (by rw [line]; exact own j ne)

theorem heldLine_of_line {s : State} {i : LaneNo} {k : Nat} (line : (s.lane i).line = some k) : s.heldLine i = s.lines[k]? := by
  rw [State.heldLine, line, Option.bind_some]

theorem closeDue_iff (preset gross learned : Nat) : closeDue preset gross learned = true ↔
    (preset : Int) * 1000 - gross ≤ learned * 1000 ∨ (preset : Int) * 1000 - gross ≤ 0 := by
  simp [closeDue, remaining]

theorem resumeStage_none {c : LaneCfg} {preset gross learned : Nat} (none : resumeStage c preset gross learned = .none) :
    closeDue preset gross learned = true := by
  unfold resumeStage at none
  split at none
  · assumption
  · repeat' split at none
    all_goals cases none

theorem resumeStage_some {c : LaneCfg} {preset gross learned : Nat} {st : Stage} (some : resumeStage c preset gross learned = .some st) :
    closeDue preset gross learned = false ∧ st = if gross < c.lowVolume * 1000 then Stage.lowFlow
      else if (preset : Int) * 1000 - gross ≤ (c.slowVolume : Int) * 1000 then Stage.slowdown else Stage.fullFlow := by
  unfold resumeStage at some
  split at some
  · cases some
  · rename_i off
    refine ⟨Bool.eq_false_iff.2 off, ?_⟩
    rw [← remaining]
    split at some
    · rw [if_pos ‹_›]
      exact (Option.some.inj some).symm
    · rw [if_neg ‹_›]
      split at some
      · rw [if_pos ‹_›]
        exact (Option.some.inj some).symm
      · rw [if_neg ‹_›]
        exact (Option.some.inj some).symm

/-! ### The release event (R3, R21) -/

theorem pctMark_modStp (r : WriteReq) (s : State) : ∃ stp marks, pctMark r s =
    { s with stp := stp, pct := { s.pct with heldMarks := marks } } := by
  have offered := enqueue_modStp ⟨r, false⟩ s
  unfold pctMark
  split
  · split
    · rename_i t e
      rw [e] at offered
      exact ⟨_, s.pct.heldMarks, offered⟩
    · rename_i t e
      rw [e] at offered
      dsimp only at offered ⊢
      rw [offered]
      split
      · exact ⟨_, _, rfl⟩
      · exact ⟨_, s.pct.heldMarks, rfl⟩
  · dsimp only
    split
    · exact ⟨s.stp, _, rfl⟩
    · exact ⟨s.stp, s.pct.heldMarks, rfl⟩

theorem pctMark_steady (r : WriteReq) (s : State) : (pctMark r s).steady = s.steady := by
  obtain ⟨stp, marks, e⟩ := pctMark_modStp r s
  rw [e]
  rfl

theorem pctMark_lanes (r : WriteReq) (s : State) : (pctMark r s).lanes = s.lanes := by
  obtain ⟨stp, marks, e⟩ := pctMark_modStp r s
  rw [e]

theorem pctMark_tail {r : WriteReq} {s : State} (plain : checkLine r = none) (unheld : s.pct.heldMarks = [])
    (room : s.stp.queue.length < 12) (flight : s.stp.flight.isSome = true) :
    pctMark r s = s.modStp fun p => { p with queue := p.queue ++ [⟨r, false⟩] } := by
  rw [pctMark, if_pos unheld, enqueue_tail plain room flight]

theorem releases_iff (s : State) : releases s = true ↔ s.whole = true ∧ s.ilm.bayLatch = false ∧
    (∀ i : LaneNo, s.laneLatched i = false) ∧ s.halted = false ∧
    ∃ l ∈ s.lines, l.status = .waiting ∧ ∃ i : LaneNo, l.lane = some i ∧ s.fitted i = true ∧ s.armOn i = true := by
  have some : someArm s = true ↔ ∃ l ∈ s.lines, l.status = .waiting ∧ ∃ i : LaneNo, l.lane = some i ∧ s.fitted i = true ∧ s.armOn i = true := by
    rw [someArm, List.any_eq_true]
    refine exists_congr fun l => and_congr_right fun _ => ?_
    cases l.lane <;> simp
  have latches : s.noLatch = true ↔ s.ilm.bayLatch = false ∧ ∀ i : LaneNo, s.laneLatched i = false := by
    simp [State.noLatch, mem_allLanes]
  rw [releases, Bool.and_eq_true, Bool.and_eq_true, Bool.and_eq_true, some, latches, Bool.not_eq_true']
  tauto

/-- The trip slot is RELEASED with this trip (R21). -/
def State.releasedAs (s : State) (t : Trip) : State := s.modPct fun p => { p with slot := .released, trip := some t, authTimer := none }

theorem release_eq {s : State} {t : Trip} (trip : s.pct.trip = some t) :
    release s = pctMark (.markOpen (markLines (releasedTrip s t)) (releasedTrip s t).marker) (s.releasedAs (releasedTrip s t)) := by
  rw [release, trip]
  rfl

/-! ### A lane that START leaves -/

/-- A START at one lane leaves a line that is not there, or that has been ended, as it is. -/
theorem startLane_heldLine {i j : LaneNo} {s : State} (shut : holdsOpenLine s j = false) (ne : i ≠ j) :
    (startLane i s).heldLine j = s.heldLine j := by
  cases on : starts i s with
  | false => rw [startLane_of_rests on]
  | true =>
    rw [State.heldLine, State.heldLine, startLane_order.lane_ne ne]
    cases line : (s.lane j).line with
    | none => rfl
    | some k =>
      refine startLane_order.lines i s k fun same => ?_
      have open_ : holdsOpenLine s i = true := by
        simp only [starts, Bool.and_eq_true] at on
        exact on.2
      rw [holdsOpenLine, heldLine_of_line same, ← heldLine_of_line line, ← holdsOpenLine, shut] at open_
      exact Bool.noConfusion open_

/-- A lane that START does not start is left, and another lane's start changes nothing of that. -/
theorem startLane_rests {i j : LaneNo} {s : State} (rests : starts j s = false) :
    (startLane i s).lane j = s.lane j ∧ starts j (startLane i s) = false := by
  by_cases eq : i = j
  · subst eq
    rw [startLane_of_rests rests]
    exact ⟨rfl, rests⟩
  · refine ⟨startLane_order.lane_ne eq s, ?_⟩
    have moves := mayMove_congr (startLane_order.aside i s) (startLane_order.lane_ne eq s)
    rw [starts, Bool.and_eq_false_iff] at rests ⊢
    rw [moves]
    exact rests.imp_right fun shut => by rw [holdsOpenLine_congr (startLane_heldLine shut eq), shut]

theorem eachLane_startLane_rests {j : LaneNo} {s : State} (rests : starts j s = false) : (s.eachLane startLane).lane j = s.lane j := by
  have each : ∀ (lanes : List LaneNo) (t : State), starts j t = false → (lanes.foldl (fun u i => startLane i u) t).lane j = t.lane j := by
    intro lanes
    induction lanes with
    | nil => exact fun _ _ => rfl
    | cons i rest ih =>
      intro t off
      obtain ⟨lane, still⟩ := startLane_rests (i := i) off
      exact (ih _ still).trans lane
  exact each allLanes s rests

theorem rests_of_failing {j : LaneNo} {s : State}
    (fails : s.whole = false ∨ s.ilm.bayLatch = true ∨ s.laneLatched j = true ∨ s.halted = true ∨ s.armOn j = false ∨
      s.heldLine j = none ∨ (∃ l reason, s.heldLine j = some l ∧ l.status = .ended reason) ∨
      (s.stage j ≠ .primed ∧ ∀ cause left, s.stage j ≠ .suspended cause left)) : starts j s = false := by
  rw [← Bool.not_eq_true]
  intro on
  obtain ⟨whole, bay, -, halted⟩ := conditions_of_starts on
  obtain ⟨stage, latch, arm, l, held, open_⟩ := startable_of_starts on
  rcases fails with h | h | h | h | h | h | ⟨l', reason, h, ended⟩ | ⟨primed, suspended⟩
  · rw [whole] at h
    cases h
  · rw [bay] at h
    cases h
  · rw [latch] at h
    cases h
  · rw [halted] at h
    cases h
  · rw [arm] at h
    cases h
  · rw [held] at h
    cases h
  · rw [held] at h
    cases h
    exact open_ reason ended
  · exact stage.elim primed fun ⟨cause, left, h⟩ => suspended cause left h

end Sys2Proof.Machine

open Sys2Proof Sys2Proof.Machine

/-- Settles O23, by what START leaves at the lane that it opens. -/
theorem startOpensCompartment : Obligations.StartOpensCompartment := by
  intro s i k l c done up slot stage line here cfg own whole bay latch halted arm notEnded
  have held : s.heldLine i = some l := (heldLine_of_line line).trans here
  have on : starts i s.startPressed = true := starts_of_startable (s := s.startPressed) whole bay halted
    (Option.isSome_iff_exists.2 ⟨c, cfg⟩) ⟨stage.imp_right fun ⟨cause, h⟩ => ⟨cause, .primed, h⟩, latch, arm, l, held, notEnded⟩
  obtain ⟨slotIs, pre, before, onPre, lane, heldIs⟩ := settle_start_at on (ownLine_of_line (s := s.startPressed) line own)
  have answer : exec .start s = .next (settle (s.startPressed.eachLane startLane)) :=
    (exec_start done up).trans (congrArg finish (startEffect_released (by exact slot)))
  have opens : started i pre = opened i pre := by
    obtain ⟨-, e⟩ | ⟨cause, left, _, h, ne, -⟩ := started_cases onPre
    · exact e
    · have same : pre.stage i = s.stage i := congrArg (·.stage) before.lane
      rw [same] at h
      rcases stage with h' | ⟨cause', h'⟩ <;> rw [h'] at h <;> cases h
      exact absurd rfl ne
  have asRecord : startedLine i s.startPressed = openRecord := by
    funext x
    rcases stage with h | ⟨cause, h⟩ <;> simp only [startedLine, show s.startPressed.stage i = _ from h]
  obtain ⟨limit, wanted, step, openedLane, wants⟩ := opened_lane onPre
  have wantedIs := wants c ((laneCfg_of_cfg (cfg_of_aside before.aside) i).trans cfg)
  rw [opens, openedLane, before.lane] at lane
  rw [show s.startPressed.heldLine i = some l from held, asRecord, Option.map_some] at heldIs
  have checks := startPressed_checkpoints (settle_start_checkpoints (s := s.startPressed) whole bay halted)
  generalize settle (s.startPressed.eachLane startLane) = t at answer lane heldIs slotIs checks
  have lineT : (t.lane i).line = some k := by rw [lane]; exact line
  rw [heldLine_of_line lineT] at heldIs
  refine ⟨t, openRecord l, _, answer, slotIs.trans slot, congrArg (·.stage) lane, lineT, congrArg (·.setpoint) lane, ?_,
    congrArg (·.hist) lane, congrArg (·.noFlow) lane, congrArg (·.openOut) lane, congrArg (·.holdOut) lane, congrArg (·.leak) lane,
    congrArg (·.leakCarry) lane, congrArg (·.piu) lane, congrArg (·.ven) lane, heldIs, rfl, rfl, rfl, rfl, rfl, rfl, rfl, rfl, rfl, ?_,
    checks⟩
  · rw [lane]
    exact wantedIs
  · simp [newAdditive]

/-- Settles O24, by whether the close is due at once. -/
theorem startResumes : Obligations.StartResumes := by
  intro s i k l c cause left done up slot stage compartment line here cfg own whole bay latch halted arm notEnded
  have held : s.heldLine i = some l := (heldLine_of_line line).trans here
  have on : starts i s.startPressed = true := starts_of_startable (s := s.startPressed) whole bay halted
    (Option.isSome_iff_exists.2 ⟨c, cfg⟩) ⟨.inr ⟨cause, left, stage⟩, latch, arm, l, held, notEnded⟩
  obtain ⟨slotIs, pre, before, onPre, lane, heldIs⟩ := settle_start_at on (ownLine_of_line (s := s.startPressed) line own)
  have answer : exec .start s = .next (settle (s.startPressed.eachLane startLane)) :=
    (exec_start done up).trans (congrArg finish (startEffect_released (by exact slot)))
  have resumes : started i pre = resumed c i pre := by
    have sameStage : pre.stage i = s.stage i := congrArg (·.stage) before.lane
    obtain ⟨h, -⟩ | ⟨_, _, c', -, -, cfg', e⟩ := started_cases onPre
    · rw [sameStage, stage] at h
      rcases h with h | ⟨cause', h⟩ <;> cases h
      exact absurd rfl compartment
    · rw [laneCfg_of_cfg (cfg_of_aside before.aside)] at cfg'
      obtain rfl : c = c' := Option.some.inj (cfg.symm.trans cfg')
      exact e
  have active : startedLine i s.startPressed = fun x => { x with status := .active } := by
    funext x
    cases left with
    | primed => exact absurd rfl compartment
    | _ => simp only [startedLine, show s.startPressed.stage i = _ from stage]
  rw [show s.startPressed.heldLine i = some l from held, active, Option.map_some] at heldIs
  have preset : pre.preset i = l.preset := by
    rw [State.preset, before.held, show s.startPressed.heldLine i = some l from held]
    rfl
  have gross : pre.gross i = s.gross i := by
    rw [State.gross, State.record, before.held]
    rfl
  have now : pre.now = s.startPressed.now := now_of_aside before.aside
  have resumedLane := resumed_lane c onPre
  rw [preset, gross, before.lane, now, ← resumes] at resumedLane
  have checks := startPressed_checkpoints (settle_start_checkpoints (s := s.startPressed) whole bay halted)
  generalize settle (s.startPressed.eachLane startLane) = t at answer lane heldIs slotIs checks
  rw [← lane] at resumedLane
  clear lane
  have settled : (t.lane i).line = some k ∧ (t.lane i).noFlow = 0 ∧ (t.lane i).setpoint = 0 ∧ (t.lane i).ven = (s.lane i).ven ∧
      (t.lane i).hist = (s.lane i).hist := by
    obtain ⟨-, e⟩ | ⟨st, wanted, hold, step, -, e, -⟩ := resumedLane <;> rw [e] <;> exact ⟨line, rfl, rfl, rfl, rfl⟩
  obtain ⟨lineT, noFlow, setpoint, ven, hist⟩ := settled
  rw [heldLine_of_line lineT] at heldIs
  refine ⟨t, answer, heldIs, lineT, noFlow, setpoint, ven, hist, checks, fun due => ?_, fun notDue => ?_⟩
  · have close := (closeDue_iff l.preset (s.gross i) (s.lane i).learned).2 due
    obtain ⟨-, e⟩ | ⟨st, wanted, hold, step, some, -, -⟩ := resumedLane
    · rw [State.stage, e]
      exact ⟨rfl, rfl, rfl, rfl, rfl, rfl⟩
    · have off := (resumeStage_some some).1
      rw [show (s.startPressed.lane i).learned = (s.lane i).learned from rfl, close] at off
      exact Bool.noConfusion off
  · obtain ⟨none, -⟩ | ⟨st, wanted, hold, step, some, e, holds⟩ := resumedLane
    · exact absurd ((closeDue_iff _ _ _).1 (resumeStage_none none)) notDue
    · rw [State.stage, e]
      exact ⟨(resumeStage_some some).2, rfl, holds⟩

/-- Settles O22, by the trip slot's state. -/
theorem startEvent : Obligations.StartEvent := by
  refine ⟨fun s tr done up slot trip => ?_, fun s done up => ⟨fun slot => ?_, fun released authorized => ?_⟩⟩
  · have answer := exec_start done up
    rw [startEffect, show s.startPressed.pct.slot = .authorized from slot] at answer
    have cond := releases_iff s.startPressed
    rw [show s.startPressed.lines = tr.lines by rw [State.lines, show s.startPressed.pct.trip = some tr from trip]; rfl] at cond
    refine ⟨fun holds => ?_, fun fails => ?_⟩
    · rw [if_pos (cond.2 holds), release_eq (by exact trip)] at answer
      refine ⟨leaves_of_steady answer (pctMark_steady _ _) (pctMark_lanes _ _), fun calm unheld room flight t next => ?_⟩
      obtain rfl := Host.Outcome.next.inj (answer.symm.trans next)
      rw [pctMark_tail rfl (by exact unheld) (by exact room) (by exact flight)]
      exact (settle_queue_flight (by exact calm)).1
    · rw [if_neg fun holds => fails (cond.1 holds)] at answer
      exact leaves_of_finish answer
  · have answer : exec .start s = .next (settle (s.startPressed.eachLane startLane)) :=
      (exec_start done up).trans (congrArg finish (startEffect_released (by exact slot)))
    refine ⟨_, answer, ?_, fun i open_ fails => ?_⟩
    · rw [settle_slot]
      exact (slot_of_aside (foldl_orders_aside startLane_order allLanes s.startPressed)).trans slot
    · have lane := eachLane_startLane_rests (j := i) (s := s.startPressed) (rests_of_failing (s := s.startPressed) fails)
      rw [settle_lane (by rw [State.stage, lane]; exact open_), lane]
      rfl
  · have answer := exec_start done up
    have none : startEffect s.startPressed = s.startPressed := by
      unfold startEffect
      split
      · exact absurd ‹_› authorized
      · exact absurd ‹_› released
      · rfl
    rw [none] at answer
    exact leaves_of_finish answer

end

section
/-! The permissive inputs (R28 to R30, R32, R58). -/

namespace Sys2Proof.Machine

/-! ### What an order to each lane in turn makes of one lane and of the order lines -/

section

variable {f : LaneNo → State → State} (order : LaneOrder f)

include order

/-- An order that makes of its lane what the lane alone says makes that of each lane in turn. -/
theorem foldl_orders_lane_self {lanes : List LaneNo} (once : lanes.Nodup) {j : LaneNo} (mem : j ∈ lanes) {s : State} {g : Lane → Lane}
    (one : ∀ t : State, t.aside = s.aside → (f j t).lane j = g (t.lane j)) :
    (lanes.foldl (fun t i => f i t) s).lane j = g (s.lane j) := by
  induction lanes generalizing s with
  | nil => cases mem
  | cons i rest ih =>
    obtain ⟨out, once⟩ := List.nodup_cons.1 once
    rw [List.foldl_cons]
    by_cases eq : i = j
    · subst eq
      rw [foldl_orders_lane order out, one s rfl]
    · rw [ih once ((List.mem_cons.1 mem).resolve_left (Ne.symm eq)) fun t same => one t (same.trans (order.aside i s)), order.lane_ne eq]

end

/-- An order that changes the order lines of the lanes that it hits changes each line that a lane hit holds, once. -/
theorem foldl_orders_lines {f : LaneNo → State → State} {hits : LaneNo → State → Nat → Bool} {g : OrderLine → OrderLine} (idem : ∀ l, g (g l) = g l)
    (one : ∀ i s (k : Nat), (f i s).lines[k]? = s.lines[k]?.map fun l => if hits i s k then g l else l)
    (kept : ∀ i j s k, i ≠ j → hits j (f i s) k = hits j s k) {lanes : List LaneNo} (once : lanes.Nodup) (s : State) (k : Nat) :
    (lanes.foldl (fun t i => f i t) s).lines[k]? = s.lines[k]?.map fun l => if lanes.any (hits · s k) then g l else l := by
  induction lanes generalizing s with
  | nil => simp
  | cons i rest ih =>
    obtain ⟨out, once⟩ := List.nodup_cons.1 once
    have others : rest.any (hits · (f i s) k) = rest.any (hits · s k) := by
      rw [Bool.eq_iff_iff, List.any_eq_true, List.any_eq_true]
      exact exists_congr fun j => and_congr_right fun mem => by rw [kept i j s k (ne_of_mem_of_not_mem mem out).symm]
    rw [List.foldl_cons, ih once, others, one, Option.map_map, List.any_cons]
    congr 1
    funext l
    cases hits i s k <;> simp [idem]

/-- An order line that a lane holds is changed at the place of that line. -/
theorem modHeld_lines_if (i : LaneNo) (s : State) (g : OrderLine → OrderLine) (k : Nat) : (s.modHeld i g).lines[k]? =
    s.lines[k]?.map fun l => if decide ((s.lane i).line = some k) then g l else l := by
  unfold State.modHeld
  cases h : (s.lane i).line with
  | none => simp
  | some n => simp [List.getElem?_modify]

/-! ### The record of a lane in CLOSING is marked (R32) -/

/-- R32: the order line with its record marked LAPSE-IN-CLOSING. -/
def lapseMarked (l : OrderLine) : OrderLine :=
  { l with record := l.record.map fun r => { r with flags := { r.flags with lapseInClosing := true } } }

theorem lapseMarked_idem (l : OrderLine) : lapseMarked (lapseMarked l) = lapseMarked l := by
  cases record : l.record <;> simp [lapseMarked, record]

theorem markLapse_of_closing {i : LaneNo} {s : State} (closing : s.stage i = .closing) : markLapse i s = s.modHeld i lapseMarked :=
  if_pos closing

theorem markLapse_of_not {i : LaneNo} {s : State} (other : s.stage i ≠ .closing) : markLapse i s = s := if_neg other

theorem markLapse_lanes (i : LaneNo) (s : State) : (markLapse i s).lanes = s.lanes := by
  by_cases h : s.stage i = .closing
  · rw [markLapse_of_closing h, modHeld_lanes]
  · rw [markLapse_of_not h]

/-- A lane in CLOSING holds order line `k`. -/
def closesOn (i : LaneNo) (s : State) (k : Nat) : Bool := decide (s.stage i = .closing) && decide ((s.lane i).line = some k)

theorem markLapse_lines (i : LaneNo) (s : State) (k : Nat) :
    (markLapse i s).lines[k]? = s.lines[k]?.map fun l => if closesOn i s k then lapseMarked l else l := by
  by_cases h : s.stage i = .closing
  · rw [markLapse_of_closing h, modHeld_lines_if]
    simp only [closesOn, h, decide_true, Bool.true_and]
  · rw [markLapse_of_not h]
    simp [closesOn, h]

theorem markLapse_order : LaneOrder markLapse where
  beyond i s := by
    unfold markLapse
    split
    · exact modFlags_beyond i s i _
    · rfl
  line i s := by rw [lane_of_lanes (markLapse_lanes i s)]
  lines i s k other := by
    rw [markLapse_lines]
    simp [closesOn, other]

theorem eachLane_markLapse_lanes (s : State) : (s.eachLane markLapse).lanes = s.lanes := by
  have each : ∀ (lanes : List LaneNo) (t : State), (lanes.foldl (fun u i => markLapse i u) t).lanes = t.lanes := by
    intro lanes
    induction lanes with
    | nil => exact fun _ => rfl
    | cons i rest ih => exact fun t => (ih _).trans (markLapse_lanes i t)
  exact each allLanes s

theorem eachLane_markLapse_stp (s : State) : (s.eachLane markLapse).stp = s.stp := by
  have one (i : LaneNo) (t : State) : (markLapse i t).stp = t.stp := by
    by_cases h : t.stage i = .closing
    · rw [markLapse_of_closing h, modHeld_stp]
    · rw [markLapse_of_not h]
  have each : ∀ (lanes : List LaneNo) (t : State), (lanes.foldl (fun u i => markLapse i u) t).stp = t.stp := by
    intro lanes
    induction lanes with
    | nil => exact fun _ => rfl
    | cons i rest ih => exact fun t => (ih _).trans (one i t)
  exact each allLanes s

theorem eachLane_markLapse_lines (s : State) (k : Nat) : (s.eachLane markLapse).lines[k]? =
    s.lines[k]?.map fun l => if allLanes.any (closesOn · s k) then lapseMarked l else l :=
  foldl_orders_lines (f := markLapse) lapseMarked_idem markLapse_lines (fun i j t k ne => by
    rw [closesOn, closesOn, State.stage, State.stage, lane_of_lanes (markLapse_lanes i t)]) allLanes_nodup s k

/-! ### A flowing or PRIMED lane is suspended (R30) -/

/-- R30, R49: a lane as the bay latch leaves it. -/
def Lane.lapsed (l : Lane) : Lane :=
  match l.stage with
  | .primed => { l with stage := .suspended .lapse .primed, setpoint := 0, wanted := 0 }
  | _ => l.suspend .lapse

/-- The lane flows or is PRIMED, and the bay latch suspends it. -/
def lapses (i : LaneNo) (s : State) : Bool := (s.stage i).flowing || decide (s.stage i = .primed)

theorem lapseLane_of_flowing {i : LaneNo} {s : State} {left : LeftStage} (flows : (s.stage i).flowing = true)
    (leaves : leftOf (s.stage i) = some left) : lapseLane i s = suspendFlowing i .lapse left s := by
  rw [lapseLane, if_pos (.inl flows), suspendLane_of_flowing .lapse flows leaves]

theorem lapseLane_of_primed {i : LaneNo} {s : State} (primed : s.stage i = .primed) : lapseLane i s = suspendPrimed i s := by
  rw [lapseLane, if_pos (.inr primed)]
  simp only [suspendLane, primed]

theorem lapseLane_of_not {i : LaneNo} {s : State} (stays : lapses i s = false) : lapseLane i s = s := by
  refine if_neg fun moves => ?_
  rcases moves with h | h <;> simp [lapses, h] at stays

/-- What the bay latch orders at a lane: a flowing one is suspended with a checkpoint, a PRIMED one without, any other stays. -/
theorem lapseLane_cases (i : LaneNo) (s : State) :
    (∃ left, (s.stage i).flowing = true ∧ leftOf (s.stage i) = some left ∧ lapseLane i s = suspendFlowing i .lapse left s) ∨
    (s.stage i = .primed ∧ lapseLane i s = suspendPrimed i s) ∨
    (lapses i s = false ∧ lapseLane i s = s) := by
  by_cases flows : (s.stage i).flowing = true
  · obtain ⟨left, leaves⟩ := leftOf_of_flowing flows
    exact .inl ⟨left, flows, leaves, lapseLane_of_flowing flows leaves⟩
  · by_cases primed : s.stage i = .primed
    · exact .inr (.inl ⟨primed, lapseLane_of_primed primed⟩)
    · have stays : lapses i s = false := by simp [lapses, flows, primed]
      exact .inr (.inr ⟨stays, lapseLane_of_not stays⟩)

theorem suspendPrimed_lane (i : LaneNo) (s : State) : (suspendPrimed i s).lane i =
    { s.lane i with stage := .suspended .lapse .primed, setpoint := 0, wanted := 0 } := by
  rw [suspendPrimed, setStage_lane_of_not_flowing rfl, setStatus, lane_of_lanes (modHeld_lanes _ _ _)]

theorem suspendPrimed_stp (i : LaneNo) (s : State) : (suspendPrimed i s).stp = s.stp := by
  rw [suspendPrimed, setStage_eq rfl, modLane_stp, setStatus, modHeld_stp]

theorem suspendPrimed_lines (i : LaneNo) (s : State) : (suspendPrimed i s).lines = (setStatus i (.suspended .lapse) s).lines := by
  rw [suspendPrimed, setStage_eq rfl]
  rfl

theorem lapseLane_lane (i : LaneNo) (s : State) : (lapseLane i s).lane i = (s.lane i).lapsed := by
  obtain ⟨left, flows, leaves, e⟩ | ⟨primed, e⟩ | ⟨stays, e⟩ := lapseLane_cases i s
  · have plain : (s.lane i).lapsed = (s.lane i).suspend .lapse := by
      rcases flowing_cases flows leaves with ⟨h, -⟩ | ⟨h, -⟩ | ⟨h, -⟩ <;> rw [Lane.lapsed, show (s.lane i).stage = _ from h]
    rw [e, suspendFlowing_lane, plain, Lane.suspend_of_flowing flows leaves]
  · rw [e, suspendPrimed_lane, Lane.lapsed, show (s.lane i).stage = .primed from primed]
  · simp only [lapses, Bool.or_eq_false_iff, decide_eq_false_iff_not] at stays
    rw [e, Lane.lapsed]
    split
    · exact absurd ‹_› stays.2
    · rw [Lane.suspend_of_not_flowing stays.1]

theorem Lane.lapsed_line (l : Lane) : l.lapsed.line = l.line := by
  unfold Lane.lapsed
  split
  · rfl
  · exact Lane.suspend_line _ _

/-- The bay latch suspends a lane that holds order line `k`. -/
def lapsesOn (i : LaneNo) (s : State) (k : Nat) : Bool := lapses i s && decide ((s.lane i).line = some k)

/-- The order line SUSPENDED(LAPSE). -/
def lapsedLine (l : OrderLine) : OrderLine := { l with status := .suspended .lapse }

theorem lapseLane_lines (i : LaneNo) (s : State) (k : Nat) :
    (lapseLane i s).lines[k]? = s.lines[k]?.map fun l => if lapsesOn i s k then lapsedLine l else l := by
  obtain ⟨left, flows, -, e⟩ | ⟨primed, e⟩ | ⟨stays, e⟩ := lapseLane_cases i s
  · rw [e, suspendFlowing_lines]
    simp only [lapsesOn, lapses, flows, Bool.true_or, Bool.true_and, decide_eq_true_eq]
    rfl
  · rw [e, suspendPrimed_lines, setStatus_lines]
    simp only [lapsesOn, lapses, primed, decide_true, Bool.or_true, Bool.true_and, decide_eq_true_eq]
    rfl
  · rw [e]
    simp [lapsesOn, stays]

theorem lapseLane_order : LaneOrder lapseLane where
  beyond i s := by
    obtain ⟨left, -, -, e⟩ | ⟨-, e⟩ | ⟨-, e⟩ := lapseLane_cases i s
    · rw [e]
      exact suspendFlowing_beyond ..
    · rw [e, suspendPrimed]
      simp [setStage, setStatus]
    · rw [e]
  line i s := by rw [lapseLane_lane, Lane.lapsed_line]
  lines i s k other := by
    rw [lapseLane_lines]
    simp [lapsesOn, other]

theorem eachLane_lapseLane_lane (s : State) (i : LaneNo) : (s.eachLane lapseLane).lane i = (s.lane i).lapsed :=
  foldl_orders_lane_self lapseLane_order allLanes_nodup (mem_allLanes i) fun t _ => lapseLane_lane i t

theorem lapses_lapseLane {i j : LaneNo} (ne : i ≠ j) (s : State) : lapses j (lapseLane i s) = lapses j s := by
  rw [lapses, lapses, State.stage, State.stage, lapseLane_order.lane_ne ne]

theorem eachLane_lapseLane_lines (s : State) (k : Nat) : (s.eachLane lapseLane).lines[k]? =
    s.lines[k]?.map fun l => if allLanes.any (lapsesOn · s k) then lapsedLine l else l :=
  foldl_orders_lines (f := lapseLane) (g := lapsedLine) (fun _ => rfl) lapseLane_lines (fun i j t k ne => by
    rw [lapsesOn, lapsesOn, lapses_lapseLane ne, lapseLane_order.lane_ne ne]) allLanes_nodup s k

/-- R72: while a write is in flight, the bay latch offers one checkpoint of each flowing lane. -/
theorem eachLane_lapseLane_stp {s : State} (ok : s.QueueOk) (flight : s.stp.flight.isSome = true)
    (own : ∀ i ∈ s.flowingLanes, s.OwnLine i) : (s.eachLane lapseLane).stp = { s.stp with
      queue := (s.flowingLanes.filterMap (s.eachLane lapseLane).checkpoint).foldl withCheckpoint s.stp.queue } := by
  refine foldl_orders_stp (f := lapseLane) lapseLane_order (acts := fun i t => (t.stage i).flowing) (fun i j t ne _ => ?_)
    (fun i t still => ?_) (fun i t flows ok flight => ?_) (fun i t ok => ?_) allLanes_nodup ok flight
    fun i mem flows => own i (List.mem_filter.2 ⟨mem, flows⟩)
  · rw [State.stage, State.stage, lapseLane_order.lane_ne ne]
  · obtain ⟨_, flows, -⟩ | ⟨-, e⟩ | ⟨-, e⟩ := lapseLane_cases i t
    · rw [still] at flows
      exact Bool.noConfusion flows
    · rw [e, suspendPrimed_stp]
    · rw [e]
  · obtain ⟨left, leaves⟩ := leftOf_of_flowing flows
    rw [lapseLane_of_flowing flows leaves]
    exact suspendFlowing_stp i .lapse left ok flight
  · rw [queueOk_iff] at ok ⊢
    obtain ⟨left, -, -, e⟩ | ⟨-, e⟩ | ⟨-, e⟩ := lapseLane_cases i t
    · rw [e]
      exact suspendFlowing_stpHas queueWithin_law _ _ _ ok
    · rw [e, State.StpHas, suspendPrimed_stp]
      exact ok
    · rwa [e]

/-! ### The outputs of a flowing lane are removed (R29, R58) -/

/-- R29: a lane under a broken permissive set. -/
def Lane.dropped (l : Lane) (whole : Bool) : Lane :=
  if l.stage.flowing ∧ !whole then { l with openOut := false, holdOut := false, step := none } else l

theorem dropOutputs_eq (i : LaneNo) (s : State) : dropOutputs i s = s.modLane i fun l => l.dropped s.whole := by
  have self : s.modLane i (fun l => l) = s := by
    have same : s.lanes.set i s.lanes[i] = s.lanes := by simp
    show { s with lanes := s.lanes.set i s.lanes[i] } = s
    rw [same]
  unfold dropOutputs
  split
  · rename_i h
    have same : (s.lane i).dropped s.whole = { s.lane i with openOut := false, holdOut := false, step := none } := if_pos h
    show { s with lanes := s.lanes.set i _ } = { s with lanes := s.lanes.set i ((s.lane i).dropped s.whole) }
    rw [same]
    rfl
  · rename_i h
    have same : (s.lane i).dropped s.whole = s.lane i := if_neg h
    show s = { s with lanes := s.lanes.set i ((s.lane i).dropped s.whole) }
    rw [same]
    exact self.symm

theorem Lane.dropped_line (l : Lane) (whole : Bool) : (l.dropped whole).line = l.line := by
  unfold Lane.dropped
  split <;> rfl

theorem Lane.dropped_stage (l : Lane) (whole : Bool) : (l.dropped whole).stage = l.stage := by
  unfold Lane.dropped
  split <;> rfl

theorem Lane.dropped_setpoint (l : Lane) (whole : Bool) : (l.dropped whole).setpoint = l.setpoint := by
  unfold Lane.dropped
  split <;> rfl

theorem Lane.dropped_of_not_flowing {l : Lane} (still : l.stage.flowing = false) (whole : Bool) : l.dropped whole = l := by
  rw [Lane.dropped, still]
  exact if_neg fun h => Bool.noConfusion h.1

theorem dropOutputs_order : LaneOrder dropOutputs where
  beyond i s := by rw [dropOutputs_eq, modLane_beyond]
  line i s := by rw [dropOutputs_eq, modLane_lane_self, Lane.dropped_line]
  lines i s k _ := by rw [dropOutputs_eq]; rfl

theorem eachLane_dropOutputs_lane (s : State) (i : LaneNo) : (s.eachLane dropOutputs).lane i = (s.lane i).dropped s.whole := by
  refine foldl_orders_lane_self (g := fun l => l.dropped s.whole) dropOutputs_order allLanes_nodup (mem_allLanes i) fun t same => ?_
  rw [dropOutputs_eq, modLane_lane_self, whole_of_aside same]

theorem eachLane_dropOutputs_eq (s : State) : ∃ lanes, s.eachLane dropOutputs = { s with lanes := lanes } := by
  have each : ∀ (l : List LaneNo) (t : State), ∃ lanes, l.foldl (fun u i => dropOutputs i u) t = { t with lanes := lanes } := by
    intro l
    induction l with
    | nil => exact fun t => ⟨t.lanes, rfl⟩
    | cons i rest ih =>
      intro t
      obtain ⟨lanes, e⟩ := ih (dropOutputs i t)
      refine ⟨lanes, e.trans ?_⟩
      rw [dropOutputs_eq]
      rfl
  exact each allLanes s

/-! ### The event (R28 to R30) -/

/-- The state with the level of a permissive input taken. -/
def State.levelTaken (s : State) (p : Permissive) (good : Bool) : State := { s with ilm := s.ilm.setLevel p good }

theorem setLevel_level (m : Ilm) (p q : Permissive) (good : Bool) : (m.setLevel p good).level q = if q = p then good else m.level q := by
  cases p <;> cases q <;> rfl

theorem setLevel_latches (m : Ilm) (p : Permissive) (good : Bool) : (m.setLevel p good).bayLatch = m.bayLatch ∧
    (m.setLevel p good).laneLatch = m.laneLatch ∧ (m.setLevel p good).leakAlarm = m.leakAlarm := by
  cases p <;> exact ⟨rfl, rfl, rfl⟩

theorem whole_eq (s : State) : s.whole = (s.ilm.level .ground && s.ilm.level .overfill && s.ilm.level .vapour && s.ilm.level .estop) := rfl

theorem whole_of_level {s : State} {p : Permissive} (bad : s.ilm.level p = false) : s.whole = false := by
  rw [whole_eq]
  cases p <;> simp [bad]

theorem levelTaken_bad (s : State) (p : Permissive) : (s.levelTaken p false).ilm.level p = false := by
  rw [State.levelTaken, setLevel_level, if_pos rfl]

theorem exec_permissiveChange {s : State} {p : Permissive} {good : Bool} (change : s.ilm.level p ≠ good) :
    exec (.permissiveChange p good) s =
      finish (if s.sul.done then permissiveEffect good (s.levelTaken p good) else s.levelTaken p good) := by
  change execPermissiveChange p good s = _
  rw [execPermissiveChange, if_neg change]
  rfl

/-! #### A drop with the bay latch clear, and with it set -/

/-- The state with every record in CLOSING marked and the bay latch set, its lanes not ordered yet. -/
def State.bayLatched (s : State) : State := (s.eachLane markLapse).modIlm fun m => { m with bayLatch := true }

theorem eachLane_markLapse_ilm (s : State) : (s.eachLane markLapse).ilm = s.ilm :=
  ilm_of_aside (foldl_orders_aside markLapse_order allLanes s)

theorem permissiveDrop_set {s : State} (set : s.ilm.bayLatch = true) : permissiveDrop s = s.eachLane markLapse := by
  rw [permissiveDrop, eachLane_markLapse_ilm]
  exact if_pos set

theorem permissiveDrop_clear {s : State} (clear : s.ilm.bayLatch = false) : permissiveDrop s = s.bayLatched.eachLane lapseLane := by
  rw [permissiveDrop, eachLane_markLapse_ilm]
  exact if_neg (by rw [clear]; exact Bool.false_ne_true)

theorem bayLatched_lanes (s : State) : s.bayLatched.lanes = s.lanes := (modIlm_lanes _ _).trans (eachLane_markLapse_lanes s)

theorem bayLatched_lane (s : State) (i : LaneNo) : s.bayLatched.lane i = s.lane i := lane_of_lanes (bayLatched_lanes s) i

theorem bayLatched_stp (s : State) : s.bayLatched.stp = s.stp := (modIlm_stp _ _).trans (eachLane_markLapse_stp s)

theorem Lane.lapsed_of_leaves {l : Lane} {left : LeftStage} (leaves : leftOf l.stage = some left) :
    l.lapsed.stage = .suspended .lapse left ∧ l.lapsed.setpoint = 0 ∧ l.lapsed.wanted = 0 := by
  unfold Lane.lapsed
  split
  · rename_i primed
    rw [primed] at leaves
    cases leaves
    exact ⟨rfl, rfl, rfl⟩
  · rename_i other
    have flows : l.stage.flowing = true := by
      cases h : l.stage <;> rw [h] at leaves other <;> first | rfl | exact absurd rfl other | cases leaves
    rw [Lane.suspend_of_flowing flows leaves]
    exact ⟨rfl, rfl, rfl⟩

theorem leftOf_none {st : Stage} (none : leftOf st = .none) : st.flowing = false ∧ st ≠ .primed := by
  cases st <;> simp_all [leftOf, Stage.flowing]

theorem Lane.lapsed_of_not {l : Lane} (none : leftOf l.stage = .none) : l.lapsed = l := by
  obtain ⟨still, other⟩ := leftOf_none none
  unfold Lane.lapsed
  split
  · exact absurd ‹_› other
  · exact Lane.suspend_of_not_flowing still

/-- R58: the outputs of a flowing lane are off when the set is broken, whether it was suspended or not. -/
theorem Lane.dropped_outputs {l : Lane} (flows : l.stage.flowing = true) : (l.dropped false).openOut = false ∧
    (l.dropped false).holdOut = false ∧ (l.dropped false).step = none := by
  rw [Lane.dropped, if_pos ⟨flows, rfl⟩]
  exact ⟨rfl, rfl, rfl⟩

theorem Lane.lapsed_dropped (l : Lane) (whole : Bool) : l.lapsed.dropped whole = l.lapsed := by
  refine Lane.dropped_of_not_flowing ?_ whole
  cases left : leftOf l.stage with
  | some left' =>
    obtain ⟨stage, -⟩ := Lane.lapsed_of_leaves left
    rw [stage]
    rfl
  | none =>
    rw [Lane.lapsed_of_not left]
    exact (leftOf_none left).1

theorem Lane.lapsed_outputs {l : Lane} (flows : l.stage.flowing = true) : l.lapsed.openOut = false ∧
    l.lapsed.holdOut = false ∧ l.lapsed.step = none := by
  obtain ⟨left, leaves⟩ := leftOf_of_flowing flows
  rcases flowing_cases flows leaves with ⟨h, -⟩ | ⟨h, -⟩ | ⟨h, -⟩ <;> simp [Lane.lapsed, Lane.suspend, Lane.suspendedFrom, h]

/-- What the drop of a permissive leaves of the state `s`, in RELEASED or not; `suspends` says that the bay latch was set by it. -/
structure PermissiveLost (released suspends : Bool) (s u : State) : Prop where
  ilm : u.ilm = { s.ilm with bayLatch := s.ilm.bayLatch || released }
  slot : u.pct.slot = s.pct.slot
  lane : ∀ i, u.lane i = if suspends then (s.lane i).lapsed else (s.lane i).dropped false
  lines : ∀ k : Nat, u.lines[k]? = s.lines[k]?.map fun l =>
    (fun m => if suspends && allLanes.any (lapsesOn · s k) then lapsedLine m else m)
      (if released && allLanes.any (closesOn · s k) then lapseMarked l else l)
  checkpoints : s.Checkpoints (settle u) (if suspends then s.flowingLanes else [])

theorem eachLane_dropOutputs_settled {s w : State} {released suspends : Bool} (broken : w.whole = false)
    (ilm : w.ilm = { s.ilm with bayLatch := s.ilm.bayLatch || released }) (slot : w.pct.slot = s.pct.slot)
    (lane : ∀ i, w.lane i = if suspends then (s.lane i).lapsed else s.lane i)
    (lines : ∀ k : Nat, w.lines[k]? = s.lines[k]?.map fun l =>
      (fun m => if suspends && allLanes.any (lapsesOn · s k) then lapsedLine m else m)
        (if released && allLanes.any (closesOn · s k) then lapseMarked l else l))
    (checkpoints : s.Checkpoints (settle (w.eachLane dropOutputs)) (if suspends then s.flowingLanes else [])) :
    PermissiveLost released suspends s (w.eachLane dropOutputs) := by
  obtain ⟨lanes, e⟩ := eachLane_dropOutputs_eq w
  refine ⟨?_, ?_, fun i => ?_, fun k => ?_, checkpoints⟩
  · rw [e]
    exact ilm
  · rw [e]
    exact slot
  · rw [eachLane_dropOutputs_lane, lane, broken]
    cases suspends with
    | true => rw [if_pos rfl, if_pos rfl, Lane.lapsed_dropped]
    | false => rw [if_neg Bool.false_ne_true, if_neg Bool.false_ne_true]
  · rw [e]
    exact lines k

theorem permissiveEffect_good (s : State) : permissiveEffect true s = s.eachLane dropOutputs := by
  rw [permissiveEffect, if_neg fun h => Bool.noConfusion h.1]

theorem permissiveEffect_unreleased {s : State} (slot : s.pct.slot ≠ .released) (good : Bool) :
    permissiveEffect good s = s.eachLane dropOutputs := by
  rw [permissiveEffect, if_neg fun h => slot h.2]

theorem permissiveEffect_released {s : State} (slot : s.pct.slot = .released) :
    permissiveEffect false s = (permissiveDrop s).eachLane dropOutputs := by
  rw [permissiveEffect, if_pos ⟨rfl, slot⟩]

theorem bayLatch_unlost (m : Ilm) : m = { m with bayLatch := m.bayLatch || false } := by
  rw [Bool.or_false]

/-- R29: in another slot state than RELEASED a drop takes the outputs alone. -/
theorem permissiveLost_unreleased {s : State} (broken : s.whole = false) (slot : s.pct.slot ≠ .released) :
    PermissiveLost false false s (permissiveEffect false s) := by
  rw [permissiveEffect_unreleased slot]
  refine eachLane_dropOutputs_settled broken (bayLatch_unlost _) rfl (fun i => (if_neg Bool.false_ne_true).symm) (fun k => ?_) ?_
  · simp
  · obtain ⟨lanes, e⟩ := eachLane_dropOutputs_eq s
    rw [e]
    exact checkpoints_of_none (fun calm => calm) rfl

/-- R32: with the bay latch set a drop marks the records in CLOSING and takes the outputs. -/
theorem permissiveLost_set {s : State} (broken : s.whole = false) (slot : s.pct.slot = .released) (set : s.ilm.bayLatch = true) :
    PermissiveLost true false s (permissiveEffect false s) := by
  have aside := foldl_orders_aside markLapse_order allLanes s
  have stp := eachLane_markLapse_stp s
  rw [permissiveEffect_released slot, permissiveDrop_set set]
  refine eachLane_dropOutputs_settled ((whole_of_aside aside).trans broken) ?_ (slot_of_aside aside)
    (fun i => (lane_of_lanes (eachLane_markLapse_lanes s) i).trans (if_neg Bool.false_ne_true).symm) (fun k => ?_) ?_
  · rw [eachLane_markLapse_ilm, set, Bool.true_or, ← set]
  · rw [eachLane_markLapse_lines]
    simp
  · obtain ⟨lanes, e⟩ := eachLane_dropOutputs_eq (s.eachLane markLapse)
    rw [if_neg Bool.false_ne_true, e]
    have lif := lif_of_aside aside
    have sul := sul_of_aside aside
    rw [← State.eachLane] at lif sul
    generalize s.eachLane markLapse = w at stp lif sul
    exact checkpoints_of_none (u := { w with lanes := lanes }) (fun calm => calm_of_same stp lif sul calm) stp

theorem bayLatched_ilm (s : State) : s.bayLatched.ilm = { s.ilm with bayLatch := true } := by
  rw [State.bayLatched, modIlm_ilm, eachLane_markLapse_ilm]

theorem bayLatched_lines (s : State) (k : Nat) : s.bayLatched.lines[k]? =
    s.lines[k]?.map fun l => if allLanes.any (closesOn · s k) then lapseMarked l else l := by
  rw [← eachLane_markLapse_lines]
  rfl

/-- R72: the checkpoints of a drop that sets the bay latch. -/
theorem permissiveDrop_checkpoints (s : State) :
    s.Checkpoints (settle ((s.bayLatched.eachLane lapseLane).eachLane dropOutputs)) s.flowingLanes := by
  intro calm ok flight own
  have aside := foldl_orders_aside markLapse_order allLanes s
  have same := flowingLanes_of_lanes (bayLatched_lanes s)
  have stp := eachLane_lapseLane_stp (s := s.bayLatched) (by rw [State.QueueOk, bayLatched_stp]; exact ok)
    (by rw [bayLatched_stp]; exact flight) fun i mem j ne => by
      rw [bayLatched_lane, bayLatched_lane]
      exact own i (by rwa [← same]) j ne
  have after := foldl_orders_aside lapseLane_order allLanes s.bayLatched
  have lapsed := eachLane_lapseLane_lane s.bayLatched
  rw [← State.eachLane] at after
  have lif : s.bayLatched.lif = s.lif := (modIlm_lif _ _).trans (lif_of_aside aside)
  have sul : s.bayLatched.sul = s.sul := (modIlm_sul _ _).trans (sul_of_aside aside)
  have quiet : ((s.bayLatched.eachLane lapseLane).eachLane dropOutputs).Calm := by
    obtain ⟨⟨departed, room⟩, offers⟩ := calm
    obtain ⟨lanes, e⟩ := eachLane_dropOutputs_eq (s.bayLatched.eachLane lapseLane)
    rw [e]
    refine ⟨⟨?_, ?_⟩, ?_⟩
    · rw [stp, bayLatched_stp]
      exact departed
    · rw [lif_of_aside after, lif]
      exact room
    · rw [sul_of_aside after, sul]
      exact offers
  obtain ⟨queue, inFlight⟩ := settle_queue_flight quiet
  have dropped : ((s.bayLatched.eachLane lapseLane).eachLane dropOutputs).stp = (s.bayLatched.eachLane lapseLane).stp := by
    obtain ⟨lanes, e⟩ := eachLane_dropOutputs_eq (s.bayLatched.eachLane lapseLane)
    rw [e]
  have checks : ∀ i ∈ s.flowingLanes, (settle ((s.bayLatched.eachLane lapseLane).eachLane dropOutputs)).checkpoint i =
      (s.bayLatched.eachLane lapseLane).checkpoint i := by
    intro i mem
    obtain ⟨-, flows⟩ := List.mem_filter.1 mem
    obtain ⟨left, leaves⟩ := leftOf_of_flowing flows
    have lane : ((s.bayLatched.eachLane lapseLane).eachLane dropOutputs).lane i = (s.bayLatched.eachLane lapseLane).lane i := by
      rw [eachLane_dropOutputs_lane, lapsed, Lane.lapsed_dropped]
    have stage : ((s.bayLatched.eachLane lapseLane).eachLane dropOutputs).stage i ≠ .ended := by
      rw [State.stage, lane, lapsed, bayLatched_lane, (Lane.lapsed_of_leaves leaves).1]
      exact Stage.noConfusion
    rw [settle_checkpoint stage]
    obtain ⟨lanes, e⟩ := eachLane_dropOutputs_eq (s.bayLatched.eachLane lapseLane)
    have pct : ((s.bayLatched.eachLane lapseLane).eachLane dropOutputs).pct = (s.bayLatched.eachLane lapseLane).pct := by rw [e]
    exact checkpoint_congr (by rw [State.tripNumber, pct, State.tripNumber]) lane
      (by rw [State.heldLine, lane, State.lines, pct, State.heldLine, State.lines])
  refine ⟨s.flowingLanes, .refl _, ?_, ?_⟩
  · rw [queue, dropped, stp, bayLatched_stp, same]
    exact congrArg (List.foldl withCheckpoint s.stp.queue) (List.filterMap_congr fun i mem => (checks i mem).symm)
  · rw [inFlight, dropped, stp, bayLatched_stp]

/-- R30: with the bay latch clear a drop sets it and suspends every flowing or PRIMED lane. -/
theorem permissiveLost_clear {s : State} (broken : s.whole = false) (slot : s.pct.slot = .released) (clear : s.ilm.bayLatch = false) :
    PermissiveLost true true s (permissiveEffect false s) := by
  have aside := foldl_orders_aside markLapse_order allLanes s
  have after := foldl_orders_aside lapseLane_order allLanes s.bayLatched
  rw [← State.eachLane] at after
  have whole : s.bayLatched.whole = false := by
    rw [whole_eq, bayLatched_ilm]
    exact broken
  rw [permissiveEffect_released slot, permissiveDrop_clear clear]
  have slotIs : s.bayLatched.pct.slot = s.pct.slot := by
    rw [State.bayLatched, modIlm_pct]
    exact slot_of_aside aside
  refine eachLane_dropOutputs_settled ((whole_of_aside after).trans whole) ?_ ((slot_of_aside after).trans slotIs)
    (fun i => ?_) (fun k => ?_) (by rw [if_pos rfl]; exact permissiveDrop_checkpoints s)
  · rw [ilm_of_aside after, bayLatched_ilm, Bool.or_true]
  · rw [eachLane_lapseLane_lane, bayLatched_lane, if_pos rfl]
  · have hits : (lapsesOn · s.bayLatched k) = (lapsesOn · s k) := by
      funext i
      rw [lapsesOn, lapsesOn, lapses, lapses, State.stage, State.stage, bayLatched_lane]
    rw [eachLane_lapseLane_lines, bayLatched_lines, Option.map_map, hits]
    simp only [Bool.true_and]
    rfl

/-! #### What the end of the event keeps of a drop -/

/-- What a drop leaves of the interlock, with the levels of the state `s` in which the input's level has been taken. -/
theorem PermissiveLost.settled_ilm {released suspends : Bool} {s u : State} (h : PermissiveLost released suspends s u) :
    (∀ q : Permissive, (settle u).ilm.level q = s.ilm.level q) ∧ (settle u).ilm.bayLatch = (s.ilm.bayLatch || released) ∧
    (settle u).ilm.laneLatch = s.ilm.laneLatch ∧ (settle u).ilm.leakAlarm = s.ilm.leakAlarm := by
  have unlit := unlit_of_steady (settle_steady u)
  rw [h.ilm] at unlit
  exact ⟨fun q => (level_of_unlit unlit q).trans (by cases q <;> rfl), bayLatch_of_unlit unlit, (laneLatch_of_unlit unlit).trans rfl,
    (leakAlarm_of_unlit unlit).trans rfl⟩

theorem closing_lapsed {l : Lane} (closing : l.stage = .closing) : l.lapsed = l ∧ l.dropped false = l :=
  ⟨Lane.lapsed_of_not (by rw [closing]; rfl), Lane.dropped_of_not_flowing (by rw [closing]; rfl) _⟩

/-- A line's record after a drop: marked when a lane in CLOSING holds it. -/
theorem record_of_lost {s u : State} {suspends : Bool} {i : LaneNo} {r : CompRecord} (lost : PermissiveLost true suspends s u)
    (closing : s.stage i = .closing) (lane : u.lane i = s.lane i) (record : s.record i = some r) :
    u.record i = some { r with flags := { r.flags with lapseInClosing := true } } := by
  rw [State.record, State.heldLine] at record ⊢
  rw [lane]
  cases line : (s.lane i).line with
  | none =>
    rw [line] at record
    cases record
  | some k =>
    rw [line, Option.bind_some] at record
    rw [Option.bind_some, lost.lines k]
    have marks : allLanes.any (closesOn · s k) = true :=
      List.any_eq_true.2 ⟨i, mem_allLanes i, by simp [closesOn, closing, line]⟩
    rw [marks]
    cases here : s.lines[k]? with
    | none =>
      rw [here] at record
      cases record
    | some l =>
      rw [here, Option.bind_some] at record
      simp only [Option.map_some, Option.bind_some, Bool.and_self, if_true]
      have marked : (lapseMarked l).record = some { r with flags := { r.flags with lapseInClosing := true } } := by
        simp [lapseMarked, record]
      split
      · exact marked
      · exact marked

/-- What R29 to R32 and R58 say of a lane at a drop. -/
theorem lane_of_lost {s u : State} {released suspends : Bool} (lost : PermissiveLost released suspends s u) (i : LaneNo) :
    ((s.stage i).flowing = true → ((settle u).lane i).openOut = false ∧ ((settle u).lane i).holdOut = false ∧
      ((settle u).lane i).step = none) ∧
    (∀ left : LeftStage, leftOf (s.stage i) = some left → suspends = true →
      (settle u).stage i = .suspended .lapse left ∧ ((settle u).lane i).setpoint = 0 ∧ ((settle u).lane i).wanted = 0 ∧
      ((settle u).lane i).line = (s.lane i).line ∧
      ∀ k l, (s.lane i).line = some k → s.lines[k]? = some l →
        ∃ l', (settle u).lines[k]? = some l' ∧ l'.status = .suspended .lapse) ∧
    (s.stage i = .closing → (settle u).lane i = s.lane i ∧
      (released = true → ∀ r, s.record i = some r →
        (settle u).record i = some { r with flags := { r.flags with lapseInClosing := true } })) ∧
    (suspends = false → s.stage i ≠ .ended → (settle u).stage i = s.stage i) := by
  have lane := lost.lane i
  refine ⟨fun flows => ?_, fun left leaves suspended => ?_, fun closing => ?_, fun stays open_ => ?_⟩
  · have outputs : (u.lane i).openOut = false ∧ (u.lane i).holdOut = false ∧ (u.lane i).step = none ∧ u.stage i ≠ .ended := by
      rw [State.stage, lane]
      split
      · obtain ⟨left, leaves⟩ := leftOf_of_flowing flows
        obtain ⟨off, hold, step⟩ := Lane.lapsed_outputs flows
        refine ⟨off, hold, step, ?_⟩
        rw [(Lane.lapsed_of_leaves leaves).1]
        exact Stage.noConfusion
      · obtain ⟨off, hold, step⟩ := Lane.dropped_outputs flows
        refine ⟨off, hold, step, fun ended => ?_⟩
        rw [Lane.dropped_stage] at ended
        rw [State.stage, ended] at flows
        exact Bool.noConfusion flows
    obtain ⟨off, hold, step, open_⟩ := outputs
    rw [settle_lane open_]
    exact ⟨off, hold, step⟩
  · rw [if_pos suspended] at lane
    obtain ⟨stage, setpoint, wanted⟩ := Lane.lapsed_of_leaves leaves
    have open_ : u.stage i ≠ .ended := by
      rw [State.stage, lane, stage]
      exact Stage.noConfusion
    rw [State.stage, settle_lane open_, lane]
    refine ⟨stage, setpoint, wanted, Lane.lapsed_line _, fun k l line here => ?_⟩
    have hits : allLanes.any (lapsesOn · s k) = true := by
      refine List.any_eq_true.2 ⟨i, mem_allLanes i, ?_⟩
      have moves : lapses i s = true := by
        cases h : s.stage i <;> simp_all [lapses, leftOf, Stage.flowing]
      simp [lapsesOn, moves, line]
    refine ⟨lapsedLine (if released && allLanes.any (closesOn · s k) then lapseMarked l else l), ?_, rfl⟩
    rw [settle_lines, lost.lines k, here, hits, suspended]
    exact congrArg some (if_pos rfl)
  · have stays : u.lane i = s.lane i := by
      rw [lane, (closing_lapsed closing).1, (closing_lapsed closing).2, ite_self]
    have open_ : u.stage i ≠ .ended := by
      rw [State.stage, stays, show (s.lane i).stage = .closing from closing]
      exact Stage.noConfusion
    refine ⟨(settle_lane open_).trans stays, fun isReleased r record => ?_⟩
    subst isReleased
    rw [settle_record open_]
    exact record_of_lost lost closing stays record
  · rw [stays, if_neg Bool.false_ne_true] at lane
    have stage : u.stage i = s.stage i := by rw [State.stage, lane, Lane.dropped_stage]; rfl
    rw [settle_stage (by rw [stage]; exact open_), stage]

end Sys2Proof.Machine


open Sys2Proof Sys2Proof.Machine

/-- Settles O19, by the trip slot's state and the bay latch at a drop. -/
theorem permissiveChanges : Obligations.PermissiveChanges := by
  refine ⟨fun s p done good => ?_, fun s p => ⟨fun bad => ?_, fun good same => ?_⟩⟩
  · have answer : exec (.permissiveChange p false) s = finish (permissiveEffect false (s.levelTaken p false)) := by
      rw [exec_permissiveChange (by rw [good]; exact Bool.noConfusion), if_pos done]
    have broken := whole_of_level (levelTaken_bad s p)
    obtain ⟨bay, latches, alarm⟩ := setLevel_latches s.ilm p false
    have lost : PermissiveLost (decide (s.pct.slot = .released)) (decide (s.pct.slot = .released ∧ s.ilm.bayLatch = false))
        (s.levelTaken p false) (permissiveEffect false (s.levelTaken p false)) := by
      by_cases slot : s.pct.slot = .released
      · cases set : s.ilm.bayLatch with
        | true => simpa [slot] using permissiveLost_set broken slot (bay.trans set)
        | false => simpa [slot] using permissiveLost_clear broken slot (bay.trans set)
      · simpa [slot] using permissiveLost_unreleased broken slot
    obtain ⟨levels, bayIs, latchesAre, alarmIs⟩ := lost.settled_ilm
    have level : (settle (permissiveEffect false (s.levelTaken p false))).ilm.level p = false :=
      (levels p).trans (levelTaken_bad s p)
    have checks : s.Checkpoints (settle (permissiveEffect false (s.levelTaken p false)))
        (if s.pct.slot = .released ∧ s.ilm.bayLatch = false then s.flowingLanes else []) := by
      have at_ := lost.checkpoints.congr (s := s) (fun calm => calm) rfl rfl
      rw [flowingLanes_of_lanes (s := s) (v := s.levelTaken p false) rfl] at at_
      simpa using at_
    refine ⟨_, answer, whole_of_level level, level, bayIs.trans (by rw [← bay]; rfl), latchesAre.trans latches, alarmIs.trans alarm,
      (settle_slot _).trans lost.slot, checks, fun i => ?_⟩
    obtain ⟨flowing, suspended, closing, rests⟩ := lane_of_lost lost i
    exact ⟨flowing, fun left leaves slot clear => suspended left leaves (decide_eq_true ⟨slot, clear⟩),
      fun h => ⟨(closing h).1, fun slot => (closing h).2 (decide_eq_true slot)⟩,
      fun slot => rests (decide_eq_false fun h => slot h.1)⟩
  · have answer := exec_permissiveChange (s := s) (p := p) (good := true) (by rw [bad]; exact Bool.noConfusion)
    have effect : ∃ lanes, (if s.sul.done then permissiveEffect true (s.levelTaken p true) else s.levelTaken p true) =
        { s.levelTaken p true with lanes := lanes } ∧ ∀ i : LaneNo, (lanes[i]).stage = s.stage i ∧
          (lanes[i]).setpoint = (s.lane i).setpoint ∧ (lanes[i]).line = (s.lane i).line := by
      split
      · obtain ⟨lanes, e⟩ := eachLane_dropOutputs_eq (s.levelTaken p true)
        refine ⟨lanes, (permissiveEffect_good _).trans e, fun i => ?_⟩
        have lane := eachLane_dropOutputs_lane (s.levelTaken p true) i
        rw [e, State.lane] at lane
        rw [show lanes[i] = _ from lane, Lane.dropped_stage, Lane.dropped_setpoint, Lane.dropped_line]
        exact ⟨rfl, rfl, rfl⟩
      · exact ⟨s.lanes, rfl, fun i => ⟨rfl, rfl, rfl⟩⟩
    obtain ⟨lanes, e, each⟩ := effect
    rw [e] at answer
    have steady := settle_steady { s.levelTaken p true with lanes := lanes }
    have unlit := unlit_of_steady steady
    obtain ⟨bay, latches, -⟩ := setLevel_latches s.ilm p true
    refine ⟨_, answer, (level_of_unlit unlit p).trans ?_, fun q ne => (level_of_unlit unlit q).trans ?_,
      (bayLatch_of_unlit unlit).trans bay, (laneLatch_of_unlit unlit).trans latches, settle_slot _, settle_trip _,
      (injs_of_steady steady).trans rfl, fun i open_ => ?_⟩
    · exact (setLevel_level s.ilm p p true).trans (if_pos rfl)
    · exact (setLevel_level s.ilm p q true).trans (if_neg ne)
    · obtain ⟨stage, setpoint, line⟩ := each i
      rw [State.stage, settle_lane (by rw [State.stage, State.lane, stage]; exact open_)]
      exact ⟨stage, setpoint, line⟩
  · change execPermissiveChange p good s = _
    exact if_pos same

end

section
/-! The card's intake and validation of a trip, its claim or isolated grant, and the authorized slot (R5 to R14, R18, R22, R48). -/

namespace Sys2Proof.Machine

/-! ### Orders that change one lane by what stands beside the lanes -/

/-- The state without the lanes. -/
def State.unlaned (s : State) : State := { s with lanes := Vector.replicate 4 {} }

theorem modLane_unlaned (i : LaneNo) (f : Lane → Lane) (s : State) : (s.modLane i f).unlaned = s.unlaned := rfl

theorem foldl_modLane {f : LaneNo → State → State} {g : LaneNo → State → Lane → Lane}
    (eq : ∀ i s, f i s = s.modLane i (g i s.unlaned)) {lanes : List LaneNo} (once : lanes.Nodup) (s : State) :
    ∃ v, lanes.foldl (fun t i => f i t) s = { s with lanes := v } ∧
      ∀ i : LaneNo, v[i] = if i ∈ lanes then g i s.unlaned (s.lane i) else s.lane i := by
  induction lanes generalizing s with
  | nil => exact ⟨s.lanes, rfl, fun i => rfl⟩
  | cons j rest ih =>
    obtain ⟨out, once⟩ := List.nodup_cons.1 once
    rw [List.foldl_cons, eq]
    obtain ⟨v, e, each⟩ := ih once (s.modLane j (g j s.unlaned))
    refine ⟨v, e, fun i => ?_⟩
    rw [each, modLane_unlaned]
    by_cases same : j = i
    · subst same
      rw [if_neg out, if_pos (List.mem_cons_self ..), modLane_lane_self]
    · rw [modLane_lane_ne _ _ _ same]
      simp [List.mem_cons, Ne.symm same]

/-- Such an order to every lane changes the lanes alone, each by what the order says of it. -/
theorem eachLane_by {f : LaneNo → State → State} {g : LaneNo → State → Lane → Lane}
    (eq : ∀ i s, f i s = s.modLane i (g i s.unlaned)) (s : State) :
    ∃ v, s.eachLane f = { s with lanes := v } ∧ ∀ i : LaneNo, v[i] = g i s.unlaned (s.lane i) := by
  obtain ⟨v, e, each⟩ := foldl_modLane eq allLanes_nodup s
  exact ⟨v, e, fun i => (each i).trans (if_pos (mem_allLanes i))⟩

theorem modLane_fixed {i : LaneNo} {f : Lane → Lane} {s : State} (fixed : f (s.lane i) = s.lane i) : s.modLane i f = s := by
  have same : s.lanes.set i (s.lane i) = s.lanes := by simp [State.lane]
  show { s with lanes := s.lanes.set i (f (s.lane i)) } = s
  rw [fixed, same]

/-- R48: what the priming check makes of a lane. -/
def Lane.primedBy (i : LaneNo) (s : State) (l : Lane) : Lane :=
  if l.stage = .idle ∧ s.armOn i ∧ s.primes then
    match s.firstWaiting i with
    | none => l
    | some k => { l with stage := .primed, line := some k }
  else l

theorem primingCheck_eq (i : LaneNo) (s : State) : primingCheck i s = s.modLane i (Lane.primedBy i s.unlaned) := by
  by_cases all : s.stage i = .idle ∧ s.armOn i ∧ s.primes
  · have same (l : Lane) (idle : l.stage = .idle) : Lane.primedBy i s.unlaned l = match s.firstWaiting i with
        | none => l
        | some k => { l with stage := .primed, line := some k } := if_pos ⟨idle, all.2⟩
    have idle := all.1
    rw [primingCheck, if_pos all]
    cases first : s.firstWaiting i with
    | none => exact (modLane_fixed (by rw [same _ idle, first])).symm
    | some k =>
      show { s with lanes := s.lanes.set i _ } = { s with lanes := s.lanes.set i (Lane.primedBy i s.unlaned (s.lane i)) }
      rw [same _ idle, first]
      rfl
  · have fixed : Lane.primedBy i s.unlaned (s.lane i) = s.lane i := if_neg all
    rw [primingCheck, if_neg all, modLane_fixed fixed]

theorem Lane.primedBy_takes {i : LaneNo} {s : State} {l : Lane} {k : Nat} (idle : l.stage = .idle) (on : s.armOn i = true)
    (primes : s.primes = true) (first : s.lines.findIdx? (waitingFor i) = some k) :
    l.primedBy i s = { l with stage := .primed, line := some k } := by
  rw [Lane.primedBy, if_pos ⟨idle, on, primes⟩, State.firstWaiting, first]

theorem Lane.primedBy_stays {i : LaneNo} {s : State} {l : Lane}
    (stays : l.stage ≠ .idle ∨ s.armOn i = false ∨ s.lines.findIdx? (waitingFor i) = none) : l.primedBy i s = l := by
  unfold Lane.primedBy
  split
  · rename_i all
    rcases stays with h | h | h
    · exact absurd all.1 h
    · rw [all.2.1] at h
      exact Bool.noConfusion h
    · rw [State.firstWaiting, h]
  · rfl

/-- R22: a PRIMED lane is IDLE again, without a line. -/
def Lane.unprimed (l : Lane) : Lane :=
  if l.stage = .primed then
    { l with stage := .idle, line := none, setpoint := 0, wanted := 0, openOut := false, holdOut := false, step := none }
  else l

theorem unprime_eq (i : LaneNo) (s : State) : unprime i s = s.modLane i Lane.unprimed := by
  unfold unprime
  split
  · rename_i primed
    have e : (s.lane i).unprimed = { s.lane i with
      stage := .idle, line := none, setpoint := 0, wanted := 0, openOut := false, holdOut := false, step := none } := if_pos primed
    rw [toIdle_eq]
    show { s with lanes := s.lanes.set i _ } = { s with lanes := s.lanes.set i (Lane.unprimed (s.lane i)) }
    rw [e]
    rfl
  · rename_i other
    exact (modLane_fixed (if_neg other)).symm

/-! ### What the end of a calm event keeps -/

theorem settle_lanes {s : State} (calm : s.Calm) : (settle s).lanes = s.lanes := congrArg (·.lanes) (settle_apart calm)

/-! ### A frame of Permit Control (R14) -/

theorem offerFrame_eq (f : TxFrame) (s : State) : ∃ taken fifo, offerFrame f s = (taken, s.modLif fun l => { l with fifo := fifo }) := by
  unfold offerFrame
  split
  · exact ⟨true, s.lif.fifo, rfl⟩
  · exact ⟨false, s.lif.fifo, rfl⟩
  · split
    · exact ⟨true, _, rfl⟩
    · exact ⟨false, s.lif.fifo, rfl⟩

/-- A frame joins the FIFO, or the frames kept while the FIFO does not take it, and nothing else changes. -/
theorem pctSend_eq (f : TxFrame) (s : State) : ∃ fifo held, pctSend f s =
    { s with lif := { s.lif with fifo := fifo }, pct := { s.pct with held := held } } := by
  obtain ⟨taken, fifo, offered⟩ := offerFrame_eq f s
  unfold pctSend
  rw [offered]
  split
  · exact ⟨s.lif.fifo, s.pct.held, rfl⟩
  · cases taken with
    | true => exact ⟨fifo, s.pct.held, rfl⟩
    | false =>
      dsimp only
      split
      · exact ⟨fifo, _, rfl⟩
      · exact ⟨fifo, s.pct.held, rfl⟩

theorem pctSend_steady (f : TxFrame) (s : State) : (pctSend f s).steady = s.steady := by
  obtain ⟨fifo, held, e⟩ := pctSend_eq f s
  rw [e]
  rfl

/-- R14: a frame that is no HELD joins a FIFO that is open and has room. -/
theorem pctSend_taken {f : TxFrame} {s : State} (plain : f.isHeld = false) (isOpen : s.lif.link.Open) (room : s.lif.fifo.length < 6) :
    pctSend f s = s.modLif fun l => { l with fifo := l.fifo ++ [f] } := by
  rw [pctSend, if_neg (by rw [plain]; exact fun h => Bool.noConfusion h.1), offerFrame_open isOpen, if_pos room]

/-- R14: a frame that is no HELD is kept while the FIFO does not take it. -/
theorem pctSend_waits {f : TxFrame} {s : State} (plain : f.isHeld = false) (taken : s.lif.link ≠ .mute)
    (refused : s.lif.link = .down ∨ 6 ≤ s.lif.fifo.length) (room : s.pct.held.length < 24) :
    pctSend f s = s.modPct fun p => { p with held := p.held ++ [f] } := by
  have offered : offerFrame f s = (false, s) := by
    by_cases down : s.lif.link = .down
    · rw [offerFrame, down]
    · rw [offerFrame_open ⟨down, taken⟩, if_neg (Nat.not_lt.2 (refused.resolve_left down))]
  rw [pctSend, if_neg (by rw [plain]; exact fun h => Bool.noConfusion h.1), offered]
  exact if_pos room

/-! ### The authorized slot (R18, R22) -/

/-- The slot AUTHORIZED with its timer, the lanes not checked yet (R18). -/
def State.authorizedNow (s : State) : State :=
  s.modPct fun p => { p with slot := .authorized, claimWindow := none, authTimer := some (s.now + Config.authTime) }

/-- R18, R48: the lanes of a trip that is AUTHORIZED. -/
theorem enterAuthorized_eq (s : State) : ∃ v, enterAuthorized s = { s.authorizedNow with lanes := v } ∧
    ∀ i : LaneNo, (∀ k : Nat, s.stage i = .idle → s.armOn i = true → s.lines.findIdx? (waitingFor i) = some k →
        v[i] = { s.lane i with stage := .primed, line := some k }) ∧
      (s.stage i ≠ .idle ∨ s.armOn i = false ∨ s.lines.findIdx? (waitingFor i) = none → v[i] = s.lane i) := by
  obtain ⟨v, e, each⟩ := eachLane_by primingCheck_eq s.authorizedNow
  refine ⟨v, e, fun i => ⟨fun k idle on first => ?_, fun stays => ?_⟩⟩
  · exact (each i).trans (Lane.primedBy_takes (s := s.authorizedNow.unlaned) idle on rfl first)
  · exact (each i).trans (Lane.primedBy_stays (s := s.authorizedNow.unlaned) stays)

theorem enterAuthorized_steady (s : State) : (enterAuthorized s).steady = s.authorizedNow.steady :=
  eachLane_steady primingCheck primingCheck_steady s.authorizedNow

theorem exec_claimWindowExpiry {s : State} {d : Nat} (running : s.pct.claimWindow = some d) (slot : s.pct.slot = .claiming) :
    exec .claimWindowExpiry s = finish (enterAuthorized (s.reach d)) := by
  change execClaimWindowExpiry s = _
  rw [execClaimWindowExpiry, onExpiry_some running, claimWindowEnd]
  exact congrArg finish (if_pos slot)

/-- The trip over with no loads, its RELEASE not sent yet (R22). -/
def State.unloaded (s : State) : State :=
  (s.eachLane unprime).modPct fun x => { x with slot := .empty, trip := none, authTimer := none, heard := false }

theorem unloaded_eq (s : State) : ∃ v, s.unloaded =
    { s with lanes := v, pct := { s.pct with slot := .empty, trip := none, authTimer := none, heard := false } } ∧
    ∀ i : LaneNo, v[i] = (s.lane i).unprimed := by
  obtain ⟨v, e, each⟩ := eachLane_by (f := unprime) (g := fun _ _ => Lane.unprimed) unprime_eq s
  exact ⟨v, by rw [State.unloaded, e]; rfl, each⟩

theorem unprime_steady (i : LaneNo) (s : State) : (unprime i s).steady = s.steady := by
  unfold unprime
  split
  · exact toIdle_steady i s
  · rfl

theorem unloaded_steady (s : State) : s.unloaded.steady = State.steady
    { s with pct := { s.pct with slot := .empty, trip := none, heard := false, authTimer := none } } := by
  have e := eachLane_steady unprime unprime_steady s
  unfold State.unloaded
  generalize s.eachLane unprime = w at e
  exact congrArg (fun t : State => t.modPct fun x => { x with slot := .empty, trip := none, authTimer := none, heard := false }) e

theorem exec_authorizationTimeout {s : State} {d : Nat} {tr : Trip} (running : s.pct.authTimer = some d)
    (slot : s.pct.slot = .authorized) (trip : s.pct.trip = some tr) :
    exec .authorizationTimeout s = finish (pctSend (.release tr.permit) (s.reach d).unloaded) := by
  have ends : authEnd (s.reach d) = pctSend (.release tr.permit) (s.reach d).unloaded := by
    rw [authEnd, show (s.reach d).pct.slot = .authorized from slot,
      show (s.reach d).permit = some tr.permit by rw [State.permit, show (s.reach d).pct.trip = some tr from trip]; rfl]
    rfl
  change execAuthorizationTimeout s = _
  rw [execAuthorizationTimeout, onExpiry_some running, ends]

/-! ### A valid card (R5 to R14) -/

/-- A card of a good block that is not the pending stamp's, presented while intake is armed, is taken as a trip (R6). -/
theorem exec_card_takes {block : List Byte} {s : State} (done : s.sul.done = true) (quiet : s.pct.write = none)
    (slot : s.pct.slot = .empty) (good : intakeCheck block = none)
    (other : s.pct.pendingStamp.map (·.permit) ≠ some (fieldWord block 6)) :
    exec (.card block) s = finish (takeTrip (cardTrip block) s) := by
  have action : cardAction block s = .takeTrip := by
    rw [cardAction_good done quiet good, slot]
    exact if_neg fun own => other ((pendingFor_iff s _).1 own)
  exact exec_card_of_action action

/-- R43: the slot is CHECKING, the trip its record, and the lamps follow. -/
def State.checkingNow (s : State) (t : Trip) : State := refreshLamps (s.modPct fun p => { p with slot := .checking, trip := some t })

theorem checkingNow_eq {s : State} (done : s.sul.done = true) (t : Trip) : ∃ flow card attend, s.checkingNow t = { s with
    pct := { s.pct with slot := .checking, trip := some t }
    ilm := { s.ilm with ready := followLamp .dark s.now s.ilm.ready, flow := flow, card := card, attend := attend } } := by
  have dark : readyWant (s.modPct fun p => { p with slot := .checking, trip := some t }) = .dark := by
    unfold readyWant
    split <;> rfl
  have e : s.checkingNow t = (s.modPct fun p => { p with slot := .checking, trip := some t }).modIlm fun m => { m with
      ready := followLamp .dark s.now m.ready
      flow := followLamp (flowWant (s.modPct fun p => { p with slot := .checking, trip := some t })) s.now m.flow
      card := followLamp (cardWant (s.modPct fun p => { p with slot := .checking, trip := some t })) s.now m.card
      attend := followLamp (attendWant (s.modPct fun p => { p with slot := .checking, trip := some t })) s.now m.attend } := by
    rw [State.checkingNow, refreshLamps, if_pos (by exact done), dark]
    rfl
  exact ⟨_, _, _, e⟩

theorem bayRefusal_eq (s : State) : bayRefusal s = if s.sul.code ≠ 0 ∨ 4294967296 ≤ s.ntb.next then some .bayFault
    else if s.ilm.leakAlarm = true then some .leakAlarm else none := by
  have top : Config.noteTop = 4294967296 := rfl
  simp [bayRefusal, State.configFault, State.exhausted, top]

theorem dateRefusal_eq (s : State) (t : Trip) : dateRefusal s t =
    if s.lif.timeSet = true ∧ t.expiryDay < s.lif.time.toNat / 86400 then some .expired
    else if s.lif.timeSet = true ∧ s.lif.time.toNat / 86400 < t.issueDay then some .notYetValid else none := by
  unfold dateRefusal
  cases s.lif.timeSet <;> simp

/-- A trip whose lines have been checked (R8 to R12). -/
def Trip.validated (t : Trip) (s : State) : Trip :=
  { t with lines := validatedLines s t, flags := { t.flags with timeUnset := !s.lif.timeSet } }

/-- R8 to R10, R13: the reason for which a trip is refused whole; none for one that has a WAITING line. -/
def tripRefusal (t : Trip) (s : State) : Option CardRefusal :=
  (bayRefusal s).or ((dateRefusal s t).or
    (if (validatedLines s t).any fun l => decide (l.status = .waiting) then none else some .noLines))

theorem takeTrip_refused {t : Trip} {s : State} {r : CardRefusal} (refused : tripRefusal t s = some r) :
    takeTrip t s = refuseTrip r (s.checkingNow t) := by
  unfold takeTrip
  rw [← State.checkingNow]
  unfold tripRefusal at refused
  cases bay : bayRefusal s with
  | some r' =>
    rw [bay, Option.some_or] at refused
    rw [Option.some.inj refused]
  | none =>
    rw [bay, Option.none_or] at refused
    cases date : dateRefusal s t with
    | some r' =>
      rw [date, Option.some_or] at refused
      dsimp only
      rw [Option.some.inj refused]
    | none =>
      rw [date, Option.none_or] at refused
      dsimp only
      split
      · rename_i waits
        rw [if_pos waits] at refused
        cases refused
      · rename_i none
        rw [if_neg none] at refused
        rw [← Option.some.inj refused]
        rfl

theorem takeTrip_accepted {t : Trip} {s : State} (accepted : tripRefusal t s = none) (done : s.sul.done = true) :
    takeTrip t s = startClaim t.permit ((s.checkingNow t).modPct fun p => { p with trip := some (t.validated s) }) := by
  unfold tripRefusal at accepted
  obtain ⟨bay, rest⟩ := Option.or_eq_none_iff.1 accepted
  obtain ⟨date, waits⟩ := Option.or_eq_none_iff.1 rest
  have some : (validatedLines s t).any (fun l => decide (l.status = .waiting)) = true := by
    by_contra none
    rw [if_neg none] at waits
    cases waits
  obtain ⟨flow, card, attend, e⟩ := checkingNow_eq done t
  unfold takeTrip
  rw [← State.checkingNow, bay, date]
  dsimp only
  rw [if_pos some, e]
  rfl

theorem intakeCheck_eq (block : List Byte) : intakeCheck block =
    if block.length ≠ 84 then some CardRefusal.length
    else if field block 0 6 ≠ [0x50, 0x45, 0x52, 0x4D, 0x49, 0x54] ∨
        ¬(1 ≤ fieldNat block 24 1 ∧ fieldNat block 24 1 ≤ 8) ∨ 8 < fieldNat block 25 1 ∨
        (∃ k < fieldNat block 24 1, ¬(1 ≤ fieldNat block (26 + 2 * k) 2 ∧ fieldNat block (26 + 2 * k) 2 ≤ 20000)) then
      some CardRefusal.format
    else if crc16 (block.take 82) ≠ fieldNat block 82 2 then some CardRefusal.check else none := by
  have capacities : (List.range (fieldNat block 24 1)).any (fun i => cardCapacity block i < 1 || 20000 < cardCapacity block i) = true ↔
      ∃ k < fieldNat block 24 1, ¬(1 ≤ fieldNat block (26 + 2 * k) 2 ∧ fieldNat block (26 + 2 * k) 2 ≤ 20000) := by
    simp only [List.any_eq_true, List.mem_range, Bool.or_eq_true, decide_eq_true_eq]
    refine exists_congr fun k => and_congr_right fun _ => ?_
    rw [not_and_or, Nat.not_le, Nat.not_le]
    rfl
  have format : (field block 0 6 ≠ permitTag ∨ fieldNat block 24 1 < 1 ∨ 8 < fieldNat block 24 1 ∨ 8 < fieldNat block 25 1 ∨
      (List.range (fieldNat block 24 1)).any (fun i => cardCapacity block i < 1 || 20000 < cardCapacity block i) = true) ↔
      (field block 0 6 ≠ [0x50, 0x45, 0x52, 0x4D, 0x49, 0x54] ∨
        ¬(1 ≤ fieldNat block 24 1 ∧ fieldNat block 24 1 ≤ 8) ∨ 8 < fieldNat block 25 1 ∨
        (∃ k < fieldNat block 24 1, ¬(1 ≤ fieldNat block (26 + 2 * k) 2 ∧ fieldNat block (26 + 2 * k) 2 ≤ 20000))) := by
    have count : ¬(1 ≤ fieldNat block 24 1 ∧ fieldNat block 24 1 ≤ 8) ↔ fieldNat block 24 1 < 1 ∨ 8 < fieldNat block 24 1 := by omega
    rw [capacities, count, or_assoc]
    rfl
  have check : crcOk block 84 = true ↔ ¬crc16 (block.take 82) ≠ fieldNat block 82 2 := by
    rw [crcOk, beq_iff_eq, not_not]
  unfold intakeCheck
  simp only [format]
  congr 2
  by_cases ok : crcOk block 84 = true
  · rw [if_pos ok, if_neg (check.1 ok)]
  · rw [if_neg ok, if_pos (not_not.1 fun h => ok (check.2 h))]

theorem tripRefusal_eq (block : List Byte) (s : State) : tripRefusal (cardTrip block) s =
    if s.sul.code ≠ 0 ∨ 4294967296 ≤ s.ntb.next then some CardRefusal.bayFault
    else if s.ilm.leakAlarm = true then some CardRefusal.leakAlarm
    else if s.lif.timeSet = true ∧ fieldNat block 20 2 < s.lif.time.toNat / 86400 then some CardRefusal.expired
    else if s.lif.timeSet = true ∧ s.lif.time.toNat / 86400 < fieldNat block 18 2 then some CardRefusal.notYetValid
    else if ∀ l ∈ validatedLines s (cardTrip block), l.status ≠ .waiting then some CardRefusal.noLines else none := by
  have lines : (if (validatedLines s (cardTrip block)).any fun l => decide (l.status = .waiting) then none else some CardRefusal.noLines) =
      if ∀ l ∈ validatedLines s (cardTrip block), l.status ≠ .waiting then some CardRefusal.noLines else none := by
    by_cases some : ∃ l ∈ validatedLines s (cardTrip block), l.status = .waiting
    · rw [if_pos (by simpa using some), if_neg (by simpa using some)]
    · rw [if_neg (by simpa using some), if_pos (by simpa using some)]
  have either {p : Prop} [Decidable p] (r : CardRefusal) (o o' : Option CardRefusal) :
      (if p then some r else o).or o' = if p then some r else o.or o' := by
    split
    · exact Option.some_or
    · rfl
  rw [tripRefusal, bayRefusal_eq, dateRefusal_eq, lines, either, either, either, either, Option.none_or, Option.none_or]
  rfl

/-! #### A refusal (R13, R43 to R45) -/

theorem refuseCard_eq (r : CardRefusal) (s : State) : refuseCard r s = { s with
    outbox := s.outbox ++ [.reader (refusedMessage r)]
    ilm := { s.ilm with pulse :=
      if s.ilm.pulse = none ∧ s.ilm.pattern = none then some (s.now + 300000) else s.ilm.pulse } } := by
  unfold refuseCard refusalPulse
  by_cases free : s.ilm.pulse = none ∧ s.ilm.pattern = none
  · rw [if_pos free, if_pos (by exact ⟨Option.isNone_iff_eq_none.2 free.1, Option.isNone_iff_eq_none.2 free.2⟩)]
    rfl
  · rw [if_neg free, if_neg fun h => free ⟨Option.isNone_iff_eq_none.1 h.1, Option.isNone_iff_eq_none.1 h.2⟩]
    rfl

theorem followLamp_dark {now : Nat} {l : LampState} (lit : l.shown = true) (ended : l.holdUntil ≤ now) :
    (followLamp .dark now l).shown = false ∧ (followLamp .dark now l).holdUntil = now + Config.lampTime := by
  simp [followLamp, showLevel, wantedLevel, lit, ended]

theorem followLamp_held {want : LampWant} {now : Nat} {l : LampState} (held : now < l.holdUntil) :
    (followLamp want now l).shown = l.shown := by
  simp [followLamp, showLevel, Nat.not_le.2 held]

/-- R43, R45: READY that went dark in the event stays dark at its end. -/
theorem settle_ready_dark {u : State} {l : LampState} (calm : u.Calm) (done : u.sul.done = true)
    (ready : u.ilm.ready = followLamp .dark u.now l) (lit : l.shown = true) (ended : l.holdUntil ≤ u.now) :
    (settle u).ilm.ready.shown = false := by
  obtain ⟨dark, held⟩ := followLamp_dark lit ended
  have shown := congrArg (·.shown) (settle_lamp calm done .ready)
  rw [show u.ilm.lamp .ready = followLamp .dark u.now l from ready, followLamp_held (by
    rw [held]
    exact Nat.lt_add_of_pos_right (by decide)), dark] at shown
  exact shown

/-! #### An accepted trip (R14) -/

/-- A trip that has passed validation, the slot still CHECKING. -/
def State.acceptedNow (s : State) (t : Trip) : State := (s.checkingNow t).modPct fun p => { p with trip := some (t.validated s) }

theorem acceptedNow_eq {s : State} (done : s.sul.done = true) (t : Trip) : ∃ ilm : Ilm, ilm.unlit = s.ilm.unlit ∧ ilm.arm = s.ilm.arm ∧
    s.acceptedNow t = { s with pct := { s.pct with slot := .checking, trip := some (t.validated s) }, ilm := ilm } := by
  obtain ⟨flow, card, attend, e⟩ := checkingNow_eq done t
  refine ⟨_, ?_, ?_, by rw [State.acceptedNow, e]; rfl⟩
  · rfl
  · rfl

/-- The trip of a card that has been accepted in RUN, its CLAIM not sent yet, under interlocks that differ by the lamps (R14). -/
def State.claimingNow (s : State) (t : Trip) (ilm : Ilm) : State :=
  { s with pct := { s.pct with slot := .claiming, heard := false, trip := some (t.validated s) }, ilm := ilm }

theorem claimingNow_steady {s : State} {t : Trip} {ilm : Ilm} (unlit : ilm.unlit = s.ilm.unlit) : (s.claimingNow t ilm).steady =
    State.steady { s with pct := { s.pct with slot := .claiming, heard := false, trip := some (t.validated s) } } :=
  congrArg (fun m : Ilm => { (s.claimingNow t s.ilm).steady with ilm := m }) unlit

theorem open_of_run {l : Link} (run : l = .run) : l.Open := by
  subst run
  exact ⟨Link.noConfusion, Link.noConfusion⟩

theorem startClaim_run {permit : Word32} {s : State} (run : s.lif.link = .run) :
    startClaim permit s = pctSend (.claim permit) (s.modPct fun p => { p with slot := .claiming, heard := false }) := if_pos run

theorem startClaim_isolated {permit : Word32} {s : State} (other : s.lif.link ≠ .run) :
    startClaim permit s = enterAuthorized (s.modTripFlags fun f => { f with isolatedClaim := true }) := if_neg other

end Sys2Proof.Machine

open Sys2Proof Sys2Proof.Machine

/-- Settles O17, by the two expiries. -/
theorem authorizedSlot : Obligations.AuthorizedSlot := by
  refine ⟨fun s d tr running slot trip => ?_, fun s d tr calm running slot trip => ?_⟩
  · obtain ⟨v, e, each⟩ := enterAuthorized_eq (s.reach d)
    have answer := exec_claimWindowExpiry running slot
    have steady := (settle_steady _).trans (enterAuthorized_steady (s.reach d))
    rw [e] at answer steady
    have lines : (s.reach d).lines = tr.lines := by
      rw [State.lines, show (s.reach d).pct.trip = some tr from trip]
      rfl
    rw [lines] at each
    have lane (i : LaneNo) (open_ : (v[i]).stage ≠ .ended) :
        (settle { (s.reach d).authorizedNow with lanes := v }).lane i = v[i] := settle_lane open_
    refine ⟨_, answer, steady, fun i => ?_⟩
    obtain ⟨takes, stays⟩ := each i
    refine ⟨fun k idle on first => ?_, fun other open_ => ?_, fun idle none => ?_⟩
    · have is := takes k idle on first
      rw [lane i (by rw [is]; exact Stage.noConfusion), is]
      rfl
    · have is := stays (.inl other)
      rw [lane i (by rw [is]; exact open_), is]
      rfl
    · have is := stays (.inr none)
      rw [lane i (by rw [is]; exact fun h => Stage.noConfusion (idle.symm.trans h)), is]
      rfl
  · have answer := exec_authorizationTimeout running slot trip
    obtain ⟨v, unloaded, each⟩ := unloaded_eq (s.reach d)
    obtain ⟨fifo, held, sent⟩ := pctSend_eq (.release tr.permit) (s.reach d).unloaded
    have steady := (settle_steady _).trans ((pctSend_steady (.release tr.permit) _).trans (unloaded_steady (s.reach d)))
    have quiet : (pctSend (.release tr.permit) (s.reach d).unloaded).Calm := by
      rw [sent, unloaded]
      exact calm
    have lane (i : LaneNo) : (settle (pctSend (.release tr.permit) (s.reach d).unloaded)).lane i = (s.lane i).unprimed := by
      rw [lane_of_lanes (settle_lanes quiet), sent, unloaded]
      exact each i
    obtain ⟨queue, flight⟩ := settle_queue_flight quiet
    refine ⟨_, answer, steady, fun i primed => ?_, fun i other => (lane i).trans (if_neg other), ?_, ?_, ?_, fun down mute room => ?_,
      fun mute full room => ?_⟩
    · rw [State.stage, lane, show (s.lane i).unprimed = _ from if_pos primed]
      exact ⟨rfl, rfl⟩
    · rw [settle_ntb quiet, sent, unloaded]
      rfl
    · rw [queue, sent, unloaded]
      rfl
    · rw [flight, sent, unloaded]
      rfl
    · rw [settle_lif_calm quiet, unloaded, pctSend_taken rfl (by exact ⟨down, mute⟩) (by exact room)]
      rfl
    · rw [settle_held_calm quiet, unloaded, pctSend_waits rfl (by exact mute) (by exact full) (by exact room)]
      rfl

/-- Settles O11, by the intake checks of a block and the refusals of a trip. -/
theorem cardsRefused : Obligations.CardsRefused := by
  refine ⟨fun block s => ⟨fun ignored => ?_, fun done quiet r reason => ?_⟩, fun block s r calm done quiet slot good other refused => ?_⟩
  · have action : cardAction block s = .ignore := by
      unfold cardAction
      rcases ignored with h | h <;> simp [h]
    exact exec_card_of_action action
  · have check : intakeCheck block = some r := by
      rw [intakeCheck_eq]
      exact reason
    refine ⟨fun calm slot => ?_, fun empty stamp => ?_⟩
    · have action : cardAction block s = .refuse r := by
        simp only [cardAction, done, quiet, cardAtEmpty, cardAtStamp, check]
        rcases slot with h | h <;> rw [h] <;> rfl
      have answer := exec_card_of_action action
      rw [show cardAnswer block s (.refuse r) = finish (refuseCard r s) from rfl, refuseCard_eq] at answer
      exact yields_of_finish answer (by exact calm)
    · have action : cardAction block s = .ignore := by
        unfold cardAction
        rw [done, quiet]
        cases h : s.pct.slot with
        | empty => exact absurd h empty
        | awaitStamp => exact absurd h stamp
        | _ => simp [cardDuringTrip, check]
      exact exec_card_of_action action
  · have reason : tripRefusal (cardTrip block) s = some r := by
      rw [tripRefusal_eq]
      exact refused
    have answer : exec (.card block) s = .next (settle (refuseTrip r (s.checkingNow (cardTrip block)))) :=
      (exec_card_takes done quiet slot good other).trans (congrArg finish (takeTrip_refused reason))
    obtain ⟨flow, card, attend, checking⟩ := checkingNow_eq done (cardTrip block)
    rw [refuseTrip, checking, refuseCard_eq] at answer
    refine ⟨_, answer, settle_apart (by exact calm), fun lit ended =>
      settle_ready_dark (by exact calm) done rfl lit ended⟩

/-- Settles O12, by the link state. -/
theorem cardAccepted : Obligations.CardAccepted := by
  intro block s calm done quiet slot good other code next alarm dates tr ls waits
  have accepted : tripRefusal (cardTrip block) s = none := by
    rw [tripRefusal_eq, if_neg (by rw [code]; omega), if_neg (by rw [alarm]; exact Bool.false_ne_true),
      if_neg fun h => absurd (dates h.1).2 (Nat.not_le.2 h.2), if_neg fun h => absurd (dates h.1).1 (Nat.not_le.2 h.2)]
    refine if_neg fun none => ?_
    obtain ⟨l, mem, waiting⟩ := waits
    exact none l mem waiting
  have answer := exec_card_takes done quiet slot good other
  rw [takeTrip_accepted accepted done, ← State.acceptedNow] at answer
  obtain ⟨ilm, unlit, arm, e⟩ := acceptedNow_eq done (cardTrip block)
  rw [e] at answer
  refine ⟨fun run => ?_, fun isolated => ?_⟩
  · rw [startClaim_run (by exact run)] at answer
    have sends : exec (.card block) s = .next (settle (pctSend (.claim (cardTrip block).permit) (s.claimingNow (cardTrip block) ilm))) := answer
    obtain ⟨fifo, held, shape⟩ := pctSend_eq (.claim (cardTrip block).permit) (s.claimingNow (cardTrip block) ilm)
    have quietly : (pctSend (.claim (cardTrip block).permit) (s.claimingNow (cardTrip block) ilm)).Calm := by
      rw [shape]
      exact calm
    refine ⟨_, sends, ?_, ?_, fun room => ?_, fun full room => ?_⟩
    · rw [settle_lanes quietly, shape]
      rfl
    · exact ((settle_steady _).trans (pctSend_steady _ _)).trans (claimingNow_steady unlit)
    · rw [settle_lif_calm quietly, settle_held_calm quietly, pctSend_taken rfl (by exact open_of_run run) (by exact room)]
      exact ⟨rfl, rfl⟩
    · rw [settle_lif_calm quietly, settle_held_calm quietly, pctSend_waits rfl (by exact (open_of_run run).2) (.inr (by exact full))
        (by exact room)]
      exact ⟨rfl, rfl⟩
  · rw [startClaim_isolated (by exact isolated)] at answer
    generalize isGranted : State.modTripFlags _ _ = w at answer
    obtain ⟨v, entered, each⟩ := enterAuthorized_eq w
    have lines : w.lines = ls := by rw [← isGranted]; rfl
    have arms (i : LaneNo) : w.armOn i = s.armOn i := by
      rw [← isGranted]
      exact congrArg (·[i]) arm
    have lanes : w.lanes = s.lanes := by rw [← isGranted]; rfl
    have lane (i : LaneNo) : w.lane i = s.lane i := lane_of_lanes lanes i
    have quietly : (enterAuthorized w).Calm := by
      rw [entered, ← isGranted]
      exact calm
    have steady := (settle_steady (enterAuthorized w)).trans (enterAuthorized_steady w)
    refine ⟨_, answer, steady.trans ?_, fun i => ?_⟩
    · rw [← isGranted]
      exact congrArg (fun m : Ilm => { State.steady { s with pct := { s.pct with
        slot := .authorized, claimWindow := none, authTimer := some (s.now + 300000000)
        trip := some { tr with lines := ls, flags := { isolatedClaim := true, timeUnset := !s.lif.timeSet } } } } with ilm := m }) unlit
    · have after : (settle (enterAuthorized w)).lane i = v[i] := by
        rw [lane_of_lanes (settle_lanes quietly), entered]
        rfl
      obtain ⟨takes, stays⟩ := each i
      rw [State.stage, lane, arms, lines] at takes stays
      rw [after]
      exact ⟨takes, stays⟩

end

section
/-! The validation of order lines (R10 to R12, R110, R111). -/

namespace Sys2Proof.Machine

/-! ### Dose entries (R110, R111) -/

/-- R111: an injector of the lane at whose static limit the lane's low-flow rate can be dosed. -/
def State.Doses (s : State) (i : LaneNo) (d : DoseEntry) : Prop :=
  s.injLane d.injector = some i ∧ ∃ c y, s.laneCfg i = some c ∧ s.injCfg d.injector = some y ∧ c.lowRate ≤ y.rate * y.stroke / d.ratio

theorem servable_iff (s : State) (i : LaneNo) (before : List DoseEntry) (d : DoseEntry) :
    servable s i before d = true ↔ (∀ e ∈ before, e.injector ≠ d.injector) ∧ s.Doses i d := by
  unfold servable State.Doses
  cases s.injCfg d.injector with
  | none => simp
  | some y =>
    cases s.laneCfg i with
    | none => simp
    | some c =>
      simp only [Bool.and_eq_true, decide_eq_true_eq, Bool.not_eq_true', List.any_eq_false, beq_iff_eq]
      constructor
      · rintro ⟨⟨lane, fresh⟩, low⟩
        exact ⟨fresh, lane, c, y, rfl, rfl, low⟩
      · rintro ⟨fresh, lane, _, _, ⟨⟩, ⟨⟩, low⟩
        exact ⟨⟨lane, fresh⟩, low⟩

theorem allServable_iff (s : State) (i : LaneNo) (before rest : List DoseEntry) : allServable s i before rest = true ↔
    (rest.map (·.injector)).Nodup ∧ ∀ d ∈ rest, (∀ e ∈ before, e.injector ≠ d.injector) ∧ s.Doses i d := by
  induction rest generalizing before with
  | nil => simp [allServable]
  | cons d rest ih =>
    rw [allServable, Bool.and_eq_true, servable_iff, ih, List.map_cons, List.nodup_cons]
    simp only [List.mem_cons, List.mem_append, List.mem_map, List.not_mem_nil, or_false]
    constructor
    · rintro ⟨⟨fresh, doses⟩, once, others⟩
      refine ⟨⟨?_, once⟩, ?_⟩
      · rintro ⟨e, mem, same⟩
        exact (others e mem).1 d (.inr rfl) same.symm
      · rintro e (rfl | mem)
        · exact ⟨fresh, doses⟩
        · exact ⟨fun x m => (others e mem).1 x (.inl m), (others e mem).2⟩
    · rintro ⟨⟨out, once⟩, all⟩
      refine ⟨all d (.inl rfl), once, fun e mem => ⟨?_, (all e (.inr mem)).2⟩⟩
      rintro x (m | rfl)
      · exact (all e (.inr mem)).1 x m
      · exact fun same => out ⟨e, mem, same.symm⟩

/-- R111: the dose entries that the lane can serve together. -/
def State.Serves (s : State) (i : LaneNo) (ds : List DoseEntry) : Prop :=
  (ds.map (·.injector)).Nodup ∧ ∀ d ∈ ds, s.Doses i d

theorem checkedDoses_of_serves {s : State} {i : LaneNo} {ds : List DoseEntry} (serves : s.Serves i ds) :
    checkedDoses s i ds = .ok ds :=
  if_pos ((allServable_iff s i [] ds).2 ⟨serves.1, fun d mem => ⟨fun _ none => (List.not_mem_nil none).elim, serves.2 d mem⟩⟩)

theorem checkedDoses_of_not {s : State} {i : LaneNo} {ds : List DoseEntry} (not : ¬s.Serves i ds) :
    checkedDoses s i ds = .error .recipeNotServable := by
  refine if_neg fun all => not ?_
  obtain ⟨once, each⟩ := (allServable_iff s i [] ds).1 all
  exact ⟨once, fun d mem => (each d mem).2⟩

theorem checkedDoses_ok {s : State} {i : LaneNo} {ds out : List DoseEntry} (ok : checkedDoses s i ds = .ok out) :
    out = ds ∧ s.Serves i ds := by
  by_cases serves : s.Serves i ds
  · rw [checkedDoses_of_serves serves] at ok
    exact ⟨(Except.ok.inj ok).symm, serves⟩
  · rw [checkedDoses_of_not serves] at ok
    cases ok

/-- The dose entries that a recipe of kind 1 or 2 names (R110). -/
def recipeDoses (t : Tables) (r : RecipeCfg) : List DoseEntry :=
  if r.kind = 1 then [doseEntryOf r.dose] else doseBlock t r.dose.injector

theorem resolveRecipe_zero (s : State) (i : LaneNo) : resolveRecipe s 0 i = .ok [] := rfl

theorem resolveRecipe_absent {s : State} {code : Nat} (named : code ≠ 0) (absent : entryOf s.cfg.recipes code = none) (i : LaneNo) :
    resolveRecipe s code i = .error .recipeNotServable := by
  rw [resolveRecipe, if_neg named, absent]

theorem resolveRecipe_served {s : State} {code : Nat} {r : RecipeCfg} {i : LaneNo} (named : code ≠ 0)
    (entry : entryOf s.cfg.recipes code = some r) (kind : r.kind = 1 ∨ r.kind = 2)
    (serves : recipeDoses s.cfg r ≠ [] ∧ s.Serves i (recipeDoses s.cfg r)) :
    resolveRecipe s code i = .ok (recipeDoses s.cfg r) := by
  rw [resolveRecipe, if_neg named, entry]
  unfold recipeDoses at serves ⊢
  rcases kind with h | h
  · simp only [h, if_true] at serves ⊢
    exact checkedDoses_of_serves serves.2
  · simp only [h, Nat.reduceEqDiff, if_false] at serves ⊢
    rw [if_neg serves.1, checkedDoses_of_serves serves.2]

theorem resolveRecipe_unserved {s : State} {code : Nat} {r : RecipeCfg} {i : LaneNo} (named : code ≠ 0)
    (entry : entryOf s.cfg.recipes code = some r) (kind : r.kind = 1 ∨ r.kind = 2)
    (not : ¬(recipeDoses s.cfg r ≠ [] ∧ s.Serves i (recipeDoses s.cfg r))) :
    resolveRecipe s code i = .error .recipeNotServable := by
  rw [resolveRecipe, if_neg named, entry]
  unfold recipeDoses at not
  rcases kind with h | h
  · simp only [h, if_true] at not ⊢
    exact checkedDoses_of_not fun serves => not ⟨List.cons_ne_nil _ _, serves⟩
  · simp only [h, Nat.reduceEqDiff, if_false] at not ⊢
    split
    · rfl
    · exact checkedDoses_of_not fun serves => not ⟨‹_›, serves⟩

theorem resolveRecipe_withdrawn {s : State} {code : Nat} {r : RecipeCfg} (named : code ≠ 0)
    (entry : entryOf s.cfg.recipes code = some r) (kind : r.kind = 3) (i : LaneNo) :
    resolveRecipe s code i = .error .recipeWithdrawn := by
  rw [resolveRecipe, if_neg named, entry]
  simp only [kind]

/-- R110, R111: what a resolved recipe is. -/
theorem resolveRecipe_ok {s : State} {code : Nat} {i : LaneNo} {ds : List DoseEntry} (ok : resolveRecipe s code i = .ok ds) :
    s.Serves i ds ∧ (code = 0 → ds = []) ∧ (code ≠ 0 → ∃ r, entryOf s.cfg.recipes code = some r ∧
      ((r.kind = 1 ∧ ds = [doseEntryOf r.dose]) ∨ (r.kind = 2 ∧ ds = doseBlock s.cfg r.dose.injector ∧ ds ≠ []))) := by
  unfold resolveRecipe at ok
  split at ok
  · rename_i zero
    obtain rfl := Except.ok.inj ok
    exact ⟨⟨List.nodup_nil, fun _ none => (List.not_mem_nil none).elim⟩, fun _ => rfl, fun named => absurd zero named⟩
  · rename_i named
    split at ok
    · cases ok
    · rename_i r entry
      split at ok
      · rename_i kind
        obtain ⟨rfl, serves⟩ := checkedDoses_ok ok
        exact ⟨serves, fun zero => absurd zero named, fun _ => ⟨r, entry, .inl ⟨kind, rfl⟩⟩⟩
      · rename_i kind
        split at ok
        · cases ok
        · rename_i some
          obtain ⟨rfl, serves⟩ := checkedDoses_ok ok
          exact ⟨serves, fun zero => absurd zero named, fun _ => ⟨r, entry, .inr ⟨kind, rfl, some⟩⟩⟩
      · cases ok

/-! ### The resolved lane and the class (R10, R11) -/

theorem carries_iff (s : State) (product : Nat) (i : LaneNo) :
    carries s product i = true ↔ ∃ c, s.laneCfg i = some c ∧ c.product = product := by
  unfold carries
  cases s.laneCfg i <;> simp

theorem allLanes_getElem : ∀ (n : Nat) (h : n < allLanes.length), (allLanes[n]).val = n := by decide

/-- R11: the resolved lane is the lowest-numbered fitted lane that carries the product. -/
theorem laneFor_some {s : State} {product : Nat} {i : LaneNo} (found : laneFor s product = some i) :
    carries s product i = true ∧ ∀ j : LaneNo, j < i → carries s product j = false := by
  obtain ⟨is, n, h, here, before⟩ := List.find?_eq_some_iff_getElem.1 found
  refine ⟨is, fun j below => ?_⟩
  have at_ : n = i.val := by rw [← here, allLanes_getElem]
  have inside : j.val < allLanes.length := j.isLt
  have none := before j.val (by rw [at_]; exact below)
  rw [show allLanes[j.val] = j from Fin.ext (allLanes_getElem j.val inside)] at none
  simpa using none

theorem laneFor_none {s : State} {product : Nat} : laneFor s product = none ↔ ∀ i, carries s product i = false := by
  simp [laneFor, mem_allLanes]

theorem laneFor_of_lowest {s : State} {product : Nat} {i : LaneNo} (is : carries s product i = true)
    (lowest : ∀ j : LaneNo, j < i → carries s product j = false) : laneFor s product = some i := by
  cases found : laneFor s product with
  | none =>
    rw [laneFor_none.1 found i] at is
    cases is
  | some k =>
    obtain ⟨other, least⟩ := laneFor_some found
    rcases lt_trichotomy k i with h | rfl | h
    · rw [lowest k h] at other
      cases other
    · rfl
    · rw [least i h] at is
      cases is

theorem classOk_iff (s : State) (classes : BitVec 16) (product : Nat) :
    classOk s classes product = true ↔ ∃ p, entryOf s.cfg.products product = some p ∧ classes.getLsbD p.cls = true := by
  unfold classOk
  cases entryOf s.cfg.products product <;> simp

theorem compartmentOk_iff (count c : Nat) : compartmentOk count c = true ↔ 1 ≤ c ∧ c ≤ count := by simp [compartmentOk]

/-! ### One line, and the lines in turn (R10) -/

/-- What the checks of a line leave of it: its compartment. -/
theorem checkLineOf_compartment (s : State) (classes : BitVec 16) (count : Nat) (before : List OrderLine) (l : OrderLine) :
    (checkLineOf s classes count before l).compartment = l.compartment := by
  unfold checkLineOf
  repeat' split
  all_goals rfl

/-- The lines before matter by their compartments alone. -/
theorem checkLineOf_congr {s : State} {classes : BitVec 16} {count : Nat} {before earlier : List OrderLine}
    (same : before.map (·.compartment) = earlier.map (·.compartment)) (l : OrderLine) :
    checkLineOf s classes count before l = checkLineOf s classes count earlier l := by
  have any : (before.any fun e => e.compartment == l.compartment) = earlier.any fun e => e.compartment == l.compartment := by
    have e := congrArg (List.any · (· == l.compartment)) same
    simpa [List.any_map, Function.comp_def] using e
  unfold checkLineOf
  rw [any]

theorem checkLines_prefix (s : State) (classes : BitVec 16) (count : Nat) (before rest : List OrderLine) :
    before <+: checkLines s classes count before rest := by
  induction rest generalizing before with
  | nil => exact List.prefix_rfl
  | cons l rest ih => exact (List.prefix_append _ _).trans (ih _)

theorem checkLines_length (s : State) (classes : BitVec 16) (count : Nat) (before rest : List OrderLine) :
    (checkLines s classes count before rest).length = before.length + rest.length := by
  induction rest generalizing before with
  | nil => rfl
  | cons l rest ih =>
    rw [checkLines, ih, List.length_append, List.length_cons, List.length_cons, List.length_nil]
    omega

/-- R10: the line at a place is checked after the lines before it. -/
theorem checkLines_getElem? (s : State) (classes : BitVec 16) (count : Nat) (before rest : List OrderLine) (k : Nat) :
    (checkLines s classes count before rest)[before.length + k]? =
      rest[k]?.map (checkLineOf s classes count (before ++ rest.take k)) := by
  induction rest generalizing before k with
  | nil => simp [checkLines]
  | cons l rest ih =>
    have next := ih (before ++ [checkLineOf s classes count before l])
    rw [checkLines]
    cases k with
    | zero =>
      obtain ⟨tail, e⟩ := checkLines_prefix s classes count (before ++ [checkLineOf s classes count before l]) rest
      rw [← e]
      simp
    | succ k =>
      have at_ := next k
      rw [List.length_append, List.length_singleton, Nat.add_assoc, Nat.add_comm 1 k] at at_
      rw [at_, List.getElem?_cons_succ, List.take_succ_cons]
      congr 1
      funext x
      refine checkLineOf_congr ?_ x
      simp [checkLineOf_compartment]

/-- R10, R12: a line as its checks and the clamp leave it. -/
def State.lineOf (s : State) (tr : Trip) (k : Nat) (x : OrderLine) : OrderLine :=
  clampLine tr.capacities (checkLineOf s tr.classSet tr.capacities.length (tr.lines.take k) x)

theorem validatedLines_getElem? (s : State) (tr : Trip) (k : Nat) :
    (validatedLines s tr)[k]? = tr.lines[k]?.map (s.lineOf tr k) := by
  have e := checkLines_getElem? s tr.classSet tr.capacities.length [] tr.lines k
  rw [List.length_nil, Nat.zero_add, List.nil_append] at e
  rw [validatedLines, List.getElem?_map, e, Option.map_map]
  rfl

theorem validatedLines_length (s : State) (tr : Trip) : (validatedLines s tr).length = tr.lines.length := by
  rw [validatedLines, List.length_map, checkLines_length, List.length_nil, Nat.zero_add]

theorem clampLine_keeps (capacities : List Nat) (l : OrderLine) : (clampLine capacities l).status = l.status ∧
    (clampLine capacities l).lane = l.lane ∧ (clampLine capacities l).compartment = l.compartment ∧
    (clampLine capacities l).product = l.product ∧ (clampLine capacities l).recipe = l.recipe ∧
    (clampLine capacities l).doses = l.doses := by
  unfold clampLine
  repeat' split
  all_goals exact ⟨rfl, rfl, rfl, rfl, rfl, rfl⟩

theorem clampLine_of_not_waiting {capacities : List Nat} {l : OrderLine} (other : l.status ≠ .waiting) : clampLine capacities l = l := by
  unfold clampLine
  split
  · rfl
  · exact if_neg fun h => other h.1

theorem lineOf_compartment (s : State) (tr : Trip) (k : Nat) (x : OrderLine) : (s.lineOf tr k x).compartment = x.compartment :=
  (clampLine_keeps _ _).2.2.1.trans (checkLineOf_compartment ..)

/-! ### The outcome of one line, check by check (R10) -/

/-- R10: an earlier line of the same compartment. -/
def repeats (before : List OrderLine) (x : OrderLine) : Bool := before.any fun e => e.compartment == x.compartment

section

variable {s : State} {classes : BitVec 16} {count : Nat} {before : List OrderLine} {x : OrderLine}

theorem checkLineOf_invalid (bad : compartmentOk count x.compartment = false) :
    checkLineOf s classes count before x = { x with status := .refused .compartmentInvalid } :=
  if_pos (by rw [bad]; rfl)

theorem checkLineOf_valid (ok : compartmentOk count x.compartment = true) : checkLineOf s classes count before x =
    if repeats before x then { x with status := .refused .duplicateCompartment }
    else match laneFor s x.product with
      | none => { x with status := .refused .productNotAtBay }
      | some i =>
        if !classOk s classes x.product then { x with status := .refused .classNotPermitted }
        else if x.preset < 50 then { x with lane := some i, status := .refused .presetTooSmall }
        else match resolveRecipe s x.recipe i with
          | .error r => { x with lane := some i, status := .refused r }
          | .ok ds => { x with lane := some i, doses := ds, status := .waiting } :=
  if_neg (by rw [ok]; exact Bool.false_ne_true)

theorem checkLineOf_twice (ok : compartmentOk count x.compartment = true) (twice : repeats before x = true) :
    checkLineOf s classes count before x = { x with status := .refused .duplicateCompartment } := by
  rw [checkLineOf_valid ok, if_pos twice]

theorem checkLineOf_nowhere (ok : compartmentOk count x.compartment = true) (once : repeats before x = false)
    (nowhere : laneFor s x.product = none) :
    checkLineOf s classes count before x = { x with status := .refused .productNotAtBay } := by
  rw [checkLineOf_valid ok, if_neg (by rw [once]; exact Bool.false_ne_true), nowhere]

theorem checkLineOf_at {i : LaneNo} (ok : compartmentOk count x.compartment = true) (once : repeats before x = false)
    (lane : laneFor s x.product = some i) : checkLineOf s classes count before x =
      if !classOk s classes x.product then { x with status := .refused .classNotPermitted }
      else if x.preset < 50 then { x with lane := some i, status := .refused .presetTooSmall }
      else match resolveRecipe s x.recipe i with
        | .error r => { x with lane := some i, status := .refused r }
        | .ok ds => { x with lane := some i, doses := ds, status := .waiting } := by
  rw [checkLineOf_valid ok, if_neg (by rw [once]; exact Bool.false_ne_true), lane]

/-- R10: a line that stays WAITING has passed every check. -/
theorem checkLineOf_waiting (waits : (checkLineOf s classes count before x).status = .waiting) :
    compartmentOk count x.compartment = true ∧ repeats before x = false ∧ ∃ i ds, laneFor s x.product = some i ∧
      classOk s classes x.product = true ∧ 50 ≤ x.preset ∧ resolveRecipe s x.recipe i = .ok ds ∧
      checkLineOf s classes count before x = { x with lane := some i, doses := ds, status := .waiting } := by
  cases ok : compartmentOk count x.compartment with
  | false =>
    rw [checkLineOf_invalid ok] at waits
    cases waits
  | true =>
    cases twice : repeats before x with
    | true =>
      rw [checkLineOf_twice ok twice] at waits
      cases waits
    | false =>
      cases lane : laneFor s x.product with
      | none =>
        rw [checkLineOf_nowhere ok twice lane] at waits
        cases waits
      | some i =>
        rw [checkLineOf_at ok twice lane] at waits ⊢
        cases cls : classOk s classes x.product with
        | false =>
          rw [cls] at waits
          cases waits
        | true =>
          rw [cls, if_neg (by decide)] at waits
          rw [if_neg (by decide)]
          by_cases small : x.preset < 50
          · rw [if_pos small] at waits
            cases waits
          · rw [if_neg small] at waits ⊢
            cases recipe : resolveRecipe s x.recipe i with
            | error r =>
              rw [recipe] at waits
              cases waits
            | ok ds => exact ⟨rfl, rfl, i, ds, rfl, rfl, Nat.not_lt.1 small, recipe, rfl⟩

theorem checkLineOf_cases : (∃ r lane, checkLineOf s classes count before x = { x with status := .refused r, lane := lane }) ∨
    (checkLineOf s classes count before x).status = .waiting := by
  unfold checkLineOf
  repeat' split
  all_goals first
    | exact .inl ⟨_, _, rfl⟩
    | exact .inr rfl

/-- R10: a line that is refused is the card's line with its reason and, after the class check, its resolved lane. -/
theorem checkLineOf_refused {r : LineRefusal} (refused : (checkLineOf s classes count before x).status = .refused r) :
    checkLineOf s classes count before x = { x with status := .refused r, lane := (checkLineOf s classes count before x).lane } := by
  obtain ⟨r', lane, e⟩ | waits := checkLineOf_cases (s := s) (classes := classes) (count := count) (before := before) (x := x)
  · rw [e] at refused ⊢
    obtain rfl := LineStatus.refused.inj refused
    rfl
  · rw [waits] at refused
    cases refused

end

theorem repeats_iff {tr : Trip} {k : Nat} {x : OrderLine} : repeats (tr.lines.take k) x = true ↔
    ∃ (j : Nat) (y : OrderLine), j < k ∧ tr.lines[j]? = some y ∧ y.compartment = x.compartment := by
  simp only [repeats, List.any_eq_true, beq_iff_eq, List.mem_take_iff_getElem]
  constructor
  · rintro ⟨y, ⟨j, h, e⟩, same⟩
    exact ⟨j, y, by omega, by rw [List.getElem?_eq_getElem (by omega), e], same⟩
  · rintro ⟨j, y, below, here, same⟩
    obtain ⟨h, e⟩ := List.getElem?_eq_some_iff.1 here
    exact ⟨y, ⟨j, by omega, e⟩, same⟩

/-! ### The line that validation leaves -/

section

variable {s : State} {tr : Trip} {k : Nat} {x : OrderLine}

theorem lineOf_status : (s.lineOf tr k x).status = (checkLineOf s tr.classSet tr.capacities.length (tr.lines.take k) x).status :=
  (clampLine_keeps _ _).1

theorem lineOf_lane : (s.lineOf tr k x).lane = (checkLineOf s tr.classSet tr.capacities.length (tr.lines.take k) x).lane :=
  (clampLine_keeps _ _).2.1

/-- R12: a line that stays WAITING, its preset clamped to the capacity of its compartment. -/
theorem lineOf_waiting (unclamped : x.clamped = false) (waits : (s.lineOf tr k x).status = .waiting) :
    (1 ≤ x.compartment ∧ x.compartment ≤ tr.capacities.length) ∧ repeats (tr.lines.take k) x = false ∧ ∃ i ds cap,
      laneFor s x.product = some i ∧ classOk s tr.classSet x.product = true ∧ 50 ≤ x.preset ∧ resolveRecipe s x.recipe i = .ok ds ∧
      tr.capacities[x.compartment - 1]? = some cap ∧ s.lineOf tr k x = { x with
        lane := some i, doses := ds, status := .waiting, preset := min x.preset cap, clamped := decide (cap < x.preset) } := by
  obtain ⟨ok, once, i, ds, lane, cls, preset, recipe, checked⟩ := checkLineOf_waiting (lineOf_status.symm.trans waits)
  obtain ⟨low, high⟩ := (compartmentOk_iff _ _).1 ok
  obtain ⟨cap, capacity⟩ : ∃ cap, tr.capacities[x.compartment - 1]? = some cap :=
    ⟨_, List.getElem?_eq_getElem (by omega)⟩
  refine ⟨⟨low, high⟩, once, i, ds, cap, lane, cls, preset, recipe, capacity, ?_⟩
  rw [State.lineOf, checked, clampLine, show tr.capacities[({ x with lane := some i, doses := ds, status := .waiting } : OrderLine).compartment - 1]? =
    some cap from capacity]
  by_cases much : cap < x.preset
  · simp [much, Nat.min_eq_right much.le]
  · simp [much, Nat.min_eq_left (Nat.not_lt.1 much), unclamped]

end

end Sys2Proof.Machine

open Sys2Proof Sys2Proof.Machine

/-- Settles O13, by the checks of a line in their order. -/
theorem linesAreValidated : Obligations.LinesAreValidated := by
  refine ⟨fun s tr k l fresh here waits => ?_, fun s tr k x fresh here => ⟨validatedLines_length s tr, s.lineOf tr k x, ?_, ?_⟩⟩
  · rw [validatedLines_getElem?] at here
    obtain ⟨x, card, rfl⟩ := Option.map_eq_some_iff.1 here
    obtain ⟨valid, once, i, ds, cap, lane, cls, preset, recipe, capacity, e⟩ :=
      lineOf_waiting (fresh x (List.mem_of_getElem? card)).2.2 waits
    obtain ⟨serves, none, named⟩ := resolveRecipe_ok recipe
    obtain ⟨carried, lowest⟩ := laneFor_some lane
    obtain ⟨c, cfg, product⟩ := (carries_iff s x.product i).1 carried
    rw [e]
    refine ⟨valid, ⟨x, card, rfl, rfl, rfl, preset, cap, capacity, rfl, decide_eq_true_iff⟩,
      ⟨i, rfl, c, cfg, product, fun j below d here same => ?_, serves.1, fun d mem => ?_⟩, none, named,
      (classOk_iff s tr.classSet x.product).1 cls, fun j m there waiting same => ?_⟩
    · have not := lowest j below
      rw [(carries_iff s x.product j).2 ⟨d, here, same⟩] at not
      cases not
    · obtain ⟨own, c', y, cfg', inj, low⟩ := serves.2 d mem
      obtain rfl := Option.some.inj (cfg.symm.trans cfg')
      exact ⟨own, y, inj, low⟩
    · rw [validatedLines_getElem?] at there
      obtain ⟨y, other, rfl⟩ := Option.map_eq_some_iff.1 there
      rw [lineOf_compartment] at same
      obtain ⟨-, onceToo, -⟩ := lineOf_waiting (fresh y (List.mem_of_getElem? other)).2.2 waiting
      rcases lt_trichotomy j k with below | rfl | above
      · have twice : repeats (tr.lines.take k) x = true := repeats_iff.2 ⟨j, y, below, other, same⟩
        rw [once] at twice
        cases twice
      · rfl
      · have twice : repeats (tr.lines.take j) y = true := repeats_iff.2 ⟨k, x, above, card, same.symm⟩
        rw [onceToo] at twice
        cases twice
  · rw [validatedLines_getElem?, here]
    rfl
  · obtain ⟨-, unlaned, unclamped⟩ := fresh x (List.mem_of_getElem? here)
    refine ⟨fun r refused => ?_, fun bad => ?_, fun ok twice => ?_, fun ok once nowhere => ?_, fun i ok once carried lowest =>
      ⟨fun other => ?_, fun classed => ?_, fun classed small => ?_, fun classed enough =>
        ⟨fun zero => ?_, fun named => ⟨fun absent => ?_, fun r entry => ⟨fun withdrawn => ?_, fun kind =>
          ⟨fun serves => ?_, fun not => ?_⟩⟩⟩⟩⟩⟩
    · have checked := checkLineOf_refused (lineOf_status.symm.trans refused)
      have same : s.lineOf tr k x = checkLineOf s tr.classSet tr.capacities.length (tr.lines.take k) x :=
        clampLine_of_not_waiting (by rw [← lineOf_status, refused]; exact LineStatus.noConfusion)
      rw [same]
      exact checked
    · rw [lineOf_status, lineOf_lane, checkLineOf_invalid (Bool.eq_false_iff.2 fun ok => bad ((compartmentOk_iff _ _).1 ok))]
      exact ⟨rfl, unlaned⟩
    · rw [lineOf_status, lineOf_lane, checkLineOf_twice ((compartmentOk_iff _ _).2 ok) (repeats_iff.2 twice)]
      exact ⟨rfl, unlaned⟩
    · rw [lineOf_status, lineOf_lane, checkLineOf_nowhere ((compartmentOk_iff _ _).2 ok)
        (Bool.eq_false_iff.2 fun twice => once (repeats_iff.1 twice))
        (laneFor_none.2 fun i => Bool.eq_false_iff.2 fun is => nowhere i ((carries_iff s x.product i).1 is))]
      exact ⟨rfl, unlaned⟩
    all_goals
      have lane : laneFor s x.product = some i := laneFor_of_lowest ((carries_iff s x.product i).2 carried)
        fun j below => Bool.eq_false_iff.2 fun is => lowest j below ((carries_iff s x.product j).1 is)
      have checked := checkLineOf_at (classes := tr.classSet) ((compartmentOk_iff tr.capacities.length x.compartment).2 ok)
        (Bool.eq_false_iff.2 fun twice => once (repeats_iff.1 twice)) lane
    · rw [lineOf_status, lineOf_lane, checked, if_pos (by rw [Bool.eq_false_iff.2 fun is => other ((classOk_iff _ _ _).1 is)]; rfl)]
      exact ⟨rfl, unlaned⟩
    all_goals rw [if_neg (by rw [(classOk_iff s tr.classSet x.product).2 classed]; decide)] at checked
    · rw [lineOf_lane, checked]
      split
      · rfl
      · split <;> rfl
    · rw [lineOf_status, checked, if_pos small]
    all_goals rw [if_neg (Nat.not_lt.2 enough)] at checked
    · rw [lineOf_status, checked, zero, resolveRecipe_zero]
    · rw [lineOf_status, checked, resolveRecipe_absent named absent]
    · rw [lineOf_status, checked, resolveRecipe_withdrawn named entry withdrawn]
    · rw [lineOf_status, checked, resolveRecipe_served named entry kind serves]
    · rw [lineOf_status, checked, resolveRecipe_unserved named entry kind not]

end

section
/-! The printer port (R179, R181). -/

namespace Sys2Proof.Machine

theorem prints_of_steady {s t : State} (same : t.steady = s.steady) : t.ntb.prints = s.ntb.prints := congrArg (·.ntb.prints) same

theorem port_of_steady {s t : State} (same : t.steady = s.steady) : t.ntb.port = s.ntb.port := congrArg (·.ntb.port) same

theorem sendNext_busy {s : State} {y : Char} {rest : List Char} (free : s.ntb.port.wire = none) (chars : s.ntb.port.chars = y :: rest)
    (busy : s.ntb.port.busy = true) : sendNext s = s := by
  rw [sendNext, free, chars]
  exact if_pos busy

theorem sendNext_free {s : State} {y : Char} {rest : List Char} (free : s.ntb.port.wire = none) (chars : s.ntb.port.chars = y :: rest)
    (released : s.ntb.port.busy = false) :
    sendNext s = s.modNtb fun x => { x with port := { x.port with wire := some y, chars := rest } } := by
  rw [sendNext, free, chars]
  exact if_neg (by rw [released]; exact Bool.false_ne_true)

/-- A character has left the port (R181). -/
def State.offWire (s : State) (x : Char) : State :=
  (s.emit (.printed x)).modNtb fun n => { n with port := { n.port with wire := none } }

theorem characterGone_last {s : State} (x : Char) (last : s.ntb.port.chars = []) :
    characterGone (s.emit (.printed x)) = finishPrint printPrinted (s.offWire x) := if_pos last

theorem characterGone_more {s : State} (x : Char) {y : Char} {rest : List Char} (more : s.ntb.port.chars = y :: rest) :
    characterGone (s.emit (.printed x)) = sendNext (s.offWire x) :=
  if_neg (by
    show s.ntb.port.chars ≠ []
    rw [more]
    exact List.cons_ne_nil _ _)

theorem exec_characterSent {s : State} {x : Char} (sent : s.ntb.port.wire = some x) :
    exec .characterSent s = finish (characterGone (s.emit (.printed x))) := by
  change execCharacterSent s = _
  rw [execCharacterSent, sent]

/-- The head entry out of the print queue, its text and timer gone (R181). -/
def State.unprinting (s : State) (rest : List PrintEntry) : State :=
  s.modNtb fun x => { x with prints := rest, port := { x.port with chars := [], timer := none } }

/-- R181: the last entry of the print queue leaves it with its outcome, and no print begins. -/
theorem finishPrint_last {s : State} {h : PrintEntry} (last : s.ntb.prints = [h]) (code : Nat) :
    finishPrint code s = requestStatus h.number .print code (s.unprinting []) := by
  have none : (requestStatus h.number .print code (s.unprinting [])).ntb.prints = [] :=
    prints_of_steady (requestStatus_steady h.number .print code (s.unprinting []))
  rw [finishPrint, last]
  dsimp only
  rw [← State.unprinting, beginPrint, none]

/-- What a print that ends with an outcome leaves, its entry the only one. -/
theorem settle_finishPrint {s u : State} {h : PrintEntry} (calm : u.Calm) (stp : u.stp = s.stp)
    (statuses : u.ntb.statusList = s.ntb.statusList) (last : u.ntb.prints = [h]) (code : Nat) :
    (settle (finishPrint code u)).steady = (u.unprinting []).steady ∧
    (s.ntb.statusList = [] → s.stp.queue.length < 12 → s.stp.flight.isSome = true →
      (settle (finishPrint code u)).stp.queue = s.stp.queue ++ [⟨.noteStatus h.number .print code, false⟩]) := by
  rw [finishPrint_last last]
  refine ⟨(settle_steady _).trans (requestStatus_steady _ _ _ _), fun none room flight => ?_⟩
  rw [settle_requestStatus_queue (s := u.unprinting []) calm (statuses.trans none) (by exact stp ▸ room) (by exact stp ▸ flight)]
  rw [show (u.unprinting []).stp = s.stp from stp]

end Sys2Proof.Machine

open Sys2Proof Sys2Proof.Machine

/-- Settles O56, by the event at the port. -/
theorem printerPort : Obligations.PrinterPort := by
  intro s calm
  refine ⟨fun x y rest sent chars => ?_, fun x h sent chars last => ?_, fun d h running last => ?_, fun released => ?_,
    fun y rest busy free chars => ?_, fun asserted same => ?_⟩
  · have answer := exec_characterSent sent
    rw [characterGone_more x chars] at answer
    cases busy : s.ntb.port.busy with
    | true =>
      rw [sendNext_busy (s := s.offWire x) rfl chars busy] at answer
      have yields := yields_of_finish answer (by exact calm)
      rw [if_pos rfl, if_pos rfl, ← chars]
      exact yields
    | false =>
      rw [sendNext_free (s := s.offWire x) rfl chars busy] at answer
      exact yields_of_finish answer (by exact calm)
  · have answer := exec_characterSent sent
    rw [characterGone_last x chars] at answer
    obtain ⟨steady, queue⟩ := settle_finishPrint (s := s) (h := h) (u := s.offWire x) calm rfl rfl last printPrinted
    refine ⟨_, answer, outbox_of_steady steady, prints_of_steady steady, ?_, ?_, queue⟩
    · rw [port_of_steady steady]
      rfl
    · rw [port_of_steady steady]
      rfl
  · have answer : exec .busyTimerExpiry s = finish (finishPrint printFailed (s.reach d)) := by
      change execBusyTimerExpiry s = _
      rw [execBusyTimerExpiry, onExpiry_some running]
    obtain ⟨steady, queue⟩ := settle_finishPrint (s := s) (h := h) (u := s.reach d) calm rfl rfl last printFailed
    refine ⟨_, answer, now_of_steady steady, prints_of_steady steady, ?_, ?_, queue⟩
    · rw [port_of_steady steady]
      rfl
    · rw [port_of_steady steady]
      rfl
  · have answer : exec (.busyChange true) s = finish (busyAsserted s) := by
      change execBusyChange true s = _
      rw [execBusyChange, if_neg (by rw [released]; exact Bool.noConfusion)]
      rfl
    have timer : (if s.sul.done && !s.ntb.prints.isEmpty then some (s.now + Config.busyTime) else s.ntb.port.timer) =
        if s.sul.done = true ∧ s.ntb.prints ≠ [] then some (s.now + 30000000) else s.ntb.port.timer := by
      refine if_congr ?_ rfl rfl
      simp
    have yields := yields_of_finish answer (by exact calm)
    rw [← timer]
    exact yields
  · have answer : exec (.busyChange false) s = finish (busyReleased s) := by
      change execBusyChange false s = _
      rw [execBusyChange, if_neg (by rw [busy]; exact Bool.noConfusion)]
      rfl
    rw [busyReleased, sendNext_free (y := y) (rest := rest) (by exact free) (by exact chars) rfl] at answer
    exact yields_of_finish answer (by exact calm)
  · change execBusyChange asserted s = _
    exact if_pos same

end

section
/-! The pass of a lane (R51): pulses, volume and temperature (R78 to R106), the pulse fault (R87) and the leak pass (R73). -/

namespace Sys2Proof.Machine

/-! ### What a pass keeps of a lane once its volume is formed -/

/-- A lane without its stage, its rate, its outputs and what a close decision records: what no step of a pass after the volume
step changes. -/
def Lane.kernel (l : Lane) : Lane :=
  { l with
    stage := .idle, setpoint := 0, wanted := 0, grossAtClose := 0, closeReason := none, noFlow := 0, quiet := 0
    closing := none, openOut := false, holdOut := false, step := none, limit := none }

section
variable {a b : Lane} (same : a.kernel = b.kernel)
include same

theorem line_of_kernel : a.line = b.line := congrArg (·.line) same

theorem piu_of_kernel : a.piu = b.piu := congrArg (·.piu) same

theorem ven_of_kernel : a.ven = b.ven := congrArg (·.ven) same

theorem hist_of_kernel : a.hist = b.hist := congrArg (·.hist) same

theorem leak_of_kernel : a.leak = b.leak := congrArg (·.leak) same

theorem leakCarry_of_kernel : a.leakCarry = b.leakCarry := congrArg (·.leakCarry) same

theorem tick_of_kernel : a.tick = b.tick := congrArg (·.tick) same

end

/-- R66: the no-flow count after a tick. -/
def noFlowAfter (pulses : Nat) (d : Steer) (count : Nat) : Nat := if pulses = 0 ∧ d = .open then count + 1 else 0

/-- A lane with the no-flow count `n`. -/
def noFlowCounted (i : LaneNo) (n : Nat) (s : State) : State := s.modLane i fun l => { l with noFlow := n }

theorem noFlowStep_eq (i : LaneNo) (pulses : Nat) (d : Steer) (s : State) : noFlowStep i pulses d s =
    if 16 ≤ noFlowAfter pulses d (s.lane i).noFlow then
      closeDecision i .noFlow (noFlowCounted i (noFlowAfter pulses d (s.lane i).noFlow) s)
    else noFlowCounted i (noFlowAfter pulses d (s.lane i).noFlow) s := rfl

section
variable (i : LaneNo) (s : State)

theorem modLane_kernel {f : Lane → Lane} (same : (f (s.lane i)).kernel = (s.lane i).kernel) :
    ((s.modLane i f).lane i).kernel = (s.lane i).kernel := by
  rwa [modLane_lane_self]

theorem closeDecision_kernel (reason : EndReason) : ((closeDecision i reason s).lane i).kernel = (s.lane i).kernel :=
  modLane_kernel i s rfl

theorem retarget_kernel : ((retarget i s).lane i).kernel = (s.lane i).kernel := modLane_kernel i s rfl

theorem rise_kernel : ((rise i s).lane i).kernel = (s.lane i).kernel := by
  unfold rise
  split
  · rfl
  · exact modLane_kernel i s rfl

theorem setStage_kernel (st : Stage) : ((setStage i st s).lane i).kernel = (s.lane i).kernel := by
  rw [setStage, retarget_kernel]
  exact modLane_kernel i s rfl

theorem giveLimit_kernel : ((giveLimit i s).lane i).kernel = (s.lane i).kernel := by
  obtain ⟨_, _, _, -, e⟩ := giveLimit_lane_self i s
  rw [e]
  rfl

theorem commandOutputs_kernel (d : Steer) (now : Nat) (l : Lane) : (commandOutputs d now l).kernel = l.kernel := by
  cases d <;> rfl

theorem steerNow_kernel : ((steerNow i s).lane i).kernel = (s.lane i).kernel := by
  unfold steerNow
  split
  · exact modLane_kernel i s (commandOutputs_kernel ..)
  · exact modLane_kernel i s rfl

theorem stageStep_kernel (c : LaneCfg) : ((stageStep c i s).lane i).kernel = (s.lane i).kernel := by
  unfold stageStep
  split
  · exact closeDecision_kernel ..
  · exact setStage_kernel ..

theorem noFlowStep_kernel (pulses : Nat) (d : Steer) : ((noFlowStep i pulses d s).lane i).kernel = (s.lane i).kernel := by
  rw [noFlowStep_eq]
  split
  · rw [closeDecision_kernel]
    exact modLane_kernel i s rfl
  · exact modLane_kernel i s rfl

theorem steerStep_kernel (pulses : Nat) : ((steerStep i pulses s).lane i).kernel = (s.lane i).kernel := by
  unfold steerStep
  split
  · rw [noFlowStep_kernel, steerNow_kernel, rise_kernel, retarget_kernel]
  · rfl

/-! ### What the steps after the volume step keep of the trip and of the Store Port -/

theorem closeDecision_pct (reason : EndReason) : (closeDecision i reason s).pct = s.pct := modLane_pct _ _ _

theorem rise_pct : (rise i s).pct = s.pct := by
  unfold rise
  split
  · rfl
  · exact modLane_pct _ _ _

theorem stageStep_pct (c : LaneCfg) : (stageStep c i s).pct = s.pct := by
  unfold stageStep
  split
  · exact closeDecision_pct ..
  · exact (retarget_pct ..).trans (modLane_pct _ _ _)

theorem noFlowStep_pct (pulses : Nat) (d : Steer) : (noFlowStep i pulses d s).pct = s.pct := by
  rw [noFlowStep_eq]
  split
  · exact (closeDecision_pct ..).trans (modLane_pct _ _ _)
  · exact modLane_pct _ _ _

theorem steerStep_pct (pulses : Nat) : (steerStep i pulses s).pct = s.pct := by
  unfold steerStep
  split
  · rw [noFlowStep_pct, steerNow_pct, rise_pct, retarget_pct]
  · rfl

theorem closeDecision_stp (reason : EndReason) : (closeDecision i reason s).stp = s.stp := modLane_stp _ _ _

theorem takeFault_stp (reason : EndReason) : (takeFault i reason s).stp = s.stp := by
  obtain e | e | e := takeFault_cases i reason s <;> rw [e]
  · exact closeDecision_stp ..
  · exact (closeDecision_stp ..).trans (modHeld_stp _ _ _)

theorem rise_stp : (rise i s).stp = s.stp := by
  unfold rise
  split
  · rfl
  · exact modLane_stp _ _ _

theorem stageStep_stp (c : LaneCfg) : (stageStep c i s).stp = s.stp := by
  unfold stageStep
  split
  · exact closeDecision_stp ..
  · exact (retarget_stp ..).trans (modLane_stp _ _ _)

theorem noFlowStep_stp (pulses : Nat) (d : Steer) : (noFlowStep i pulses d s).stp = s.stp := by
  rw [noFlowStep_eq]
  split
  · exact (closeDecision_stp ..).trans (modLane_stp _ _ _)
  · exact modLane_stp _ _ _

theorem steerStep_stp (pulses : Nat) : (steerStep i pulses s).stp = s.stp := by
  unfold steerStep
  split
  · rw [noFlowStep_stp, steerNow_stp, rise_stp, retarget_stp]
  · rfl

theorem startStroke_stp (final : Bool) (k : Nat) (j : InjNo) : (startStroke final i k j s).stp = s.stp := by
  unfold startStroke
  split
  · rfl
  · exact (giveLimit_stp ..).trans (modRecord_stp _ _ _)

theorem considerLine_stp (k : Nat) : (considerLine i k s).stp = s.stp := by
  obtain e | ⟨final, j, e⟩ := considerLine_cases i k s <;> rw [e]
  exact startStroke_stp ..

theorem dosePass_stp (dg : Nat) : (dosePass i dg s).stp = s.stp := by
  simp only [dosePass, considerLane, slots, List.foldl_cons, List.foldl_nil, considerLine_stp, giveLimit_stp]
  exact modRecord_stp _ _ _

theorem pulseStep_stp (pt : PulseTick) : (pulseStep i pt s).stp = s.stp := by
  have recorded : ((s.modPiu i fun _ => pt.piu).modRecord i (recordPulses pt.piu)).stp = s.stp :=
    (modRecord_stp _ _ _).trans (modPiu_stp _ _ _)
  unfold pulseStep
  split
  · exact recorded
  · exact (takeFault_stp ..).trans recorded

theorem volumeStep_stp (p : Pass) : (volumeStep i p s).stp = s.stp := (modRecord_stp _ _ _).trans (modLane_stp _ _ _)

end

/-! ### The lane and the record after the volume step and the dose step -/

/-- Lane `l'` is `l` with another additive limit, and the rate that the lane takes under it. -/
def Lane.Limited (l l' : Lane) : Prop :=
  ∃ limit setpoint wanted, setpoint ≤ l.setpoint ∧ (l.stage.flowing = false → l.wanted = 0 → wanted = 0) ∧
    l' = { l with limit := limit, setpoint := setpoint, wanted := wanted }

theorem Lane.Limited.refl (l : Lane) : l.Limited l := ⟨_, _, _, le_rfl, fun _ h => h, rfl⟩

theorem Lane.Limited.trans {l l' l'' : Lane} (h : l.Limited l') (k : l'.Limited l'') : l.Limited l'' := by
  obtain ⟨_, _, _, le, zero, rfl⟩ := h
  obtain ⟨_, _, _, le', zero', rfl⟩ := k
  exact ⟨_, _, _, le'.trans le, fun still none => zero' still (zero still none), rfl⟩

theorem giveLimit_limited (i : LaneNo) (s : State) : (s.lane i).Limited ((giveLimit i s).lane i) := by
  unfold giveLimit
  split
  · exact .refl _
  · have e := retarget_lane_self i (s.modLane i fun l => { l with limit := s.limitOf i })
    have still (h : (s.stage i).flowing = false) : (s.modLane i fun l => { l with limit := s.limitOf i }).wantedNow i = 0 :=
      wantedNow_of_not_flowing (by rwa [modLane_stage i i rfl])
    rw [modLane_lane_self] at e
    exact ⟨_, _, _, Nat.min_le_left _ _, fun h _ => still h, e⟩

theorem modRecord_lane (i j : LaneNo) (f : CompRecord → CompRecord) (s : State) : (s.modRecord i f).lane j = s.lane j :=
  lane_of_lanes (modRecord_lanes _ _ _) j

theorem startStroke_limited (final : Bool) (i : LaneNo) (k : Nat) (j : InjNo) (s : State) :
    (s.lane i).Limited ((startStroke final i k j s).lane i) := by
  unfold startStroke
  split
  · exact .refl _
  · rename_i c _
    have same : (((s.modAdditive i k (strokeLine final c.stroke)).modInj j (strokeInjector c s.now ⟨i, k⟩)).lane i) = s.lane i :=
      modRecord_lane i i _ s
    have given := giveLimit_limited i ((s.modAdditive i k (strokeLine final c.stroke)).modInj j (strokeInjector c s.now ⟨i, k⟩))
    rw [same] at given
    exact given

theorem considerLine_limited (i : LaneNo) (k : Nat) (s : State) : (s.lane i).Limited ((considerLine i k s).lane i) := by
  obtain e | ⟨final, j, e⟩ := considerLine_cases i k s <;> rw [e]
  · exact .refl _
  · exact startStroke_limited ..

/-- The accrual of a tick, the first step of the dose step (R116). -/
def accrued (i : LaneNo) (dg : Nat) (s : State) : State :=
  s.modRecord i fun r => { r with additives := r.additives.map fun a => accrueLine (s.stroke a.injector) dg a }

theorem dosePass_eq (i : LaneNo) (dg : Nat) (s : State) :
    dosePass i dg s = considerLine i 2 (considerLine i 1 (considerLine i 0 (giveLimit i (accrued i dg s)))) := by
  simp only [dosePass, accrued, considerLane, slots, List.foldl_cons, List.foldl_nil]

/-- R116 to R124: the dose step changes of the lane the additive limit and the rate under it alone. -/
theorem dosePass_limited (i : LaneNo) (dg : Nat) (s : State) : (s.lane i).Limited ((dosePass i dg s).lane i) := by
  have given : (s.lane i).Limited ((giveLimit i (accrued i dg s)).lane i) := by
    have e := giveLimit_limited i (accrued i dg s)
    rwa [accrued, modRecord_lane] at e
  rw [dosePass_eq]
  exact given.trans ((considerLine_limited i 0 _).trans ((considerLine_limited i 1 _).trans (considerLine_limited i 2 _)))

/-- The record but for its additive lines. -/
def CompRecord.undosed (r : CompRecord) : CompRecord := { r with additives := [] }

theorem modRecord_undosed (i : LaneNo) {f : CompRecord → CompRecord} (s : State) (same : ∀ r, (f r).undosed = r.undosed) :
    ((s.modRecord i f).record i).map CompRecord.undosed = (s.record i).map CompRecord.undosed := by
  rw [modRecord_record, Option.map_map]
  exact congrArg (fun g => (s.record i).map g) (funext same)

theorem startStroke_undosed (final : Bool) (i : LaneNo) (k : Nat) (j : InjNo) (s : State) :
    ((startStroke final i k j s).record i).map CompRecord.undosed = (s.record i).map CompRecord.undosed := by
  unfold startStroke
  split
  · rfl
  · rw [giveLimit_record]
    exact modRecord_undosed i s fun _ => rfl

theorem considerLine_undosed (i : LaneNo) (k : Nat) (s : State) :
    ((considerLine i k s).record i).map CompRecord.undosed = (s.record i).map CompRecord.undosed := by
  obtain e | ⟨final, j, e⟩ := considerLine_cases i k s <;> rw [e]
  exact startStroke_undosed ..

theorem dosePass_undosed (i : LaneNo) (dg : Nat) (s : State) :
    ((dosePass i dg s).record i).map CompRecord.undosed = (s.record i).map CompRecord.undosed := by
  rw [dosePass_eq, considerLine_undosed, considerLine_undosed, considerLine_undosed, giveLimit_record]
  exact modRecord_undosed i s fun _ => rfl

/-! ### The pass of a lane with a compartment open, step by step (R51) -/

/-- R51 step 1: PIU's part of the tick, of a compartment with the record `r`. -/
def tickPulse (i : LaneNo) (c : VenCfg) (r : CompRecord) (s : State) : PulseTick := pulseTick c.lane r.gross.toNat (s.lane i).piu

/-- R51 step 2: VEN's part of the tick. -/
def tickVolume (i : LaneNo) (c : VenCfg) (raw : Nat) (r : CompRecord) (s : State) : Pass :=
  venPass c (tickPulse i c r s).pulses raw (s.lane i).hist (s.lane i).ven (recordPulses (tickPulse i c r s).piu r)

/-- The state after the steps 1 to 3 of the pass. -/
def dosed (i : LaneNo) (c : VenCfg) (raw : Nat) (r : CompRecord) (s : State) : State :=
  dosePass i (tickVolume i c raw r s).dg (volumeStep i (tickVolume i c raw r s) (pulseStep i (tickPulse i c r s) s))

/-- The state after the steps 1 to 5 of the pass. -/
def passed (i : LaneNo) (c : VenCfg) (raw : Nat) (r : CompRecord) (s : State) : State :=
  steerStep i (tickPulse i c r s).pulses (checkStep c.lane i (tickPulse i c r s).pulses (dosed i c raw r s))

theorem pulseStep_record (i : LaneNo) (pt : PulseTick) (s : State) :
    (pulseStep i pt s).record i = (s.record i).map (recordPulses pt.piu) := by
  have recorded : ((s.modPiu i fun _ => pt.piu).modRecord i (recordPulses pt.piu)).record i =
      (s.record i).map (recordPulses pt.piu) := by
    rw [modRecord_record, State.modPiu, modLane_record _ rfl]
  unfold pulseStep
  split
  · exact recorded
  · rw [takeFault_record, recorded]

/-- A change of the record that is the same for the one that the lane has is the same change. -/
theorem modRecord_congr {i : LaneNo} {s : State} {f g : CompRecord → CompRecord} (same : ∀ r, s.record i = some r → f r = g r) :
    s.modRecord i f = s.modRecord i g := by
  simp only [State.record, State.heldLine, State.lines] at same
  rw [State.modRecord, State.modRecord, State.modHeld, State.modHeld]
  cases line : (s.lane i).line with
  | none => rfl
  | some k =>
    cases trip : s.pct.trip with
    | none => simp only [State.modLine, State.modTrip, State.modPct, trip, Option.map_none]
    | some t =>
      have lines : t.lines.modify k (fun l => { l with record := l.record.map f }) =
          t.lines.modify k (fun l => { l with record := l.record.map g }) := by
        apply List.ext_getElem?
        intro n
        rw [List.getElem?_modify, List.getElem?_modify]
        split
        · rename_i here
          subst here
          cases held : t.lines[k]? with
          | none => rfl
          | some l =>
            cases record : l.record with
            | none => simp [record]
            | some r => simp [record, same r (by simp [line, trip, held, record])]
        · rfl
      simp only [State.modLine, State.modTrip, State.modPct, trip, Option.map_some, lines]

theorem compartmentPass_eq {i : LaneNo} {c : VenCfg} {raw : Nat} {r : CompRecord} {s : State} (record : (s.record i).getD {} = r) :
    compartmentPass i c raw s = checkpointStep i (s.stage i) r.gross.toNat (passed i c raw r s) := by
  have gross : s.gross i = r.gross.toNat := by
    rw [← record, State.gross]
    cases s.record i <;> rfl
  have volume : volumeStep i (venPass c (tickPulse i c r s).pulses raw (s.lane i).hist (s.lane i).ven
        (((pulseStep i (tickPulse i c r s) s).record i).getD {})) (pulseStep i (tickPulse i c r s) s) =
      volumeStep i (tickVolume i c raw r s) (pulseStep i (tickPulse i c r s) s) := by
    refine modRecord_congr fun r' here => ?_
    rw [modLane_record _ rfl, pulseStep_record] at here
    obtain ⟨r0, was, -⟩ := Option.map_eq_some_iff.1 here
    obtain rfl : r0 = r := by rw [was] at record; exact record
    rw [pulseStep_record, was]
    rfl
  simp only [compartmentPass, gross]
  change checkpointStep _ _ _ (steerStep _ _ (checkStep _ _ _ (dosePass _ _ (volumeStep i (venPass c (tickPulse i c r s).pulses raw
    (s.lane i).hist (s.lane i).ven (((pulseStep i (tickPulse i c r s) s).record i).getD {})) (pulseStep i (tickPulse i c r s) s))))) = _
  rw [volume]
  rfl

section
variable (i : LaneNo) (c : VenCfg) (raw : Nat) (r : CompRecord) (s : State)

theorem dosed_beyond : (dosed i c raw r s).beyond i = s.beyond i := by simp [dosed]

theorem dosed_stp : (dosed i c raw r s).stp = s.stp := by rw [dosed, dosePass_stp, volumeStep_stp, pulseStep_stp]

theorem takeFault_kernel (reason : EndReason) : ((takeFault i reason s).lane i).kernel = (s.lane i).kernel := by
  obtain e | e | e := takeFault_cases i reason s <;> rw [e]
  · exact closeDecision_kernel ..
  · rw [closeDecision_kernel]
    exact congrArg Lane.kernel (lane_of_lanes (modHeld_lanes _ _ _) i)

/-- R51 step 1, of the lane. -/
theorem recorded_lane (p : Piu) : (((s.modPiu i fun _ => p).modRecord i (recordPulses p)).lane i) = { s.lane i with piu := p } :=
  (modRecord_lane ..).trans (modLane_lane_self _ _ _)

theorem pulseStep_kernel (pt : PulseTick) : ((pulseStep i pt s).lane i).kernel = { s.lane i with piu := pt.piu }.kernel := by
  unfold pulseStep
  split
  · rw [recorded_lane]
  · rw [takeFault_kernel, recorded_lane]

theorem volumeStep_lane (p : Pass) : (volumeStep i p s).lane i = { s.lane i with ven := p.ven, hist := p.hist } :=
  (modRecord_lane ..).trans (modLane_lane_self _ _ _)

/-- A lane with PIU's and VEN's parts of the tick. -/
def Lane.ticked (l : Lane) (piu : Piu) (p : Pass) : Lane := { l with piu := piu, ven := p.ven, hist := p.hist }

theorem dosed_limited : Lane.Limited { (pulseStep i (tickPulse i c r s) s).lane i with
    ven := (tickVolume i c raw r s).ven, hist := (tickVolume i c raw r s).hist } ((dosed i c raw r s).lane i) := by
  have limited := dosePass_limited i (tickVolume i c raw r s).dg
    (volumeStep i (tickVolume i c raw r s) (pulseStep i (tickPulse i c r s) s))
  rwa [volumeStep_lane] at limited

theorem dosed_kernel : ((dosed i c raw r s).lane i).kernel =
    ((s.lane i).ticked (tickPulse i c r s).piu (tickVolume i c raw r s)).kernel := by
  obtain ⟨_, _, _, -, -, e⟩ := dosed_limited i c raw r s
  have pulsed := pulseStep_kernel i s (tickPulse i c r s)
  rw [e]
  exact congrArg (fun l : Lane => { l with ven := (tickVolume i c raw r s).ven, hist := (tickVolume i c raw r s).hist }) pulsed

end

/-- The record that the volume step leaves, with the additive lines as the dose step leaves them. -/
theorem dosed_record {i : LaneNo} {c : VenCfg} {raw : Nat} {r : CompRecord} {s : State} (record : s.record i = some r) :
    ∃ r', (dosed i c raw r s).record i = some r' ∧ r'.undosed = (tickVolume i c raw r s).record.undosed := by
  have volume : (volumeStep i (tickVolume i c raw r s) (pulseStep i (tickPulse i c r s) s)).record i =
      some (tickVolume i c raw r s).record := by
    rw [volumeStep, modRecord_record, modLane_record _ rfl, pulseStep_record, record]
    rfl
  have same := dosePass_undosed i (tickVolume i c raw r s).dg
    (volumeStep i (tickVolume i c raw r s) (pulseStep i (tickPulse i c r s) s))
  rw [volume] at same
  exact Option.map_eq_some_iff.1 same

/-! ### The stage along a pass -/

/-- The lane has a compartment open, and in CLOSING no quiet tick counted. -/
def State.OpenUnquiet (s : State) (i : LaneNo) : Prop :=
  (s.stage i).compartmentOpen = true ∧ (s.stage i = .closing → (s.lane i).quiet = 0)

theorem closeDecision_openUnquiet (i : LaneNo) (reason : EndReason) (s : State) : (closeDecision i reason s).OpenUnquiet i := by
  rw [State.OpenUnquiet, State.stage, closeDecision_lane]
  exact ⟨rfl, fun _ => rfl⟩

theorem openUnquiet_congr {s t : State} {i : LaneNo} (stage : t.stage i = s.stage i) (quiet : (t.lane i).quiet = (s.lane i).quiet)
    (h : s.OpenUnquiet i) : t.OpenUnquiet i := by
  rwa [State.OpenUnquiet, stage, quiet]

theorem pulseStep_openUnquiet {i : LaneNo} {s : State} (pt : PulseTick) (h : s.OpenUnquiet i) : (pulseStep i pt s).OpenUnquiet i := by
  have lane := recorded_lane i s pt.piu
  have recorded : ((s.modPiu i fun _ => pt.piu).modRecord i (recordPulses pt.piu)).OpenUnquiet i :=
    openUnquiet_congr (congrArg (·.stage) lane) (congrArg (·.quiet) lane) h
  unfold pulseStep
  split
  · exact recorded
  · obtain e | e | e := takeFault_cases i .pulseFault ((s.modPiu i fun _ => pt.piu).modRecord i (recordPulses pt.piu)) <;> rw [e]
    · exact recorded
    · exact closeDecision_openUnquiet ..
    · exact closeDecision_openUnquiet ..

theorem dosed_openUnquiet {i : LaneNo} {s : State} (c : VenCfg) (raw : Nat) (r : CompRecord) (h : s.OpenUnquiet i) :
    (dosed i c raw r s).OpenUnquiet i := by
  obtain ⟨_, _, _, -, -, e⟩ := dosed_limited i c raw r s
  exact openUnquiet_congr (congrArg (·.stage) e) (congrArg (·.quiet) e) (pulseStep_openUnquiet (tickPulse i c r s) h)

theorem compartmentOpen_of_flowing {st : Stage} (flows : st.flowing = true) : st.compartmentOpen = true := by
  cases st <;> first | rfl | cases flows

theorem stageAfter_flowing (c : LaneCfg) {st : Stage} (preset gross : Nat) (flows : st.flowing = true) :
    (stageAfter c st preset gross).flowing = true := by
  obtain e | e | e := stageAfter_cases c st preset gross <;> rw [e]
  exacts [flows, rfl, rfl]

theorem setStage_stage (i : LaneNo) (st : Stage) (s : State) : (setStage i st s).stage i = st := by
  rw [State.stage, setStage, retarget_lane_self, modLane_lane_self]

/-- R52, R53, R59: what the checks of a tick do to a lane with a compartment open that has counted no quiet tick. -/
theorem checkStep_cases (c : LaneCfg) {i : LaneNo} (pulses : Nat) {s : State} (h : s.OpenUnquiet i) :
    (checkStep c i pulses s = s ∧ (s.stage i).flowing = false) ∨ (checkStep c i pulses s = stageStep c i s ∧ (s.stage i).flowing = true) ∨
    ∃ n, checkStep c i pulses s = (s.modLane i fun l => { l with quiet := n }) ∧ s.stage i = .closing := by
  unfold checkStep
  split
  · rename_i flows
    exact .inr (.inl ⟨rfl, flows⟩)
  · split
    · rename_i closing
      have few : ¬4 ≤ if pulses = 0 then (s.lane i).quiet + 1 else 0 := by
        rw [h.2 closing]
        split <;> omega
      exact .inr (.inr ⟨_, by simp only [closingStep]; rw [if_neg few], closing⟩)
    · rename_i still _
      exact .inl ⟨rfl, by simpa using still⟩

theorem checkStep_kernel (c : LaneCfg) {i : LaneNo} (pulses : Nat) {s : State} (h : s.OpenUnquiet i) :
    ((checkStep c i pulses s).lane i).kernel = (s.lane i).kernel := by
  obtain ⟨e, -⟩ | ⟨e, -⟩ | ⟨_, e, -⟩ := checkStep_cases c pulses h <;> rw [e]
  · exact stageStep_kernel ..
  · exact modLane_kernel i s rfl

theorem checkStep_pct (c : LaneCfg) {i : LaneNo} (pulses : Nat) {s : State} (h : s.OpenUnquiet i) :
    (checkStep c i pulses s).pct = s.pct := by
  obtain ⟨e, -⟩ | ⟨e, -⟩ | ⟨_, e, -⟩ := checkStep_cases c pulses h <;> rw [e]
  · exact stageStep_pct ..
  · exact modLane_pct _ _ _

theorem checkStep_stp (c : LaneCfg) {i : LaneNo} (pulses : Nat) {s : State} (h : s.OpenUnquiet i) :
    (checkStep c i pulses s).stp = s.stp := by
  obtain ⟨e, -⟩ | ⟨e, -⟩ | ⟨_, e, -⟩ := checkStep_cases c pulses h <;> rw [e]
  · exact stageStep_stp ..
  · exact modLane_stp _ _ _

theorem checkStep_beyond (c : LaneCfg) {i : LaneNo} (pulses : Nat) {s : State} (h : s.OpenUnquiet i) :
    (checkStep c i pulses s).beyond i = s.beyond i := by
  obtain ⟨e, -⟩ | ⟨e, -⟩ | ⟨_, e, -⟩ := checkStep_cases c pulses h <;> rw [e]
  · exact stageStep_beyond ..
  · exact modLane_beyond ..

theorem stageStep_stage (c : LaneCfg) (i : LaneNo) (s : State) : (stageStep c i s).stage i =
    if closeDue (s.preset i) (s.gross i) (s.lane i).learned then .closing
    else stageAfter c (s.stage i) (s.preset i) (s.gross i) := by
  unfold stageStep
  split
  · exact closeDecision_stage ..
  · exact setStage_stage ..

theorem checkStep_open (c : LaneCfg) {i : LaneNo} (pulses : Nat) {s : State} (h : s.OpenUnquiet i) :
    ((checkStep c i pulses s).stage i).compartmentOpen = true := by
  obtain ⟨e, -⟩ | ⟨e, flows⟩ | ⟨n, e, -⟩ := checkStep_cases c pulses h <;> rw [e]
  · exact h.1
  · rw [stageStep_stage]
    split
    · rfl
    · exact compartmentOpen_of_flowing (stageAfter_flowing _ _ _ flows)
  · rw [modLane_stage i i rfl, h.1]

theorem commandOutputs_stage (d : Steer) (now : Nat) (l : Lane) : (commandOutputs d now l).stage = l.stage := by cases d <;> rfl

theorem steerNow_stage (i : LaneNo) (s : State) : (steerNow i s).stage i = s.stage i := by
  unfold steerNow
  split
  · exact modLane_stage i i (commandOutputs_stage ..)
  · exact modLane_stage i i rfl

theorem rise_stage (i : LaneNo) (s : State) : (rise i s).stage i = s.stage i := by
  unfold rise
  split
  · rfl
  · exact modLane_stage i i rfl

theorem retarget_stage (i : LaneNo) (s : State) : (retarget i s).stage i = s.stage i := modLane_stage i i rfl

theorem noFlowStep_stage (i : LaneNo) (pulses : Nat) (d : Steer) (s : State) : (noFlowStep i pulses d s).stage i =
    if 16 ≤ noFlowAfter pulses d (s.lane i).noFlow then .closing else s.stage i := by
  rw [noFlowStep_eq]
  split
  · exact closeDecision_stage ..
  · exact modLane_stage i i rfl

theorem steerStep_open {i : LaneNo} (pulses : Nat) {s : State} (h : (s.stage i).compartmentOpen = true) :
    ((steerStep i pulses s).stage i).compartmentOpen = true := by
  unfold steerStep
  split
  · rw [noFlowStep_stage, steerNow_stage, rise_stage, retarget_stage]
    split
    exacts [rfl, h]
  · exact h

section
variable {i : LaneNo} {s : State} (c : VenCfg) (raw : Nat) (r : CompRecord) (h : s.OpenUnquiet i)
include h

theorem passed_kernel : ((passed i c raw r s).lane i).kernel =
    ((s.lane i).ticked (tickPulse i c r s).piu (tickVolume i c raw r s)).kernel := by
  rw [passed, steerStep_kernel, checkStep_kernel _ _ (dosed_openUnquiet c raw r h), dosed_kernel]

theorem passed_pct : (passed i c raw r s).pct = (dosed i c raw r s).pct := by
  rw [passed, steerStep_pct, checkStep_pct _ _ (dosed_openUnquiet c raw r h)]

theorem passed_line : ((passed i c raw r s).lane i).line = ((dosed i c raw r s).lane i).line :=
  (line_of_kernel (passed_kernel c raw r h)).trans (line_of_kernel (dosed_kernel i c raw r s)).symm

theorem passed_record : (passed i c raw r s).record i = (dosed i c raw r s).record i :=
  record_congr (congrArg (·.trip) (passed_pct c raw r h)) (passed_line c raw r h)

theorem passed_stp : (passed i c raw r s).stp = s.stp := by
  rw [passed, steerStep_stp, checkStep_stp _ _ (dosed_openUnquiet c raw r h), dosed_stp]

theorem passed_beyond : (passed i c raw r s).beyond i = s.beyond i := by
  rw [passed, steerStep_beyond, checkStep_beyond _ _ (dosed_openUnquiet c raw r h), dosed_beyond]

theorem passed_open : ((passed i c raw r s).stage i).compartmentOpen = true :=
  steerStep_open _ (checkStep_open _ _ (dosed_openUnquiet c raw r h))

end

/-! ### The tick of a lane with a compartment open -/

theorem checkpointStep_lanes (i : LaneNo) (before : Stage) (gross : Nat) (s : State) :
    (checkpointStep i before gross s).lanes = s.lanes := by
  unfold checkpointStep
  split
  · exact offerCheckpoint_lanes ..
  · rfl

theorem checkpointStep_record (i j : LaneNo) (before : Stage) (gross : Nat) (s : State) :
    (checkpointStep i before gross s).record j = s.record j := by
  unfold checkpointStep
  split
  · exact offerCheckpoint_record ..
  · rfl

/-- The state after a tick's pass, before its checkpoint. -/
def tickPass (i : LaneNo) (c : VenCfg) (raw : Nat) (r : CompRecord) (d : Nat) (s : State) : State :=
  passed i c raw r (restartTick i d s)

/-- The tick of a lane with a compartment open, outside CLOSING. -/
structure OpenTick (s : State) (i : LaneNo) (d : Nat) (c : VenCfg) (r : CompRecord) : Prop where
  tick : (s.lane i).tick = some d
  cfg : s.venCfg i = some c
  open_ : (s.stage i).compartmentOpen = true
  goes : s.stage i ≠ .closing
  record : (s.record i).getD {} = r

/-- The lane as a tick has it before its pass. -/
def Lane.restarted (l : Lane) (d : Nat) : Lane := { l with tick := some (d + Config.tickTime) }

theorem dosed_limited_of_quiet {s : State} {i : LaneNo} {d : Nat} {c : VenCfg} {r : CompRecord} (raw : BitVec 12)
    (quiet : (tickPulse i c r s).raised = none) :
    (((s.lane i).restarted d).ticked (tickPulse i c r s).piu (tickVolume i c raw.toNat r s)).Limited
      ((dosed i c raw.toNat r (restartTick i d s)).lane i) := by
  have limited := dosed_limited i c raw.toNat r (restartTick i d s)
  have same : tickPulse i c r (restartTick i d s) = tickPulse i c r s := by rw [tickPulse, restartTick_lane, tickPulse]
  have volume : tickVolume i c raw.toNat r (restartTick i d s) = tickVolume i c raw.toNat r s := by
    rw [tickVolume, restartTick_lane, same, tickVolume]
  rw [same, volume, pulseStep, quiet] at limited
  dsimp only at limited
  rw [recorded_lane, restartTick_lane] at limited
  exact limited

section
variable {s : State} {i : LaneNo} {d : Nat} {c : VenCfg} {r : CompRecord} (h : OpenTick s i d c r) (raw : BitVec 12)
include h

theorem OpenTick.gross : s.gross i = r.gross.toNat := by
  rw [← h.record, State.gross]
  cases s.record i <;> rfl

theorem OpenTick.restarted : (restartTick i d s).OpenUnquiet i :=
  ⟨by rw [restartTick_stage, h.open_], fun closing => absurd ((restartTick_stage i d s).symm.trans closing) h.goes⟩

theorem OpenTick.exec : exec (.meteringTick i raw) s =
    .next (settle (checkpointStep i (s.stage i) r.gross.toNat (tickPass i c raw.toNat r d s))) := by
  rw [exec_meteringTick raw h.tick h.cfg, if_pos h.open_, compartmentPass_eq ((congrArg (·.getD {}) (restartTick_record i d s)).trans h.record),
    restartTick_stage]
  rfl

theorem OpenTick.not_ended : (checkpointStep i (s.stage i) r.gross.toNat (tickPass i c raw.toNat r d s)).stage i ≠ .ended := by
  have open_ := passed_open c raw.toNat r h.restarted
  rw [checkpointStep]
  split
  · rw [offerCheckpoint_stage]
    exact ne_ended_of_compartmentOpen open_
  · exact ne_ended_of_compartmentOpen open_

/-- The state that the tick leaves. -/
def ticked (s : State) (i : LaneNo) (d : Nat) (c : VenCfg) (r : CompRecord) (raw : Nat) : State :=
  settle (checkpointStep i (s.stage i) r.gross.toNat (tickPass i c raw r d s))

theorem OpenTick.lane : (ticked s i d c r raw.toNat).lane i = (tickPass i c raw.toNat r d s).lane i :=
  (settle_lane (h.not_ended raw)).trans (lane_of_lanes (checkpointStep_lanes ..) i)

theorem OpenTick.record_after : (ticked s i d c r raw.toNat).record i = (tickPass i c raw.toNat r d s).record i :=
  (settle_record (h.not_ended raw)).trans (checkpointStep_record ..)

theorem OpenTick.beyond :
    (checkpointStep i (s.stage i) r.gross.toNat (tickPass i c raw.toNat r d s)).beyond i = (restartTick i d s).beyond i := by
  rw [checkpointStep_beyond]
  exact passed_beyond c raw.toNat r h.restarted

theorem OpenTick.now : (ticked s i d c r raw.toNat).now = max s.now d :=
  (settle_now _).trans (now_of_beyond (h.beyond raw))

theorem OpenTick.lane_ne {j : LaneNo} (ne : j ≠ i) (waits : s.stage j ≠ .ended) :
    (ticked s i d c r raw.toNat).lane j = s.lane j := by
  have same := lane_of_beyond (h.beyond raw) ne.symm
  have started : (restartTick i d s).lane j = s.lane j := modLane_lane_ne _ _ _ ne.symm _
  rw [started] at same
  exact (settle_lane (by rwa [State.stage, same])).trans same

theorem OpenTick.kernel : ((ticked s i d c r raw.toNat).lane i).kernel =
    ({ s.lane i with tick := some (d + Config.tickTime) }.ticked (tickPulse i c r s).piu (tickVolume i c raw.toNat r s)).kernel := by
  have kept := passed_kernel c raw.toNat r h.restarted
  rw [h.lane, tickPass, kept]
  simp only [tickPulse, tickVolume, restartTick_lane]

theorem OpenTick.record_some (record : s.record i = some r) : ∃ r', (ticked s i d c r raw.toNat).record i = some r' ∧
    r'.undosed = (tickVolume i c raw.toNat r s).record.undosed := by
  obtain ⟨r', here, same⟩ := dosed_record (c := c) (raw := raw.toNat) ((restartTick_record i d s).trans record)
  refine ⟨r', ?_, ?_⟩
  · rw [h.record_after, tickPass, passed_record c raw.toNat r h.restarted, here]
  · rw [same]
    simp only [tickPulse, tickVolume, restartTick_lane]

/-- R72: the checkpoint of a tick. -/
theorem OpenTick.checkpoint : s.TickCheckpoint (ticked s i d c r raw.toNat) i := by
  have open_ := passed_open c raw.toNat r h.restarted
  have stp := (passed_stp c raw.toNat r h.restarted).trans (show (restartTick i d s).stp = s.stp from modLane_stp _ _ _)
  have same := passed_beyond c raw.toNat r h.restarted
  have calm : s.Calm → (tickPass i c raw.toNat r d s).Calm :=
    fun calm => calm_of_same stp ((lif_of_beyond same).trans rfl) ((sul_of_beyond same).trans rfl) calm
  have stage : (ticked s i d c r raw.toNat).stage i = (tickPass i c raw.toNat r d s).stage i := congrArg (·.stage) (h.lane raw)
  have gross : (ticked s i d c r raw.toNat).gross i = (tickPass i c raw.toNat r d s).gross i := by
    rw [State.gross, h.record_after, State.gross]
  have before := h.gross
  rw [State.TickCheckpoint, stage, gross, before, ticked, checkpointStep]
  by_cases offers : (tickPass i c raw.toNat r d s).stage i ≠ s.stage i ∨
      r.gross.toNat / 1000000 < (tickPass i c raw.toNat r d s).gross i / 1000000
  · rw [if_pos offers, if_pos ⟨open_, offers.imp_right fun x => decide_eq_true x⟩]
    exact checkpoints_of_offer (ne_ended_of_compartmentOpen open_) calm stp
  · rw [if_neg offers, if_neg fun x => offers (x.2.imp_right fun y => of_decide_eq_true y)]
    exact checkpoints_of_none calm stp

/-! ### A tick that raises no fault -/

/-- R51, R64: a SUSPENDED lane is metered, and no check or steering follows. -/
theorem OpenTick.suspended (quiet : (tickPulse i c r s).raised = none) (still : (s.stage i).flowing = false) :
    (((s.lane i).restarted d).ticked (tickPulse i c r s).piu (tickVolume i c raw.toNat r s)).Limited
      ((ticked s i d c r raw.toNat).lane i) := by
  have limited := dosed_limited_of_quiet (d := d) raw quiet
  have stage : (dosed i c raw.toNat r (restartTick i d s)).stage i = s.stage i := by
    obtain ⟨_, _, _, -, -, e⟩ := limited
    exact congrArg (·.stage) e
  have pass : tickPass i c raw.toNat r d s = dosed i c raw.toNat r (restartTick i d s) := by
    have checked (p : Nat) : checkStep c.lane i p (dosed i c raw.toNat r (restartTick i d s)) =
        dosed i c raw.toNat r (restartTick i d s) := by
      rw [checkStep, stage, still, if_neg Bool.false_ne_true, if_neg h.goes]
    rw [tickPass, passed, checked, steerStep, stage, still, if_neg Bool.false_ne_true]
  rwa [h.lane, pass]

end

/-! ### The tick of a lane with no compartment open (R73, R74) -/

theorem leakReport_eq (before after : Nat) (s : State) :
    let passed : Bool := decide (before ≤ 10000) && decide (10000 < after)
    leakReport before after s = { s with
      ilm := { s.ilm with leakAlarm := s.ilm.leakAlarm || passed }
      pct := { s.pct with trip := s.pct.trip.map fun t => { t with flags := { t.flags with leak := t.flags.leak || passed } } } } := by
  intro passed
  unfold leakReport
  by_cases leaks : before ≤ 10000 ∧ 10000 < after
  · have is : passed = true := by simpa [passed] using leaks
    rw [if_pos leaks, is, Bool.or_true]
    simp only [Bool.or_true]
    rfl
  · have is : passed = false := by simpa [passed] using leaks
    rw [if_neg leaks, is, Bool.or_false]
    simp only [Bool.or_false]
    have same : (s.pct.trip.map fun t : Trip => t) = s.pct.trip := congrFun Option.map_id _
    change s = { s with pct := { s.pct with trip := s.pct.trip.map fun t : Trip => t } }
    rw [same]

/-- A lane after the leak pass of a tick. -/
def Lane.leaked (l : Lane) (c : VenCfg) (raw d : Nat) : Lane :=
  let pulses := (leakTick c.lane l.piu).2
  let x := leakPass c pulses raw l.leakCarry l.hist l.ven
  { l with
    tick := some (d + Config.tickTime), piu := (leakTick c.lane l.piu).1, ven := x.2.2.2, hist := x.2.2.1, leakCarry := x.2.1
    leak := addLeak l.leak x.1 }

theorem leakLanePass_eq (i : LaneNo) (c : VenCfg) (raw d : Nat) (s : State) :
    leakLanePass i c raw (restartTick i d s) = leakReport (s.lane i).leak ((s.lane i).leaked c raw d).leak
      { s with now := max s.now d, lanes := s.lanes.set i ((s.lane i).leaked c raw d) } := by
  simp only [leakLanePass, restartTick_lane]
  rw [restartTick, modLane_modLane]
  rfl

/-! ### What VEN forms at a tick (R94 to R106) -/

theorem raisedFault_none {c : LaneCfg} (a b : Nat) {p : Piu} (low : c.level < 2) : raisedFault c a b p = none :=
  if_neg fun x => absurd x.1 (Nat.ne_of_lt low)

/-- R99 to R101: the temperature before clamping. -/
theorem rawTemp_eq (valid : Bool) (w : List Int) : rawTemp valid w = if valid = true ∧ w ≠ [] then w.sum.tdiv w.length else 1500 := by
  unfold rawTemp filtered
  by_cases h : valid = true <;> by_cases k : w = [] <;> simp [h, k]

theorem sampleValid_eq (raw : Nat) : sampleValid raw = decide (1 ≤ raw ∧ raw ≤ 4094) := (Bool.decide_and _ _).symm

end Sys2Proof.Machine
open Sys2Proof Sys2Proof.Machine

/-- Settles O33 (the bare name is the model's function), by the leak pass and its report written out. -/
theorem leakTickRule : Obligations.LeakTick := by
  unfold Obligations.LeakTick
  intro s i raw d c tick cfg shut a b x hist leak passed
  have answer := exec_meteringTick raw tick cfg
  rw [shut, if_neg Bool.false_ne_true, leakLanePass_eq, leakReport_eq] at answer
  exact leaves_of_finish answer

/-- Settles O29, by the lane's kernel and the record that the volume step forms, which the later steps of the pass keep. -/
theorem meteringTickVolume : Obligations.MeteringTickVolume := by
  unfold Obligations.MeteringTickVolume
  intro s i raw d c r tick cfg open_ goes record p v a b pulses x dg good sample window run temp use t1 t2 y ds hist fits fitsStd
  have h : OpenTick s i d c r := ⟨tick, cfg, open_, goes, by rw [record]; rfl⟩
  obtain ⟨r', here, undosed⟩ := h.record_some raw record
  have kernel := h.kernel raw
  have isGood : sampleValid raw.toNat = good := sampleValid_eq _
  have isWindow : sampleWindow c.temp raw.toNat v.window = window := by rw [sampleWindow, isGood]; rfl
  have isRun : runAfter raw.toNat v.faultRun = run := by rw [runAfter, isGood]
  have isTemp : rawTemp (v.valid || good) window = temp := rawTemp_eq ..
  have level : c.lane.level < 2 → (tickPulse i c r s).raised = none := raisedFault_none _ _
  have pass : tickVolume i c raw.toNat r s =
      { ven := { v with
          grossCarry := x - dg * c.lane.k, stdCarry := y - ds * 1000000, q := hist.sum * 60 / 1000, window := window
          faultRun := run, valid := v.valid || good, sigma := addSigma v.sigma dg use }
        record := { recordPulses (tickPulse i c r s).piu r with
          gross := addVolume r.gross dg, std := addVolume r.std ds
          flags := tempFlags (v.valid || good) raw.toNat run temp (recordPulses (tickPulse i c r s).piu r).flags }
        dg := dg
        hist := hist } := by
    change venPass c pulses raw.toNat (s.lane i).hist v (recordPulses (tickPulse i c r s).piu r) = _
    simp only [venPass, isGood, isWindow, isRun, isTemp]
    rfl
  rw [pass] at undosed kernel
  have gross : r'.gross = addVolume r.gross dg := congrArg (·.gross) undosed
  have std : r'.std = addVolume r.std ds := congrArg (·.std) undosed
  have flags : r'.flags = tempFlags (v.valid || good) raw.toNat run temp (recordPulses (tickPulse i c r s).piu r).flags :=
    congrArg (·.flags) undosed
  have corrected : r'.corrected = (tickPulse i c r s).piu.corrected := congrArg (·.corrected) undosed
  have piu := piu_of_kernel kernel
  have ven := ven_of_kernel kernel
  have leak := leak_of_kernel kernel
  have leakCarry := leakCarry_of_kernel kernel
  refine ⟨ticked s i d c r raw.toNat, r', h.exec raw, h.now raw, tick_of_kernel kernel, here, gross ▸ addVolume_toNat fits,
    std ▸ addVolume_toNat fitsStd, ven, hist_of_kernel kernel, leak, leakCarry,
    congrArg (·.snapA) piu, congrArg (·.snapB) piu, congrArg (·.cntA) piu, congrArg (·.cntB) piu, congrArg (·.mark) piu,
    congrArg (·.corrected) piu, corrected.trans (congrArg (·.corrected) piu).symm, ?_, fun j ne waits => h.lane_ne raw ne waits, ?_⟩
  · have held (f v g w : Bool) : (f || (!g && (v || g) && w)) = (f || (!g && v && w)) := by cases g <;> simp
    have default (f v g : Bool) : (f || (!g && !(v || g))) = (f || (!g && !v)) := by cases g <;> simp
    rw [flags, tempFlags, isGood, held, default]
    have overspeed : (r.flags.overspeed || (p.overspeed || decide (c.lane.ceiling < pulses))) =
        (r.flags.overspeed || p.overspeed || decide (c.lane.ceiling < pulses)) := (Bool.or_assoc ..).symm
    have reversed : (r.flags.phaseReversed || (p.reversed || p.mark)) = (r.flags.phaseReversed || p.reversed || p.mark) :=
      (Bool.or_assoc ..).symm
    rw [← overspeed, ← reversed]
    rfl
  · intro still low
    obtain ⟨_, _, _, -, -, lane⟩ := h.suspended raw (level low) still
    exact ⟨congrArg (·.stage) lane, congrArg (·.noFlow) lane, congrArg (·.openOut) lane, congrArg (·.holdOut) lane, h.checkpoint raw⟩

end

section
/-! The pulse fault of a tick (R87), and the stage, rate and outputs that a tick leaves (R52 to R57, R66). -/

namespace Sys2Proof.Machine

/-! ### The line that a lane holds, along a pass -/

/-- The line without its record. -/
def OrderLine.bare (l : OrderLine) : OrderLine := { l with record := none }

/-- What a lane holds of its line besides the record. -/
def State.heldBare (s : State) (i : LaneNo) : Option OrderLine := (s.heldLine i).map OrderLine.bare

theorem heldBare_congr {s t : State} {i : LaneNo} (pct : t.pct = s.pct) (line : (t.lane i).line = (s.lane i).line) :
    t.heldBare i = s.heldBare i := by
  simp only [State.heldBare, State.heldLine, State.lines, pct, line]

theorem modRecord_heldBare (i : LaneNo) (f : CompRecord → CompRecord) (s : State) :
    (s.modRecord i f).heldBare i = s.heldBare i := by
  rw [State.heldBare, State.modRecord, modHeld_heldLine, Option.map_map]
  rfl

theorem giveLimit_heldBare (i : LaneNo) (s : State) : (giveLimit i s).heldBare i = s.heldBare i :=
  heldBare_congr (giveLimit_pct i s) (line_of_kernel (giveLimit_kernel i s))

theorem startStroke_heldBare (final : Bool) (i : LaneNo) (k : Nat) (j : InjNo) (s : State) :
    (startStroke final i k j s).heldBare i = s.heldBare i := by
  unfold startStroke
  split
  · rfl
  · rw [giveLimit_heldBare]
    exact modRecord_heldBare i _ s

theorem considerLine_heldBare (i : LaneNo) (k : Nat) (s : State) : (considerLine i k s).heldBare i = s.heldBare i := by
  obtain e | ⟨final, j, e⟩ := considerLine_cases i k s <;> rw [e]
  exact startStroke_heldBare ..

theorem dosePass_heldBare (i : LaneNo) (dg : Nat) (s : State) : (dosePass i dg s).heldBare i = s.heldBare i := by
  rw [dosePass_eq, considerLine_heldBare, considerLine_heldBare, considerLine_heldBare, giveLimit_heldBare]
  exact modRecord_heldBare i _ s

theorem volumeStep_heldBare (i : LaneNo) (p : Pass) (s : State) : (volumeStep i p s).heldBare i = s.heldBare i :=
  (modRecord_heldBare i _ _).trans (heldBare_congr (modLane_pct _ _ _) (by rw [modLane_lane_self]))

theorem passed_heldBare {i : LaneNo} {s : State} (c : VenCfg) (raw : Nat) (r : CompRecord) (h : s.OpenUnquiet i) :
    (passed i c raw r s).heldBare i = (pulseStep i (tickPulse i c r s) s).heldBare i := by
  rw [heldBare_congr (passed_pct c raw r h) (passed_line c raw r h), dosed, dosePass_heldBare, volumeStep_heldBare]

/-! ### The pulse fault of a tick (R87, R67) -/

/-- The state in which a tick's fault finds the lane: the count and the flags in the record. -/
def pulsesRecorded (i : LaneNo) (pt : PulseTick) (s : State) : State :=
  (s.modPiu i fun _ => pt.piu).modRecord i (recordPulses pt.piu)

theorem pulseStep_raised {i : LaneNo} {pt : PulseTick} {code : PulseCode} (raised : pt.raised = some code) (s : State) :
    pulseStep i pt s = takeFault i .pulseFault (pulsesRecorded i pt s) := by
  simp only [pulseStep, raised]
  rfl

theorem pulsesRecorded_gross (i : LaneNo) (pt : PulseTick) (s : State) : (pulsesRecorded i pt s).gross i = s.gross i := by
  rw [State.gross, pulsesRecorded, modRecord_record, State.modPiu, modLane_record _ rfl, State.gross, Option.map_map]
  rfl

/-- A lane that a pulse fault closes, at the time `now` with this gross. -/
def Lane.closedBy (l : Lane) (reason : EndReason) (gross now : Nat) : Lane :=
  { l with
    stage := .closing, grossAtClose := gross, closeReason := some reason, openOut := false, holdOut := false
    step := none, setpoint := 0, wanted := 0, quiet := 0, closing := some (now + Config.closingTime) }

/-- R67: a fault closes a lane with its compartment open and not in CLOSING, its line ACTIVE if it was suspended. -/
theorem takeFault_open {i : LaneNo} {s : State} (reason : EndReason) (open_ : (s.stage i).compartmentOpen = true)
    (goes : s.stage i ≠ .closing) :
    (takeFault i reason s).lane i = (s.lane i).closedBy reason (s.gross i) s.now ∧
    ((s.stage i).flowing = false → (takeFault i reason s).heldBare i = (setStatus i .active s).heldBare i) := by
  by_cases flows : (s.stage i).flowing = true
  · rw [takeFault_of_flowing reason flows, closeDecision_lane]
    exact ⟨rfl, fun still => absurd (flows.symm.trans still) Bool.noConfusion⟩
  · have e : takeFault i reason s = closeDecision i reason (setStatus i .active s) := by
      unfold takeFault
      cases stage : s.stage i with
      | suspended cause left => cases left <;> first | rfl | (rw [stage] at open_; cases open_)
      | closing => exact absurd stage goes
      | _ => rw [stage] at open_ flows; first | exact absurd rfl flows | cases open_
    have lane : (setStatus i .active s).lane i = s.lane i := lane_of_lanes (modHeld_lanes _ _ _) i
    have gross : (setStatus i .active s).gross i = s.gross i := by rw [State.gross, setStatus_record, State.gross]
    have now : (setStatus i .active s).now = s.now := modHeld_now _ _ _
    rw [e, closeDecision_lane, lane, gross, now]
    exact ⟨rfl, fun _ => heldBare_congr (closeDecision_pct ..) (line_of_kernel (closeDecision_kernel ..))⟩

/-- The steps 4 and 5 of a pass neither end nor steer a lane that the steps before have closed. -/
theorem steps_of_closing {i : LaneNo} {v : State} (c : LaneCfg) (pulses : Nat) (h : v.OpenUnquiet i)
    (closing : v.stage i = .closing) :
    ∃ n, (steerStep i pulses (checkStep c i pulses v)).lane i = { v.lane i with quiet := n } := by
  have still : (v.stage i).flowing = false := by rw [closing]; rfl
  have checked : ∃ n, (checkStep c i pulses v).lane i = { v.lane i with quiet := n } := by
    obtain ⟨e, -⟩ | ⟨-, flows⟩ | ⟨n, e, -⟩ := checkStep_cases c pulses h
    · exact ⟨_, congrArg (fun t : State => t.lane i) e⟩
    · exact absurd (flows.symm.trans still) Bool.noConfusion
    · exact ⟨n, by rw [e, modLane_lane_self]⟩
  obtain ⟨n, lane⟩ := checked
  refine ⟨n, ?_⟩
  have rests : ((checkStep c i pulses v).stage i).flowing = false := by
    rw [State.stage, lane]
    exact still
  rw [steerStep, rests, if_neg Bool.false_ne_true, lane]

theorem checkpointStep_pct (i : LaneNo) (before : Stage) (gross : Nat) (s : State) : (checkpointStep i before gross s).pct = s.pct := by
  unfold checkpointStep
  split
  · exact offerCheckpoint_pct ..
  · rfl

theorem heldBare_of_record {s : State} {i : LaneNo} {r : CompRecord} (record : s.record i = some r) :
    ∃ l, s.heldLine i = some l := by
  rw [State.record] at record
  cases held : s.heldLine i with
  | none => rw [held] at record; cases record
  | some l => exact ⟨l, rfl⟩

section
variable {s : State} {i : LaneNo} {d : Nat} {c : VenCfg} {r : CompRecord} (h : OpenTick s i d c r) (raw : BitVec 12)
include h

theorem OpenTick.heldBare : (ticked s i d c r raw.toNat).heldBare i =
    (pulseStep i (tickPulse i c r s) (restartTick i d s)).heldBare i := by
  have held : (ticked s i d c r raw.toNat).heldBare i =
      (checkpointStep i (s.stage i) r.gross.toNat (tickPass i c raw.toNat r d s)).heldBare i :=
    congrArg (Option.map OrderLine.bare) (settle_heldLine (h.not_ended raw))
  have same : tickPulse i c r (restartTick i d s) = tickPulse i c r s := by rw [tickPulse, restartTick_lane, tickPulse]
  rw [held, heldBare_congr (checkpointStep_pct ..) (congrArg (·.line) (lane_of_lanes (checkpointStep_lanes ..) i)), tickPass,
    passed_heldBare c raw.toNat r h.restarted, same]

/-- R67, R87: the pulse step of a tick that raises a fault closes the lane. -/
theorem OpenTick.fault {code : PulseCode} (raised : (tickPulse i c r s).raised = some code) :
    (pulseStep i (tickPulse i c r s) (restartTick i d s)).lane i =
      { (s.lane i).restarted d with piu := (tickPulse i c r s).piu }.closedBy .pulseFault r.gross.toNat (max s.now d) ∧
    (∀ r0, s.record i = some r0 → (s.stage i).flowing = false →
      ((pulseStep i (tickPulse i c r s) (restartTick i d s)).heldBare i).map (·.status) = some .active) := by
  have lane := recorded_lane i (restartTick i d s) (tickPulse i c r s).piu
  rw [restartTick_lane] at lane
  have stage : (pulsesRecorded i (tickPulse i c r s) (restartTick i d s)).stage i = s.stage i := congrArg (·.stage) lane
  have gross : (pulsesRecorded i (tickPulse i c r s) (restartTick i d s)).gross i = r.gross.toNat := by
    rw [pulsesRecorded_gross, State.gross, restartTick_record, ← h.gross, State.gross]
  have now : (pulsesRecorded i (tickPulse i c r s) (restartTick i d s)).now = max s.now d := modHeld_now _ _ _
  obtain ⟨closes, active⟩ := takeFault_open .pulseFault (by rw [stage]; exact h.open_) (by rw [stage]; exact h.goes)
  rw [pulseStep_raised raised, closes, gross, now]
  refine ⟨congrArg (fun l : Lane => l.closedBy .pulseFault r.gross.toNat (max s.now d)) lane, fun r0 here still => ?_⟩
  have record : ∃ r', (pulsesRecorded i (tickPulse i c r s) (restartTick i d s)).record i = some r' := by
    refine ⟨recordPulses (tickPulse i c r s).piu r0, ?_⟩
    rw [pulsesRecorded, modRecord_record, State.modPiu, modLane_record _ rfl, restartTick_record, here]
    rfl
  obtain ⟨r', record⟩ := record
  obtain ⟨l, held⟩ := heldBare_of_record record
  rw [active (by rwa [stage]), State.heldBare, setStatus, modHeld_heldLine, held]
  rfl

/-- R67, R87: the lane after a tick that raises a fault. -/
theorem OpenTick.faulted {code : PulseCode} (raised : (tickPulse i c r s).raised = some code) :
    ∃ n limit, (ticked s i d c r raw.toNat).lane i =
      { (((s.lane i).restarted d).ticked (tickPulse i c r s).piu (tickVolume i c raw.toNat r s)).closedBy .pulseFault
        r.gross.toNat (max s.now d) with quiet := n, limit := limit } := by
  have same : tickPulse i c r (restartTick i d s) = tickPulse i c r s := by rw [tickPulse, restartTick_lane, tickPulse]
  have volume : tickVolume i c raw.toNat r (restartTick i d s) = tickVolume i c raw.toNat r s := by
    rw [tickVolume, restartTick_lane, same, tickVolume]
  have limited := dosed_limited i c raw.toNat r (restartTick i d s)
  rw [same, volume, (h.fault raised).1] at limited
  obtain ⟨limit, setpoint, wanted, zero, still, lane⟩ := limited
  obtain rfl : setpoint = 0 := Nat.le_zero.1 zero
  obtain rfl : wanted = 0 := still rfl rfl
  obtain ⟨n, after⟩ := steps_of_closing c.lane (tickPulse i c r (restartTick i d s)).pulses
    (dosed_openUnquiet c raw.toNat r h.restarted) (congrArg (·.stage) lane)
  refine ⟨n, limit, ?_⟩
  rw [h.lane, tickPass, passed, after, lane]
  rfl

end

end Sys2Proof.Machine
open Sys2Proof Sys2Proof.Machine

/-- Settles O30, by the pulse step, whose close decision the later steps of the pass leave. -/
theorem pulseFaultCloses : Obligations.PulseFaultCloses := by
  unfold Obligations.PulseFaultCloses
  intro s i raw d c r tick cfg open_ goes record a b code
  have h : OpenTick s i d c r := ⟨tick, cfg, open_, goes, by rw [record]; rfl⟩
  have piu := piu_of_kernel (h.kernel raw)
  have fault : ((ticked s i d c r raw.toNat).lane i).piu.fault = (tickPulse i c r s).piu.fault := congrArg (·.fault) piu
  refine ⟨fun clear => ?_, fun set => ?_⟩
  · have raised : (tickPulse i c r s).raised = code := by
      change raisedFault c.lane a b (s.lane i).piu = code
      rw [raisedFault]
      by_cases level : c.lane.level = 2
      · rw [if_pos ⟨level, clear⟩]
        exact (if_neg (not_not.2 level)).symm
      · rw [if_neg fun x => level x.1]
        exact (if_pos level).symm
    refine ⟨ticked s i d c r raw.toNat, h.exec raw, ?_, fun some => ?_⟩
    · rw [fault]
      change (match (tickPulse i c r s).raised with | .none => (s.lane i).piu.fault | .some x => some ⟨x, r.gross.toNat⟩) = _
      rw [raised, clear]
      cases code <;> rfl
    · obtain ⟨x, isCode⟩ := Option.isSome_iff_exists.1 some
      have raised := raised.trans isCode
      obtain ⟨n, limit, lane⟩ := h.faulted raw raised
      have stage : (ticked s i d c r raw.toNat).stage i = .closing := congrArg (·.stage) lane
      have offered := h.checkpoint raw
      rw [State.TickCheckpoint, if_pos (.inl (by rw [stage]; exact goes.symm))] at offered
      refine ⟨stage, congrArg (·.closeReason) lane, congrArg (·.grossAtClose) lane, congrArg (·.setpoint) lane,
        congrArg (·.wanted) lane, congrArg (·.openOut) lane, congrArg (·.holdOut) lane, congrArg (·.closing) lane, offered,
        fun still => ?_⟩
      have active := (h.fault raised).2 r record still
      rw [← h.heldBare raw, State.heldBare, Option.map_map] at active
      exact active
  · have raised : (tickPulse i c r s).raised = none := if_neg fun x => by rw [x.2] at set; cases set
    refine ⟨ticked s i d c r raw.toNat, h.exec raw, fault.trans ?_⟩
    change (match (tickPulse i c r s).raised with | .none => (s.lane i).piu.fault | .some x => some ⟨x, r.gross.toNat⟩) = _
    rw [raised]

end

section
/-! The stage, the rate and the outputs of a flowing lane after a tick (R52 to R57, R66). -/

namespace Sys2Proof.Machine

/-! ### Stage, rate and outputs as functions of the lane -/

/-- R54: the target rate of a lane in its stage, under its limit and its share. -/
def Lane.target (l : Lane) (c : LaneCfg) : Nat := targetRate c l.stage l.limit l.share

theorem target_of_cfg {s : State} {i : LaneNo} {c : LaneCfg} (cfg : s.laneCfg i = some c) : s.target i = (s.lane i).target c := by
  rw [State.target, cfg]
  rfl

theorem wantedNow_of_cfg {s : State} {i : LaneNo} {c : LaneCfg} (cfg : s.laneCfg i = some c) :
    s.wantedNow i = wantedRate c (s.lane i).stage (s.lane i).limit := by
  rw [State.wantedNow, cfg]
  rfl

/-- R52, R55, R56: the lane in another stage, its setpoint risen by a ramp step. -/
def Lane.risen (l : Lane) (c : LaneCfg) (st : Stage) : Lane :=
  { l with
    stage := st, setpoint := min ({ l with stage := st }.target c) (l.setpoint + c.ramp)
    wanted := wantedRate c st l.limit }

/-- R55: what falls to the target first and then rises by at most a ramp step, has risen by at most that. -/
theorem fall_then_rise (sp target ramp : Nat) :
    max (min (min sp target) target) (min target (min (min sp target) target + ramp)) = min target (sp + ramp) := by omega

theorem setStage_lane {s : State} {i : LaneNo} {c : LaneCfg} (cfg : s.laneCfg i = some c) (st : Stage) :
    (setStage i st s).lane i = { s.lane i with
      stage := st, setpoint := min (s.lane i).setpoint ({ s.lane i with stage := st }.target c)
      wanted := wantedRate c st (s.lane i).limit } := by
  rw [setStage, retarget_lane_self, target_of_cfg (by exact cfg), wantedNow_of_cfg (by exact cfg), modLane_lane_self]

theorem rise_lane {s : State} {i : LaneNo} {c : LaneCfg} (cfg : s.laneCfg i = some c) :
    (rise i s).lane i = { s.lane i with
      setpoint := max (s.lane i).setpoint (min ((s.lane i).target c) ((s.lane i).setpoint + c.ramp)) } := by
  simp only [rise, cfg, modLane_lane_self, target_of_cfg cfg]

/-- R52, R55: the lane when a tick has set its stage and its rate. -/
theorem risen_lane {s : State} {i : LaneNo} {c : LaneCfg} (cfg : s.laneCfg i = some c) (st : Stage) :
    (rise i (retarget i (setStage i st s))).lane i = (s.lane i).risen c st := by
  have staged := setStage_lane cfg st
  have cfg1 : (setStage i st s).laneCfg i = some c := cfg
  have retargeted := retarget_lane_self i (setStage i st s)
  rw [target_of_cfg cfg1, wantedNow_of_cfg cfg1, staged] at retargeted
  rw [rise_lane (s := retarget i (setStage i st s)) (by exact cfg1), retargeted]
  exact congrArg (fun n => { s.lane i with stage := st, setpoint := n, wanted := wantedRate c st (s.lane i).limit })
    (fall_then_rise (s.lane i).setpoint ({ s.lane i with stage := st }.target c) c.ramp)

/-- R57: the lane as the steering decision from its Q and S leaves it. -/
def Lane.steered (l : Lane) (may : Bool) (now : Nat) : Lane :=
  if may then commandOutputs (steer l.ven.q l.setpoint) now l else { l with openOut := false, holdOut := false, step := none }

theorem steerNow_lane (i : LaneNo) (s : State) : (steerNow i s).lane i = (s.lane i).steered (s.mayEnergise i) s.now := by
  unfold steerNow Lane.steered
  split <;> exact modLane_lane_self ..

/-- R66: the lane after the no-flow watch of a tick. -/
def Lane.watched (l : Lane) (n gross now : Nat) : Lane :=
  if 16 ≤ n then { l with noFlow := n }.closedBy .noFlow gross now else { l with noFlow := n }

theorem noFlowStep_lane (i : LaneNo) (pulses : Nat) (dec : Steer) (s : State) : (noFlowStep i pulses dec s).lane i =
    (s.lane i).watched (noFlowAfter pulses dec (s.lane i).noFlow) (s.gross i) s.now := by
  have counted (n : Nat) : (noFlowCounted i n s).lane i = { s.lane i with noFlow := n } := modLane_lane_self ..
  have gross (n : Nat) : (noFlowCounted i n s).gross i = s.gross i := by
    rw [State.gross, noFlowCounted, modLane_record _ rfl, State.gross]
  rw [noFlowStep_eq, Lane.watched]
  split
  · rw [closeDecision_lane, counted, gross]
    rfl
  · exact counted _

/-- R29: a lane in one flowing stage may energise its outputs where it may in another. -/
theorem mayEnergise_of_flowing {s t : State} {i : LaneNo} (ilm : t.ilm = s.ilm) (lif : t.lif = s.lif)
    (flows : (s.stage i).flowing = true) (flows' : (t.stage i).flowing = true) : t.mayEnergise i = s.mayEnergise i := by
  simp only [State.mayEnergise, State.whole, State.halted, State.laneLatched, ilm, lif, flows, flows']

/-- The lane after the steering of a tick that leaves it in the stage `st`, with the count of the no-flow watch. -/
def Lane.steps (l : Lane) (c : LaneCfg) (st : Stage) (may : Bool) (pulses gross now : Nat) : Lane :=
  ((l.risen c st).steered may now).watched
    (noFlowAfter pulses (steer l.ven.q (l.risen c st).setpoint) l.noFlow) gross now

theorem steered_noFlow (l : Lane) (may : Bool) (now : Nat) : (l.steered may now).noFlow = l.noFlow := by
  unfold Lane.steered
  split
  · cases steer l.ven.q l.setpoint <;> rfl
  · rfl

/-- R52, R53, R66: the steps 4 and 5 of a pass in a flowing stage. -/
theorem steps_of_flowing {i : LaneNo} {v : State} {c : LaneCfg} (pulses : Nat) (cfg : v.laneCfg i = some c)
    (flows : (v.stage i).flowing = true) : (steerStep i pulses (checkStep c i pulses v)).lane i =
      if closeDue (v.preset i) (v.gross i) (v.lane i).learned then (v.lane i).closedBy .preset (v.gross i) v.now
      else (v.lane i).steps c (stageAfter c (v.stage i) (v.preset i) (v.gross i)) (v.mayEnergise i) pulses (v.gross i) v.now := by
  rw [checkStep, if_pos flows, stageStep]
  split
  · rw [steerStep, closeDecision_stage, if_neg (by simp [Stage.flowing]), closeDecision_lane]
    rfl
  · generalize stage : stageAfter c (v.stage i) (v.preset i) (v.gross i) = st
    have flows' : st.flowing = true := stage ▸ stageAfter_flowing c _ _ flows
    have risen := risen_lane cfg st
    have same : (rise i (retarget i (setStage i st v))).beyond i = v.beyond i := by simp
    have gross : (steerNow i (rise i (retarget i (setStage i st v)))).gross i = v.gross i := by
      rw [State.gross, record_congr (t := steerNow i (rise i (retarget i (setStage i st v)))) (s := v), State.gross]
      · rw [steerNow_pct, rise_pct, retarget_pct]
        exact congrArg Pct.trip ((retarget_pct ..).trans (modLane_pct _ _ _))
      · rw [line_of_kernel (steerNow_kernel ..), risen]
        rfl
    generalize moved : rise i (retarget i (setStage i st v)) = t at risen same gross
    have may : t.mayEnergise i = v.mayEnergise i :=
      mayEnergise_of_flowing (ilm_of_beyond same) (lif_of_beyond same) flows (by rw [State.stage, risen]; exact flows')
    have now : (steerNow i t).now = v.now := (now_of_beyond (steerNow_beyond (i := i) (s := t))).trans (now_of_beyond same)
    rw [steerStep, setStage_stage, if_pos flows', moved, noFlowStep_lane, gross, now, steerNow_lane, may, now_of_beyond same,
      State.decision, risen, steered_noFlow]
    rfl

/-! ### A tick of a flowing lane that raises no fault -/

theorem laneCfg_of_venCfg {s : State} {i : LaneNo} {c : VenCfg} (cfg : s.venCfg i = some c) : s.laneCfg i = some c.lane := by
  unfold State.venCfg at cfg
  split at cfg
  · rename_i l t lane temp
    obtain ⟨p, -, rfl⟩ := Option.map_eq_some_iff.1 cfg
    exact lane
  · cases cfg

theorem limitOf_plain {s : State} {i : LaneNo} (plain : s.additives i = []) : s.limitOf i = none := by
  rw [State.limitOf, plain]
  rfl

theorem considerLine_plain {s : State} {i : LaneNo} (plain : s.additives i = []) (k : Nat) : considerLine i k s = s := by
  rw [considerLine, State.additive, plain]
  rfl

theorem accrued_additives (i : LaneNo) (dg : Nat) (s : State) :
    (accrued i dg s).additives i = (s.additives i).map fun a => accrueLine (s.stroke a.injector) dg a := by
  rw [State.additives, accrued, modRecord_record, State.additives]
  cases s.record i <;> rfl

/-- R116 to R124: without additive lines and without a limit the dose step leaves the lane as it was. -/
theorem dosePass_plain {s : State} {i : LaneNo} (dg : Nat) (plain : s.additives i = []) (limit : (s.lane i).limit = none) :
    (dosePass i dg s).lane i = s.lane i := by
  have bare : (accrued i dg s).additives i = [] := by rw [accrued_additives, plain]; rfl
  have lane : (accrued i dg s).lane i = s.lane i := modRecord_lane ..
  have given : giveLimit i (accrued i dg s) = accrued i dg s := by
    rw [giveLimit, limitOf_plain bare, lane, limit, if_pos rfl]
  rw [dosePass_eq, given, considerLine_plain bare, considerLine_plain bare, considerLine_plain bare, lane]

section
variable {s : State} {i : LaneNo} {d : Nat} {c : VenCfg} {r : CompRecord} (h : OpenTick s i d c r) (raw : BitVec 12)

/-- The lane with its volume formed, the tick restarted. -/
def tickedLane (s : State) (i : LaneNo) (d : Nat) (c : VenCfg) (r : CompRecord) (raw : Nat) : Lane :=
  ((s.lane i).restarted d).ticked (tickPulse i c r s).piu (tickVolume i c raw r s)

theorem tickPulse_restarted (i : LaneNo) (d : Nat) (c : VenCfg) (r : CompRecord) (s : State) :
    tickPulse i c r (restartTick i d s) = tickPulse i c r s := by rw [tickPulse, restartTick_lane, tickPulse]

theorem tickVolume_restarted (i : LaneNo) (d : Nat) (c : VenCfg) (raw : Nat) (r : CompRecord) (s : State) :
    tickVolume i c raw r (restartTick i d s) = tickVolume i c raw r s := by
  rw [tickVolume, restartTick_lane, tickPulse_restarted, tickVolume]

theorem pulseStep_quiet {i : LaneNo} {pt : PulseTick} (quiet : pt.raised = none) (s : State) :
    pulseStep i pt s = pulsesRecorded i pt s := by
  rw [pulseStep, quiet]
  rfl

theorem formed_lane (quiet : (tickPulse i c r s).raised = none) :
    (volumeStep i (tickVolume i c raw.toNat r s) (pulseStep i (tickPulse i c r s) (restartTick i d s))).lane i =
      tickedLane s i d c r raw.toNat := by
  rw [volumeStep_lane, pulseStep_quiet quiet, pulsesRecorded, recorded_lane, restartTick_lane]
  rfl

theorem dosed_preset (quiet : (tickPulse i c r s).raised = none) :
    (dosed i c raw.toNat r (restartTick i d s)).preset i = s.preset i := by
  have bare : (dosed i c raw.toNat r (restartTick i d s)).heldBare i = s.heldBare i := by
    rw [dosed, tickPulse_restarted, dosePass_heldBare, volumeStep_heldBare, pulseStep_quiet quiet, pulsesRecorded,
      modRecord_heldBare]
    exact heldBare_congr rfl (by rw [State.modPiu, modLane_lane_self, restartTick_lane])
  have presets (t : State) : t.preset i = ((t.heldBare i).map (·.preset)).getD 0 := by
    rw [State.preset, State.heldBare, Option.map_map]
    rfl
  rw [presets, bare, presets]

include h

theorem OpenTick.additives : (volumeStep i (tickVolume i c raw.toNat r s) (pulseStep i (tickPulse i c r s) (restartTick i d s))).additives i =
    s.additives i := by
  have record := h.record
  rw [State.additives, volumeStep, modRecord_record, modLane_record _ rfl, pulseStep_record, restartTick_record, State.additives]
  cases here : s.record i with
  | none => rfl
  | some r0 =>
    rw [here] at record
    obtain rfl : r0 = r := record
    rfl

theorem OpenTick.plain (quiet : (tickPulse i c r s).raised = none) (none : s.additives i = []) (limit : (s.lane i).limit = .none) :
    (dosed i c raw.toNat r (restartTick i d s)).lane i = tickedLane s i d c r raw.toNat := by
  have formed := formed_lane (d := d) raw quiet
  rw [dosed, tickPulse_restarted, tickVolume_restarted, dosePass_plain _ (by rw [h.additives raw, none]) (by rw [formed]; exact limit),
    formed]

/-- R52 to R57, R66: the lane after a tick in a flowing stage that raises no fault. -/
theorem OpenTick.flowing (flows : (s.stage i).flowing = true) (quiet : (tickPulse i c r s).raised = none) :
    ∃ b, (tickedLane s i d c r raw.toNat).Limited b ∧
      (s.additives i = [] → (s.lane i).limit = none → b = tickedLane s i d c r raw.toNat) ∧
      (ticked s i d c r raw.toNat).lane i =
        let gross := (ticked s i d c r raw.toNat).gross i
        if closeDue (s.preset i) gross (s.lane i).learned then b.closedBy .preset gross (max s.now d)
        else b.steps c.lane (stageAfter c.lane (s.stage i) (s.preset i) gross) (s.mayEnergise i) (tickPulse i c r s).pulses gross
          (max s.now d) := by
  have limited := dosed_limited_of_quiet (d := d) raw quiet
  have same := dosed_beyond i c raw.toNat r (restartTick i d s)
  have gross : (ticked s i d c r raw.toNat).gross i = (dosed i c raw.toNat r (restartTick i d s)).gross i := by
    rw [State.gross, h.record_after, tickPass, passed_record c raw.toNat r h.restarted, State.gross]
  have plain := h.plain raw quiet
  have preset := dosed_preset (d := d) raw quiet
  have cfg : (dosed i c raw.toNat r (restartTick i d s)).laneCfg i = some c.lane :=
    (laneCfg_of_cfg (cfg_of_beyond same) i).trans (laneCfg_of_venCfg h.cfg)
  rw [h.lane, tickPass, passed, gross, tickPulse_restarted]
  generalize dosed i c raw.toNat r (restartTick i d s) = v at limited same plain preset cfg
  have stage : v.stage i = s.stage i := by
    obtain ⟨_, _, _, -, -, e⟩ := limited
    exact congrArg (·.stage) e
  have learned : (v.lane i).learned = (s.lane i).learned := by
    obtain ⟨_, _, _, -, -, e⟩ := limited
    exact congrArg (·.learned) e
  have flows' : (v.stage i).flowing = true := stage.symm ▸ flows
  have ilm : v.ilm = s.ilm := (ilm_of_beyond same).trans (modLane_ilm _ _ _)
  have lif : v.lif = s.lif := (lif_of_beyond same).trans (modLane_lif _ _ _)
  have may : v.mayEnergise i = s.mayEnergise i := mayEnergise_of_flowing ilm lif flows flows'
  have now : v.now = max s.now d := (now_of_beyond same).trans (modLane_now _ _ _)
  refine ⟨v.lane i, limited, plain, ?_⟩
  rw [steps_of_flowing _ cfg flows', preset, learned, stage, may, now]

end

/-! ### What the steering leaves (R55, R57) -/

/-- R57: a steering decision changes the outputs and their step alone, by Q, S and the band; where the lane may not energise its
outputs they are off. -/
theorem Lane.steered_eq (l : Lane) (may : Bool) (now : Nat) : ∃ opens holds step,
    l.steered may now = { l with openOut := opens, holdOut := holds, step := step } ∧
    (may = true →
      (l.ven.q + max 20 (l.setpoint * 3 / 100) < l.setpoint →
        opens = true ∧ holds = true ∧ step = some ⟨true, now + Config.stepTime⟩) ∧
      (l.setpoint + max 20 (l.setpoint * 3 / 100) < l.ven.q →
        opens = false ∧ holds = false ∧ step = some ⟨false, now + Config.stepTime⟩) ∧
      (l.setpoint ≤ l.ven.q + max 20 (l.setpoint * 3 / 100) → l.ven.q ≤ l.setpoint + max 20 (l.setpoint * 3 / 100) →
        opens = false ∧ holds = true ∧ step = none)) ∧
    (may = false → opens = false ∧ holds = false) := by
  unfold Lane.steered
  cases may with
  | false => exact ⟨_, _, _, rfl, nofun, fun _ => ⟨rfl, rfl⟩⟩
  | true =>
    rw [if_pos rfl, steer]
    split
    · exact ⟨_, _, _, rfl, fun _ => ⟨fun _ => ⟨rfl, rfl, rfl⟩, fun _ => by omega, fun _ => by omega⟩, nofun⟩
    · split
      · exact ⟨_, _, _, rfl, fun _ => ⟨fun _ => by omega, fun _ => ⟨rfl, rfl, rfl⟩, fun _ _ => by omega⟩, nofun⟩
      · exact ⟨_, _, _, rfl, fun _ => ⟨fun _ => by omega, fun _ => by omega, fun _ _ => ⟨rfl, rfl, rfl⟩⟩, nofun⟩

/-- R66: a lane that flows on after the no-flow watch. -/
theorem Lane.watched_of_flowing {l : Lane} {n gross now : Nat} (flows : (l.watched n gross now).stage.flowing = true) :
    l.watched n gross now = { l with noFlow := n } := by
  unfold Lane.watched at *
  split at flows
  · cases flows
  · rename_i few
    exact if_neg few

/-- R54: the target rate of a flowing stage. -/
theorem Lane.target_of_flowing {l : Lane} (c : LaneCfg) (flows : l.stage.flowing = true) :
    l.target c = min l.share (underLimit l.limit (min (stageLimit c l.stage) c.maxFlow)) := by
  rw [Lane.target, targetRate, wantedRate, if_pos flows]

theorem OpenTick.moves {s : State} {i : LaneNo} {d : Nat} {c : VenCfg} {r : CompRecord} (h : OpenTick s i d c r) (raw : BitVec 12)
    (flows : (s.stage i).flowing = true) (on : ((ticked s i d c r raw.toNat).stage i).flowing = true) :
    ∃ b n, (tickedLane s i d c r raw.toNat).Limited b ∧
      (s.additives i = [] → (s.lane i).limit = none → b = tickedLane s i d c r raw.toNat) ∧
      (ticked s i d c r raw.toNat).lane i =
        { (b.risen c.lane ((ticked s i d c r raw.toNat).stage i)).steered (s.mayEnergise i) (max s.now d) with noFlow := n } := by
  cases raised : (tickPulse i c r s).raised with
  | some code =>
    obtain ⟨n, limit, lane⟩ := h.faulted raw raised
    rw [State.stage, lane] at on
    cases on
  | none =>
    obtain ⟨b, limited, plain, lane⟩ := h.flowing raw flows raised
    dsimp only at lane
    split at lane
    · rw [State.stage, lane] at on
      cases on
    · have steps := lane
      rw [State.stage, lane, Lane.steps] at on
      rw [Lane.steps, Lane.watched_of_flowing on] at steps
      have stage : (ticked s i d c r raw.toNat).stage i =
          stageAfter c.lane (s.stage i) (s.preset i) ((ticked s i d c r raw.toNat).gross i) := by
        obtain ⟨opens, holds, step, steered, -, -⟩ :=
          (b.risen c.lane (stageAfter c.lane (s.stage i) (s.preset i) ((ticked s i d c r raw.toNat).gross i))).steered_eq
            (s.mayEnergise i) (max s.now d)
        rw [State.stage, steps, steered]
        rfl
      exact ⟨b, _, limited, plain, by rw [stage]; exact steps⟩

/-! ### The stage and the no-flow watch as R52 and R66 have them -/

theorem stageAfter_eq (c : LaneCfg) {st : Stage} (preset gross : Nat) (flows : st.flowing = true) :
    stageAfter c st preset gross =
      if st = .slowdown ∨ remaining preset gross ≤ (c.slowVolume : Int) * 1000 then Stage.slowdown
      else if st = .fullFlow ∨ c.lowVolume * 1000 ≤ gross then Stage.fullFlow else Stage.lowFlow := by
  unfold stageAfter
  cases st <;> cases flows
  · by_cases low : c.lowVolume * 1000 ≤ gross <;> by_cases slow : remaining preset gross ≤ (c.slowVolume : Int) * 1000 <;>
      simp [low, slow]
  · by_cases slow : remaining preset gross ≤ (c.slowVolume : Int) * 1000 <;> simp [slow]
  · simp

theorem steer_open_iff (q sp : Nat) : steer q sp = .open ↔ q + max 20 (sp * 3 / 100) < sp := by
  simp only [steer]
  split
  · simp [*]
  · split <;> simp [*]

/-- R66: the watch closes the lane at the 16th tick that counts, and otherwise leaves the count. -/
theorem watched_cases (l : Lane) (pulses gross now : Nat) (dec : Steer) :
    ((pulses = 0 ∧ dec = .open) ∧ 15 ≤ l.noFlow ∧
      ∃ n, l.watched (noFlowAfter pulses dec l.noFlow) gross now = { l with noFlow := n }.closedBy .noFlow gross now) ∨
    (¬((pulses = 0 ∧ dec = .open) ∧ 15 ≤ l.noFlow) ∧
      l.watched (noFlowAfter pulses dec l.noFlow) gross now = { l with noFlow := noFlowAfter pulses dec l.noFlow } ∧
      noFlowAfter pulses dec l.noFlow < 16) := by
  unfold Lane.watched noFlowAfter
  by_cases counts : pulses = 0 ∧ dec = .open
  · rw [if_pos counts]
    by_cases full : 15 ≤ l.noFlow
    · exact .inl ⟨counts, full, _, if_pos (by omega)⟩
    · exact .inr ⟨fun x => full x.2, if_neg (by omega), by omega⟩
  · rw [if_neg counts]
    exact .inr ⟨fun x => counts x.1, if_neg (by omega), by omega⟩

end Sys2Proof.Machine
open Sys2Proof Sys2Proof.Machine

/-- Settles O32, by the rate to which the lane rises and the outputs that the steering decision commands. -/
theorem tickSteers : Obligations.TickSteers := by
  unfold Obligations.TickSteers
  intro s i raw d c tick cfg flows
  have h : OpenTick s i d c ((s.record i).getD {}) :=
    ⟨tick, cfg, compartmentOpen_of_flowing flows, (fun closing => by rw [closing] at flows; cases flows), rfl⟩
  refine ⟨ticked s i d c ((s.record i).getD {}) raw.toNat, h.exec raw, fun flowing => ?_⟩
  obtain ⟨b, n, limited, plain, lane⟩ := h.moves raw flows flowing
  generalize ticked s i d c ((s.record i).getD {}) raw.toNat = t at flowing lane
  obtain ⟨opens, holds, step, steered, may, mayNot⟩ := (b.risen c.lane (t.stage i)).steered_eq (s.mayEnergise i) (max s.now d)
  rw [steered] at lane
  have isTarget := (b.risen c.lane (t.stage i)).target_of_flowing c.lane flowing
  have setpoint : (t.lane i).setpoint = min ((b.risen c.lane (t.stage i)).target c.lane) (b.setpoint + c.lane.ramp) :=
    congrArg (·.setpoint) lane
  have fields : (t.lane i).share = (b.risen c.lane (t.stage i)).share ∧ (t.lane i).limit = (b.risen c.lane (t.stage i)).limit ∧
      (t.lane i).openOut = opens ∧ (t.lane i).holdOut = holds ∧ (t.lane i).step = step ∧
      (t.lane i).ven.q = (b.risen c.lane (t.stage i)).ven.q := by
    rw [lane]
    exact ⟨rfl, rfl, rfl, rfl, rfl, rfl⟩
  obtain ⟨share, limit, isOpen, isHold, isStep, isQ⟩ := fields
  have same : (b.risen c.lane (t.stage i)).setpoint = (t.lane i).setpoint := setpoint.symm
  rw [same, ← isQ] at may
  rw [isOpen, isHold, isStep, share, limit]
  have le : b.setpoint ≤ (s.lane i).setpoint := by
    obtain ⟨_, _, _, le, -, rfl⟩ := limited
    exact le
  refine ⟨?_, ?_, fun none nolimit below => ?_, may, mayNot⟩
  · rw [setpoint]
    exact (Nat.min_le_left _ _).trans (isTarget.le)
  · rw [setpoint]
    exact (Nat.min_le_right _ _).trans (Nat.add_le_add_right le _)
  · rw [setpoint, isTarget, plain none nolimit]
    rfl

/-- Settles O31, by the close check, the stage after it and the no-flow watch, as functions of the lane's volumes. -/
theorem stageAfterTick : Obligations.StageAfterTick := by
  unfold Obligations.StageAfterTick
  intro s i raw d k l c r tick cfg flows line here recorded a b pulses sound
  have held : s.heldLine i = some l := (heldLine_of_line line).trans here
  have record : s.record i = some r := by rw [State.record, held]; exact recorded
  have preset : s.preset i = l.preset := by rw [State.preset, held]; rfl
  have h : OpenTick s i d c r :=
    ⟨tick, cfg, compartmentOpen_of_flowing flows, (fun closing => by rw [closing] at flows; cases flows), by rw [record]; rfl⟩
  have quiet : (tickPulse i c r s).raised = none := by
    change raisedFault c.lane a b (s.lane i).piu = none
    unfold raisedFault
    split
    · rename_i raises
      obtain set | ⟨ab, ba, unmarked, few⟩ := sound raises.1
      · rw [raises.2] at set; cases set
      · rw [pulseCondition, if_neg (by omega), if_neg (by omega), unmarked, if_neg Bool.false_ne_true]
        exact if_neg (Nat.not_lt.2 few)
    · rfl
  obtain ⟨r', after, -⟩ := h.record_some raw record
  refine ⟨ticked s i d c r raw.toNat, r', h.exec raw, after, h.checkpoint raw, ?_⟩
  have gross : (ticked s i d c r raw.toNat).gross i = r'.gross.toNat := by rw [State.gross, after]; rfl
  obtain ⟨m, limited, plain, lane⟩ := h.flowing raw flows quiet
  simp only [gross, preset, stageAfter_eq _ _ _ flows, closeDue_iff] at lane
  have additives : s.additives i = r.additives := by rw [State.additives, record]; rfl
  rw [additives] at plain
  generalize ticked s i d c r raw.toNat = t at lane
  intro rem closes stage limit opens
  have closed {x : Lane} (reason : EndReason) (e : t.lane i = x.closedBy reason r'.gross.toNat (max s.now d)) : closes reason := by
    refine ⟨congrArg (·.stage) e, ?_⟩
    rw [e]
    exact ⟨rfl, rfl, rfl, rfl, rfl, rfl, rfl, rfl⟩
  refine ⟨fun due => closed .preset (by rw [lane, if_pos due]), fun open_ => ?_⟩
  have flowing : stage.flowing = true := by
    change (if _ then Stage.slowdown else if _ then Stage.fullFlow else Stage.lowFlow).flowing = true
    split
    · rfl
    · split <;> rfl
  rw [if_neg open_, Lane.steps] at lane
  change t.lane i = ((m.risen c.lane stage).steered (s.mayEnergise i) (max s.now d)).watched
    (noFlowAfter pulses (steer m.ven.q (m.risen c.lane stage).setpoint) m.noFlow) r'.gross.toNat (max s.now d) at lane
  obtain ⟨o, hold, step, steered, -, -⟩ := (m.risen c.lane stage).steered_eq (s.mayEnergise i) (max s.now d)
  rw [steered] at lane
  have noFlow : m.noFlow = (s.lane i).noFlow := by
    obtain ⟨_, _, _, -, -, rfl⟩ := limited
    rfl
  have cases := watched_cases { m.risen c.lane stage with openOut := o, holdOut := hold, step := step } pulses r'.gross.toNat
    (max s.now d) (steer m.ven.q (m.risen c.lane stage).setpoint)
  have q : (t.lane i).ven.q = m.ven.q := by
    rw [lane]
    obtain ⟨-, -, _, e⟩ | ⟨-, e, -⟩ := cases <;> exact congrArg (·.ven.q) e
  have isOpen (sp : Nat) : opens sp ↔ pulses = 0 ∧ steer m.ven.q sp = .open := by
    rw [steer_open_iff, ← q]
  refine ⟨?_, fun none nolimit => ?_⟩
  · obtain ⟨⟨idle, -⟩, full, n, e⟩ | ⟨-, e, few⟩ := cases
    · exact .inr ⟨closed .noFlow (lane.trans e), idle, noFlow ▸ full⟩
    · have lane := lane.trans e
      have count : (t.lane i).noFlow = noFlowAfter pulses (steer m.ven.q (m.risen c.lane stage).setpoint) m.noFlow :=
        congrArg (·.noFlow) lane
      have setpoint : (t.lane i).setpoint = (m.risen c.lane stage).setpoint := congrArg (·.setpoint) lane
      refine .inl ⟨congrArg (·.stage) lane, count ▸ few, ?_⟩
      rw [count, setpoint, noFlowAfter, noFlow]
      simp only [isOpen]
  · have setpoint : (m.risen c.lane stage).setpoint =
        min (min (s.lane i).share (min limit c.lane.maxFlow)) ((s.lane i).setpoint + c.lane.ramp) := by
      have isLimit : stageLimit c.lane stage = limit := by
        change _ = match stage with | .lowFlow => c.lane.lowRate | .fullFlow => c.lane.maxFlow | _ => c.lane.slowRate
        revert flowing
        cases stage <;> first | exact fun _ => rfl | exact nofun
      have target := Lane.target_of_flowing (l := m.risen c.lane stage) c.lane flowing
      have isRisen : (m.risen c.lane stage).setpoint = min ((m.risen c.lane stage).target c.lane) (m.setpoint + c.lane.ramp) := rfl
      have same := plain none nolimit
      rw [isRisen, target]
      change min (min m.share (underLimit m.limit (min (stageLimit c.lane stage) c.lane.maxFlow))) (m.setpoint + c.lane.ramp) = _
      rw [isLimit, same]
      change min (min (s.lane i).share (underLimit (s.lane i).limit _)) _ = _
      rw [nolimit]
      rfl
    rw [isOpen, ← setpoint, ← noFlow]
    obtain ⟨counts, full, n, e⟩ | ⟨not, e, -⟩ := cases
    · exact ⟨fun _ => congrArg (·.stage) (lane.trans e), fun _ => ⟨counts, full⟩⟩
    · refine ⟨fun x => absurd x not, fun closing => ?_⟩
      have stays : t.stage i = stage := congrArg (·.stage) (lane.trans e)
      rw [← stays, closing] at flowing
      cases flowing

end

section
/-! The dose step of a tick (R116, R117, R122 to R124), and the stroke at the end of a spacing period (R113, R117, R125). -/

namespace Sys2Proof.Machine

/-! ### Strokes considered line after line (R117) -/

theorem giveLimit_limit (i : LaneNo) (s : State) : ((giveLimit i s).lane i).limit = (giveLimit i s).limitOf i := by
  have same (t : State) (additives : t.additives i = s.additives i) (cfg : t.cfg = s.cfg) : t.limitOf i = s.limitOf i := by
    have limits : lineLimit t = lineLimit s := funext fun a => by rw [lineLimit, lineLimit, State.injCfg, State.injCfg, cfg]
    rw [State.limitOf, State.limitOf, additives, limits]
  rw [same _ (additives_of_record (giveLimit_record i s)) (cfg_of_beyond (giveLimit_beyond (i := i) (s := s)))]
  unfold giveLimit
  split
  · rename_i is
    exact is.symm
  · rw [retarget_lane_self, modLane_lane_self]

theorem injCfg_of_cfg {s t : State} (cfg : t.cfg = s.cfg) (j : InjNo) : t.injCfg j = s.injCfg j := by
  rw [State.injCfg, State.injCfg, cfg]

theorem stroke_of_cfg {s t : State} (cfg : t.cfg = s.cfg) (j : InjNo) : t.stroke j = s.stroke j := by
  rw [State.stroke, State.stroke, injCfg_of_cfg cfg]

theorem stroke_of_injCfg {s : State} {j : InjNo} {c : InjectorCfg} (cfg : s.injCfg j = some c) : s.stroke j = c.stroke := by
  rw [State.stroke, cfg]

theorem startStroke_additive_any {final : Bool} {i : LaneNo} {k : Nat} {j : InjNo} {s : State} {c : InjectorCfg}
    (cfg : s.injCfg j = some c) (n : Nat) : (startStroke final i k j s).additive i n =
      if n = k then (s.additive i k).map (strokeLine final c.stroke) else s.additive i n := by
  rw [startStroke, cfg]
  dsimp only
  rw [State.additive, additives_of_record (giveLimit_record ..)]
  change ((s.modAdditive i k (strokeLine final c.stroke)).additives i)[n]? = _
  rw [modAdditive_additives, List.getElem?_modify]
  split
  · rename_i here
    subst here
    rw [if_pos rfl, State.additive]
    rfl
  · rename_i other
    rw [if_neg (Ne.symm other)]
    exact id_map _

theorem startStroke_inj_ne {final : Bool} {i : LaneNo} {k : Nat} {j j' : InjNo} {s : State} (ne : j ≠ j') :
    (startStroke final i k j s).inj j' = s.inj j' := by
  unfold startStroke
  split
  · rfl
  · rename_i c _
    have same : (s.modAdditive i k (strokeLine final c.stroke)).inj j' = s.inj j' := inj_of_injs (modAdditive_injs ..) j'
    rw [inj_of_injs (giveLimit_injs ..), ← same]
    exact modInj_inj_ne _ _ _ ne _

/-- R117, R125: whether a stroke of a line begins now, the final one or a regular one. -/
def lineDue (final : Bool) (s : State) (st : Stage) (a : AdditiveLine) : Bool :=
  match final with
  | true => finalDue s st a
  | false => strokeDue s st a

/-- R117, R125: final strokes begin in ENDED, and regular ones elsewhere. -/
theorem considerLine_eq {final : Bool} {i : LaneNo} {k : Nat} {s : State} {a : AdditiveLine}
    (kind : final = decide (s.stage i = .ended)) (line : s.additive i k = some a) :
    considerLine i k s = if lineDue final s (s.stage i) a = true then startStroke final i k a.injector s else s := by
  rw [considerLine, line]
  dsimp only
  by_cases ended : s.stage i = .ended
  · obtain rfl : final = true := kind.trans (decide_eq_true ended)
    have regular : strokeDue s (s.stage i) a = false := by
      rw [strokeDue, ended]
      rfl
    rw [regular, if_neg Bool.false_ne_true]
    rfl
  · obtain rfl : final = false := kind.trans (decide_eq_false ended)
    have last : finalDue s (s.stage i) a = false := by
      rw [finalDue, decide_eq_false ended]
      rfl
    rw [last, if_neg (c := false = true) Bool.false_ne_true]
    rfl

/-- `v` is `v0` after a stroke, final or regular, has been considered for the additive lines of lane `i` below `k`. -/
structure Considered (final : Bool) (i : LaneNo) (k : Nat) (v0 v : State) : Prop where
  beyond : v.beyond i = v0.beyond i
  stage : v.stage i = v0.stage i
  limit : (v0.lane i).limit = v0.limitOf i → (v.lane i).limit = v.limitOf i
  line (n : Nat) : v.additive i n = (v0.additive i n).map fun a =>
    if n < k ∧ lineDue final v0 (v0.stage i) a = true then strokeLine final (v0.stroke a.injector) a else a
  own (n : Nat) (a : AdditiveLine) (c : InjectorCfg) : n < k → v0.additive i n = some a → lineDue final v0 (v0.stage i) a = true →
    v0.injCfg a.injector = some c → v.inj a.injector = strokeInjector c v0.now ⟨i, n⟩ (v0.inj a.injector)
  other (j : InjNo) : (∀ n a, n < k → v0.additive i n = some a → lineDue final v0 (v0.stage i) a = true → a.injector ≠ j) →
    v.inj j = v0.inj j

theorem Considered.start (final : Bool) (i : LaneNo) (v : State) : Considered final i 0 v v where
  beyond := rfl
  stage := rfl
  limit := id
  line n := by
    simp
  own n _ _ lt := absurd lt (Nat.not_lt_zero n)
  other _ _ := rfl

/-- With injectors of their own, two lines of a lane have different ones. -/
theorem injector_ne {s : State} {i : LaneNo} (once : (s.doseInjectors i).Nodup) {m n : Nat} {a b : AdditiveLine} (ne : m ≠ n)
    (ha : s.additive i m = some a) (hb : s.additive i n = some b) : a.injector ≠ b.injector := by
  intro same
  have at' {k : Nat} {x : AdditiveLine} (h : s.additive i k = some x) : (s.doseInjectors i)[k]? = some x.injector := by
    rw [State.additive] at h
    rw [State.doseInjectors, List.getElem?_map, h]
    rfl
  have hm := at' ha
  have hn := at' hb
  rw [same] at hm
  have lt := (List.getElem?_eq_some_iff.1 hm).1
  exact ne ((List.getElem?_inj lt once).1 (hm.trans hn.symm))

/-- A step of the consideration, of a line whose injector is its own. -/
theorem Considered.step {final : Bool} {i : LaneNo} {k : Nat} {v0 v : State} (h : Considered final i k v0 v) (once : (v0.doseInjectors i).Nodup)
    (fitted : ∀ n a, v0.additive i n = some a → (v0.injCfg a.injector).isSome = true) (kind : final = decide (v0.stage i = .ended)) :
    Considered final i (k + 1) v0 (considerLine i k v) := by
  have here := h.line k
  have cfgs : v.cfg = v0.cfg := cfg_of_beyond h.beyond
  cases line : v0.additive i k with
  | none =>
    rw [line] at here
    have stays : considerLine i k v = v := by rw [considerLine, here]; rfl
    rw [stays]
    have below {n : Nat} {a : AdditiveLine} (lt : n < k + 1) (x : v0.additive i n = some a) : n < k := by
      obtain lt | rfl := Nat.lt_succ_iff_lt_or_eq.1 lt
      · exact lt
      · rw [line] at x; cases x
    refine ⟨h.beyond, h.stage, h.limit, fun n => ?_, fun n a c lt x => h.own n a c (below lt x) x,
      fun j apart => h.other j fun n a lt => apart n a (Nat.lt_succ_of_lt lt)⟩
    rw [h.line n]
    cases x : v0.additive i n with
    | none => rfl
    | some a =>
      have : n < k ↔ n < k + 1 := ⟨Nat.lt_succ_of_lt, fun lt => below lt x⟩
      simp only [this]
  | some a =>
    rw [line, Option.map_some, if_neg (fun x => Nat.lt_irrefl k x.1)] at here
    obtain ⟨c, cfg⟩ := Option.isSome_iff_exists.1 (fitted k a line)
    have free : v.inj a.injector = v0.inj a.injector :=
      h.other a.injector fun n b lt x _ => injector_ne once (Nat.ne_of_lt lt) x line
    have due : lineDue final v (v.stage i) a = lineDue final v0 (v0.stage i) a := by
      cases final
      · change strokeDue _ _ _ = strokeDue _ _ _
        rw [strokeDue, strokeDue, h.stage, free, State.strokeNl, State.strokeNl, stroke_of_cfg cfgs]
      · change finalDue _ _ _ = finalDue _ _ _
        rw [finalDue, finalDue, h.stage, free]
    have considered := considerLine_eq (kind.trans (by rw [h.stage])) here
    rw [due] at considered
    by_cases starts : lineDue final v0 (v0.stage i) a = true
    · have cfg' : v.injCfg a.injector = some c := (injCfg_of_cfg cfgs _).trans cfg
      have e := considered.trans (if_pos starts)
      have served := startStroke_inj (final := final) (i := i) (k := k) cfg'
      rw [now_of_beyond h.beyond, free] at served
      rw [e]
      refine ⟨(startStroke_beyond ..).trans h.beyond, (startStroke_stage ..).trans h.stage, fun _ => ?_, fun n => ?_,
        fun n b x lt at' starts' cfgb => ?_, fun j apart => ?_⟩
      · rw [startStroke, cfg']
        exact giveLimit_limit ..
      · rw [startStroke_additive_any cfg', here]
        split
        · rename_i isK
          subst isK
          rw [line, Option.map_some, Option.map_some, if_pos ⟨Nat.lt_succ_self _, starts⟩, stroke_of_injCfg cfg]
        · rename_i notK
          rw [h.line n]
          have : n < k ↔ n < k + 1 := ⟨Nat.lt_succ_of_lt, fun lt => Nat.lt_of_le_of_ne (Nat.le_of_lt_succ lt) notK⟩
          simp only [this]
      · obtain lt | rfl := Nat.lt_succ_iff_lt_or_eq.1 lt
        · rw [startStroke_inj_ne (injector_ne once (Nat.ne_of_gt lt) line at'), h.own n b x lt at' starts' cfgb]
        · obtain rfl : a = b := Option.some.inj (line.symm.trans at')
          obtain rfl : c = x := Option.some.inj (cfg.symm.trans cfgb)
          exact served
      · rw [startStroke_inj_ne (apart k a (Nat.lt_succ_self k) line starts)]
        exact h.other j fun n b lt => apart n b (Nat.lt_succ_of_lt lt)
    · have e : considerLine i k v = v := considered.trans (if_neg starts)
      have still {n : Nat} {b : AdditiveLine} (at' : v0.additive i n = some b) (starts' : lineDue final v0 (v0.stage i) b = true)
          (lt : n < k + 1) : n < k := by
        obtain lt | rfl := Nat.lt_succ_iff_lt_or_eq.1 lt
        · exact lt
        · rw [line] at at'
          cases at'
          exact absurd starts' starts
      rw [e]
      refine ⟨h.beyond, h.stage, h.limit, fun n => ?_, fun n b x lt at' starts' => h.own n b x (still at' starts' lt) at' starts',
        fun j apart => h.other j fun n b lt => apart n b (Nat.lt_succ_of_lt lt)⟩
      rw [h.line n]
      cases at' : v0.additive i n with
      | none => rfl
      | some b =>
        have : (n < k ∧ lineDue final v0 (v0.stage i) b = true) ↔ (n < k + 1 ∧ lineDue final v0 (v0.stage i) b = true) :=
          ⟨fun x => ⟨Nat.lt_succ_of_lt x.1, x.2⟩, fun x => ⟨still at' x.2 x.1, x.2⟩⟩
        simp only [Option.map_some, this]

/-! ### The dose step of a tick (R116) -/

theorem accrueLine_injector (stroke dg : Nat) (a : AdditiveLine) : (accrueLine stroke dg a).injector = a.injector := by
  unfold accrueLine
  split <;> rfl

/-- The lane when its lines have accrued and its limit is given, before strokes are considered. -/
def givenLimit (i : LaneNo) (dg : Nat) (s : State) : State := giveLimit i (accrued i dg s)

section
variable (i : LaneNo) (dg : Nat) (s : State)

theorem givenLimit_additive (n : Nat) : (givenLimit i dg s).additive i n =
    (s.additive i n).map fun a => accrueLine (s.stroke a.injector) dg a := by
  rw [State.additive, givenLimit, additives_of_record (giveLimit_record ..), accrued_additives, List.getElem?_map, State.additive]

theorem givenLimit_beyond : (givenLimit i dg s).beyond i = s.beyond i := by simp [givenLimit, accrued]

theorem givenLimit_inj (j : InjNo) : (givenLimit i dg s).inj j = s.inj j := by
  have same : (accrued i dg s).inj j = s.inj j := inj_of_injs (modRecord_injs _ _ _) j
  rw [givenLimit, inj_of_injs (giveLimit_injs ..), ← same]
  rfl

theorem givenLimit_stage : (givenLimit i dg s).stage i = s.stage i := by
  rw [givenLimit, giveLimit_stage, State.stage, accrued, modRecord_lane, State.stage]

theorem givenLimit_doseInjectors : (givenLimit i dg s).doseInjectors i = s.doseInjectors i := by
  rw [State.doseInjectors, givenLimit, additives_of_record (giveLimit_record ..), accrued_additives, List.map_map, State.doseInjectors]
  exact congrArg (fun f => (s.additives i).map f) (funext fun a => accrueLine_injector ..)

theorem dosePass_doseInjectors : (dosePass i dg s).doseInjectors i = s.doseInjectors i := by
  rw [dosePass_eq, considerLine_doseInjectors, considerLine_doseInjectors, considerLine_doseInjectors, ← givenLimit,
    givenLimit_doseInjectors]

end

/-- R116, R117: the dose step of a lane outside ENDED, whose lines have fitted injectors of their own. -/
theorem dosePass_considered {i : LaneNo} {dg : Nat} {s : State} (once : (s.doseInjectors i).Nodup)
    (fitted : ∀ a ∈ s.additives i, (s.injCfg a.injector).isSome = true) (ne : s.stage i ≠ .ended) :
    Considered false i 3 (givenLimit i dg s) (dosePass i dg s) := by
  have once' : ((givenLimit i dg s).doseInjectors i).Nodup := by rwa [givenLimit_doseInjectors]
  have kind : false = decide ((givenLimit i dg s).stage i = .ended) := by rw [givenLimit_stage, decide_eq_false ne]
  have fitted' : ∀ n a, (givenLimit i dg s).additive i n = some a → ((givenLimit i dg s).injCfg a.injector).isSome = true := by
    intro n a here
    rw [givenLimit_additive] at here
    obtain ⟨b, was, rfl⟩ := Option.map_eq_some_iff.1 here
    rw [injCfg_of_cfg (cfg_of_beyond (givenLimit_beyond i dg s)), accrueLine_injector]
    exact fitted b (List.mem_of_getElem? was)
  rw [dosePass_eq]
  exact (((Considered.start false i _).step once' fitted' kind).step once' fitted' kind).step once' fitted' kind

/-! ### The limit along the later steps of the pass -/

theorem Lane.steps_limit (l : Lane) (c : LaneCfg) (st : Stage) (may : Bool) (pulses gross now : Nat) :
    (l.steps c st may pulses gross now).limit = l.limit := by
  obtain ⟨_, _, _, e, -, -⟩ := (l.risen c st).steered_eq may now
  unfold Lane.steps Lane.watched
  rw [e]
  split <;> rfl

theorem steps_limit {i : LaneNo} {v : State} {c : LaneCfg} (pulses : Nat) (cfg : v.laneCfg i = some c)
    (goes : v.stage i ≠ .closing) : ((steerStep i pulses (checkStep c i pulses v)).lane i).limit = (v.lane i).limit := by
  by_cases flows : (v.stage i).flowing = true
  · rw [steps_of_flowing pulses cfg flows]
    split
    · rfl
    · exact Lane.steps_limit ..
  · have checked : checkStep c i pulses v = v := by rw [checkStep, if_neg flows, if_neg goes]
    rw [checked, steerStep, if_neg flows]

theorem steps_injs {i : LaneNo} {v : State} (c : LaneCfg) (pulses : Nat) (h : v.OpenUnquiet i) :
    (steerStep i pulses (checkStep c i pulses v)).injs = v.injs := by
  have closes (reason : EndReason) (s : State) : (closeDecision i reason s).injs = s.injs := modLane_injs _ _ _
  have retargets (s : State) : (retarget i s).injs = s.injs := modLane_injs _ _ _
  have checked : (checkStep c i pulses v).injs = v.injs := by
    obtain ⟨e, -⟩ | ⟨e, -⟩ | ⟨_, e, -⟩ := checkStep_cases c pulses h <;> rw [e]
    · unfold stageStep
      split
      · exact closes ..
      · exact (retargets _).trans (modLane_injs _ _ _)
    · exact modLane_injs _ _ _
  have rises (s : State) : (rise i s).injs = s.injs := by
    unfold rise
    split
    · rfl
    · exact modLane_injs _ _ _
  have steers (s : State) : (steerNow i s).injs = s.injs := by
    unfold steerNow
    split <;> exact modLane_injs _ _ _
  have watches (d : Steer) (s : State) : (noFlowStep i pulses d s).injs = s.injs := by
    rw [noFlowStep_eq]
    split
    · exact (closes ..).trans (modLane_injs _ _ _)
    · exact modLane_injs _ _ _
  unfold steerStep
  split
  · rw [watches, steers, rises, retargets, checked]
  · exact checked

/-! ### The doses of a tick that raises no fault -/

/-- The state of a tick that raises no fault, its volume formed, its lines accrued and its limit given. -/
def tickAccrued (s : State) (i : LaneNo) (d : Nat) (c : VenCfg) (r : CompRecord) (raw : Nat) : State :=
  givenLimit i (tickVolume i c raw r s).dg
    (volumeStep i (tickVolume i c raw r s) (pulseStep i (tickPulse i c r s) (restartTick i d s)))

section
variable {s : State} {i : LaneNo} {d : Nat} {c : VenCfg} {r : CompRecord} (raw : BitVec 12)

theorem tickAccrued_beyond : (tickAccrued s i d c r raw.toNat).beyond i = (restartTick i d s).beyond i := by
  simp [tickAccrued, givenLimit_beyond]

theorem tickAccrued_cfg : (tickAccrued s i d c r raw.toNat).cfg = s.cfg :=
  (cfg_of_beyond (tickAccrued_beyond raw)).trans (modLane_cfg _ _ _)

theorem tickAccrued_now : (tickAccrued s i d c r raw.toNat).now = max s.now d :=
  (now_of_beyond (tickAccrued_beyond raw)).trans (modLane_now _ _ _)

theorem pulseStep_injs (pt : PulseTick) (t : State) : (pulseStep i pt t).injs = t.injs := by
  have recorded : ((t.modPiu i fun _ => pt.piu).modRecord i (recordPulses pt.piu)).injs = t.injs :=
    (modRecord_injs _ _ _).trans (modLane_injs _ _ _)
  unfold pulseStep
  split
  · exact recorded
  · exact (takeFault_injs ..).trans recorded

theorem tickAccrued_inj (j : InjNo) : (tickAccrued s i d c r raw.toNat).inj j = s.inj j := by
  rw [tickAccrued, givenLimit_inj]
  exact inj_of_injs ((modRecord_injs _ _ _).trans ((modLane_injs _ _ _).trans ((pulseStep_injs ..).trans (modLane_injs _ _ _)))) j

theorem tickAccrued_stage : (tickAccrued s i d c r raw.toNat).stage i =
    (pulseStep i (tickPulse i c r s) (restartTick i d s)).stage i := by
  rw [tickAccrued, givenLimit_stage, State.stage, volumeStep_lane, State.stage]

theorem formed_cfg : (volumeStep i (tickVolume i c raw.toNat r s) (pulseStep i (tickPulse i c r s) (restartTick i d s))).cfg = s.cfg := by
  have same : (volumeStep i (tickVolume i c raw.toNat r s) (pulseStep i (tickPulse i c r s) (restartTick i d s))).beyond i =
      (restartTick i d s).beyond i := by simp
  exact (cfg_of_beyond same).trans (modLane_cfg _ _ _)

theorem tickAccrued_additive (h : OpenTick s i d c r) (n : Nat) : (tickAccrued s i d c r raw.toNat).additive i n =
    (s.additive i n).map fun a => accrueLine (s.stroke a.injector) (tickVolume i c raw.toNat r s).dg a := by
  rw [tickAccrued, givenLimit_additive, State.additive, h.additives raw, funext (stroke_of_cfg (formed_cfg raw)), State.additive]

/-- R116, R117: the doses of a tick, of lines with fitted injectors of their own. -/
theorem OpenTick.considered (h : OpenTick s i d c r) (once : (s.doseInjectors i).Nodup)
    (fitted : ∀ a ∈ s.additives i, (s.injCfg a.injector).isSome = true) :
    Considered false i 3 (tickAccrued s i d c r raw.toNat) (dosed i c raw.toNat r (restartTick i d s)) := by
  have additives := h.additives raw
  have e : dosed i c raw.toNat r (restartTick i d s) = dosePass i (tickVolume i c raw.toNat r s).dg
      (volumeStep i (tickVolume i c raw.toNat r s) (pulseStep i (tickPulse i c r s) (restartTick i d s))) := by
    rw [dosed, tickPulse_restarted, tickVolume_restarted]
  rw [e, tickAccrued]
  refine dosePass_considered ?_ ?_ ?_
  · rwa [State.doseInjectors, additives]
  · intro a mem
    rw [additives] at mem
    rw [injCfg_of_cfg (formed_cfg raw)]
    exact fitted a mem
  · rw [State.stage, volumeStep_lane]
    exact ne_ended_of_compartmentOpen (pulseStep_openUnquiet _ h.restarted).1

/-- A lane that flows, or in which no fault is raised, moves after the pulse step if and only if it moved before. -/
theorem OpenTick.moves_on (h : OpenTick s i d c r) (goesOn : (s.stage i).flowing = true ∨ (tickPulse i c r s).raised = none) :
    (((pulseStep i (tickPulse i c r s) (restartTick i d s)).stage i).flowing ||
      decide ((pulseStep i (tickPulse i c r s) (restartTick i d s)).stage i = .closing)) = (s.stage i).flowing := by
  cases raised : (tickPulse i c r s).raised with
  | none =>
    have stage : (pulseStep i (tickPulse i c r s) (restartTick i d s)).stage i = s.stage i := by
      rw [pulseStep_quiet raised, State.stage, pulsesRecorded, recorded_lane, restartTick_lane]
      rfl
    rw [stage, decide_eq_false h.goes, Bool.or_false]
  | some code =>
    have closing : (pulseStep i (tickPulse i c r s) (restartTick i d s)).stage i = .closing :=
      congrArg (·.stage) (h.fault raised).1
    have flows := goesOn.resolve_right (by rw [raised]; exact nofun)
    rw [closing, flows]
    rfl

/-- R117: a line of the tick that starts a stroke. -/
theorem OpenTick.strokeDue_iff (h : OpenTick s i d c r) (goesOn : (s.stage i).flowing = true ∨ (tickPulse i c r s).raised = none)
    {a : AdditiveLine} {x : InjectorCfg} (cfg : s.injCfg a.injector = some x) (dg : Nat) :
    strokeDue (tickAccrued s i d c r raw.toNat) ((tickAccrued s i d c r raw.toNat).stage i) (accrueLine (s.stroke a.injector) dg a) = true ↔
      (s.stage i).flowing = true ∧ a.live = true ∧ a.faultMark = false ∧ (s.inj a.injector).phase = .idle ∧
        x.stroke * 1000 ≤ a.due + dg * a.ratio := by
  have volume : (tickAccrued s i d c r raw.toNat).strokeNl a.injector = x.stroke * 1000 := by
    rw [State.strokeNl, stroke_of_cfg (tickAccrued_cfg raw), stroke_of_injCfg cfg]
  rw [strokeDue, tickAccrued_stage, accrueLine_injector, tickAccrued_inj, volume, h.moves_on goesOn]
  unfold accrueLine
  cases live : a.live <;> simp [AdditiveLine.active, live, and_assoc]

/-- R122 to R124: the limit and the injectors that a tick leaves are those of its dose step. -/
theorem OpenTick.limit (h : OpenTick s i d c r) : ((ticked s i d c r raw.toNat).lane i).limit =
    ((dosed i c raw.toNat r (restartTick i d s)).lane i).limit := by
  have cfg : (dosed i c raw.toNat r (restartTick i d s)).laneCfg i = some c.lane :=
    (laneCfg_of_cfg ((cfg_of_beyond (dosed_beyond ..)).trans (modLane_cfg _ _ _)) i).trans (laneCfg_of_venCfg h.cfg)
  rw [h.lane, tickPass, passed]
  by_cases closing : (dosed i c raw.toNat r (restartTick i d s)).stage i = .closing
  · obtain ⟨n, e⟩ := steps_of_closing c.lane (tickPulse i c r (restartTick i d s)).pulses
      (dosed_openUnquiet c raw.toNat r h.restarted) closing
    rw [e]
  · exact steps_limit _ cfg closing

theorem checkpointStep_injs (i : LaneNo) (before : Stage) (gross : Nat) (t : State) :
    (checkpointStep i before gross t).injs = t.injs := by
  unfold checkpointStep
  split
  · exact offerCheckpoint_injs ..
  · rfl

theorem OpenTick.inj (h : OpenTick s i d c r) (j : InjNo) : (ticked s i d c r raw.toNat).inj j =
    (dosed i c raw.toNat r (restartTick i d s)).inj j := by
  have passes : (tickPass i c raw.toNat r d s).injs = (dosed i c raw.toNat r (restartTick i d s)).injs := by
    rw [tickPass, passed, steps_injs _ _ (dosed_openUnquiet c raw.toNat r h.restarted)]
  rw [ticked, settle_inj, State.inj, checkpointStep_injs, passes, State.inj]

theorem OpenTick.record_dosed (h : OpenTick s i d c r) :
    (ticked s i d c r raw.toNat).record i = (dosed i c raw.toNat r (restartTick i d s)).record i := by
  rw [h.record_after, tickPass, passed_record c raw.toNat r h.restarted]

end

/-! ### Additive lines of a lane in ENDED that are closed (R126) -/

theorem modAdditive_additive_any (i : LaneNo) (k n : Nat) (f : AdditiveLine → AdditiveLine) (s : State) :
    (s.modAdditive i k f).additive i n = if n = k then (s.additive i k).map f else s.additive i n := by
  rw [State.additive, modAdditive_additives, List.getElem?_modify]
  split
  · rename_i here
    subst here
    rw [if_pos rfl, State.additive]
    rfl
  · rename_i other
    rw [if_neg (Ne.symm other)]
    exact id_map _

/-- What becomes of line `k` when the lane's lines are closed as far as they can be. -/
def closeIfDone (s : State) (i : LaneNo) (k : Nat) (a : AdditiveLine) : AdditiveLine :=
  if closable s i k a then closedLine (s.stroke a.injector) s.tolerance a else a

theorem tryCloseLine_additive (i : LaneNo) (k n : Nat) (s : State) : (tryCloseLine i k s).additive i n =
    if n = k then (s.additive i k).map (closeIfDone s i k) else s.additive i n := by
  unfold tryCloseLine
  cases line : s.additive i k with
  | none =>
    dsimp only
    split
    · rename_i here
      rw [here, line]
      rfl
    · rfl
  | some a =>
    dsimp only
    cases done : closable s i k a with
    | false =>
      rw [if_neg Bool.false_ne_true]
      split
      · rename_i here
        rw [here, line, Option.map_some, closeIfDone, done, if_neg Bool.false_ne_true]
      · rfl
    | true =>
      rw [if_pos rfl, modAdditive_additive_any, line, Option.map_some, Option.map_some, closeIfDone, if_pos done]

theorem tryCloseLine_injs (i : LaneNo) (k : Nat) (s : State) : (tryCloseLine i k s).injs = s.injs := by
  unfold tryCloseLine
  split
  · rfl
  · split
    · exact modRecord_injs _ _ _
    · rfl

theorem closeIfDone_congr {s t : State} (injs : t.injs = s.injs) (cfg : t.cfg = s.cfg) (i : LaneNo) (k : Nat) :
    closeIfDone t i k = closeIfDone s i k := by
  funext a
  have inj : t.inj a.injector = s.inj a.injector := by rw [State.inj, State.inj, injs]
  have done : closable t i k a = closable s i k a := by rw [closable, closable, strokeOpen, strokeOpen, inj]
  have tolerance : t.tolerance = s.tolerance := by rw [State.tolerance, State.tolerance, cfg]
  rw [closeIfDone, closeIfDone, done, stroke_of_cfg cfg, tolerance]

theorem tryCloseLines_eq (i : LaneNo) (s : State) :
    tryCloseLines i s = giveLimit i (tryCloseLine i 2 (tryCloseLine i 1 (tryCloseLine i 0 s))) := by
  simp only [tryCloseLines, slots, List.foldl_cons, List.foldl_nil]

theorem tryCloseLines_additive {i : LaneNo} {n : Nat} (s : State) (few : n < 3) :
    (tryCloseLines i s).additive i n = (s.additive i n).map (closeIfDone s i n) := by
  have cfg (k : Nat) (t : State) : (tryCloseLine i k t).cfg = t.cfg := cfg_of_beyond (tryCloseLine_beyond ..)
  have same (k m : Nat) (t : State) : closeIfDone (tryCloseLine i k t) i m = closeIfDone t i m :=
    closeIfDone_congr (tryCloseLine_injs i k t) (cfg k t) i m
  rw [tryCloseLines_eq, State.additive, additives_of_record (giveLimit_record ..), ← State.additive]
  obtain rfl | rfl | rfl : n = 0 ∨ n = 1 ∨ n = 2 := by omega
  all_goals simp [tryCloseLine_additive, same]

theorem tryCloseLines_injs (i : LaneNo) (s : State) : (tryCloseLines i s).injs = s.injs := by
  rw [tryCloseLines_eq, giveLimit_injs, tryCloseLine_injs, tryCloseLine_injs, tryCloseLine_injs]

theorem tryCloseLine_lanes (i : LaneNo) (k : Nat) (s : State) : (tryCloseLine i k s).lanes = s.lanes := by
  unfold tryCloseLine
  split
  · rfl
  · split
    · exact modRecord_lanes _ _ _
    · rfl

theorem tryCloseLine_stp (i : LaneNo) (k : Nat) (s : State) : (tryCloseLine i k s).stp = s.stp := by
  unfold tryCloseLine
  split
  · rfl
  · split
    · exact modRecord_stp _ _ _
    · rfl

theorem tryCloseLines_stp (i : LaneNo) (s : State) : (tryCloseLines i s).stp = s.stp := by
  rw [tryCloseLines_eq, giveLimit_stp, tryCloseLine_stp, tryCloseLine_stp, tryCloseLine_stp]

theorem tryCloseLines_stage (i : LaneNo) (s : State) : (tryCloseLines i s).stage i = s.stage i := by
  rw [tryCloseLines_eq, giveLimit_stage, State.stage, lane_of_lanes (tryCloseLine_lanes ..), lane_of_lanes (tryCloseLine_lanes ..),
    lane_of_lanes (tryCloseLine_lanes ..), State.stage]

/-- A line with a stroke to be judged is not closed. -/
theorem closeIfDone_of_open {s : State} {i : LaneNo} {k : Nat} {a : AdditiveLine} (serves : (s.inj a.injector).serving = some ⟨i, k⟩)
    (opened : (s.inj a.injector).window ≠ .closed) : closeIfDone s i k a = a := by
  have unjudged : strokeOpen s i k a.injector = true := by
    rw [strokeOpen, decide_eq_true serves, decide_eq_true opened]
    rfl
  rw [closeIfDone, closable, unjudged, if_neg (by simp)]

/-- Lines of a lane in ENDED, one of them with a stroke to be judged, are closed with no hand-back. -/
theorem closeDoses_of_open {s : State} {i : LaneNo} {n : Nat} {a : AdditiveLine} (few : n < 3) (line : s.additive i n = some a)
    (live : a.live = true) (serves : (s.inj a.injector).serving = some ⟨i, n⟩) (opened : (s.inj a.injector).window ≠ .closed) :
    closeDoses i s = s ∨ closeDoses i s = tryCloseLines i s := by
  unfold closeDoses
  split
  · have stays : (tryCloseLines i s).additive i n = some a := by
      rw [tryCloseLines_additive s few, line, Option.map_some, closeIfDone_of_open serves opened]
    have waits : (tryCloseLines i s).allClosed i = false := by
      rw [State.allClosed, List.all_eq_false]
      exact ⟨a, List.mem_of_getElem? stays, by simp [live]⟩
    dsimp only
    rw [waits, if_neg Bool.false_ne_true]
    exact .inr rfl
  · exact .inl rfl

/-! ### The stroke at the end of a spacing period (R113, R117, R125) -/

theorem exec_spacingPeriodEnd_any {s : State} {j : InjNo} {d : Nat} {i : LaneNo} (spaces : (s.inj j).spacingDue = some d)
    (own : s.injLane j = some i) :
    exec (.spacingPeriodEnd j) s = finish (closeDoses i (tryEndCycle j ((s.reach d).modInj j spacedInjector))) := by
  change execSpacingPeriodEnd j s = _
  rw [execSpacingPeriodEnd, onExpiry_some spaces]
  change finish (match s.injLane j with | none => _ | some i => _) = _
  rw [own]
  rfl

/-- The stroke of line `n` that a consideration starts, regular or final. -/
theorem considerLine_starts {i : LaneNo} {n : Nat} {s : State} {a : AdditiveLine} (line : s.additive i n = some a)
    (starts : strokeDue s (s.stage i) a = true ∨ finalDue s (s.stage i) a = true) :
    ∃ final, considerLine i n s = startStroke final i n a.injector s := by
  rw [considerLine, line]
  dsimp only
  by_cases due : strokeDue s (s.stage i) a = true
  · exact ⟨false, if_pos due⟩
  · exact ⟨true, (if_neg due).trans (if_pos (starts.resolve_left due))⟩

theorem strokeLine_injector (final : Bool) (stroke : Nat) (a : AdditiveLine) : (strokeLine final stroke a).injector = a.injector := rfl

/-- R113, R117, R125: the end of a spacing period at which a stroke of the injector's line is due, regular or final. -/
theorem spacing_starts {s : State} {j : InjNo} {i : LaneNo} {d n : Nat} {a : AdditiveLine} {x : InjectorCfg} (calm : s.Calm)
    (spaces : (s.inj j).spacingDue = some d) (closed : (s.inj j).window = .closed) (spacing : (s.inj j).phase = .spacing)
    (noFault : (s.inj j).faultPending = false) (own : s.injLane j = some i) (cfg : s.injCfg j = some x)
    (line : s.additive i n = some a) (injector : a.injector = j) (live : a.live = true) (unmarked : a.faultMark = false)
    (few : n < 3) (once : (s.doseInjectors i).Nodup)
    (starts : ((s.stage i).flowing = true ∨ s.stage i = .closing) ∧ x.stroke * 1000 ≤ a.due ∨
      s.stage i = .ended ∧ a.finalMark = true ∧ a.finalBegun = false) :
    ∃ t a', exec (.spacingPeriodEnd j) s = .next t ∧ t.additive i n = some a' ∧
      a'.commanded = a.commanded + 1 ∧ a'.due = a.due - x.stroke * 1000 ∧ a'.live = true ∧ a'.totalDue = a.totalDue ∧
      a'.confirmed = a.confirmed ∧ (t.inj j).phase = .driving ∧ (t.inj j).window = .opened false ∧
      (t.inj j).serving = some ⟨i, n⟩ ∧ (t.inj j).driveDue = some (max s.now d + x.drive * 1000) ∧
      (t.inj j).spacingDue = some (max s.now d + 60000 / x.rate * 1000) ∧ t.stage i = s.stage i := by
  subst injector
  have answer := exec_spacingPeriodEnd_any spaces own
  have spaced : ((s.reach d).modInj a.injector spacedInjector).inj a.injector = spacedInjector (s.inj a.injector) :=
    modInj_inj_self ..
  have ends : (((s.reach d).modInj a.injector spacedInjector).inj a.injector).cycleOver = true := by
    rw [spaced]
    simp [Injector.cycleOver, spacedInjector, spacing, closed]
  have mine : (((s.reach d).modInj a.injector spacedInjector).doseInjectors i)[n]? = some a.injector := by
    change ((s.additives i).map (·.injector))[n]? = _
    rw [List.getElem?_map]
    exact congrArg (Option.map (·.injector)) line
  rw [tryEndCycle_eq ends own mine once few] at answer
  generalize ended : ((s.reach d).modInj a.injector spacedInjector).modInj a.injector endCycle = w at answer
  have wline : w.additive i n = some a := by rw [← ended]; exact line
  have wcfg : w.injCfg a.injector = some x := by rw [← ended]; exact cfg
  have wnow : w.now = max s.now d := by rw [← ended]; rfl
  have wstage : w.stage i = s.stage i := by rw [← ended]; rfl
  have wcalm : w.Calm := by rw [← ended]; exact calm
  have idle : (w.inj a.injector).phase = .idle := by
    rw [← ended, modInj_inj_self, spaced, endCycle_phase]
    exact if_neg (by rw [spacedInjector, noFault]; exact Bool.false_ne_true)
  have active : a.active = true := by rw [AdditiveLine.active, live, unmarked]; rfl
  obtain ⟨final, e⟩ := considerLine_starts wline (by
    rw [strokeDue, finalDue, wstage, idle, active, State.strokeNl, stroke_of_injCfg wcfg]
    obtain ⟨moves, due⟩ | ⟨isEnded, marked, fresh⟩ := starts
    · exact .inl (by simp [moves, due])
    · exact .inr (by simp [isEnded, marked, fresh]))
  rw [e] at answer
  have vline := startStroke_additive (final := final) (i := i) (k := n) wcfg
  have vinj := startStroke_inj (final := final) (i := i) (k := n) wcfg
  have vstage := startStroke_stage final i i n a.injector w
  have vcalm : (startStroke final i n a.injector w).Calm := calm_of_same (startStroke_stp ..)
    (lif_of_beyond (startStroke_beyond (i := i) (s := w) ..)) (sul_of_beyond (startStroke_beyond (i := i) (s := w) ..)) wcalm
  rw [wline, Option.map_some] at vline
  rw [wnow] at vinj
  rw [wstage] at vstage
  generalize startStroke final i n a.injector w = v at answer vline vinj vstage vcalm
  have after : ∃ u, exec (.spacingPeriodEnd a.injector) s = finish u ∧ u.Calm ∧ u.injs = v.injs ∧ u.stage i = v.stage i ∧
      u.additive i n = some (strokeLine final x.stroke a) := by
    refine ⟨closeDoses i v, answer, ?_⟩
    obtain same | same := closeDoses_of_open (i := i) few vline (by exact live) (by rw [strokeLine_injector, vinj]; rfl)
      (by rw [strokeLine_injector, vinj]; exact nofun) <;> rw [same]
    · exact ⟨vcalm, rfl, rfl, vline⟩
    · refine ⟨calm_of_same (tryCloseLines_stp i v) (lif_of_beyond (tryCloseLines_beyond (i := i) (s := v)))
        (sul_of_beyond (tryCloseLines_beyond (i := i) (s := v))) vcalm, tryCloseLines_injs i v, tryCloseLines_stage i v, ?_⟩
      rw [tryCloseLines_additive v few, vline, Option.map_some, closeIfDone_of_open]
      · rw [strokeLine_injector, vinj]; rfl
      · rw [strokeLine_injector, vinj]; exact nofun
  obtain ⟨u, next, ucalm, uinjs, ustage, uline⟩ := after
  have lanes := settle_lanes ucalm
  have record : (settle u).record i = u.record i := record_congr (settle_trip u) (by rw [lane_of_lanes lanes])
  have inj : (settle u).inj a.injector = strokeInjector x (max s.now d) ⟨i, n⟩ (w.inj a.injector) := by
    rw [settle_inj, State.inj, uinjs, ← vinj, State.inj]
  refine ⟨settle u, strokeLine final x.stroke a, next, ?_, rfl, rfl, live, rfl, rfl, ?_⟩
  · rw [State.additive, additives_of_record record]
    exact uline
  · rw [inj, State.stage, lane_of_lanes lanes]
    exact ⟨rfl, rfl, rfl, rfl, rfl, ustage.trans vstage⟩

end Sys2Proof.Machine
open Sys2Proof Sys2Proof.Machine

/-- Settles O34, by the strokes considered line after line at a tick, and by the cycle's end. -/
theorem tickDoses : Obligations.TickDoses := by
  unfold Obligations.TickDoses
  refine ⟨fun s i raw d c r tick cfg open_ goes record low few once fitted => ?_, ?_⟩
  · intro ca cb pulses dg mark strokes
    have h : OpenTick s i d c r := ⟨tick, cfg, open_, goes, by rw [record]; rfl⟩
    have additives : s.additives i = r.additives := by rw [State.additives, record]; rfl
    have once' : (s.doseInjectors i).Nodup := by rwa [State.doseInjectors, additives]
    have fitted' : ∀ a ∈ s.additives i, (s.injCfg a.injector).isSome = true := by rwa [additives]
    have goesOn : (s.stage i).flowing = true ∨ (tickPulse i c r s).raised = none := low.imp_right fun x => raisedFault_none _ _ x
    have doses := h.considered raw once' fitted'
    obtain ⟨r', here, -⟩ := h.record_some raw record
    have after : (dosed i c raw.toNat r (restartTick i d s)).additives i = r'.additives := by
      rw [State.additives, ← h.record_dosed raw, here]
      rfl
    have line (n : Nat) (a : AdditiveLine) (was : r.additives[n]? = some a) : (tickAccrued s i d c r raw.toNat).additive i n =
        some (accrueLine (s.stroke a.injector) dg a) := by
      rw [tickAccrued_additive raw h, State.additive, additives, was]
      rfl
    refine ⟨ticked s i d c r raw.toNat, r', h.exec raw, here, ?_, fun n a x was cfgx => ?_, fun j apart => ?_, ?_⟩
    · have same : (dosed i c raw.toNat r (restartTick i d s)).doseInjectors i = s.doseInjectors i := by
        rw [dosed, tickPulse_restarted, tickVolume_restarted, dosePass_doseInjectors, State.doseInjectors, h.additives raw,
          State.doseInjectors]
      have lengths := congrArg List.length same
      rwa [State.doseInjectors, after, List.length_map, State.doseInjectors, List.length_map, additives] at lengths
    · intro accrued
      have lt : n < 3 := Nat.lt_of_lt_of_le (List.getElem?_eq_some_iff.1 was).1 few
      have stroke : s.stroke a.injector = x.stroke := stroke_of_injCfg cfgx
      have due := h.strokeDue_iff raw goesOn cfgx dg
      have isLine := doses.line n
      rw [line n a was, Option.map_some, State.additive, after] at isLine
      have isAccrued : a.live = true → accrueLine (s.stroke a.injector) dg a = accrued := fun live => by
        rw [accrueLine, if_pos live, stroke]
        rfl
      refine ⟨fun dead => ?_, fun live still => ?_, fun starts => ?_⟩
      · rw [isLine, if_neg fun y => ?_, accrueLine, dead, if_neg Bool.false_ne_true]
        exact absurd (dead.symm.trans (due.1 y.2).2.1) Bool.noConfusion
      · rw [isLine, if_neg fun y => still (due.1 y.2), isAccrued live]
      · have starts' := due.2 starts
        obtain ⟨-, live, -⟩ := starts
        have own := doses.own n _ x lt (line n a was) starts'
          ((injCfg_of_cfg (tickAccrued_cfg raw) _).trans (by rw [accrueLine_injector]; exact cfgx))
        rw [accrueLine_injector, tickAccrued_inj, tickAccrued_now] at own
        refine ⟨?_, (h.inj raw _).trans own⟩
        rw [isLine, if_pos ⟨lt, starts'⟩, accrueLine_injector, stroke_of_cfg (tickAccrued_cfg raw), isAccrued live, stroke]
        simp only [strokeLine, Bool.or_false]
        rfl
    · rw [h.inj raw, doses.other j fun n a lt was starts => ?_, tickAccrued_inj]
      rw [tickAccrued_additive raw h, State.additive, additives] at was
      obtain ⟨b, here', rfl⟩ := Option.map_eq_some_iff.1 was
      obtain ⟨x, cfgx⟩ := Option.isSome_iff_exists.1 (fitted b (List.mem_of_getElem? here'))
      rw [accrueLine_injector]
      exact apart b (List.mem_of_getElem? here') x cfgx ((h.strokeDue_iff raw goesOn cfgx dg).1 starts)
    · intro active limits
      have cfgs : (dosed i c raw.toNat r (restartTick i d s)).cfg = s.cfg :=
        (cfg_of_beyond (dosed_beyond ..)).trans (modLane_cfg _ _ _)
      have isLimits : active.filterMap (lineLimit (dosed i c raw.toNat r (restartTick i d s))) = limits := by
        have same : lineLimit (dosed i c raw.toNat r (restartTick i d s)) =
            fun a => (s.injCfg a.injector).map fun x => x.rate * x.stroke / a.ratio :=
          funext fun a => by rw [lineLimit, injCfg_of_cfg cfgs]; rfl
        rw [same]
      have least (l : List Nat) : smallest l = l.min? := by cases l <;> rfl
      rw [h.limit raw, doses.limit (giveLimit_limit i _), State.limitOf, after]
      change (smallest (active.filterMap _)).map (fun x => if active.any (·.backlog) then x * 9 / 10 else x) = _
      rw [isLimits, least]
  · intro s j i d n a x calm spaces closed spacing noFault own cfg line injector live unmarked few once starts
    have lt : n < 3 := Nat.lt_of_lt_of_le (List.getElem?_eq_some_iff.1 line).1 few
    exact spacing_starts calm spaces closed spacing noFault own cfg line injector live unmarked lt once starts

end

section
/-! The end of a compartment (R60, R62, R68, R69, R125 to R128): ENDED, its additive lines, and the hand-back. -/

namespace Sys2Proof.Machine

/-! ### A lane that waits in ENDED for its additive lines -/

theorem offerAfter_of_dose {i : LaneNo} {s : State} (after : (s.lane i).after = .dose) : offerAfter i s = s := by
  unfold offerAfter offerWaiting
  rw [after]
  exact ite_self s

theorem foldl_offerAfter_dose {i : LaneNo} (l : List LaneNo) {s : State} (after : (s.lane i).after = .dose) :
    (l.foldl (fun t j => offerAfter j t) s).lane i = s.lane i := by
  induction l generalizing s with
  | nil => rfl
  | cons j rest ih =>
    rw [List.foldl_cons]
    have same : (offerAfter j s).lane i = s.lane i := by
      by_cases here : j = i
      · rw [here, offerAfter_of_dose after]
      · exact lane_of_beyond (offerAfter_beyond (i := j) (s := s)) here
    rw [ih (by rw [same]; exact after), same]

theorem reportFreeSlot_dose {i : LaneNo} {s : State} (after : (s.lane i).after = .dose) :
    (reportFreeSlot s).lane i = s.lane i := by
  unfold reportFreeSlot
  split
  · rw [lane_of_lanes (sulFreeSlot_lanes _ _), lane_of_lanes (ntbFreeSlot_lanes _), lane_of_lanes (pctFreeSlot_lanes _ _)]
    exact foldl_offerAfter_dose allLanes (s := s.modStp _) after
  · rfl

/-- R68, R126: the end of an event leaves a lane that waits for its additive lines. -/
theorem settle_dose {i : LaneNo} {s : State} (after : (s.lane i).after = .dose) : (settle s).lane i = s.lane i := by
  have recovered : (recoveryNote (reportFreeSlot s)).lane i = s.lane i :=
    (lane_of_lanes (recoveryNote_lanes _) i).trans (reportFreeSlot_dose after)
  rw [settle, lane_of_lanes (portKick_lanes _), lane_of_lanes (refreshLamps_lanes _), lane_of_lanes (idleTimer_lanes _),
    lane_of_lanes (reportRoom_lanes _), reportFreeSlot_dose (by rw [recovered]; exact after), recovered]

/-! ### The entry to ENDED (R62, R68, R125) -/

/-- The lane in ENDED, its record final, its final strokes decided. -/
def ending (i : LaneNo) (s : State) : State :=
  decideFinal i (((learnOvershoot i s).modRecord i (finalRecord s i)).modLane i fun l =>
    { l with stage := .ended, closing := none, after := .dose })

/-- R62: the overshoot that a lane has learned at the end of a compartment. -/
def State.learnedAt (s : State) (i : LaneNo) : Nat :=
  if (s.lane i).closeReason = some .preset then learn (s.lane i).learned (overrunOf (s.gross i) (s.lane i).grossAtClose)
  else (s.lane i).learned

theorem learnOvershoot_lane (i : LaneNo) (s : State) : (learnOvershoot i s).lane i = { s.lane i with learned := s.learnedAt i } := by
  unfold learnOvershoot State.learnedAt
  split
  · exact modLane_lane_self ..
  · rfl

theorem enterEnded_eq (i : LaneNo) (s : State) : enterEnded i s = closeDoses i (considerLane i (ending i s)) := rfl

theorem ending_lane (i : LaneNo) (s : State) : (ending i s).lane i =
    { s.lane i with learned := s.learnedAt i, stage := .ended, closing := none, after := .dose } := by
  rw [ending, decideFinal, modRecord_lane, modLane_lane_self, modRecord_lane, learnOvershoot_lane]

/-- R125: a line with its final-stroke decision. -/
def AdditiveLine.decided (a : AdditiveLine) (strokeNl : Nat) : AdditiveLine := { a with finalMark := givesFinal strokeNl a }

theorem learnOvershoot_record (i : LaneNo) (s : State) : (learnOvershoot i s).record i = s.record i := by
  unfold learnOvershoot
  split
  · exact modLane_record _ rfl
  · rfl

theorem ending_beyond (i : LaneNo) (s : State) : (ending i s).beyond i = s.beyond i := by simp [ending]

theorem ending_record (i : LaneNo) (s : State) : (ending i s).record i = (s.record i).map fun r =>
    { finalRecord s i r with additives := r.additives.map fun a => a.decided (s.strokeNl a.injector) } := by
  have cfg : ((((learnOvershoot i s).modRecord i (finalRecord s i)).modLane i fun l =>
      { l with stage := .ended, closing := none, after := .dose })).cfg = s.cfg := by
    have same : ((((learnOvershoot i s).modRecord i (finalRecord s i)).modLane i fun l =>
      { l with stage := .ended, closing := none, after := .dose })).beyond i = s.beyond i := by simp
    exact cfg_of_beyond same
  have strokes : State.strokeNl ((((learnOvershoot i s).modRecord i (finalRecord s i)).modLane i fun l =>
      { l with stage := .ended, closing := none, after := .dose })) = s.strokeNl :=
    funext fun j => by rw [State.strokeNl, State.strokeNl, stroke_of_cfg cfg]
  rw [ending, decideFinal, strokes, modRecord_record, modLane_record _ rfl, modRecord_record, learnOvershoot_record, Option.map_map]
  rfl

theorem ending_additive (i : LaneNo) (n : Nat) (s : State) : (ending i s).additive i n =
    (s.additive i n).map fun a => a.decided (s.strokeNl a.injector) := by
  rw [State.additive, State.additives, ending_record, State.additive, State.additives]
  cases s.record i with
  | none => rfl
  | some r => exact List.getElem?_map ..

theorem ending_injs (i : LaneNo) (s : State) : (ending i s).injs = s.injs := by
  have learned : (learnOvershoot i s).injs = s.injs := by
    unfold learnOvershoot
    split
    · exact modLane_injs _ _ _
    · rfl
  exact (modRecord_injs _ _ _).trans ((modLane_injs _ _ _).trans ((modRecord_injs _ _ _).trans learned))

theorem ending_stp (i : LaneNo) (s : State) : (ending i s).stp = s.stp := by
  have learned : (learnOvershoot i s).stp = s.stp := by
    unfold learnOvershoot
    split
    · exact modLane_stp _ _ _
    · rfl
  exact (modRecord_stp _ _ _).trans ((modLane_stp _ _ _).trans ((modRecord_stp _ _ _).trans learned))

theorem ending_heldBare (i : LaneNo) (s : State) : (ending i s).heldBare i = s.heldBare i := by
  have learned : (learnOvershoot i s).heldBare i = s.heldBare i := by
    refine heldBare_congr ?_ (by rw [learnOvershoot_lane])
    unfold learnOvershoot
    split
    · exact modLane_pct _ _ _
    · rfl
  rw [ending, decideFinal, modRecord_heldBare, heldBare_congr (modLane_pct _ _ _) (by rw [modLane_lane_self]), modRecord_heldBare,
    learned]

/-! ### Additive lines at the end of a compartment (R125, R126) -/

/-- R125: a line is given a final stroke. -/
def State.gives (s : State) (a : AdditiveLine) : Bool := givesFinal (s.strokeNl a.injector) a

/-- R125, R126: line `n` when the lane has entered ENDED: its final stroke begun or to come, its stroke still to be judged, or
closed. -/
def endedLine (s : State) (i : LaneNo) (n : Nat) (a : AdditiveLine) : AdditiveLine :=
  let m := a.decided (s.strokeNl a.injector)
  if s.gives a && decide ((s.inj a.injector).phase = .idle) then strokeLine true (s.stroke a.injector) m
  else if a.live && !strokeOpen s i n a.injector && !s.gives a then closedLine (s.stroke a.injector) s.tolerance m
  else m

/-- What the lines of a compartment satisfy when it ends: at most three, with fitted injectors of their own, none with its final
stroke begun. -/
structure State.Dosing (s : State) (i : LaneNo) : Prop where
  few : (s.additives i).length ≤ 3
  once : (s.doseInjectors i).Nodup
  fitted : ∀ a ∈ s.additives i, (s.injCfg a.injector).isSome = true
  fresh : ∀ a ∈ s.additives i, a.finalBegun = false

theorem ending_doseInjectors (i : LaneNo) (s : State) : (ending i s).doseInjectors i = s.doseInjectors i := by
  refine List.ext_getElem? fun n => ?_
  have line := ending_additive i n s
  rw [State.additive, State.additive] at line
  rw [State.doseInjectors, State.doseInjectors, List.getElem?_map, List.getElem?_map, line, Option.map_map]
  rfl

section
variable {s : State} {i : LaneNo} (h : s.Dosing i)
include h

/-- R125: the strokes considered at the entry to ENDED. -/
theorem State.Dosing.considered : Considered true i 3 (ending i s) (considerLane i (ending i s)) := by
  have once : ((ending i s).doseInjectors i).Nodup := by rw [ending_doseInjectors]; exact h.once
  have kind : true = decide ((ending i s).stage i = .ended) := by rw [State.stage, ending_lane]; rfl
  have fitted : ∀ n a, (ending i s).additive i n = some a → ((ending i s).injCfg a.injector).isSome = true := by
    intro n a here
    rw [ending_additive] at here
    obtain ⟨b, was, rfl⟩ := Option.map_eq_some_iff.1 here
    rw [injCfg_of_cfg (cfg_of_beyond (ending_beyond i s))]
    exact h.fitted b (List.mem_of_getElem? was)
  simp only [considerLane, slots, List.foldl_cons, List.foldl_nil]
  exact (((Considered.start true i _).step once fitted kind).step once fitted kind).step once fitted kind

/-- R125: a line's final stroke begins at once on an idle injector. -/
theorem State.Dosing.lineDue_iff {a : AdditiveLine} (mem : a ∈ s.additives i) :
    lineDue true (ending i s) ((ending i s).stage i) (a.decided (s.strokeNl a.injector)) =
      (s.gives a && decide ((s.inj a.injector).phase = .idle)) := by
  have ended : (ending i s).stage i = .ended := by rw [State.stage, ending_lane]
  have inj : (ending i s).inj a.injector = s.inj a.injector := by rw [State.inj, ending_injs, State.inj]
  change finalDue _ _ _ = _
  rw [finalDue, ended]
  change (decide (Stage.ended = .ended) && a.active && s.gives a && !a.finalBegun &&
    decide (((ending i s).inj a.injector).phase = .idle)) = _
  rw [inj, h.fresh a mem, State.gives, givesFinal]
  cases a.active <;> simp

/-- R125: the injector of a line whose final stroke does not begin stays as it is. -/
theorem State.Dosing.inj_of_rest {n : Nat} {a : AdditiveLine} (line : s.additive i n = some a)
    (rests : (s.gives a && decide ((s.inj a.injector).phase = .idle)) = false) :
    (considerLane i (ending i s)).inj a.injector = s.inj a.injector := by
  have inj : (ending i s).inj a.injector = s.inj a.injector := by rw [State.inj, ending_injs, State.inj]
  rw [h.considered.other a.injector fun m b _ here starts => ?_, inj]
  rw [ending_additive] at here
  obtain ⟨c, was, rfl⟩ := Option.map_eq_some_iff.1 here
  by_cases same : m = n
  · subst same
    obtain rfl : c = a := Option.some.inj (was.symm.trans line)
    rw [h.lineDue_iff (List.mem_of_getElem? was), rests] at starts
    cases starts
  · have apart := injector_ne h.once same was line
    exact apart

/-- R125, R126: the additive lines when the compartment has ended and what can be closed is closed. -/
theorem State.Dosing.additive {n : Nat} (few : n < 3) :
    (tryCloseLines i (considerLane i (ending i s))).additive i n = (s.additive i n).map (endedLine s i n) := by
  have considered := h.considered
  have cfg : (considerLane i (ending i s)).cfg = s.cfg :=
    (cfg_of_beyond considered.beyond).trans (cfg_of_beyond (ending_beyond i s))
  have isLine := considered.line n
  rw [tryCloseLines_additive _ few, isLine, ending_additive]
  cases line : s.additive i n with
  | none => rfl
  | some a =>
    have mem := List.mem_of_getElem? line
    simp only [Option.map_some]
    rw [h.lineDue_iff mem]
    by_cases starts : (s.gives a && decide ((s.inj a.injector).phase = .idle)) = true
    · have due := (h.lineDue_iff mem).trans starts
      obtain ⟨x, isCfg⟩ := Option.isSome_iff_exists.1 (h.fitted a mem)
      have own := considered.own n _ x few (by rw [ending_additive, line]; rfl) due
        ((injCfg_of_cfg (cfg_of_beyond (ending_beyond i s)) _).trans isCfg)
      rw [if_pos ⟨few, starts⟩, endedLine, if_pos starts, closeIfDone_of_open, stroke_of_cfg (cfg_of_beyond (ending_beyond i s))]
      · rfl
      · exact congrArg Injector.serving own
      · exact (congrArg Injector.window own).trans_ne nofun
    · have rests := Bool.eq_false_iff.2 starts
      have inj := h.inj_of_rest line rests
      have done : closable (considerLane i (ending i s)) i n (a.decided (s.strokeNl a.injector)) =
          (a.live && !strokeOpen s i n a.injector && !s.gives a) := by
        change (a.live && !strokeOpen (considerLane i (ending i s)) i n a.injector &&
          (!s.gives a || a.finalBegun || a.faultMark)) = _
        rw [strokeOpen, inj, h.fresh a mem, State.gives, givesFinal, AdditiveLine.active, ← strokeOpen]
        cases a.live <;> cases a.faultMark <;> simp
      have tolerance : (considerLane i (ending i s)).tolerance = s.tolerance := by rw [State.tolerance, State.tolerance, cfg]
      rw [if_neg (fun x => starts x.2), endedLine, if_neg starts, closeIfDone, done, tolerance, stroke_of_cfg cfg]
      rfl

end

/-! ### The hand-back (R69), but for what the reports of the store may change -/

/-- R69, R71: the lane has written its record and advanced its totalizers. -/
def recordHanded (i : LaneNo) (reason : EndReason) (s : State) : State :=
  let s1 := s.modHeld i (handRecord reason (s.lane i).piu.fault)
  (s1.modVen i (advanceTotals ((s1.record i).getD {}))).modLane i fun l => { l with closeReason := some reason }

/-- R72: the bytes of the ENDED checkpoint that the lane then has to offer. -/
def endedBytes (i : LaneNo) (reason : EndReason) (s : State) : List Byte :=
  (((recordHanded i reason s).checkpointNow i).map (·.2)).getD []

/-- R69, R71: the lane holds the line no longer, and has its two offers to make. -/
def handedOver (i : LaneNo) (reason : EndReason) (k : Nat) (s : State) : State :=
  (recordHanded i reason s).modLane i fun l => { l with
    line := none
    after := .checkpoint (k + 1) (endedBytes i reason s) ((recordHanded i reason s).lane i).ven.totGross
      ((recordHanded i reason s).lane i).ven.totStd }

theorem handOver_eq {i : LaneNo} {k : Nat} {s : State} (line : (s.lane i).line = some k) (reason : EndReason) :
    handOver i reason s = offerAfter i (giveLimit i (handedOver i reason k s)) := by
  rw [handOver, line]
  rfl

/-- R24: the trip has entered CLOSING. -/
def closedTrip (s : State) : State :=
  (s.modPct fun p => { p with slot := .closing, idleTimer := none }).modTrip fun t => { t with
    endTime := s.takeTime
    flags := { t.flags with timeUnset := t.flags.timeUnset || !s.lif.timeSet } }

theorem closedTrip_lines (s : State) : (closedTrip s).lines = s.lines := by
  simp only [closedTrip, State.lines, State.modTrip, State.modPct, Option.map_map]
  rfl

theorem closeLineOf_of_finished {s : State} (finished : s.allFinished = true) (k : Nat) : closeLineOf k s = s := by
  unfold closeLineOf
  cases line : s.lines[k]? with
  | none => rfl
  | some l =>
    have ends := List.all_eq_true.1 finished l (List.mem_of_getElem? line)
    dsimp only
    cases status : l.status <;> rw [status] at ends <;> cases ends

/-- R24: a trip whose lines are all ENDED or REFUSED enters CLOSING with no line to end. -/
theorem enterClosing_of_finished {s : State} (finished : s.allFinished = true) : enterClosing s = tryBuild (closedTrip s) := by
  have done : (closedTrip s).allFinished = true := by rw [State.allFinished, closedTrip_lines]; exact finished
  rw [enterClosing]
  change tryBuild ((List.range s.lines.length).foldl (fun t k => closeLineOf k t) (closedTrip s)) = _
  rw [foldl_fixed (closeLineOf_of_finished done)]

theorem tryBuild_steady (s : State) : (tryBuild s).steady = s.steady := by
  unfold tryBuild
  split
  · split
    · exact beginNote_steady ..
    · rfl
  · rfl

theorem trip_eq_of_steady {s t : State} (same : t.steady = s.steady) : t.pct.trip = s.pct.trip := congrArg (·.pct.trip) same

theorem slot_eq_of_steady {s t : State} (same : t.steady = s.steady) : t.pct.slot = s.pct.slot := congrArg (·.pct.slot) same

theorem allFinished_of_steady {s t : State} (same : t.steady = s.steady) : t.allFinished = s.allFinished := by
  rw [State.allFinished, State.lines, trip_eq_of_steady same, State.allFinished, State.lines]

theorem closedTrip_steady {s t : State} (same : t.steady = s.steady) : (closedTrip t).steady = (closedTrip s).steady := by
  have apart (u : State) : (closedTrip u).steady = closedTrip u.steady := rfl
  rw [apart, apart, same]

theorem reportFault_steady {i : LaneNo} {reason : EndReason} {s t : State} (same : t.steady = s.steady) :
    (reportFault i reason t).steady = (reportFault i reason s).steady := by
  unfold reportFault
  split
  · have apart (u : State) : (u.modIlm fun m => { m with faultMark := m.faultMark.set i true }).steady =
        u.steady.modIlm fun m => { m with faultMark := m.faultMark.set i true } := rfl
    rw [apart, apart, same]
  · exact same

/-- The reason with which a lane hands its compartment back. -/
def State.handReason (s : State) (i : LaneNo) : EndReason := (s.lane i).closeReason.getD .preset

/-- The lane in ENDED with no offer to make yet. -/
def offerless (i : LaneNo) (s : State) : State := s.modLane i fun l => { l with after := .nothing }

/-- R69: the lane has handed its compartment over, its offers still to be made. -/
def handedOn (i : LaneNo) (k : Nat) (s : State) : State := giveLimit i (handedOver i (s.handReason i) k (offerless i s))

/-- R69: the lane has handed its compartment back, its offers still to be made. -/
def reported (i : LaneNo) (k : Nat) (s : State) : State := reportFault i (s.handReason i) (handedOn i k s)

/-- R69: the hand-back, and the trip's entry to CLOSING that it may bring. -/
def handedBack (i : LaneNo) (k : Nat) (s : State) : State :=
  if (reported i k s).pct.slot = .released ∧ (reported i k s).allFinished then closedTrip (reported i k s) else reported i k s

theorem offerless_lane (i : LaneNo) (s : State) : (offerless i s).lane i = { s.lane i with after := .nothing } := modLane_lane_self ..

/-- The state in which the trip's closing is decided at a hand-back (R69). -/
def handedState (i : LaneNo) (s : State) : State :=
  reportFault i (s.handReason i) (handOver i (s.handReason i) (offerless i s))

theorem handBack_eq (i : LaneNo) (s : State) : handBack i s =
    if (handedState i s).pct.slot = .released ∧ (handedState i s).allFinished then enterClosing (handedState i s)
    else tryBuild (handedState i s) := rfl

theorem handedState_eq {i : LaneNo} {k : Nat} {s : State} (line : (s.lane i).line = some k) :
    handedState i s = reportFault i (s.handReason i) (offerAfter i (handedOn i k s)) := by
  have line' : ((offerless i s).lane i).line = some k := by rw [offerless_lane]; exact line
  rw [handedState, handOver_eq line', handedOn]

theorem handedState_steady {i : LaneNo} {k : Nat} {s : State} (line : (s.lane i).line = some k) :
    (handedState i s).steady = (reported i k s).steady := by
  rw [handedState_eq line]
  exact reportFault_steady (offerAfter_steady ..)

theorem handBack_steady {i : LaneNo} {k : Nat} {s : State} (line : (s.lane i).line = some k) :
    (handBack i s).steady = (handedBack i k s).steady := by
  have same := handedState_steady line
  rw [handBack_eq, slot_eq_of_steady same, allFinished_of_steady same, handedBack]
  split
  · rename_i closes
    rw [enterClosing_of_finished ((allFinished_of_steady same).trans closes.2), tryBuild_steady, closedTrip_steady same]
  · rw [tryBuild_steady, same]

theorem reportFault_pct (i : LaneNo) (reason : EndReason) (s : State) : (reportFault i reason s).pct = s.pct := by
  unfold reportFault
  split
  · exact modIlm_pct _ _
  · rfl

theorem handedOver_pct (i : LaneNo) (reason : EndReason) (k : Nat) (s : State) :
    (handedOver i reason k s).pct = (s.modHeld i (handRecord reason (s.lane i).piu.fault)).pct :=
  (modLane_pct (recordHanded i reason s) _ _).trans ((modLane_pct _ _ _).trans (modLane_pct _ _ _))

theorem reported_pct (i : LaneNo) (k : Nat) (s : State) :
    (reported i k s).pct = (s.modHeld i (handRecord (s.handReason i) (s.lane i).piu.fault)).pct := by
  have fault : ((offerless i s).lane i).piu.fault = (s.lane i).piu.fault := by rw [offerless_lane]
  have order := modHeld_modLane (i := i) (g := fun l : Lane => { l with after := .nothing }) (fun _ => rfl)
    (handRecord (s.handReason i) (s.lane i).piu.fault) s
  rw [reported, reportFault_pct, handedOn, giveLimit_pct, handedOver_pct, fault]
  exact (congrArg State.pct order.symm).trans (modLane_pct _ _ _)

/-- R69: the line that the lane held is written, and no other. -/
theorem handedBack_lines {i : LaneNo} {k : Nat} {s : State} (line : (s.lane i).line = some k) (m : Nat) :
    (handedBack i k s).lines[m]? =
      if m = k then (s.lines[k]?).map (handRecord (s.handReason i) (s.lane i).piu.fault) else s.lines[m]? := by
  have same : (handedBack i k s).lines = (reported i k s).lines := by
    unfold handedBack
    split
    · exact closedTrip_lines _
    · rfl
  have lines : (reported i k s).lines = (s.modHeld i (handRecord (s.handReason i) (s.lane i).piu.fault)).lines := by
    rw [State.lines, reported_pct, State.lines]
  rw [same, lines]
  by_cases here : m = k
  · subst here
    have held := modHeld_heldLine i (handRecord (s.handReason i) (s.lane i).piu.fault) s
    rw [heldLine_of_line line, heldLine_of_line (by rw [lane_of_lanes (modHeld_lanes _ _ _)]; exact line)] at held
    rw [if_pos rfl, held]
  · rw [if_neg here, modHeld_lines_ne (by rw [line]; exact fun e => here (Option.some.inj e).symm)]

/-! ### The closing timer (R60) -/

/-- The lane in CLOSING whose closing timer has run out: the record is marked VALVE-LEAK. -/
def leaked (i : LaneNo) (d : Nat) (s : State) : State := (s.reach d).modFlags i fun f => { f with valveLeak := true }

theorem exec_closingTimerExpiry {s : State} {i : LaneNo} {d : Nat} (running : (s.lane i).closing = some d)
    (closing : s.stage i = .closing) :
    exec (.closingTimerExpiry i) s = finish (closeDoses i (considerLane i (ending i (leaked i d s)))) := by
  change execClosingTimerExpiry i s = _
  rw [execClosingTimerExpiry, onExpiry_some running, valveLeak, if_pos (by exact closing), enterEnded_eq]
  rfl

/-- The state when what can be closed of a compartment in ENDED is closed (R126). -/
def settled (i : LaneNo) (s : State) : State := tryCloseLines i (considerLane i (ending i s))

theorem considerLane_limited (i : LaneNo) (s : State) : (s.lane i).Limited ((considerLane i s).lane i) := by
  simp only [considerLane, slots, List.foldl_cons, List.foldl_nil]
  exact (considerLine_limited i 0 _).trans ((considerLine_limited i 1 _).trans (considerLine_limited i 2 _))

theorem tryCloseLines_limited (i : LaneNo) (s : State) : (s.lane i).Limited ((tryCloseLines i s).lane i) := by
  have given := giveLimit_limited i (tryCloseLine i 2 (tryCloseLine i 1 (tryCloseLine i 0 s)))
  rw [lane_of_lanes (tryCloseLine_lanes ..), lane_of_lanes (tryCloseLine_lanes ..), lane_of_lanes (tryCloseLine_lanes ..)] at given
  rwa [tryCloseLines_eq]

/-- The lane in ENDED, but for its limit. -/
theorem settled_limited (i : LaneNo) (s : State) : Lane.Limited
    { s.lane i with learned := s.learnedAt i, stage := .ended, closing := none, after := .dose } ((settled i s).lane i) := by
  have considered := considerLane_limited i (ending i s)
  rw [ending_lane] at considered
  exact considered.trans (tryCloseLines_limited i _)

theorem considerLane_after (i : LaneNo) (s : State) : ((considerLane i (ending i s)).lane i).after = .dose ∧
    (considerLane i (ending i s)).stage i = .ended := by
  have considered := considerLane_limited i (ending i s)
  rw [ending_lane] at considered
  obtain ⟨_, _, _, -, -, e⟩ := considered
  exact ⟨congrArg (·.after) e, congrArg (·.stage) e⟩

/-- R126: with every additive line closed the compartment is handed back, and otherwise the lane waits. -/
theorem closeDoses_settled (i : LaneNo) (s : State) : closeDoses i (considerLane i (ending i s)) =
    if (settled i s).allClosed i then handBack i (settled i s) else settled i s := by
  obtain ⟨after, ended⟩ := considerLane_after i s
  rw [closeDoses, if_pos ⟨ended, after⟩]
  rfl

theorem tryCloseLine_undosed (i : LaneNo) (k : Nat) (s : State) :
    ((tryCloseLine i k s).record i).map CompRecord.undosed = (s.record i).map CompRecord.undosed := by
  unfold tryCloseLine
  split
  · rfl
  · split
    · exact modRecord_undosed i s fun _ => rfl
    · rfl

theorem tryCloseLine_heldBare (i : LaneNo) (k : Nat) (s : State) : (tryCloseLine i k s).heldBare i = s.heldBare i := by
  unfold tryCloseLine
  split
  · rfl
  · split
    · exact modRecord_heldBare ..
    · rfl

theorem considerLane_undosed (i : LaneNo) (s : State) :
    ((considerLane i s).record i).map CompRecord.undosed = (s.record i).map CompRecord.undosed := by
  simp only [considerLane, slots, List.foldl_cons, List.foldl_nil, considerLine_undosed]

theorem considerLane_heldBare (i : LaneNo) (s : State) : (considerLane i s).heldBare i = s.heldBare i := by
  simp only [considerLane, slots, List.foldl_cons, List.foldl_nil, considerLine_heldBare]

/-- R62, R105: the record at ENDED, but for its additive lines. -/
theorem settled_undosed (i : LaneNo) (s : State) :
    ((settled i s).record i).map CompRecord.undosed = (s.record i).map fun r => (finalRecord s i r).undosed := by
  rw [settled, tryCloseLines_eq, giveLimit_record, tryCloseLine_undosed, tryCloseLine_undosed, tryCloseLine_undosed,
    considerLane_undosed, ending_record, Option.map_map]
  rfl

theorem settled_heldBare (i : LaneNo) (s : State) : (settled i s).heldBare i = s.heldBare i := by
  rw [settled, tryCloseLines_eq, giveLimit_heldBare, tryCloseLine_heldBare, tryCloseLine_heldBare, tryCloseLine_heldBare,
    considerLane_heldBare, ending_heldBare]

theorem endedLine_congr {s t : State} (cfg : t.cfg = s.cfg) (injs : t.injs = s.injs) (i : LaneNo) (n : Nat) :
    endedLine t i n = endedLine s i n := by
  funext a
  have inj : t.inj a.injector = s.inj a.injector := by rw [State.inj, State.inj, injs]
  have stroke : t.stroke a.injector = s.stroke a.injector := stroke_of_cfg cfg _
  have tolerance : t.tolerance = s.tolerance := by rw [State.tolerance, State.tolerance, cfg]
  have unjudged : strokeOpen t i n a.injector = strokeOpen s i n a.injector := by rw [strokeOpen, strokeOpen, inj]
  have gives : t.gives a = s.gives a := by rw [State.gives, State.strokeNl, stroke, State.gives, State.strokeNl]
  rw [endedLine, endedLine, gives, State.strokeNl, inj, stroke, tolerance, unjudged, State.strokeNl]

section
variable (i : LaneNo) (d : Nat) (s : State)

theorem leaked_lane : (leaked i d s).lane i = s.lane i := modRecord_lane ..

theorem leaked_beyond : (leaked i d s).beyond i = (s.reach d).beyond i := by simp [leaked]

theorem leaked_cfg : (leaked i d s).cfg = s.cfg := (cfg_of_beyond (leaked_beyond i d s)).trans rfl

theorem leaked_injs : (leaked i d s).injs = s.injs := modRecord_injs _ _ _

theorem leaked_record : (leaked i d s).record i = (s.record i).map fun r => { r with flags := { r.flags with valveLeak := true } } :=
  modRecord_record ..

theorem leaked_additives : (leaked i d s).additives i = s.additives i := by
  rw [State.additives, leaked_record, State.additives]
  cases s.record i <;> rfl

theorem leaked_heldBare : (leaked i d s).heldBare i = s.heldBare i := modRecord_heldBare ..

end

theorem leaked_dosing {s : State} {i : LaneNo} (d : Nat) (h : s.Dosing i) : (leaked i d s).Dosing i := by
  refine ⟨by rw [leaked_additives]; exact h.few, by rw [State.doseInjectors, leaked_additives]; exact h.once, ?_, ?_⟩
  · rw [leaked_additives]
    intro a mem
    rw [injCfg_of_cfg (leaked_cfg i d s)]
    exact h.fitted a mem
  · rw [leaked_additives]
    exact h.fresh

/-- R125 to R128: the additive lines when the closing timer has ended the compartment. -/
theorem settled_leaked_additive {s : State} {i : LaneNo} {n : Nat} (d : Nat) (h : s.Dosing i) (few : n < 3) :
    (settled i (leaked i d s)).additive i n = (s.additive i n).map (endedLine s i n) := by
  rw [settled, (leaked_dosing d h).additive few, endedLine_congr (leaked_cfg i d s) (leaked_injs i d s), State.additive,
    leaked_additives, State.additive]

/-- R125: the injector of a final stroke that begins at the entry to ENDED. -/
theorem settled_leaked_inj {s : State} {i : LaneNo} {n : Nat} {a : AdditiveLine} {x : InjectorCfg} (d : Nat) (h : s.Dosing i)
    (few : n < 3) (line : s.additive i n = some a) (gives : s.gives a = true) (idle : (s.inj a.injector).phase = .idle)
    (cfg : s.injCfg a.injector = some x) :
    (settled i (leaked i d s)).inj a.injector = strokeInjector x (max s.now d) ⟨i, n⟩ (s.inj a.injector) := by
  have dosing := leaked_dosing d h
  have line' : (leaked i d s).additive i n = some a := by rw [State.additive, leaked_additives]; exact line
  have mem := List.mem_of_getElem? line'
  have injs : (leaked i d s).inj a.injector = s.inj a.injector := by rw [State.inj, leaked_injs, State.inj]
  have gives' : (leaked i d s).gives a = true := by
    rw [State.gives, State.strokeNl, stroke_of_cfg (leaked_cfg i d s)]
    exact gives
  have starts : ((leaked i d s).gives a && decide (((leaked i d s).inj a.injector).phase = .idle)) = true := by
    rw [gives', injs, idle]
    rfl
  have cfg' : (ending i (leaked i d s)).injCfg a.injector = some x :=
    (injCfg_of_cfg ((cfg_of_beyond (ending_beyond i _)).trans (leaked_cfg i d s)) _).trans cfg
  have own := dosing.considered.own n _ x few (by rw [ending_additive, line']; rfl) ((dosing.lineDue_iff mem).trans starts) cfg'
  have now : (ending i (leaked i d s)).now = max s.now d :=
    (now_of_beyond (ending_beyond i _)).trans ((now_of_beyond (leaked_beyond i d s)).trans rfl)
  have was : (ending i (leaked i d s)).inj a.injector = s.inj a.injector := by rw [State.inj, ending_injs, leaked_injs, State.inj]
  rw [now] at own
  rw [settled, State.inj, tryCloseLines_injs, ← was]
  exact own

theorem tryCloseLine_doseInjectors (i : LaneNo) (k : Nat) (s : State) : (tryCloseLine i k s).doseInjectors i = s.doseInjectors i := by
  unfold tryCloseLine
  cases s.additive i k with
  | none => rfl
  | some a =>
    dsimp only
    split
    · exact modAdditive_doseInjectors (f := closedLine (s.stroke a.injector) s.tolerance) (fun _ => rfl) s
    · rfl

theorem settled_doseInjectors (i : LaneNo) (s : State) : (settled i s).doseInjectors i = s.doseInjectors i := by
  rw [settled, tryCloseLines_eq, doseInjectors_of_record (giveLimit_record ..), tryCloseLine_doseInjectors,
    tryCloseLine_doseInjectors, tryCloseLine_doseInjectors]
  simp only [considerLane, slots, List.foldl_cons, List.foldl_nil, considerLine_doseInjectors, ending_doseInjectors]

/-- R125 to R128: all additive lines when the closing timer has ended the compartment. -/
theorem settled_leaked_additives {s : State} {i : LaneNo} (d : Nat) (h : s.Dosing i) {g : AdditiveLine → AdditiveLine}
    (each : ∀ n a, (s.additives i)[n]? = some a → endedLine s i n a = g a) :
    (settled i (leaked i d s)).additives i = (s.additives i).map g := by
  have same := settled_doseInjectors i (leaked i d s)
  rw [State.doseInjectors, State.doseInjectors, leaked_additives] at same
  have length := congrArg List.length same
  rw [List.length_map, List.length_map] at length
  refine List.ext_getElem? fun n => ?_
  by_cases few : n < 3
  · have line := settled_leaked_additive d h few
    rw [State.additive, State.additive] at line
    rw [line, List.getElem?_map]
    cases here : (s.additives i)[n]? with
    | none => rfl
    | some a => exact congrArg some (each n a here)
  · have past : (s.additives i).length ≤ n := h.few.trans (Nat.not_lt.1 few)
    rw [List.getElem?_eq_none (by omega), List.getElem?_eq_none (by rw [List.length_map]; exact past)]

/-- R69: the line of a compartment that is handed back. -/
theorem handBack_line {i : LaneNo} {k : Nat} {w : State} {reason : EndReason} {l : OrderLine} {r : CompRecord}
    (line : (w.lane i).line = some k) (isReason : (w.lane i).closeReason = some reason) (here : w.heldLine i = some l)
    (record : w.record i = some r) :
    ∃ l', (settle (handBack i w)).lines[k]? = some l' ∧ l' = handRecord reason (w.lane i).piu.fault l ∧
      l'.record = some { r with endReason := some reason, pulseFault := (w.lane i).piu.fault } := by
  have back := handedBack_lines line k
  have isHand : w.handReason i = reason := by rw [State.handReason, isReason]; rfl
  rw [if_pos rfl, ← heldLine_of_line line, here, isHand] at back
  have trip := (settle_trip (handBack i w)).trans (trip_eq_of_steady (handBack_steady line))
  have recorded : l.record = some r := by rw [State.record, here] at record; exact record
  refine ⟨_, by rw [State.lines, trip, ← State.lines, back]; rfl, rfl, ?_⟩
  rw [handRecord, recorded]
  rfl

/-! ### The lines at the end, case by case -/

section
variable {s : State} {i : LaneNo} {n : Nat} {a : AdditiveLine}

theorem endedLine_begins (gives : s.gives a = true) (idle : (s.inj a.injector).phase = .idle) :
    endedLine s i n a = strokeLine true (s.stroke a.injector) { a with finalMark := true } := by
  have decided : a.decided (s.strokeNl a.injector) = { a with finalMark := true } :=
    congrArg (fun b => { a with finalMark := b }) gives
  rw [endedLine, gives, idle, decided]
  rfl

theorem endedLine_waits (gives : s.gives a = true) (busy : (s.inj a.injector).phase ≠ .idle) :
    endedLine s i n a = { a with finalMark := true } := by
  have decided : a.decided (s.strokeNl a.injector) = { a with finalMark := true } :=
    congrArg (fun b => { a with finalMark := b }) gives
  rw [endedLine, gives, decide_eq_false busy, decided]
  simp

theorem endedLine_rest (rests : s.gives a = false) : endedLine s i n a =
    if a.live && !strokeOpen s i n a.injector then closedLine (s.stroke a.injector) s.tolerance { a with finalMark := false }
    else { a with finalMark := false } := by
  have decided : a.decided (s.strokeNl a.injector) = { a with finalMark := false } :=
    congrArg (fun b => { a with finalMark := b }) rests
  rw [endedLine, rests, decided]
  simp

theorem strokeOpen_iff (s : State) (i : LaneNo) (n : Nat) (j : InjNo) :
    strokeOpen s i n j = true ↔ (s.inj j).serving = some ⟨i, n⟩ ∧ (s.inj j).window ≠ .closed := by
  simp [strokeOpen]

theorem gives_live (gives : s.gives a = true) : a.live = true := by
  simp only [State.gives, givesFinal, AdditiveLine.active, Bool.and_eq_true] at gives
  exact gives.1.1

/-- R126: a line is LIVE after the end just if it was and has a final stroke, or a stroke to be judged. -/
theorem endedLine_live : (endedLine s i n a).live = (a.live && (s.gives a || strokeOpen s i n a.injector)) := by
  cases gives : s.gives a with
  | true =>
    by_cases idle : (s.inj a.injector).phase = .idle
    · rw [endedLine_begins gives idle]
      change a.live = _
      simp
    · rw [endedLine_waits gives idle]
      simp
  | false =>
    rw [endedLine_rest gives]
    cases live : a.live <;> cases opened : strokeOpen s i n a.injector <;> simp [closedLine]

end

/-- R128: the result of an additive line. -/
theorem doseResult_spec {totalDue confirmed stroke tol : Nat} {fault : Bool} (sane : tol ≤ 100) :
    let r := doseResult totalDue confirmed fault stroke tol
    r.target = totalDue / 1000 ∧ r.delivered = confirmed * stroke ∧ (r.status = .fault ↔ fault = true) ∧
     (r.status = .ok ↔ fault = false ∧ r.target * (100 - tol) ≤ r.delivered * 100 ∧
       r.delivered * 100 ≤ r.target * (100 + tol)) ∧
     (r.status = .under ↔ fault = false ∧ r.delivered * 100 < r.target * (100 - tol)) ∧
     (fault = false → r.delivered = r.target → r.status = .ok) := by
  intro r
  have target : totalDue / 1000 * (100 - tol) ≤ totalDue / 1000 * (100 + tol) := Nat.mul_le_mul_left _ (by omega)
  have exact_ : totalDue / 1000 * (100 - tol) ≤ totalDue / 1000 * 100 ∧ totalDue / 1000 * 100 ≤ totalDue / 1000 * (100 + tol) :=
    ⟨Nat.mul_le_mul_left _ (by omega), Nat.mul_le_mul_left _ (by omega)⟩
  have status : r.status = if fault then .fault
      else if confirmed * stroke * 100 < totalDue / 1000 * (100 - tol) then .under
      else if totalDue / 1000 * (100 + tol) < confirmed * stroke * 100 then .over
      else .ok := rfl
  refine ⟨rfl, rfl, ?_⟩
  rw [status]
  change _ ∧ (_ ↔ _ ∧ totalDue / 1000 * (100 - tol) ≤ confirmed * stroke * 100 ∧
      confirmed * stroke * 100 ≤ totalDue / 1000 * (100 + tol)) ∧
    (_ ↔ _ ∧ confirmed * stroke * 100 < totalDue / 1000 * (100 - tol)) ∧ (_ → confirmed * stroke = totalDue / 1000 → _)
  cases fault with
  | true => simp
  | false =>
    rw [if_neg Bool.false_ne_true]
    split
    · rename_i below
      refine ⟨by simp, by simp; omega, by simp [below], fun _ same => ?_⟩
      rw [same] at below
      omega
    · split
      · rename_i above
        refine ⟨by simp, by simp; omega, by simp; omega, fun _ same => ?_⟩
        rw [same] at above
        omega
      · exact ⟨by simp, by simp; omega, by simp; omega, fun _ _ => rfl⟩

end Sys2Proof.Machine
open Sys2Proof Sys2Proof.Machine

/-- Settles O35, by the final-stroke decision line by line, and the hand-back once no line is left LIVE. -/
theorem doseLinesClose : Obligations.DoseLinesClose := by
  unfold Obligations.DoseLinesClose
  refine ⟨fun s i d k l r reason running closing line here record why few once lines own => ?_,
    fun totalDue confirmed stroke tol fault sane => doseResult_spec sane⟩
  intro gives unjudged closed
  have held : s.heldLine i = some l := (heldLine_of_line line).trans here
  have recorded : s.record i = some r := by rw [State.record, held]; exact record
  have additives : s.additives i = r.additives := by rw [State.additives, recorded]; rfl
  have h : s.Dosing i := ⟨by rw [additives]; exact few, by rw [State.doseInjectors, additives]; exact once,
    by rw [additives]; exact fun a mem => (lines a mem).1, by rw [additives]; exact fun a mem => (lines a mem).2⟩
  have answer := exec_closingTimerExpiry running closing
  rw [closeDoses_settled] at answer
  have isLine (n : Nat) (a : AdditiveLine) (was : r.additives[n]? = some a) :
      (settled i (leaked i d s)).additive i n = some (endedLine s i n a) := by
    rw [settled_leaked_additive d h (Nat.lt_of_lt_of_le (List.getElem?_eq_some_iff.1 was).1 few), State.additive, additives, was]
    rfl
  have opened (n : Nat) (a : AdditiveLine) : strokeOpen s i n a.injector = true ↔ unjudged n a := strokeOpen_iff ..
  have lt {n : Nat} {a : AdditiveLine} (was : r.additives[n]? = some a) : n < 3 :=
    Nat.lt_of_lt_of_le (List.getElem?_eq_some_iff.1 was).1 few
  have at' {n : Nat} {a : AdditiveLine} (was : r.additives[n]? = some a) : s.additive i n = some a := by
    rw [State.additive, additives, was]
  obtain ⟨_, _, _, -, -, lane⟩ := settled_limited i (leaked i d s)
  rw [leaked_lane] at lane
  have wline : ((settled i (leaked i d s)).lane i).line = some k := (congrArg (·.line) lane).trans line
  refine ⟨_, answer, fun waits => ?_, fun done => ?_⟩
  · obtain ⟨n, a, was, live, unfinished⟩ := waits
    have alive : (endedLine s i n a).live = true := by
      rw [endedLine_live, live]
      obtain given | unjudged' := unfinished
      · rw [show s.gives a = true from given]; rfl
      · rw [(opened n a).2 unjudged']; simp
    have waits : (settled i (leaked i d s)).allClosed i = false := by
      rw [State.allClosed, List.all_eq_false]
      exact ⟨_, List.mem_of_getElem? (isLine n a was), by simp [alive]⟩
    rw [waits, if_neg Bool.false_ne_true]
    have same := settle_dose (i := i) (s := settled i (leaked i d s)) (congrArg (·.after) lane)
    have heldLine : (settle (settled i (leaked i d s))).heldLine i = (settled i (leaked i d s)).heldLine i := by
      rw [State.heldLine, same, settle_lines, State.heldLine]
    have settledLine (n : Nat) : (settle (settled i (leaked i d s))).additive i n = (settled i (leaked i d s)).additive i n := by
      rw [State.additive, State.additives, State.record, heldLine, State.additive, State.additives, State.record]
    refine ⟨by rw [State.stage, same, lane], by rw [same]; exact wline, ?_, fun n a was => ⟨?_, ?_, ?_, ?_⟩⟩
    · have bare := (settled_heldBare i (leaked i d s)).trans (leaked_heldBare i d s)
      have status := congrArg (Option.map (·.status)) bare
      rw [State.heldBare, State.heldBare, Option.map_map, Option.map_map, held] at status
      rw [heldLine]
      exact status
    · intro given idle
      obtain ⟨x, cfg⟩ := Option.isSome_iff_exists.1 (lines a (List.mem_of_getElem? was)).1
      have inj := settled_leaked_inj d h (lt was) (at' was) given idle cfg
      rw [settledLine, settle_inj, isLine n a was, endedLine_begins given idle, inj]
      have live : a.live = true := gives_live given
      exact ⟨_, x, rfl, cfg, live, rfl, Bool.or_true _, rfl, rfl, rfl, rfl, rfl⟩
    · intro given busy
      rw [settledLine, isLine n a was, endedLine_waits given busy]
    · intro rests live unjudged'
      rw [settledLine, isLine n a was, endedLine_rest rests, (opened n a).2 unjudged', if_neg (by simp)]
    · intro rests live judged
      have shut : strokeOpen s i n a.injector = false := Bool.eq_false_iff.2 fun x => judged ((opened n a).1 x)
      rw [settledLine, isLine n a was, endedLine_rest rests, shut, live]
      rfl
  · have dead (n : Nat) (a : AdditiveLine) (was : r.additives[n]? = some a) : (endedLine s i n a).live = false := by
      rw [endedLine_live]
      cases live : a.live with
      | false => rfl
      | true =>
        obtain ⟨rests, judged⟩ := done n a was live
        rw [show s.gives a = false from rests, Bool.eq_false_iff.2 fun x => judged ((opened n a).1 x)]
        rfl
    have each (n : Nat) (a : AdditiveLine) (was : (s.additives i)[n]? = some a) :
        endedLine s i n a = if a.live then closed a else { a with finalMark := false } := by
      rw [additives] at was
      cases live : a.live with
      | false =>
        have rests : s.gives a = false := Bool.eq_false_iff.2 fun x => Bool.noConfusion (live.symm.trans (gives_live x))
        rw [endedLine_rest rests, live]
        rfl
      | true =>
        obtain ⟨rests, judged⟩ := done n a was live
        rw [endedLine_rest rests, live, Bool.eq_false_iff.2 fun x => judged ((opened n a).1 x)]
        rfl
    have all := settled_leaked_additives d h each
    have shut : (settled i (leaked i d s)).allClosed i = true := by
      rw [State.allClosed, all, List.all_eq_true]
      intro a mem
      obtain ⟨b, -, rfl⟩ := List.mem_map.1 mem
      cases live : b.live <;> simp [closed]
    have undosed := settled_undosed i (leaked i d s)
    rw [leaked_record, recorded] at undosed
    obtain ⟨rw', wrecord, -⟩ := Option.map_eq_some_iff.1 undosed
    obtain ⟨lw, wheld⟩ := heldBare_of_record wrecord
    obtain ⟨l', after, e, record'⟩ := handBack_line wline ((congrArg (·.closeReason) lane).trans why) wheld wrecord
    rw [shut, if_pos rfl]
    refine ⟨l', _, after, by rw [e]; rfl, record', ?_⟩
    rw [State.additives, wrecord, additives] at all
    exact all

end

section
/-! The hand-back of a compartment, what it leaves of the lane, the trip and the note, and its offers (R59, R60, R62, R69, R70). -/

namespace Sys2Proof.Machine

/-! ### The note being built, along the reports at the end of an event -/

/-- The note being built, but for the pages accepted of it, and the recovery at start-up. -/
def State.noted (s : State) : Option Build × Recovery := (s.ntb.build.map fun b => { b with accepted := 0 }, s.sul.recovery)

theorem noted_of_eq {s t : State} (build : t.ntb.build = s.ntb.build) (sul : t.sul.recovery = s.sul.recovery) : t.noted = s.noted := by
  rw [State.noted, build, sul, State.noted]

theorem noted_of_beyond {i : LaneNo} {s t : State} (same : t.beyond i = s.beyond i) : t.noted = s.noted :=
  noted_of_eq (congrArg Ntb.build (ntb_of_beyond same)) (congrArg Sul.recovery (sul_of_beyond same))

theorem enqueue_noted {q : QItem} {s t : State} {b : Bool} (offer : enqueue q s = (b, t)) : t.noted = s.noted := by
  have same := enqueue_modStp q s
  rw [offer] at same
  exact (congrArg State.noted same).trans rfl

theorem foldl_noted {α : Type} {f : State → α → State} (each : ∀ t a, (f t a).noted = t.noted) (l : List α) (s : State) :
    (l.foldl f s).noted = s.noted := by
  induction l generalizing s with
  | nil => rfl
  | cons a rest ih => exact (ih _).trans (each s a)

theorem pctFreeSlot_noted (n : Nat) (s : State) : (pctFreeSlot n s).noted = s.noted := by
  induction n generalizing s with
  | zero => rfl
  | succ n ih =>
    unfold pctFreeSlot
    split
    · rfl
    · split
      · rename_i t offer
        have same := enqueue_noted offer
        exact (ih _).trans same
      · rename_i t offer
        exact enqueue_noted offer

theorem offerPages_noted (n : Nat) (s : State) : (offerPages n s).noted = s.noted := by
  induction n generalizing s with
  | zero => rfl
  | succ n ih =>
    unfold offerPages
    split
    · rfl
    · rename_i b build
      split
      · split
        · rename_i t offer
          have same := enqueue_noted offer
          rw [ih, ← same]
          have isBuild : (t.ntb.build.map fun b => { b with accepted := 0 }) = some { b with accepted := 0 } := by
            have x := congrArg Prod.fst same
            rw [State.noted, State.noted, build] at x
            exact x
          exact Prod.ext isBuild.symm rfl
        · rename_i t offer
          exact enqueue_noted offer
      · rfl

theorem offerStatuses_noted (n : Nat) (s : State) : (offerStatuses n s).noted = s.noted := by
  induction n generalizing s with
  | zero => rfl
  | succ n ih =>
    unfold offerStatuses
    split
    · rfl
    · split
      · rename_i t offer
        have same := enqueue_noted offer
        exact (ih _).trans same
      · rename_i t offer
        exact enqueue_noted offer

theorem sulFreeSlot_noted (n : Nat) (s : State) : (sulFreeSlot n s).noted = s.noted := by
  induction n generalizing s with
  | zero => rfl
  | succ n ih =>
    unfold sulFreeSlot
    split
    · rfl
    · split
      · rename_i t offer
        have same := enqueue_noted offer
        exact (ih _).trans same
      · rename_i t offer
        exact enqueue_noted offer

theorem reportFreeSlot_noted (s : State) : (reportFreeSlot s).noted = s.noted := by
  unfold reportFreeSlot
  split
  · rw [sulFreeSlot_noted, ntbFreeSlot, offerStatuses_noted, offerPages_noted, pctFreeSlot_noted]
    exact foldl_noted (fun t i => noted_of_beyond (offerAfter_beyond (i := i) (s := t))) allLanes _
  · rfl

theorem recoveryNote_of_not {s : State} (not : s.noted.2 ≠ .offering) : recoveryNote s = s := by
  unfold recoveryNote
  split
  · rfl
  · exact if_neg fun x => not x.1

theorem offerFrame_noted {f : TxFrame} {s t : State} {b : Bool} (offer : offerFrame f s = (b, t)) : t.noted = s.noted := by
  unfold offerFrame at offer
  repeat' split at offer
  all_goals
    cases offer
    rfl

theorem pctRoom_noted (n : Nat) (s : State) : (pctRoom n s).noted = s.noted := by
  induction n generalizing s with
  | zero => rfl
  | succ n ih =>
    unfold pctRoom
    split
    · rfl
    · split
      · rename_i t offer
        have same := offerFrame_noted offer
        exact (ih _).trans same
      · rename_i t offer
        exact offerFrame_noted offer

theorem offerReady_noted (s : State) : (offerReady s).noted = s.noted := by
  unfold offerReady
  split
  · rfl
  · split
    · rename_i t offer
      have same := offerFrame_noted offer
      exact same
    · rename_i t offer
      exact offerFrame_noted offer

theorem serve_noted (n : Nat) (s : State) : (serve n s).noted = s.noted := by
  induction n generalizing s with
  | zero => rfl
  | succ n ih =>
    unfold serve
    split
    · rfl
    · split
      · exact ih _
      · rfl
    · rfl
    · rfl
    · split
      · rename_i t offer
        exact offerFrame_noted offer
      · rename_i t offer
        have same := offerFrame_noted offer
        split <;> exact (ih _).trans same

theorem reportRoom_noted (s : State) : (reportRoom s).noted = s.noted := by
  unfold reportRoom
  split
  · unfold ntbRoom
    dsimp only
    split
    · rw [serve_noted, offerReady_noted, pctRoom_noted]
      rfl
    · rw [offerReady_noted, pctRoom_noted]
      rfl
  · rfl

theorem portKick_noted (s : State) : (portKick s).noted = s.noted := by
  unfold portKick
  repeat' split
  all_goals rfl

theorem refreshLamps_noted (s : State) : (refreshLamps s).noted = s.noted := by
  unfold refreshLamps
  split <;> rfl

theorem idleTimer_noted (s : State) : (idleTimer s).noted = s.noted := by
  unfold idleTimer
  repeat' split
  all_goals rfl

/-- The end of an event begins no note unless the Start-up Loader's offers are being made, and ends none. -/
theorem settle_noted {s : State} (not : s.sul.recovery ≠ .offering) : (settle s).noted = s.noted := by
  have first := reportFreeSlot_noted s
  rw [settle, portKick_noted, refreshLamps_noted, idleTimer_noted, reportRoom_noted, recoveryNote_of_not (by rw [first]; exact not),
    reportFreeSlot_noted, first]

/-! ### The lane and the marks at the hand-back -/

/-- R69, R71: a lane that has handed its compartment back: its totalizers advanced, its two offers to be made. -/
def Lane.handed (l : Lane) (reason : EndReason) (r : CompRecord) (after : After) : Lane :=
  { l with ven := advanceTotals r l.ven, closeReason := some reason, line := none, after := after }

theorem recordHanded_record (i : LaneNo) (reason : EndReason) (s : State) {r : CompRecord} (record : s.record i = some r) :
    (s.modHeld i (handRecord reason (s.lane i).piu.fault)).record i =
      some { r with endReason := some reason, pulseFault := (s.lane i).piu.fault } := by
  rw [State.record] at record ⊢
  rw [modHeld_heldLine]
  obtain ⟨l, held, isRecord⟩ := Option.bind_eq_some_iff.1 record
  rw [held, Option.map_some, Option.bind_some, handRecord, isRecord]
  rfl

theorem recordHanded_lane (i : LaneNo) (reason : EndReason) (s : State) {r : CompRecord} (record : s.record i = some r) :
    (recordHanded i reason s).lane i = { s.lane i with ven := advanceTotals r (s.lane i).ven, closeReason := some reason } := by
  have lane : (s.modHeld i (handRecord reason (s.lane i).piu.fault)).lane i = s.lane i := lane_of_lanes (modHeld_lanes _ _ _) i
  rw [recordHanded, recordHanded_record i reason s record]
  simp only [modLane_lane_self, State.modVen, lane]
  rfl

theorem handedOver_lane (i : LaneNo) (reason : EndReason) (k : Nat) (s : State) {r : CompRecord} (record : s.record i = some r) :
    (handedOver i reason k s).lane i = (s.lane i).handed reason r (.checkpoint (k + 1) (endedBytes i reason s)
      (advanceTotals r (s.lane i).ven).totGross (advanceTotals r (s.lane i).ven).totStd) := by
  rw [handedOver, modLane_lane_self, recordHanded_lane i reason s record]
  rfl

theorem reportFault_lane (i : LaneNo) (reason : EndReason) (s : State) (j : LaneNo) : (reportFault i reason s).lane j = s.lane j := by
  unfold reportFault
  split
  · exact lane_of_lanes (modIlm_lanes _ _) j
  · rfl

theorem offerless_record (i : LaneNo) (s : State) : (offerless i s).record i = s.record i := modLane_record _ rfl

/-- R69, R108, R109: what the hand-back leaves of the lane, but for its limit. -/
theorem handedOn_lane {i : LaneNo} {k : Nat} {s : State} {r : CompRecord} (record : s.record i = some r) :
    Lane.Limited ((s.lane i).handed (s.handReason i) r (.checkpoint (k + 1) (endedBytes i (s.handReason i) (offerless i s))
      (advanceTotals r (s.lane i).ven).totGross (advanceTotals r (s.lane i).ven).totStd)) ((handedOn i k s).lane i) := by
  have lane := handedOver_lane i (s.handReason i) k (offerless i s) ((offerless_record i s).trans record)
  have limited := giveLimit_limited i (handedOver i (s.handReason i) k (offerless i s))
  rw [lane, offerless_lane] at limited
  exact limited

theorem handedBack_lanes (i : LaneNo) (k : Nat) (s : State) : (handedBack i k s).lanes = (reported i k s).lanes := by
  unfold handedBack
  split
  · exact (modTrip_lanes _ _).trans (modPct_lanes _ _)
  · rfl

theorem steady_lane_of_steady {s t : State} (same : t.steady = s.steady) (i : LaneNo) : (t.lane i).steady = (s.lane i).steady := by
  have lanes := congrArg (fun u : State => u.lane i) same
  simpa [State.steady, State.lane] using lanes

/-- R62, R69, R108, R109: the lane after the event of a hand-back, but for what the reports of the store change. -/
theorem handBack_lane {i : LaneNo} {k : Nat} {s : State} {r : CompRecord} (line : (s.lane i).line = some k)
    (record : s.record i = some r) : ∃ limit, ((settle (handBack i s)).lane i).steady =
      { (s.lane i).handed (s.handReason i) r .nothing with limit := limit }.steady := by
  have same := (settle_steady (handBack i s)).trans (handBack_steady line)
  obtain ⟨limit, _, _, -, -, e⟩ := handedOn_lane (k := k) record
  have lane := steady_lane_of_steady same i
  rw [lane_of_lanes (handedBack_lanes i k s), reported, reportFault_lane, e] at lane
  exact ⟨limit, lane⟩

theorem handedOn_beyond (i : LaneNo) (k : Nat) (s : State) : (handedOn i k s).beyond i = s.beyond i := by
  simp [handedOn, handedOver, recordHanded, offerless]

/-- R33: the marks of fault ends after the hand-back. -/
theorem reported_ilm (i : LaneNo) (k : Nat) (s : State) : (reported i k s).ilm = { s.ilm with
    faultMark := if (s.handReason i).isFault then s.ilm.faultMark.set i true else s.ilm.faultMark } := by
  rw [reported, reportFault, ← ilm_of_beyond (handedOn_beyond i k s)]
  split <;> rfl

theorem reported_now (i : LaneNo) (k : Nat) (s : State) : (reported i k s).now = s.now := by
  rw [reported, reportFault, ← now_of_beyond (handedOn_beyond i k s)]
  split <;> rfl

theorem reported_lif (i : LaneNo) (k : Nat) (s : State) : (reported i k s).lif = s.lif := by
  rw [reported, reportFault, ← lif_of_beyond (handedOn_beyond i k s)]
  split <;> rfl

/-! ### A compartment without additive lines at its end (R62, R105, R126) -/

/-- The lane in ENDED of a compartment without additive lines. -/
def plainEnd (i : LaneNo) (s : State) : State := giveLimit i (ending i s)

theorem considerLine_of_none {i : LaneNo} {n : Nat} {s : State} (none : s.additive i n = none) : considerLine i n s = s := by
  unfold considerLine
  rw [none]

theorem tryCloseLine_of_none {i : LaneNo} {n : Nat} {s : State} (none : s.additive i n = none) : tryCloseLine i n s = s := by
  unfold tryCloseLine
  rw [none]

theorem ending_additive_none {i : LaneNo} {s : State} (plain : s.additives i = []) (n : Nat) : (ending i s).additive i n = none := by
  rw [ending_additive, State.additive, plain]
  rfl

/-- R126: without additive lines the compartment is handed back at once. -/
theorem enterEnded_plain {i : LaneNo} {s : State} (plain : s.additives i = []) : enterEnded i s = handBack i (plainEnd i s) := by
  have lines := ending_additive_none plain
  have settles : settled i s = plainEnd i s := by
    rw [settled, tryCloseLines_eq]
    simp only [considerLane, slots, List.foldl_cons, List.foldl_nil, considerLine_of_none (lines _), tryCloseLine_of_none (lines _)]
    rfl
  have closed : (plainEnd i s).allClosed i = true := by
    rw [State.allClosed, State.additives, plainEnd, giveLimit_record, ending_record]
    rw [State.additives] at plain
    cases record : s.record i with
    | none => rfl
    | some r =>
      rw [record] at plain
      have none : r.additives = [] := plain
      rw [Option.map_some, none]
      rfl
  rw [enterEnded_eq, closeDoses_settled, settles, closed, if_pos rfl]

theorem plainEnd_record {i : LaneNo} {s : State} {r : CompRecord} (record : s.record i = some r) (plain : r.additives = []) :
    (plainEnd i s).record i = some (finalRecord s i r) := by
  rw [plainEnd, giveLimit_record, ending_record, record, Option.map_some, plain]
  rw [finalRecord, plain]
  rfl

theorem plainEnd_limited (i : LaneNo) (s : State) : Lane.Limited
    { s.lane i with learned := s.learnedAt i, stage := .ended, closing := none, after := .dose } ((plainEnd i s).lane i) := by
  have given := giveLimit_limited i (ending i s)
  rwa [ending_lane] at given

theorem plainEnd_beyond (i : LaneNo) (s : State) : (plainEnd i s).beyond i = s.beyond i := by simp [plainEnd, ending_beyond]

theorem plainEnd_stp (i : LaneNo) (s : State) : (plainEnd i s).stp = s.stp := by rw [plainEnd, giveLimit_stp, ending_stp]

theorem plainEnd_heldBare (i : LaneNo) (s : State) : (plainEnd i s).heldBare i = s.heldBare i := by
  rw [plainEnd, giveLimit_heldBare, ending_heldBare]

theorem learnOvershoot_pct (i : LaneNo) (s : State) : (learnOvershoot i s).pct = s.pct := by
  unfold learnOvershoot
  split
  · exact modLane_pct _ _ _
  · rfl

theorem lines_of_pct {s t : State} (same : t.pct = s.pct) : t.lines = s.lines := by rw [State.lines, same, State.lines]

theorem modRecord_lines_ne {i : LaneNo} {s : State} {m : Nat} (other : (s.lane i).line ≠ some m) (f : CompRecord → CompRecord) :
    (s.modRecord i f).lines[m]? = s.lines[m]? := modHeld_lines_ne other _

theorem plainEnd_lines_ne {i : LaneNo} {s : State} {m : Nat} (other : (s.lane i).line ≠ some m) :
    (plainEnd i s).lines[m]? = s.lines[m]? := by
  rw [plainEnd, lines_of_pct (giveLimit_pct _ _), ending, decideFinal, modRecord_lines_ne, lines_of_pct (modLane_pct _ _ _),
    modRecord_lines_ne, lines_of_pct (learnOvershoot_pct _ _)]
  · rw [learnOvershoot_lane]
    exact other
  · rw [modLane_lane_self, modRecord_lane, learnOvershoot_lane]
    exact other

/-! ### The trip and its note at the hand-back (R23, R69, R174) -/

theorem handedBack_allFinished (i : LaneNo) (k : Nat) (s : State) :
    (handedBack i k s).allFinished = (reported i k s).allFinished := by
  unfold handedBack
  split
  · rw [State.allFinished, closedTrip_lines, ← State.allFinished]
  · rfl

/-- R23: after the hand-back every line is ENDED or REFUSED just if every other line was before. -/
theorem reported_allFinished {i : LaneNo} {k : Nat} {s : State} (line : (s.lane i).line = some k) :
    (reported i k s).allFinished = true ↔ ∀ m x, m ≠ k → s.lines[m]? = some x → x.status.finished = true := by
  rw [← handedBack_allFinished, State.allFinished, List.all_eq_true]
  constructor
  · intro all m x ne here
    have same := handedBack_lines line m
    rw [if_neg ne, here] at same
    exact all x (List.mem_of_getElem? same)
  · intro others x mem
    obtain ⟨m, here⟩ := List.mem_iff_getElem?.1 mem
    rw [handedBack_lines line m] at here
    by_cases same : m = k
    · rw [if_pos same] at here
      obtain ⟨l, -, rfl⟩ := Option.map_eq_some_iff.1 here
      rfl
    · rw [if_neg same] at here
      exact others m x same here

theorem finished_iff (st : LineStatus) : st.finished = true ↔ (∃ e, st = .ended e) ∨ ∃ e, st = .refused e := by
  cases st <;> simp [LineStatus.finished]

theorem reported_trip (i : LaneNo) (k : Nat) (s : State) : ((reported i k s).pct.trip).map (fun t => { t with lines := [] }) =
    s.pct.trip.map fun t => { t with lines := [] } := by
  rw [reported, reportFault_pct]
  exact congrArg (fun u : State => u.pct.trip) (handedOn_beyond i k s)

theorem reported_slot (i : LaneNo) (k : Nat) (s : State) : (reported i k s).pct.slot = s.pct.slot := by
  rw [reported, reportFault_pct]
  exact slot_of_beyond (handedOn_beyond i k s)

/-- R24: the trip of the hand-back that ends it. -/
theorem handedBack_closes {i : LaneNo} {k : Nat} {s : State} {tr : Trip} (trip : s.pct.trip = some tr)
    (released : s.pct.slot = .released) (finished : (reported i k s).allFinished = true) :
    (handedBack i k s).pct.slot = .closing ∧ ∃ tr', (handedBack i k s).pct.trip = some tr' ∧
      tr'.endTime = s.takeTime ∧ tr'.flags.timeUnset = (tr.flags.timeUnset || !s.lif.timeSet) ∧
      { tr' with lines := [], endTime := 0, flags := { tr'.flags with timeUnset := false } } =
        { tr with lines := [], endTime := 0, flags := { tr.flags with timeUnset := false } } := by
  have slot := (reported_slot i k s).trans released
  have was := reported_trip i k s
  rw [trip] at was
  obtain ⟨t, isTrip, same⟩ := Option.map_eq_some_iff.1 was
  rw [handedBack, if_pos ⟨slot, finished⟩]
  have time : (reported i k s).takeTime = s.takeTime := by rw [State.takeTime, reported_lif, State.takeTime]
  refine ⟨rfl, { t with
    endTime := (reported i k s).takeTime
    flags := { t.flags with timeUnset := t.flags.timeUnset || !(reported i k s).lif.timeSet } }, ?_, time, ?_, ?_⟩
  · change ((reported i k s).pct.trip).map _ = _
    rw [isTrip]
    rfl
  · rw [reported_lif]
    have flags : t.flags = tr.flags := congrArg (·.flags) same
    rw [← flags]
  · have flags : t.flags = tr.flags := congrArg (·.flags) same
    have rest := congrArg (fun u : Trip => { u with endTime := 0, flags := { u.flags with timeUnset := false } }) same
    exact rest

theorem handedBack_stays {i : LaneNo} {k : Nat} {s : State}
    (stays : ¬(s.pct.slot = .released ∧ (reported i k s).allFinished = true)) : handedBack i k s = reported i k s :=
  if_neg (by rw [reported_slot]; exact stays)

theorem reportFault_ntb (i : LaneNo) (reason : EndReason) (s : State) : (reportFault i reason s).ntb = s.ntb := by
  unfold reportFault
  split <;> rfl

theorem reportFault_sul (i : LaneNo) (reason : EndReason) (s : State) : (reportFault i reason s).sul = s.sul := by
  unfold reportFault
  split <;> rfl

theorem handedState_ntb (i : LaneNo) (s : State) : (handedState i s).ntb = s.ntb := by
  rw [handedState, reportFault_ntb]
  exact ntb_of_beyond (i := i) (by simp [offerless])

theorem reportFault_lif (i : LaneNo) (reason : EndReason) (s : State) : (reportFault i reason s).lif = s.lif := by
  unfold reportFault
  split <;> rfl

theorem handedState_lif (i : LaneNo) (s : State) : (handedState i s).lif = s.lif := by
  rw [handedState, reportFault_lif]
  exact lif_of_beyond (i := i) (by simp [offerless])

theorem handedState_sul (i : LaneNo) (s : State) : (handedState i s).sul = s.sul := by
  rw [handedState, reportFault_sul]
  exact sul_of_beyond (i := i) (by simp [offerless])

theorem tryBuild_of_unfinished {s : State} (not : s.allFinished = false) : tryBuild s = s := by
  unfold tryBuild
  split
  · exact if_neg fun x => Bool.noConfusion (not.symm.trans x.2)
  · rfl

/-- R174: what is begun of a trip's note. -/
theorem tryBuild_noted {s : State} {t : Trip} (trip : s.pct.trip = some t) (idle : s.ntb.build = none)
    (closing : s.pct.slot = .closing) (finished : s.allFinished = true) :
    ∃ b : Build, (tryBuild s).noted = (some b, s.sul.recovery) ∧ b.number = s.ntb.next ∧ b.permit = t.permit ∧
      b.recovered = false := by
  unfold tryBuild
  rw [trip, idle]
  dsimp only
  rw [if_pos ⟨closing, finished⟩]
  unfold beginNote
  rw [offerPages_noted]
  exact ⟨_, rfl, rfl, rfl, rfl⟩

/-- R69, R174: the note that the last hand-back begins. -/
theorem handBack_noted {i : LaneNo} {k : Nat} {s : State} {tr : Trip} (line : (s.lane i).line = some k)
    (trip : s.pct.trip = some tr) (slot : s.pct.slot = .released ∨ s.pct.slot = .closing)
    (finished : (reported i k s).allFinished = true) (idle : s.ntb.build = none) :
    ∃ b : Build, (handBack i s).noted = (some b, s.sul.recovery) ∧ b.number = s.ntb.next ∧ b.permit = tr.permit ∧
      b.recovered = false := by
  have same := handedState_steady line
  have slots := slot_eq_of_steady same
  have done := (allFinished_of_steady same).trans finished
  have was := reported_trip i k s
  rw [← trip_eq_of_steady same, trip] at was
  obtain ⟨t, isTrip, permit⟩ := Option.map_eq_some_iff.1 was
  have permit : t.permit = tr.permit := congrArg (·.permit) permit
  have ntb := handedState_ntb i s
  have sul := handedState_sul i s
  rw [reported_slot] at slots
  rw [handBack_eq]
  generalize handedState i s = u at slots done isTrip ntb sul
  by_cases released : u.pct.slot = .released
  · rw [if_pos ⟨released, done⟩, enterClosing_of_finished done]
    have closed : (closedTrip u).allFinished = true := by rw [State.allFinished, closedTrip_lines]; exact done
    obtain ⟨b, begun, number, permits, plain⟩ := tryBuild_noted (s := closedTrip u) (t := { t with
        endTime := u.takeTime
        flags := { t.flags with timeUnset := t.flags.timeUnset || !u.lif.timeSet } })
      (by change (u.pct.trip).map _ = _; rw [isTrip]; rfl) ((congrArg Ntb.build ntb).trans idle) rfl closed
    refine ⟨b, begun.trans (congrArg (fun v : Sul => (some b, v.recovery)) sul), number.trans (congrArg Ntb.next ntb), permits.trans permit, plain⟩
  · have closing : u.pct.slot = .closing := slots.trans (slot.resolve_left (slots ▸ released))
    rw [if_neg fun x => released x.1]
    obtain ⟨b, begun, number, permits, plain⟩ := tryBuild_noted isTrip ((congrArg Ntb.build ntb).trans idle) closing done
    exact ⟨b, begun.trans (congrArg (fun v : Sul => (some b, v.recovery)) sul), number.trans (congrArg Ntb.next ntb),
      permits.trans permit, plain⟩

/-- R174: with a line that is neither ENDED nor REFUSED the hand-back ends no trip and begins no note. -/
theorem handBack_of_unfinished {i : LaneNo} {k : Nat} {s : State} (line : (s.lane i).line = some k)
    (not : (reported i k s).allFinished = false) : handBack i s = handedState i s := by
  have done := (allFinished_of_steady (handedState_steady line)).trans not
  rw [handBack_eq, done, if_neg (by simp), tryBuild_of_unfinished done]

/-! ### The two offers of the hand-back (R69, R70, R72) -/

theorem checkLine_eq_some {req : WriteReq} {k : Nat} (line : checkLine req = some k) : ∃ b, req = .checkpoint k b := by
  cases req <;> simp only [checkLine, Option.some.injEq, reduceCtorEq] at line
  exact ⟨_, by rw [line]⟩

theorem enqueue_fresh {k : Nat} {bytes : List Byte} {s : State} (room : s.stp.queue.length < 12)
    (flight : s.stp.flight.isSome = true) (fresh : ∀ q ∈ s.stp.queue, ∀ b, q.req ≠ .checkpoint k b) :
    enqueue ⟨.checkpoint k bytes, false⟩ s =
      (true, s.modStp fun p => { p with queue := p.queue ++ [⟨.checkpoint k bytes, false⟩] }) := by
  have apart : sameLineWaits ⟨.checkpoint k bytes, false⟩ s.stp.queue = false := by
    rw [sameLineWaits, show checkLine (QItem.mk (.checkpoint k bytes) false).req = some k from rfl, Option.isSome_some,
      Bool.true_and, List.any_eq_false]
    intro q mem same
    obtain ⟨b, req⟩ := checkLine_eq_some (of_decide_eq_true same)
    exact fresh q mem b req
  rw [enqueue, apart, if_neg Bool.false_ne_true, if_pos (show s.stp.queue.length < Config.queueSize from room),
    startNext_busy _ (by exact flight)]

/-- R70: with room for both, the lane's ENDED checkpoint and its TOTAL join the queue, and the lane leaves ENDED. -/
theorem offerAfter_both {i : LaneNo} {k : Nat} {bytes : List Byte} {gross std : Word48} {s : State} (ended : s.stage i = .ended)
    (after : (s.lane i).after = .checkpoint k bytes gross std) (room : s.stp.queue.length < 11)
    (flight : s.stp.flight.isSome = true) (fresh : ∀ q ∈ s.stp.queue, ∀ b, q.req ≠ .checkpoint k b) :
    (offerAfter i s).stp =
      { s.stp with queue := s.stp.queue ++ [⟨.checkpoint k bytes, false⟩, ⟨.total i gross std, false⟩] } ∧
    ((offerAfter i s).stage i = .idle ∨ (offerAfter i s).stage i = .primed) := by
  have first := enqueue_fresh (bytes := bytes) (by omega : s.stp.queue.length < 12) flight fresh
  have isOffer : offerAfter i s =
      offerTotal i gross std (s.modStp fun p => { p with queue := p.queue ++ [⟨.checkpoint k bytes, false⟩] }) := by
    rw [offerAfter, if_pos ended, offerWaiting, after]
    dsimp only
    rw [first]
  have roomy : (s.modStp fun p => { p with queue := p.queue ++ [⟨.checkpoint k bytes, false⟩] }).stp.queue.length < 12 := by
    change (s.stp.queue ++ [_]).length < 12
    rw [List.length_append, List.length_singleton]
    omega
  have second := enqueue_tail (q := ⟨.total i gross std, false⟩) rfl roomy flight
  rw [isOffer, offerTotal, second]
  dsimp only
  rw [primingCheck_eq]
  refine ⟨?_, ?_⟩
  · rw [modLane_stp, toIdle_eq, modLane_stp, modLane_stp]
    simp [State.modStp]
  · rw [State.stage, modLane_lane_self, toIdle_eq, modLane_lane_self]
    unfold Lane.primedBy
    split
    · split
      · exact .inl rfl
      · exact .inr rfl
    · exact .inl rfl

theorem handedOver_stp (i : LaneNo) (reason : EndReason) (k : Nat) (s : State) : (handedOver i reason k s).stp = s.stp := by
  rw [handedOver, modLane_stp, recordHanded, modLane_stp, State.modVen, modLane_stp, modHeld_stp]

theorem handedOn_stp (i : LaneNo) (k : Nat) (s : State) : (handedOn i k s).stp = s.stp := by
  rw [handedOn, giveLimit_stp, handedOver_stp, offerless, modLane_stp]

theorem modLane_heldLine {i : LaneNo} {f : Lane → Lane} (same : ∀ l, (f l).line = l.line) (s : State) :
    (s.modLane i f).heldLine i = s.heldLine i := by
  rw [State.heldLine, modLane_lane_self, same, lines_of_pct (modLane_pct _ _ _), State.heldLine]

theorem recordHanded_heldLine (i : LaneNo) (reason : EndReason) (s : State) : (recordHanded i reason s).heldLine i =
    (s.heldLine i).map (handRecord reason (s.lane i).piu.fault) := by
  rw [← modHeld_heldLine]
  exact (modLane_heldLine (fun l => by exact rfl) _).trans (modLane_heldLine (fun l => by exact rfl) _)

/-- R72, R105: the bytes of the ENDED checkpoint at the hand-back. -/
theorem endedBytes_eq {i : LaneNo} {k : Nat} {s : State} {l : OrderLine} {r : CompRecord} {tr : Trip} {weighted : Int}
    (reason : EndReason) (trip : s.pct.trip.map (·.number) = some tr.number) (line : (s.lane i).line = some k)
    (held : s.heldLine i = some l) (recorded : l.record = some r) (ended : s.stage i = .ended) (final : r.weighted = some weighted) :
    endedBytes i reason s = checkpointBytes tr.number (k + 1) 7 0 (endReasonCode reason) l.clamped
      { r with endReason := some reason, pulseFault := (s.lane i).piu.fault } weighted
      (advanceTotals r (s.lane i).ven).totGross (advanceTotals r (s.lane i).ven).totStd := by
  have record : s.record i = some r := by rw [State.record, held]; exact recorded
  have lane := recordHanded_lane i reason s record
  have heldNow := recordHanded_heldLine i reason s
  rw [held, Option.map_some] at heldNow
  have recordNow : (recordHanded i reason s).record i = some { r with endReason := some reason, pulseFault := (s.lane i).piu.fault } := by
    rw [State.record, heldNow, Option.bind_some, handRecord, recorded]
    rfl
  have tripNow : (recordHanded i reason s).pct.trip.map (·.number) = some tr.number := by
    rw [← trip]
    have same : (recordHanded i reason s).beyond i = s.beyond i := by simp [recordHanded]
    have inner := congrArg (fun u : State => u.pct.trip.map (·.number)) same
    simpa [State.beyond, Option.map_map, Function.comp_def] using inner
  obtain ⟨t, isTrip, number⟩ := Option.map_eq_some_iff.1 tripNow
  have stage : (s.lane i).stage = .ended := ended
  rw [endedBytes, State.checkpointNow, isTrip, heldNow, recordNow]
  simp only [lane, line, stage, ← number]
  rw [Option.map_some, Option.getD_some, tempNow]
  simp only [final]
  rfl

/-- R69, R70, R72: the lane and the store write queue after a hand-back that ends no trip, with room for both offers. -/
theorem handBack_offers {i : LaneNo} {k : Nat} {s : State} {r : CompRecord} (line : (s.lane i).line = some k)
    (record : s.record i = some r) (ended : s.stage i = .ended) (not : (reported i k s).allFinished = false)
    (room : s.stp.queue.length < 11) (flight : s.stp.flight.isSome = true)
    (fresh : ∀ q ∈ s.stp.queue, ∀ b, q.req ≠ .checkpoint (k + 1) b) :
    (handBack i s).stp = { s.stp with queue := s.stp.queue ++
      [⟨.checkpoint (k + 1) (endedBytes i (s.handReason i) (offerless i s)), false⟩,
        ⟨.total i (advanceTotals r (s.lane i).ven).totGross (advanceTotals r (s.lane i).ven).totStd, false⟩] } ∧
    ((handBack i s).stage i = .idle ∨ (handBack i s).stage i = .primed) := by
  rw [handBack_of_unfinished line not, handedState_eq line]
  obtain ⟨limit, setpoint, wanted, -, -, lane⟩ := handedOn_lane (k := k) record
  have stp := handedOn_stp i k s
  have stageNow : (handedOn i k s).stage i = .ended := (congrArg (·.stage) lane).trans ended
  have after := congrArg (·.after) lane
  have both := offerAfter_both stageNow after (by rw [stp]; exact room) (by rw [stp]; exact flight) (by rw [stp]; exact fresh)
  rw [stp] at both
  generalize handedOn i k s = u at both
  obtain ⟨queue, left⟩ := both
  have same : (reportFault i (s.handReason i) (offerAfter i u)).stp = (offerAfter i u).stp := by
    unfold reportFault
    split <;> rfl
  exact ⟨same.trans queue, by rw [State.stage, reportFault_lane]; exact left⟩

/-- What an event leaves of the queue and of a lane out of ENDED, when its only requests join the queue. -/
theorem queued_settle {s u : State} {i : LaneNo} {queue : List QItem} (calm : s.Calm) (lif : u.lif = s.lif) (sul : u.sul = s.sul)
    (left : u.stage i = .idle ∨ u.stage i = .primed) (stp : u.stp = { s.stp with queue := queue }) :
    ((settle u).stage i = .idle ∨ (settle u).stage i = .primed) ∧ (settle u).stp.queue = queue := by
  have after : u.Calm := calm_of_same (s := s.modStp fun p => { p with queue := queue }) stp lif sul calm
  have still : u.stage i ≠ .ended := by
    rcases left with e | e <;> rw [e] <;> exact Stage.noConfusion
  refine ⟨by rw [State.stage, settle_lane still]; exact left, ?_⟩
  rw [(settle_queue_flight after).1, stp]

/-! ### The whole event of an end without additive lines -/

theorem handedBack_ilm (i : LaneNo) (k : Nat) (s : State) : (handedBack i k s).ilm = (reported i k s).ilm := by
  unfold handedBack
  split <;> rfl

theorem handedBack_now (i : LaneNo) (k : Nat) (s : State) : (handedBack i k s).now = (reported i k s).now := by
  unfold handedBack
  split <;> rfl

theorem plainEnd_trip (i : LaneNo) (s : State) {tr : Trip} (trip : s.pct.trip = some tr) :
    ∃ t, (plainEnd i s).pct.trip = some t ∧ { t with lines := [] } = { tr with lines := [] } := by
  have same : (plainEnd i s).pct.trip.map (fun t => { t with lines := [] }) = s.pct.trip.map fun t => { t with lines := [] } :=
    congrArg (fun u : State => u.pct.trip) (plainEnd_beyond i s)
  rw [trip] at same
  exact Option.map_eq_some_iff.1 same

theorem noted_some {s : State} {b : Build} {rec : Recovery} (noted : s.noted = (some b, rec)) :
    (∃ b', s.ntb.build = some b' ∧ { b' with accepted := 0 } = b) ∧ s.sul.recovery = rec :=
  ⟨Option.map_eq_some_iff.1 (congrArg Prod.fst noted), congrArg Prod.snd noted⟩

theorem noted_none {s t : State} (noted : t.noted = s.noted) (idle : s.ntb.build = none) : t.ntb.build = none := by
  have same := congrArg Prod.fst noted
  rw [State.noted, State.noted, idle] at same
  exact Option.map_eq_none_iff.1 same

theorem faultMark_of_steady {s t : State} (same : t.steady = s.steady) : t.ilm.faultMark = s.ilm.faultMark :=
  congrArg (·.ilm.faultMark) same

theorem Lane.handed_of_steady {l m : Lane} {reason : EndReason} {r : CompRecord} {after : After} {limit : Option Nat}
    (same : l.steady = { m.handed reason r after with limit := limit }.steady) :
    l.ven = advanceTotals r m.ven ∧ l.learned = m.learned ∧ l.closing = m.closing :=
  ⟨congrArg (·.ven) same, congrArg (·.learned) same, congrArg (·.closing) same⟩

theorem Lane.limited_ended {l m : Lane} {learned : Nat}
    (same : Lane.Limited { l with learned := learned, stage := .ended, closing := none, after := .dose } m) :
    m.ven = l.ven ∧ m.piu = l.piu ∧ m.learned = learned ∧ m.closing = none ∧ m.stage = .ended ∧ m.line = l.line ∧
      m.closeReason = l.closeReason := by
  obtain ⟨_, _, _, -, -, rfl⟩ := same
  exact ⟨rfl, rfl, rfl, rfl, rfl, rfl, rfl⟩

/-- A lane whose compartment, with no additive lines, is closing: its line, its record and its reason. -/
structure ClosingPlain (s : State) (i : LaneNo) (k : Nat) (l : OrderLine) (r : CompRecord) (reason : EndReason) : Prop where
  line : (s.lane i).line = some k
  held : s.heldLine i = some l
  recorded : l.record = some r
  plain : r.additives = []
  why : (s.lane i).closeReason = some reason

/-- A state that has the same line at the lane, but for its record. -/
theorem ClosingPlain.of_bare {s v : State} {i : LaneNo} {k : Nat} {l : OrderLine} {r r' : CompRecord} {reason : EndReason}
    (h : ClosingPlain s i k l r reason) (line : (v.lane i).line = (s.lane i).line) (bare : v.heldBare i = s.heldBare i)
    (record : v.record i = some r') (plain : r'.additives = []) (why : (v.lane i).closeReason = (s.lane i).closeReason) :
    ClosingPlain v i k { l with record := some r' } r' reason := by
  obtain ⟨lw, held⟩ := heldBare_of_record record
  rw [State.heldBare, State.heldBare, held, h.held] at bare
  have bare : { lw with record := none } = { l with record := none } := Option.some.inj bare
  have isRecord : lw.record = some r' := by rw [State.record, held] at record; exact record
  have same : lw = { l with record := some r' } := by
    rw [← isRecord]
    exact congrArg (fun x : OrderLine => { x with record := lw.record }) bare
  exact ⟨line.trans h.line, held.trans (congrArg some same), rfl, plain, why.trans h.why⟩

section
variable {s : State} {i : LaneNo} {k : Nat} {l : OrderLine} {r : CompRecord} {reason : EndReason}
  (h : ClosingPlain s i k l r reason)
include h

theorem ClosingPlain.record : s.record i = some r := by rw [State.record, h.held]; exact h.recorded

theorem ClosingPlain.enters : enterEnded i s = handBack i (plainEnd i s) :=
  enterEnded_plain (by rw [State.additives, h.record]; exact h.plain)

/-- The lane in ENDED, and its line with the record that is final. -/
theorem ClosingPlain.ended :
    ClosingPlain (plainEnd i s) i k { l with record := some (finalRecord s i r) } (finalRecord s i r) reason := by
  obtain ⟨-, -, -, -, -, line, why⟩ := Lane.limited_ended (plainEnd_limited i s)
  exact h.of_bare line (plainEnd_heldBare i s) (plainEnd_record h.record h.plain) h.plain why

theorem ClosingPlain.handReason : s.handReason i = reason := by rw [State.handReason, h.why]; rfl

/-- R62, R69, R105: the line of the compartment after the event. -/
theorem ClosingPlain.line_after : (settle (enterEnded i s)).lines[k]? = some { l with
    status := .ended reason
    record := some { finalRecord s i r with endReason := some reason, pulseFault := (s.lane i).piu.fault } } := by
  obtain ⟨-, piu, -⟩ := Lane.limited_ended (plainEnd_limited i s)
  have e := h.ended
  obtain ⟨l', after, rfl, -⟩ := handBack_line e.line e.why e.held e.record
  rw [h.enters, after, piu]
  rfl

/-- R62, R108, R109: the lane's totalizers and its learned overshoot after the event. -/
theorem ClosingPlain.lane_after :
    ((settle (enterEnded i s)).lane i).ven = advanceTotals r (s.lane i).ven ∧
    ((settle (enterEnded i s)).lane i).learned = s.learnedAt i ∧ ((settle (enterEnded i s)).lane i).closing = none := by
  obtain ⟨isVen, -, isLearned, isClosing, -⟩ := Lane.limited_ended (plainEnd_limited i s)
  have e := h.ended
  obtain ⟨limit, after⟩ := handBack_lane e.line e.record
  rw [← h.enters] at after
  obtain ⟨ven, learned, closing⟩ := Lane.handed_of_steady after
  rw [ven, learned, closing, isVen, isLearned, isClosing]
  exact ⟨rfl, rfl, rfl⟩

theorem ClosingPlain.steady : (settle (enterEnded i s)).steady = (handedBack i k (plainEnd i s)).steady := by
  rw [settle_steady, h.enters]
  exact handBack_steady h.ended.line

theorem ClosingPlain.now_after : (settle (enterEnded i s)).now = s.now := by
  rw [now_of_steady h.steady, handedBack_now, reported_now]
  exact now_of_beyond (plainEnd_beyond i s)

/-- R33: the fault marks after the event. -/
theorem ClosingPlain.faultMark_after : (settle (enterEnded i s)).ilm.faultMark =
    if reason.isFault then s.ilm.faultMark.set i true else s.ilm.faultMark := by
  rw [faultMark_of_steady h.steady, handedBack_ilm, reported_ilm, h.ended.handReason, ilm_of_beyond (plainEnd_beyond i s)]

/-- R23: the event leaves every line ENDED or REFUSED just if every other line was before. -/
theorem ClosingPlain.last_iff : (reported i k (plainEnd i s)).allFinished = true ↔
    ∀ m x, m ≠ k → s.lines[m]? = some x → x.status.finished = true := by
  rw [reported_allFinished h.ended.line]
  have same (m : Nat) (ne : m ≠ k) : (plainEnd i s).lines[m]? = s.lines[m]? :=
    plainEnd_lines_ne (by rw [h.line]; exact fun e => ne (Option.some.inj e).symm)
  exact ⟨fun all m x ne here => all m x ne ((same m ne).trans here), fun all m x ne here => all m x ne ((same m ne).symm.trans here)⟩

/-- R23, R24: the trip that the last hand-back closes. -/
theorem ClosingPlain.closes {tr : Trip} (trip : s.pct.trip = some tr) (released : s.pct.slot = .released)
    (last : (reported i k (plainEnd i s)).allFinished = true) :
    (settle (enterEnded i s)).pct.slot = .closing ∧ ∃ tr', (settle (enterEnded i s)).pct.trip = some tr' ∧
      tr'.endTime = s.takeTime ∧ tr'.flags.timeUnset = (tr.flags.timeUnset || !s.lif.timeSet) := by
  obtain ⟨t, isTrip, same⟩ := plainEnd_trip i s trip
  have lif := lif_of_beyond (plainEnd_beyond i s)
  have time : (plainEnd i s).takeTime = s.takeTime := by rw [State.takeTime, lif, State.takeTime]
  have flags : t.flags = tr.flags := congrArg (·.flags) same
  obtain ⟨slot, tr', after, ends, unset, -⟩ := handedBack_closes isTrip ((slot_of_beyond (plainEnd_beyond i s)).trans released) last
  rw [slot_of_steady h.steady, trip_of_steady h.steady]
  exact ⟨slot, tr', after, ends.trans time, by rw [unset, flags, lif]⟩

theorem ClosingPlain.slot_after (not : (reported i k (plainEnd i s)).allFinished = false) :
    (settle (enterEnded i s)).pct.slot = s.pct.slot := by
  rw [slot_of_steady h.steady, handedBack_stays (by simp [not]), reported_slot, slot_of_beyond (plainEnd_beyond i s)]

/-- R174: the note that the last hand-back begins. -/
theorem ClosingPlain.note {tr : Trip} (trip : s.pct.trip = some tr) (slot : s.pct.slot = .released ∨ s.pct.slot = .closing)
    (last : (reported i k (plainEnd i s)).allFinished = true) (calm : s.sul.recovery ≠ .offering) (idle : s.ntb.build = none) :
    ∃ b, (settle (enterEnded i s)).ntb.build = some b ∧ b.number = s.ntb.next ∧ b.permit = tr.permit ∧ b.recovered = false := by
  obtain ⟨t, isTrip, same⟩ := plainEnd_trip i s trip
  have permit : t.permit = tr.permit := congrArg (·.permit) same
  have ntb := ntb_of_beyond (plainEnd_beyond i s)
  have sul := sul_of_beyond (plainEnd_beyond i s)
  have slots := slot_of_beyond (plainEnd_beyond i s)
  obtain ⟨b, begun, number, permits, plain⟩ := handBack_noted h.ended.line isTrip (by rw [slots]; exact slot) last
    ((congrArg Ntb.build ntb).trans idle)
  rw [← h.enters] at begun
  have recovery : (enterEnded i s).sul.recovery ≠ .offering := by
    rw [(noted_some begun).2, sul]
    exact calm
  obtain ⟨⟨b', isBuild, rfl⟩, -⟩ := noted_some ((settle_noted recovery).trans begun)
  exact ⟨b', isBuild, number.trans (congrArg Ntb.next ntb), permits.trans permit, plain⟩

/-- R174: no note is begun while another line is neither ENDED nor REFUSED. -/
theorem ClosingPlain.no_note (not : (reported i k (plainEnd i s)).allFinished = false) (calm : s.sul.recovery ≠ .offering)
    (idle : s.ntb.build = none) : (settle (enterEnded i s)).ntb.build = none := by
  have ntb := (handedState_ntb i (plainEnd i s)).trans (ntb_of_beyond (plainEnd_beyond i s))
  have sul := (handedState_sul i (plainEnd i s)).trans (sul_of_beyond (plainEnd_beyond i s))
  rw [h.enters, handBack_of_unfinished h.ended.line not]
  exact noted_none (settle_noted (by rw [sul]; exact calm)) (by rw [ntb]; exact idle)

/-- R69, R70, R72: the lane and the store write queue after an end that closes no trip, with room for both offers. -/
theorem ClosingPlain.offers {tr : Trip} {weighted : Int} (trip : s.pct.trip = some tr)
    (not : (reported i k (plainEnd i s)).allFinished = false) (calm : s.Calm)
    (final : (finalRecord s i r).weighted = some weighted) (room : s.stp.queue.length < 11) (flight : s.stp.flight.isSome = true)
    (fresh : ∀ q ∈ s.stp.queue, ∀ b, q.req ≠ .checkpoint (k + 1) b) :
    ((settle (enterEnded i s)).stage i = .idle ∨ (settle (enterEnded i s)).stage i = .primed) ∧
    (settle (enterEnded i s)).stp.queue = s.stp.queue ++
      [⟨.checkpoint (k + 1) (checkpointBytes tr.number (k + 1) 7 0 (endReasonCode reason) l.clamped
        { finalRecord s i r with endReason := some reason, pulseFault := (s.lane i).piu.fault } weighted
        (advanceTotals r (s.lane i).ven).totGross (advanceTotals r (s.lane i).ven).totStd), false⟩,
      ⟨.total i (advanceTotals r (s.lane i).ven).totGross (advanceTotals r (s.lane i).ven).totStd, false⟩] := by
  obtain ⟨t, isTrip, same⟩ := plainEnd_trip i s trip
  have number : t.number = tr.number := congrArg (·.number) same
  have e := h.ended
  obtain ⟨ven, piu, -, -, stage, -⟩ := Lane.limited_ended (plainEnd_limited i s)
  have stage : (plainEnd i s).stage i = .ended := stage
  have stp := plainEnd_stp i s
  have lif := lif_of_beyond (plainEnd_beyond i s)
  have sul := sul_of_beyond (plainEnd_beyond i s)
  have endCalm : (plainEnd i s).Calm := calm_of_same stp lif sul calm
  have bytes : endedBytes i reason (offerless i (plainEnd i s)) = endedBytes i reason (plainEnd i s) := by
    have offerlessLane := offerless_lane i (plainEnd i s)
    have offerlessHeld : (offerless i (plainEnd i s)).heldLine i = some { l with record := some (finalRecord s i r) } :=
      (modLane_heldLine (fun l => by exact rfl) _).trans e.held
    rw [endedBytes_eq (tr := tr) reason (by rw [offerless, modLane_pct, isTrip, ← number]; rfl) (by rw [offerlessLane]; exact e.line)
        offerlessHeld rfl (by rw [State.stage, offerlessLane]; exact stage) final, offerlessLane,
      endedBytes_eq (tr := tr) reason (by rw [isTrip, ← number]; rfl) e.line e.held rfl stage final]
  obtain ⟨queue, left⟩ := handBack_offers e.line e.record stage not (by rw [stp]; exact room) (by rw [stp]; exact flight)
    (by rw [stp]; exact fresh)
  rw [e.handReason, bytes, endedBytes_eq (tr := tr) reason (by rw [isTrip, ← number]; rfl) e.line e.held rfl stage final, ven,
    piu, stp] at queue
  rw [← h.enters] at queue left
  have handed : (enterEnded i s).lif = s.lif ∧ (enterEnded i s).sul = s.sul := by
    rw [h.enters, handBack_of_unfinished e.line not, handedState_lif, handedState_sul]
    exact ⟨lif, sul⟩
  exact queued_settle calm handed.1 handed.2 left queue

end

/-! ### The stage after the end (R70) -/

theorem tryBuild_lanes (s : State) : (tryBuild s).lanes = s.lanes := by
  unfold tryBuild
  split
  · split
    · exact offerPages_lanes _ _
    · rfl
  · rfl

theorem closedTrip_lanes (s : State) : (closedTrip s).lanes = s.lanes := rfl

/-- A lane waits in ENDED or has left it. -/
def Stage.over (st : Stage) : Prop := st = .ended ∨ st = .idle ∨ st = .primed

theorem Stage.not_flowing_of_over {st : Stage} (done : st.over) : st.flowing = false := by
  obtain rfl | rfl | rfl := done <;> rfl

theorem Stage.not_open_of_over {st : Stage} (done : st.over) : st.compartmentOpen = false := by
  obtain rfl | rfl | rfl := done <;> rfl

theorem Lane.HandedTo.done {l m : Lane} (h : l.HandedTo m) (done : l.stage.over) : m.stage.over := by
  cases h with
  | waits a same => rw [same]; exact done
  | left stage => exact .inr stage

theorem handBack_done {i : LaneNo} {k : Nat} {s : State} {r : CompRecord} (line : (s.lane i).line = some k)
    (record : s.record i = some r) (ended : s.stage i = .ended) : ((handBack i s).stage i).over := by
  obtain ⟨_, _, _, -, -, lane⟩ := handedOn_lane (k := k) record
  have first : ((handedOn i k s).stage i).over := .inl ((congrArg (·.stage) lane).trans ended)
  have second : ((handedState i s).stage i).over := by
    rw [handedState_eq line, State.stage, reportFault_lane]
    exact (offerAfter_handed i i (handedOn i k s)).done first
  have lanes : (handBack i s).lanes = (handedState i s).lanes := by
    rw [handBack_eq]
    split
    · rename_i closes
      rw [enterClosing_of_finished closes.2, tryBuild_lanes, closedTrip_lanes]
    · exact tryBuild_lanes _
  rwa [State.stage, lane_of_lanes lanes]

theorem ClosingPlain.done {s : State} {i : LaneNo} {k : Nat} {l : OrderLine} {r : CompRecord} {reason : EndReason}
    (h : ClosingPlain s i k l r reason) : ((enterEnded i s).stage i).over := by
  obtain ⟨-, -, -, -, stage, -⟩ := Lane.limited_ended (plainEnd_limited i s)
  rw [h.enters]
  exact handBack_done h.ended.line h.ended.record stage

/-! ### A tick in CLOSING (R59) -/

/-- R67: a tick in CLOSING raises no fault end. -/
theorem pulseStep_closing {i : LaneNo} {s : State} (pt : PulseTick) (closing : s.stage i = .closing) :
    pulseStep i pt s = pulsesRecorded i pt s := by
  have stage : (pulsesRecorded i pt s).stage i = .closing := (congrArg (·.stage) (recorded_lane i s pt.piu)).trans closing
  unfold pulseStep
  split
  · rfl
  · change takeFault i .pulseFault (pulsesRecorded i pt s) = _
    rw [takeFault, stage]

theorem Lane.Limited.line {l m : Lane} (h : l.Limited m) : m.line = l.line := by
  obtain ⟨_, _, _, -, -, rfl⟩ := h
  rfl

theorem Lane.Limited.closeReason {l m : Lane} (h : l.Limited m) : m.closeReason = l.closeReason := by
  obtain ⟨_, _, _, -, -, rfl⟩ := h
  rfl

theorem Lane.Limited.stage {l m : Lane} (h : l.Limited m) : m.stage = l.stage := by
  obtain ⟨_, _, _, -, -, rfl⟩ := h
  rfl

theorem dosePass_additives {i : LaneNo} {s : State} (dg : Nat) (plain : s.additives i = []) : (dosePass i dg s).additives i = [] := by
  have none := accrued_additives i dg s
  rw [plain] at none
  have given : (giveLimit i (accrued i dg s)).additives i = [] := by
    rw [State.additives, giveLimit_record, ← State.additives, none]
    rfl
  rw [dosePass_eq, considerLine_plain given, considerLine_plain given, considerLine_plain given, given]

/-- A metering tick of a lane in CLOSING, its compartment without additive lines. -/
structure ClosingTick (s : State) (i : LaneNo) (d k : Nat) (c : VenCfg) (l : OrderLine) (r : CompRecord) (reason : EndReason) :
    Prop extends ClosingPlain s i k l r reason where
  tick : (s.lane i).tick = some d
  cfg : s.venCfg i = some c
  closing : s.stage i = .closing

section
variable {s : State} {i : LaneNo} {d k : Nat} {c : VenCfg} {l : OrderLine} {r : CompRecord} {reason : EndReason}
  (h : ClosingTick s i d k c l r reason) (raw : BitVec 12)

/-- The quiet count after the tick. -/
def quietAfter (s : State) (i : LaneNo) (c : VenCfg) (r : CompRecord) : Nat :=
  if (tickPulse i c r s).pulses = 0 then (s.lane i).quiet + 1 else 0

/-- The lane metered at the tick, with its quiet count. -/
def quieted (s : State) (i : LaneNo) (d : Nat) (c : VenCfg) (r : CompRecord) (raw : BitVec 12) : State :=
  (dosed i c raw.toNat r (restartTick i d s)).modLane i fun l => { l with quiet := quietAfter s i c r }

include h

theorem ClosingTick.dosed_limited : (((s.lane i).restarted d).ticked (tickPulse i c r s).piu (tickVolume i c raw.toNat r s)).Limited
    ((dosed i c raw.toNat r (restartTick i d s)).lane i) := by
  have limited := Machine.dosed_limited i c raw.toNat r (restartTick i d s)
  rw [tickPulse_restarted, tickVolume_restarted, pulseStep_closing _ ((restartTick_stage i d s).trans h.closing), pulsesRecorded,
    recorded_lane, restartTick_lane] at limited
  exact limited

theorem ClosingTick.quieted_limited :
    { ((s.lane i).restarted d).ticked (tickPulse i c r s).piu (tickVolume i c raw.toNat r s) with quiet := quietAfter s i c r }.Limited
      ((quieted s i d c r raw).lane i) := by
  obtain ⟨limit, setpoint, wanted, lower, still, lane⟩ := h.dosed_limited raw
  exact ⟨limit, setpoint, wanted, lower, still, by rw [quieted, modLane_lane_self, lane]⟩

theorem ClosingTick.quieted_stage : (quieted s i d c r raw).stage i = .closing := by
  obtain ⟨_, _, _, -, -, lane⟩ := h.quieted_limited raw
  exact (congrArg (·.stage) lane).trans h.closing

theorem ClosingTick.quieted_heldBare : (quieted s i d c r raw).heldBare i = s.heldBare i := by
  have first : (quieted s i d c r raw).heldBare i = (dosed i c raw.toNat r (restartTick i d s)).heldBare i :=
    heldBare_congr (modLane_pct _ _ _) (by rw [quieted, modLane_lane_self])
  rw [first, dosed, dosePass_heldBare, volumeStep_heldBare, pulseStep_closing _ ((restartTick_stage i d s).trans h.closing),
    pulsesRecorded, modRecord_heldBare]
  exact heldBare_congr rfl (by rw [State.modPiu, modLane_lane_self, restartTick_lane])

theorem ClosingTick.additives : (dosed i c raw.toNat r (restartTick i d s)).additives i = [] := by
  rw [dosed]
  refine dosePass_additives _ ?_
  rw [State.additives, volumeStep, modRecord_record, modLane_record _ rfl, pulseStep_record, restartTick_record, h.record]
  exact h.plain

/-- R51, R59: the lane metered at the tick is closing as before, with the record as the tick forms it. -/
theorem ClosingTick.metered : ∃ r', ClosingPlain (quieted s i d c r raw) i k { l with record := some r' } r' reason ∧
    r'.undosed = (tickVolume i c raw.toNat r s).record.undosed := by
  have limited := h.quieted_limited raw
  obtain ⟨r', record, undosed⟩ := dosed_record (c := c) (raw := raw.toNat) ((restartTick_record i d s).trans h.record)
  rw [tickVolume_restarted] at undosed
  have plain : r'.additives = [] := by
    have none := h.additives raw
    rwa [State.additives, record] at none
  have here : (quieted s i d c r raw).record i = some r' := by
    rw [← record]
    exact record_congr (congrArg Pct.trip (modLane_pct _ _ _)) (by rw [quieted, modLane_lane_self])
  exact ⟨r', h.toClosingPlain.of_bare limited.line (h.quieted_heldBare raw) here plain limited.closeReason, undosed⟩

/-- R51, R59: the event of a tick in CLOSING. -/
theorem ClosingTick.answer : exec (.meteringTick i raw) s = .next (settle (checkpointStep i .closing r.gross.toNat
    (if 4 ≤ quietAfter s i c r then enterEnded i (quieted s i d c r raw) else quieted s i d c r raw))) := by
  obtain ⟨_, _, _, -, -, lane⟩ := h.dosed_limited raw
  have stage : (dosed i c raw.toNat r (restartTick i d s)).stage i = .closing := (congrArg (·.stage) lane).trans h.closing
  have quiet : ((dosed i c raw.toNat r (restartTick i d s)).lane i).quiet = (s.lane i).quiet := congrArg (·.quiet) lane
  have checked : checkStep c.lane i (tickPulse i c r s).pulses (dosed i c raw.toNat r (restartTick i d s)) =
      if 4 ≤ quietAfter s i c r then enterEnded i (quieted s i d c r raw) else quieted s i d c r raw := by
    rw [checkStep, stage, if_neg (by exact Bool.false_ne_true), if_pos rfl, closingStep, quiet]
    rfl
  have still : ((checkStep c.lane i (tickPulse i c r s).pulses (dosed i c raw.toNat r (restartTick i d s))).stage i).flowing = false := by
    rw [checked]
    split
    · obtain ⟨r', plain, -⟩ := h.metered raw
      exact Stage.not_flowing_of_over plain.done
    · rw [h.quieted_stage raw]
      rfl
  rw [exec_meteringTick raw h.tick h.cfg, h.closing, if_pos (by rfl),
    compartmentPass_eq (r := r) (by rw [restartTick_record, h.record]; rfl), restartTick_stage, h.closing, passed, tickPulse_restarted,
    steerStep, still, if_neg Bool.false_ne_true, checked]
  rfl

end

/-! ### The two events of this end -/

section
variable {s : State} {i : LaneNo} {d k : Nat} {c : VenCfg} {l : OrderLine} {r : CompRecord} {reason : EndReason}

/-- R59: below four ticks without a pulse the lane stays in CLOSING as it was metered, and offers what the tick asks for. -/
theorem ClosingTick.stays (h : ClosingTick s i d k c l r reason) (raw : BitVec 12) (few : quietAfter s i c r < 4) :
    ∃ t r', exec (.meteringTick i raw) s = .next t ∧ t.lane i = (quieted s i d c r raw).lane i ∧
      t.lines[k]? = some { l with record := some r' } ∧ r'.undosed = (tickVolume i c raw.toNat r s).record.undosed ∧
      s.TickCheckpoint t i := by
  have answer := h.answer raw
  have stage := h.quieted_stage raw
  obtain ⟨r', plain, undosed⟩ := h.metered raw
  have stp : (quieted s i d c r raw).stp = s.stp :=
    (modLane_stp _ _ _).trans ((dosed_stp i c raw.toNat r _).trans (modLane_stp _ _ _))
  have same : (quieted s i d c r raw).beyond i = (s.reach d).beyond i :=
    (modLane_beyond ..).trans ((dosed_beyond i c raw.toNat r _).trans (modLane_beyond ..))
  have calm : s.Calm → (quieted s i d c r raw).Calm :=
    fun calm => calm_of_same stp ((lif_of_beyond same).trans rfl) ((sul_of_beyond same).trans rfl) calm
  rw [if_neg (Nat.not_le.2 few)] at answer
  generalize quieted s i d c r raw = w at answer stage plain stp calm
  have open_ : (checkpointStep i .closing r.gross.toNat w).stage i ≠ .ended := by
    rw [State.stage, lane_of_lanes (checkpointStep_lanes ..), ← State.stage, stage]
    exact Stage.noConfusion
  have lane : (settle (checkpointStep i .closing r.gross.toNat w)).lane i = w.lane i :=
    (settle_lane open_).trans (lane_of_lanes (checkpointStep_lanes ..) i)
  have lines : (settle (checkpointStep i .closing r.gross.toNat w)).lines = w.lines := by
    rw [State.lines, settle_trip, checkpointStep_pct, State.lines]
  refine ⟨_, r', answer, lane, ?_, undosed, ?_⟩
  · rw [lines, ← heldLine_of_line plain.line, plain.held]
  · have after : (settle (checkpointStep i .closing r.gross.toNat w)).stage i = .closing := (congrArg (·.stage) lane).trans stage
    have gross : (settle (checkpointStep i .closing r.gross.toNat w)).gross i = w.gross i := by
      rw [State.gross, settle_record open_, checkpointStep_record, State.gross]
    have before : s.gross i = r.gross.toNat := by rw [State.gross, h.record]; rfl
    rw [State.TickCheckpoint, after, h.closing, gross, before]
    by_cases offers : r.gross.toNat / 1000000 < w.gross i / 1000000
    · rw [if_pos (.inr offers), checkpointStep, stage, if_pos ⟨rfl, .inr (decide_eq_true offers)⟩]
      exact checkpoints_of_offer (by rw [stage]; exact Stage.noConfusion) calm stp
    · rw [if_neg (fun x => offers (x.resolve_left fun ne => ne rfl)), checkpointStep, stage,
        if_neg (fun x => offers (of_decide_eq_true (x.2.resolve_left fun ne => ne rfl)))]
      exact checkpoints_of_none calm stp

/-- R59: at the fourth tick without a pulse in a row the lane ends, as its compartment was metered. -/
theorem ClosingTick.ends (h : ClosingTick s i d k c l r reason) (raw : BitVec 12) (full : 4 ≤ quietAfter s i c r) :
    ∃ t r', exec (.meteringTick i raw) s = .next t ∧ (t.stage i).over ∧ (t.lane i).closing = none ∧
      t.lines[k]? = some { l with status := .ended reason, record := some r' } ∧ r'.endReason = some reason ∧
      r'.gross = (tickVolume i c raw.toNat r s).record.gross ∧
      r'.flags.valveLeak = (tickVolume i c raw.toNat r s).record.flags.valveLeak := by
  have answer := h.answer raw
  obtain ⟨r', plain, undosed⟩ := h.metered raw
  rw [if_pos full] at answer
  generalize quieted s i d c r raw = w at answer plain
  have done := plain.done
  have rests : checkpointStep i .closing r.gross.toNat (enterEnded i w) = enterEnded i w := by
    rw [checkpointStep, Stage.not_open_of_over done]
    exact if_neg fun x => Bool.noConfusion x.1
  rw [rests] at answer
  have line := plain.line_after
  have lane := plain.lane_after
  have last : ((settle (enterEnded i w)).stage i).over := (settle_handed i _).done done
  exact ⟨_, _, answer, last, lane.2.2, line, rfl, congrArg (·.gross) undosed, congrArg (·.flags.valveLeak) undosed⟩

/-- R60: the closing timer ends the compartment with VALVE-LEAK. -/
theorem exec_closingTimerExpiry_enters (running : (s.lane i).closing = some d) (closing : s.stage i = .closing) :
    exec (.closingTimerExpiry i) s = .next (settle (enterEnded i (leaked i d s))) :=
  (exec_closingTimerExpiry running closing).trans (by rw [enterEnded_eq]; rfl)

/-- The record that the closing timer leaves to be made final. -/
def CompRecord.leaking (r : CompRecord) : CompRecord := { r with flags := { r.flags with valveLeak := true } }

theorem ClosingPlain.leaked (h : ClosingPlain s i k l r reason) (d : Nat) :
    ClosingPlain (leaked i d s) i k { l with record := some r.leaking } r.leaking reason :=
  h.of_bare (by rw [leaked_lane]) (leaked_heldBare ..) (by rw [leaked_record, h.record]; rfl) h.plain (by rw [leaked_lane])

theorem leaked_trip (s : State) (i : LaneNo) (d : Nat) {tr : Trip} (trip : s.pct.trip = some tr) :
    ∃ t, (Machine.leaked i d s).pct.trip = some t ∧ { t with lines := [] } = { tr with lines := [] } := by
  have same : (Machine.leaked i d s).pct.trip.map (fun t => { t with lines := [] }) =
      s.pct.trip.map fun t => { t with lines := [] } :=
    (congrArg (fun u : State => u.pct.trip) (leaked_beyond i d s)).trans rfl
  rw [trip] at same
  exact Option.map_eq_some_iff.1 same

theorem leaked_lines_ne {m : Nat} (other : (s.lane i).line ≠ some m) (d : Nat) :
    (Machine.leaked i d s).lines[m]? = s.lines[m]? :=
  modRecord_lines_ne (s := s.reach d) other _

/-- R23: the trip's other lines are ENDED or REFUSED. -/
def Trip.othersFinished (tr : Trip) (k : Nat) : Prop :=
  ∀ (m : Nat) (x : OrderLine), m ≠ k → tr.lines[m]? = some x → (∃ e, x.status = .ended e) ∨ ∃ e, x.status = .refused e

theorem ClosingPlain.leaked_last (h : ClosingPlain s i k l r reason) (d : Nat) {tr : Trip} (trip : s.pct.trip = some tr) :
    (reported i k (plainEnd i (Machine.leaked i d s))).allFinished = true ↔ tr.othersFinished k := by
  have lines : s.lines = tr.lines := by rw [State.lines, trip]; rfl
  rw [(h.leaked d).last_iff, Trip.othersFinished, ← lines]
  refine forall_congr' fun m => forall_congr' fun x => forall_congr' fun ne => ?_
  rw [leaked_lines_ne (by rw [h.line]; exact fun e => ne (Option.some.inj e).symm), finished_iff]

theorem advanceTotal_eq (total volume : Word48) : advanceTotal total volume.toNat = total + volume := by
  rw [advanceTotal, BitVec.ofNat_toNat, BitVec.setWidth_eq]

theorem weightedTemp_eq (sigma : Int) (r : CompRecord) (window : List Int) : weightedTemp sigma r.gross.toNat window =
    if r.gross = 0 then (if window = [] then 1500 else max (-4000) (min 7000 (window.sum.tdiv window.length)))
    else sigma.tdiv r.gross.toNat :=
  tempNow_eq { sigma := sigma, window := window } { r with weighted := none }

theorem ClosingPlain.leaked_final (h : ClosingPlain s i k l r reason) {g : LaneCfg} (cfg : s.laneCfg i = some g) (d : Nat) :
    finalRecord (Machine.leaked i d s) i r.leaking = { r with
      weighted := some (weightedTemp (s.lane i).ven.sigma r.gross.toNat (s.lane i).ven.window)
      flags := { r.flags with
        valveLeak := true
        overrun := r.flags.overrun || decide (l.preset * 1000 + g.overrun * 1000 < r.gross.toNat) } } := by
  have e := h.leaked d
  have overruns : overran (Machine.leaked i d s) i = decide (l.preset * 1000 + g.overrun * 1000 < r.gross.toNat) := by
    have preset : (Machine.leaked i d s).preset i = l.preset := by rw [State.preset, e.held]; rfl
    have gross : (Machine.leaked i d s).gross i = r.gross.toNat := by rw [State.gross, e.record]; rfl
    rw [overran, (laneCfg_of_cfg (leaked_cfg i d s) i).trans cfg, preset, gross]
    rfl
  rw [finalRecord, overruns, leaked_lane]
  rfl

end

end Sys2Proof.Machine
open Sys2Proof Sys2Proof.Machine

/-- Settles O37, by the record made final at ENDED, the hand-back that follows at once with no additive lines, and the metered lane of
a tick in CLOSING. -/
theorem compartmentEnds : Obligations.CompartmentEnds := by
  unfold Obligations.CompartmentEnds
  refine ⟨fun s i d k l r c reason running closing line here recorded none cfg why own => ?_,
    fun s i raw d k l r c reason tick closing line here recorded none cfg why own => ?_⟩
  · intro v weighted
    have held : s.heldLine i = some l := (heldLine_of_line line).trans here
    have h : ClosingPlain s i k l r reason := ⟨line, held, recorded, none, why⟩
    have e := h.leaked d
    have final := h.leaked_final cfg d
    rw [weightedTemp_eq] at final
    obtain ⟨ven, learned, -⟩ := e.lane_after
    have lane := leaked_lane i d s
    have lineAfter := e.line_after
    have mark := e.faultMark_after
    have beyond := leaked_beyond i d s
    rw [final, lane] at lineAfter
    rw [ilm_of_beyond beyond] at mark
    have gross : (leaked i d s).gross i = r.gross.toNat := by rw [State.gross, e.record]; rfl
    refine ⟨_, _, _, exec_closingTimerExpiry_enters running closing, e.now_after.trans (now_of_beyond beyond), lineAfter, rfl, rfl, rfl,
      ?_, ?_, ?_, ?_, fun tr trip => ?_, fun tr calm trip other flight room fresh => ?_⟩
    · rw [ven, lane]
      exact (advanceTotal_eq _ _)
    · rw [ven, lane]
      exact (advanceTotal_eq _ _)
    · rw [learned, State.learnedAt, lane, why, gross]
      simp only [Option.some.injEq]
      rfl
    · rw [mark]
      cases reason <;> rfl
    · intro last
      obtain ⟨tr0, isTrip, same⟩ := leaked_trip s i d trip
      have flags : tr0.flags = tr.flags := congrArg (·.flags) same
      have permit : tr0.permit = tr.permit := congrArg (·.permit) same
      have lif : (leaked i d s).lif = s.lif := (lif_of_beyond beyond).trans rfl
      have slot : (leaked i d s).pct.slot = s.pct.slot := (slot_of_beyond beyond).trans rfl
      have ntb : (leaked i d s).ntb = s.ntb := (ntb_of_beyond beyond).trans rfl
      have sul : (leaked i d s).sul = s.sul := (sul_of_beyond beyond).trans rfl
      have isLast := h.leaked_last d trip
      refine ⟨fun ends released => ?_, fun ends slots calm idle => ?_, fun more => ?_⟩
      · obtain ⟨closed, tr', after, time, unset⟩ := e.closes isTrip (slot.trans released) (isLast.2 ends)
        refine ⟨closed, tr', after, ?_, by rw [unset, flags, lif]⟩
        rw [time, State.takeTime, lif]
      · obtain ⟨b, build, number, permits, plain⟩ := e.note isTrip (by rw [slot]; exact slots) (isLast.2 ends)
          (by rw [sul]; exact calm.2) (by rw [ntb]; exact idle)
        exact ⟨b, build, number.trans (congrArg Ntb.next ntb), permits.trans permit, plain⟩
      · have unfinished := Bool.eq_false_iff.2 fun x => more (isLast.1 x)
        exact ⟨(e.slot_after unfinished).trans slot, fun calm idle => e.no_note unfinished (by rw [sul]; exact calm.2) (by rw [ntb]; exact idle)⟩
    · obtain ⟨m, x, ne, there, waits⟩ := other
      obtain ⟨tr0, isTrip, same⟩ := leaked_trip s i d trip
      have number : tr0.number = tr.number := congrArg (·.number) same
      have unfinished : (reported i k (plainEnd i (leaked i d s))).allFinished = false := by
        refine Bool.eq_false_iff.2 fun all => ?_
        obtain ⟨_, x⟩ | ⟨_, x⟩ := (h.leaked_last d trip).1 all m x ne there <;> rw [waits] at x <;> cases x
      have stp : (leaked i d s).stp = s.stp := (modRecord_stp _ _ _).trans rfl
      have lif : (leaked i d s).lif = s.lif := (lif_of_beyond beyond).trans rfl
      have sul : (leaked i d s).sul = s.sul := (sul_of_beyond beyond).trans rfl
      have offers := e.offers isTrip unfinished (calm_of_same stp lif sul calm) (congrArg (·.weighted) final)
        (by rw [stp]; exact room) (by rw [stp]; exact flight) (by rw [stp]; exact fresh)
      rw [final, lane, number, stp] at offers
      obtain ⟨left, queue⟩ := offers
      refine ⟨left, ?_⟩
      rw [queue]
      simp only [advanceTotals, CompRecord.leaking, advanceTotal_eq]
      rfl
  · intro a b pulses dg quiet
    have h : ClosingTick s i d k c l r reason :=
      { line := line, held := (heldLine_of_line line).trans here, recorded := recorded, plain := none, why := why, tick := tick, cfg := cfg,
        closing := closing }
    have isGross : (tickVolume i c raw.toNat r s).record.gross = addVolume r.gross dg := rfl
    have isLeak : (tickVolume i c raw.toNat r s).record.flags.valveLeak = r.flags.valveLeak := rfl
    by_cases few : quiet < 4
    · obtain ⟨t, r', answer, lane, lines, undosed, offered⟩ := h.stays raw few
      have gross : r'.gross = addVolume r.gross dg := congrArg (·.gross) undosed
      have leak : r'.flags.valveLeak = r.flags.valveLeak := congrArg (·.flags.valveLeak) undosed
      obtain ⟨_, _, _, -, -, metered⟩ := h.quieted_limited raw
      rw [metered] at lane
      refine ⟨t, _, r', answer, lines, rfl, leak, fun fits => gross ▸ addVolume_toNat fits, fun _ => ?_,
        fun full => absurd few (Nat.not_lt.2 full)⟩
      exact ⟨(congrArg (·.stage) lane).trans closing, congrArg (·.quiet) lane, congrArg (·.closing) lane,
        (congrArg (·.closeReason) lane).trans why, (congrArg (·.line) lane).trans line, rfl, congrArg (·.openOut) lane,
        congrArg (·.holdOut) lane, offered⟩
    · have full := Nat.not_lt.1 few
      obtain ⟨t, r', answer, done, stopped, lines, isReason, gross, leak⟩ := h.ends raw full
      refine ⟨t, _, r', answer, lines, rfl, leak.trans isLeak, fun fits => (gross.trans isGross) ▸ addVolume_toNat fits,
        fun below => absurd below few, fun _ => ⟨?_, stopped, rfl, isReason⟩⟩
      obtain e | e | e := done <;> rw [e] <;> exact Stage.noConfusion

end

section
/-! PROOFS. What every operation of the model keeps: the clock, the sizes of the queues, the order of the peer table, the place of the
start-up sequence, the trip record with its slot, and the trip idle timer of a released slot. One lemma for each operation, and what
each command makes of it. -/

namespace Sys2Proof.Machine

/-! ### The relation -/

/-- The place of the start-up sequence stands, and a recovery that makes its offers made them before. -/
def SameSequence (s t : State) : Prop :=
  t.sul.done = s.sul.done ∧ t.sul.phase = s.sul.phase ∧ t.sul.code = s.sul.code ∧
  (t.sul.recovery = .offering → s.sul.recovery = .offering)

/-- `t` comes from `s` by operations that keep the bookkeeping: the clock stands, a law of the queues' sizes, of the peer table or of
the trip slot that `s` has `t` has as well, and a slot that is RELEASED was so before, with its trip idle timer untouched. With `seq`
the start-up sequence stands where it was. -/
structure Orderly (seq : Bool) (s t : State) : Prop where
  now       : t.now = s.now
  lists     : s.ListsOk → t.ListsOk
  peers     : s.PeersOk → t.PeersOk
  sequence  : seq = true → SameSequence s t
  slot      : s.SlotOk → t.SlotOk
  released  : t.pct.slot = .released → s.pct.slot = .released ∧ t.pct.idleTimer = s.pct.idleTimer

@[simp] theorem Orderly.refl (seq : Bool) (s : State) : Orderly seq s s := ⟨rfl, id, id, fun _ => ⟨rfl, rfl, rfl, id⟩, id, fun x => ⟨x, rfl⟩⟩

theorem Orderly.trans {seq : Bool} {s t u : State} (a : Orderly seq s t) (b : Orderly seq t u) : Orderly seq s u where
  now := b.now.trans a.now
  lists h := b.lists (a.lists h)
  peers h := b.peers (a.peers h)
  sequence h := by
    obtain ⟨done, phase, code, recovery⟩ := a.sequence h
    obtain ⟨done', phase', code', recovery'⟩ := b.sequence h
    exact ⟨done'.trans done, phase'.trans phase, code'.trans code, fun x => recovery (recovery' x)⟩
  slot h := b.slot (a.slot h)
  released h := ⟨(a.released (b.released h).1).1, (b.released h).2.trans (a.released (b.released h).1).2⟩

variable {seq : Bool} {s₀ s : State}

/-- A lane's own operations keep the bookkeeping. -/
theorem Orderly.of_beyond {i : LaneNo} {s t : State} (same : t.beyond i = s.beyond i) : Orderly seq s t := by
  have trip : t.pct.trip = none ↔ s.pct.trip = none := by
    have e := congrArg (fun u : State => u.pct.trip.isSome) same
    simp only [State.beyond, Option.isSome_map] at e
    rw [← Option.not_isSome_iff_eq_none, ← Option.not_isSome_iff_eq_none, e]
  have held : t.pct.held = s.pct.held := congrArg (·.pct.held) same
  have marks : t.pct.heldMarks = s.pct.heldMarks := congrArg (·.pct.heldMarks) same
  have idle : t.pct.idleTimer = s.pct.idleTimer := congrArg (·.pct.idleTimer) same
  have lif := lif_of_beyond same
  have ntb := ntb_of_beyond same
  have sul := sul_of_beyond same
  have slot := slot_of_beyond same
  refine ⟨now_of_beyond same, ?_, ?_, fun _ => ?_, ?_, fun x => ⟨slot ▸ x, idle⟩⟩
  · rw [State.ListsOk, State.ListsOk, lif, held, marks, ntb]; exact id
  · rw [State.PeersOk, State.PeersOk, lif]; exact id
  · rw [SameSequence, sul]; exact ⟨rfl, rfl, rfl, id⟩
  · rw [State.SlotOk, State.SlotOk, slot, trip]; exact id

/-! ### Updates of one block -/

@[simp] theorem modIlm_orderly (f : Ilm → Ilm) (ord : Orderly seq s₀ s) : Orderly seq s₀ (s.modIlm f) :=
  ord.trans ⟨rfl, id, id, fun _ => ⟨rfl, rfl, rfl, id⟩, id, fun x => ⟨x, rfl⟩⟩
@[simp] theorem modHsu_orderly (f : Hsu → Hsu) (ord : Orderly seq s₀ s) : Orderly seq s₀ (s.modHsu f) :=
  ord.trans ⟨rfl, id, id, fun _ => ⟨rfl, rfl, rfl, id⟩, id, fun x => ⟨x, rfl⟩⟩
@[simp] theorem modStp_orderly (f : Stp → Stp) (ord : Orderly seq s₀ s) : Orderly seq s₀ (s.modStp f) :=
  ord.trans ⟨rfl, id, id, fun _ => ⟨rfl, rfl, rfl, id⟩, id, fun x => ⟨x, rfl⟩⟩
@[simp] theorem modLane_orderly (i : LaneNo) (f : Lane → Lane) (ord : Orderly seq s₀ s) : Orderly seq s₀ (s.modLane i f) :=
  ord.trans ⟨rfl, id, id, fun _ => ⟨rfl, rfl, rfl, id⟩, id, fun x => ⟨x, rfl⟩⟩
@[simp] theorem modPiu_orderly (i : LaneNo) (f : Piu → Piu) (ord : Orderly seq s₀ s) : Orderly seq s₀ (s.modPiu i f) :=
  ord.trans ⟨rfl, id, id, fun _ => ⟨rfl, rfl, rfl, id⟩, id, fun x => ⟨x, rfl⟩⟩
@[simp] theorem modVen_orderly (i : LaneNo) (f : Ven → Ven) (ord : Orderly seq s₀ s) : Orderly seq s₀ (s.modVen i f) :=
  ord.trans ⟨rfl, id, id, fun _ => ⟨rfl, rfl, rfl, id⟩, id, fun x => ⟨x, rfl⟩⟩
@[simp] theorem modInj_orderly (j : InjNo) (f : Injector → Injector) (ord : Orderly seq s₀ s) : Orderly seq s₀ (s.modInj j f) :=
  ord.trans ⟨rfl, id, id, fun _ => ⟨rfl, rfl, rfl, id⟩, id, fun x => ⟨x, rfl⟩⟩
@[simp] theorem emit_orderly (o : Output) (ord : Orderly seq s₀ s) : Orderly seq s₀ (s.emit o) :=
  ord.trans ⟨rfl, id, id, fun _ => ⟨rfl, rfl, rfl, id⟩, id, fun x => ⟨x, rfl⟩⟩

/-- An update of Permit Control that leaves the slot, the presence of its record and the trip idle timer, and lengthens no list of
kept offers. -/
@[simp] theorem modPct_orderly (f : Pct → Pct)
    (hf : (f s.pct).slot = s.pct.slot ∧ (f s.pct).trip.isSome = s.pct.trip.isSome ∧
      (f s.pct).held.length ≤ s.pct.held.length ∧ (f s.pct).heldMarks.length ≤ s.pct.heldMarks.length ∧
      (f s.pct).idleTimer = s.pct.idleTimer) (ord : Orderly seq s₀ s) : Orderly seq s₀ (s.modPct f) := by
  obtain ⟨slot, trip, held, marks, idle⟩ := hf
  refine ord.trans ⟨rfl, ?_, id, fun _ => ⟨rfl, rfl, rfl, id⟩, ?_, fun x => ⟨slot ▸ x, idle⟩⟩
  · rintro ⟨fifo, heldOk, marksOk, rest⟩
    exact ⟨fifo, held.trans heldOk, marks.trans marksOk, rest⟩
  · intro ok
    have none : (f s.pct).trip = none ↔ s.pct.trip = none := by
      rw [← Option.not_isSome_iff_eq_none, ← Option.not_isSome_iff_eq_none, trip]
    rw [State.SlotOk, modPct_pct, slot, none]
    exact ok

/-- A change of the slot that goes with the presence of its record, and does not lead to RELEASED. -/
theorem modPct_orderly_slot (f : Pct → Pct) (slot : (f s.pct).slot = .empty ↔ (f s.pct).trip = none)
    (notReleased : (f s.pct).slot ≠ .released) (held : (f s.pct).held = s.pct.held)
    (marks : (f s.pct).heldMarks = s.pct.heldMarks) (ord : Orderly seq s₀ s) : Orderly seq s₀ (s.modPct f) := by
  refine ord.trans ⟨rfl, ?_, id, fun _ => ⟨rfl, rfl, rfl, id⟩, fun _ => slot, fun x => absurd x notReleased⟩
  rintro ⟨fifo, heldOk, marksOk, rest⟩
  exact ⟨fifo, by rwa [modPct_pct, held], by rwa [modPct_pct, marks], rest⟩

/-- A change between two slots in which the record is kept, that does not lead to RELEASED. -/
theorem modPct_orderly_trip (f : Pct → Pct) (before : s.pct.slot ≠ .empty) (after : (f s.pct).slot ≠ .empty)
    (notReleased : (f s.pct).slot ≠ .released) (trip : (f s.pct).trip = s.pct.trip) (held : (f s.pct).held = s.pct.held)
    (marks : (f s.pct).heldMarks = s.pct.heldMarks) (ord : Orderly seq s₀ s) : Orderly seq s₀ (s.modPct f) := by
  refine ord.trans ⟨rfl, ?_, id, fun _ => ⟨rfl, rfl, rfl, id⟩, fun ok => ?_, fun x => absurd x notReleased⟩
  · rintro ⟨fifo, heldOk, marksOk, rest⟩
    exact ⟨fifo, by rwa [modPct_pct, held], by rwa [modPct_pct, marks], rest⟩
  · rw [State.SlotOk, modPct_pct, trip]
    exact ⟨fun h => absurd h after, fun h => absurd (ok.2 h) before⟩

/-- Permit Control keeps one frame more, while it has room for it. -/
theorem hold_orderly (f : TxFrame) (room : s.pct.held.length < Config.heldFrames) (ord : Orderly seq s₀ s) :
    Orderly seq s₀ (s.modPct fun p => { p with held := p.held ++ [f] }) := by
  refine ord.trans ⟨rfl, ?_, id, fun _ => ⟨rfl, rfl, rfl, id⟩, id, fun x => ⟨x, rfl⟩⟩
  rintro ⟨fifo, -, rest⟩
  exact ⟨fifo, by simpa using room, rest⟩

/-- Permit Control keeps one marker request more, while it has room for it. -/
theorem holdMark_orderly (r : WriteReq) (room : s.pct.heldMarks.length < Config.heldMarks) (ord : Orderly seq s₀ s) :
    Orderly seq s₀ (s.modPct fun p => { p with heldMarks := p.heldMarks ++ [r] }) := by
  refine ord.trans ⟨rfl, ?_, id, fun _ => ⟨rfl, rfl, rfl, id⟩, id, fun x => ⟨x, rfl⟩⟩
  rintro ⟨fifo, held, -, rest⟩
  exact ⟨fifo, held, by simpa using room, rest⟩

/-- An update of the Line Interface that leaves the peer table and does not lengthen the transmit FIFO. -/
@[simp] theorem modLif_orderly (f : Lif → Lif)
    (hf : (f s.lif).fifo.length ≤ s.lif.fifo.length ∧ (f s.lif).peers = s.lif.peers ∧ (f s.lif).station = s.lif.station)
    (ord : Orderly seq s₀ s) : Orderly seq s₀ (s.modLif f) := by
  obtain ⟨fifo, peers, station⟩ := hf
  refine ord.trans ⟨rfl, ?_, ?_, fun _ => ⟨rfl, rfl, rfl, id⟩, id, fun x => ⟨x, rfl⟩⟩
  · rintro ⟨fifoOk, rest⟩
    exact ⟨fifo.trans fifoOk, rest⟩
  · intro ok
    rw [State.PeersOk, modLif_lif, peers, station]
    exact ok

/-- An update of the Line Interface that leaves its FIFO, and keeps the peer table in order. -/
theorem modLif_orderly_peers (f : Lif → Lif) (fifo : (f s.lif).fifo = s.lif.fifo) (ok : s.PeersOk → (s.modLif f).PeersOk)
    (ord : Orderly seq s₀ s) : Orderly seq s₀ (s.modLif f) := by
  refine ord.trans ⟨rfl, ?_, ok, fun _ => ⟨rfl, rfl, rfl, id⟩, id, fun x => ⟨x, rfl⟩⟩
  rintro ⟨fifoOk, rest⟩
  exact ⟨by rwa [modLif_lif, fifo], rest⟩

/-- The transmit FIFO takes one frame more, while it has room for it. -/
theorem queueFrame_orderly (f : TxFrame) (room : s.lif.fifo.length < Config.fifoSize) (ord : Orderly seq s₀ s) :
    Orderly seq s₀ (s.modLif fun l => { l with fifo := l.fifo ++ [f] }) := by
  refine ord.trans ⟨rfl, ?_, id, fun _ => ⟨rfl, rfl, rfl, id⟩, id, fun x => ⟨x, rfl⟩⟩
  rintro ⟨-, rest⟩
  exact ⟨by simpa using room, rest⟩

/-- An update of the Note Builder after which each of its lists is within its size, if it was so before. -/
theorem modNtb_orderly_sizes (f : Ntb → Ntb)
    (statuses : s.ntb.statusList.length ≤ Config.statusListSize → (f s.ntb).statusList.length ≤ Config.statusListSize)
    (asks : s.ntb.asks.length ≤ Config.askSize → (f s.ntb).asks.length ≤ Config.askSize)
    (prints : s.ntb.prints.length ≤ 2 → (f s.ntb).prints.length ≤ 2) (ord : Orderly seq s₀ s) : Orderly seq s₀ (s.modNtb f) := by
  refine ord.trans ⟨rfl, ?_, id, fun _ => ⟨rfl, rfl, rfl, id⟩, id, fun x => ⟨x, rfl⟩⟩
  rintro ⟨fifo, held, marks, statusOk, askOk, printOk⟩
  exact ⟨fifo, held, marks, statuses statusOk, asks askOk, prints printOk⟩

/-- An update of the Note Builder that does not lengthen its lists. -/
@[simp] theorem modNtb_orderly (f : Ntb → Ntb)
    (hf : (f s.ntb).statusList.length ≤ s.ntb.statusList.length ∧ (f s.ntb).asks.length ≤ s.ntb.asks.length ∧
      (f s.ntb).prints.length ≤ s.ntb.prints.length) (ord : Orderly seq s₀ s) : Orderly seq s₀ (s.modNtb f) :=
  modNtb_orderly_sizes f hf.1.trans hf.2.1.trans hf.2.2.trans ord

/-- An update of the Start-up Loader that leaves the place of its sequence, where that counts. -/
@[simp] theorem modSul_orderly (f : Sul → Sul) (hf : seq = true → SameSequence s (s.modSul f)) (ord : Orderly seq s₀ s) :
    Orderly seq s₀ (s.modSul f) := ord.trans ⟨rfl, id, id, hf, id, fun x => ⟨x, rfl⟩⟩

@[simp] theorem modTrip_orderly (f : Trip → Trip) (ord : Orderly seq s₀ s) : Orderly seq s₀ (s.modTrip f) :=
  modPct_orderly _ (by simp) ord
@[simp] theorem modLine_orderly (k : Nat) (f : OrderLine → OrderLine) (ord : Orderly seq s₀ s) :
    Orderly seq s₀ (s.modLine k f) := modTrip_orderly _ ord
@[simp] theorem modTripFlags_orderly (f : TripFlags → TripFlags) (ord : Orderly seq s₀ s) :
    Orderly seq s₀ (s.modTripFlags f) := modTrip_orderly _ ord
@[simp] theorem modHeld_orderly (i : LaneNo) (f : OrderLine → OrderLine) (ord : Orderly seq s₀ s) :
    Orderly seq s₀ (s.modHeld i f) := by
  unfold State.modHeld
  split <;> simp [ord]
@[simp] theorem modRecord_orderly (i : LaneNo) (f : CompRecord → CompRecord) (ord : Orderly seq s₀ s) :
    Orderly seq s₀ (s.modRecord i f) := modHeld_orderly i _ ord
@[simp] theorem modFlags_orderly (i : LaneNo) (f : CompFlags → CompFlags) (ord : Orderly seq s₀ s) :
    Orderly seq s₀ (s.modFlags i f) := modRecord_orderly i _ ord
@[simp] theorem modAdditive_orderly (i : LaneNo) (k : Nat) (f : AdditiveLine → AdditiveLine) (ord : Orderly seq s₀ s) :
    Orderly seq s₀ (s.modAdditive i k f) := modRecord_orderly i _ ord

theorem foldl_orderly {α : Type} {f : State → α → State} (hf : ∀ t a, Orderly seq s₀ t → Orderly seq s₀ (f t a)) (l : List α)
    (ord : Orderly seq s₀ s) : Orderly seq s₀ (l.foldl f s) := by
  induction l generalizing s with
  | nil => exact ord
  | cons a l ih => exact ih (hf s a ord)

theorem eachLane_orderly {f : LaneNo → State → State} (hf : ∀ i t, Orderly seq s₀ t → Orderly seq s₀ (f i t))
    (ord : Orderly seq s₀ s) : Orderly seq s₀ (s.eachLane f) := foldl_orderly (fun t i => hf i t) _ ord

/-! ### Offers to the store write queue and to the transmit FIFO -/

@[simp] theorem enqueue_orderly (q : QItem) (ord : Orderly seq s₀ s) : Orderly seq s₀ (enqueue q s).2 := by
  rw [enqueue_modStp]
  exact modStp_orderly _ ord

theorem enqueue_orderly_of {q : QItem} {t : State} {b : Bool} (h : enqueue q s = (b, t)) (ord : Orderly seq s₀ s) :
    Orderly seq s₀ t := by
  rw [show t = (enqueue q s).2 by rw [h]]
  exact enqueue_orderly q ord

@[simp] theorem offerFrame_orderly (f : TxFrame) (ord : Orderly seq s₀ s) : Orderly seq s₀ (offerFrame f s).2 := by
  unfold offerFrame
  repeat' split
  · exact ord
  · exact ord
  · exact queueFrame_orderly f ‹_› ord
  · exact ord

theorem offerFrame_orderly_of {f : TxFrame} {t : State} {b : Bool} (h : offerFrame f s = (b, t)) (ord : Orderly seq s₀ s) :
    Orderly seq s₀ t := by
  rw [show t = (offerFrame f s).2 by rw [h]]
  exact offerFrame_orderly f ord

/-! ### The operations, in the order of the model -/

@[simp] theorem refreshLamps_orderly (ord : Orderly seq s₀ s) : Orderly seq s₀ (refreshLamps s) := by
  unfold refreshLamps
  split <;> simp [ord]

@[simp] theorem askRead_orderly (owner : Reader) (page : Nat) (ord : Orderly seq s₀ s) :
    Orderly seq s₀ (askRead owner page s) := by simp [askRead, ord]

@[simp] theorem askPages_orderly (o : Reader) (page n : Nat) (ord : Orderly seq s₀ s) : Orderly seq s₀ (askPages o page n s) := by
  induction n generalizing s page with
  | zero => exact ord
  | succ n ih => exact ih _ (askRead_orderly o page ord)

@[simp] theorem askStatusRead_orderly (q : QItem) (ord : Orderly seq s₀ s) : Orderly seq s₀ (askStatusRead q s) := by
  unfold askStatusRead
  split <;> simp [ord]

@[simp] theorem startNext_orderly (ord : Orderly seq s₀ s) : Orderly seq s₀ (startNext s) := by
  unfold startNext
  split <;> simp [ord]

@[simp] theorem portKick_orderly (ord : Orderly seq s₀ s) : Orderly seq s₀ (portKick s) := by
  unfold portKick
  repeat' split
  all_goals simp [ord]

@[simp] theorem flightDone_orderly (ord : Orderly seq s₀ s) : Orderly seq s₀ (flightDone s) := by simp [flightDone, ord]

@[simp] theorem recordCopy_orderly (req : WriteReq) (ord : Orderly seq s₀ s) : Orderly seq s₀ (recordCopy req s) := by
  unfold recordCopy
  split <;> simp [ord]

@[simp] theorem retarget_orderly (i : LaneNo) (ord : Orderly seq s₀ s) : Orderly seq s₀ (retarget i s) := by
  exact ord.trans (.of_beyond (retarget_beyond ..))

@[simp] theorem rise_orderly (i : LaneNo) (ord : Orderly seq s₀ s) : Orderly seq s₀ (rise i s) := by
  exact ord.trans (.of_beyond (rise_beyond ..))

@[simp] theorem outputsOff_orderly (i : LaneNo) (ord : Orderly seq s₀ s) : Orderly seq s₀ (outputsOff i s) := by
  exact ord.trans (.of_beyond (outputsOff_beyond ..))

@[simp] theorem steerNow_orderly (i : LaneNo) (ord : Orderly seq s₀ s) : Orderly seq s₀ (steerNow i s) := by
  exact ord.trans (.of_beyond (steerNow_beyond ..))

@[simp] theorem offerCheckpoint_orderly (i : LaneNo) (ord : Orderly seq s₀ s) : Orderly seq s₀ (offerCheckpoint i s) := by
  exact ord.trans (.of_beyond (offerCheckpoint_beyond ..))

@[simp] theorem setStage_orderly (i : LaneNo) (st : Stage) (ord : Orderly seq s₀ s) : Orderly seq s₀ (setStage i st s) := by
  exact ord.trans (.of_beyond (setStage_beyond ..))

@[simp] theorem setStatus_orderly (i : LaneNo) (st : LineStatus) (ord : Orderly seq s₀ s) :
    Orderly seq s₀ (setStatus i st s) := by exact ord.trans (.of_beyond (setStatus_beyond ..))

@[simp] theorem closeDecision_orderly (i : LaneNo) (reason : EndReason) (ord : Orderly seq s₀ s) :
    Orderly seq s₀ (closeDecision i reason s) := by exact ord.trans (.of_beyond (closeDecision_beyond ..))

@[simp] theorem takeFault_orderly (i : LaneNo) (reason : EndReason) (ord : Orderly seq s₀ s) :
    Orderly seq s₀ (takeFault i reason s) := by exact ord.trans (.of_beyond (takeFault_beyond ..))

@[simp] theorem suspendFlowing_orderly (i : LaneNo) (cause : Cause) (left : LeftStage) (ord : Orderly seq s₀ s) :
    Orderly seq s₀ (suspendFlowing i cause left s) := by exact ord.trans (.of_beyond (suspendFlowing_beyond ..))

@[simp] theorem suspendPrimed_orderly (i : LaneNo) (ord : Orderly seq s₀ s) : Orderly seq s₀ (suspendPrimed i s) := by
  exact ord.trans (.of_beyond (suspendPrimed_beyond ..))

@[simp] theorem suspendLane_orderly (i : LaneNo) (cause : Cause) (ord : Orderly seq s₀ s) :
    Orderly seq s₀ (suspendLane i cause s) := by exact ord.trans (.of_beyond (suspendLane_beyond ..))

@[simp] theorem toIdle_orderly (i : LaneNo) (ord : Orderly seq s₀ s) : Orderly seq s₀ (toIdle i s) := by
  exact ord.trans (.of_beyond (toIdle_beyond ..))

@[simp] theorem primingCheck_orderly (i : LaneNo) (ord : Orderly seq s₀ s) : Orderly seq s₀ (primingCheck i s) := by
  exact ord.trans (.of_beyond (primingCheck_beyond ..))

@[simp] theorem giveLimit_orderly (i : LaneNo) (ord : Orderly seq s₀ s) : Orderly seq s₀ (giveLimit i s) := by
  exact ord.trans (.of_beyond (giveLimit_beyond ..))

@[simp] theorem renewInjectors_orderly (i : LaneNo) (ord : Orderly seq s₀ s) : Orderly seq s₀ (renewInjectors i s) := by
  exact ord.trans (.of_beyond (renewInjectors_beyond ..))

@[simp] theorem startStroke_orderly (final : Bool) (i : LaneNo) (k : Nat) (j : InjNo) (ord : Orderly seq s₀ s) :
    Orderly seq s₀ (startStroke final i k j s) := by exact ord.trans (.of_beyond (startStroke_beyond ..))

@[simp] theorem considerLine_orderly (i : LaneNo) (k : Nat) (ord : Orderly seq s₀ s) :
    Orderly seq s₀ (considerLine i k s) := by exact ord.trans (.of_beyond (considerLine_beyond ..))

@[simp] theorem considerLane_orderly (i : LaneNo) (ord : Orderly seq s₀ s) : Orderly seq s₀ (considerLane i s) := by
  exact ord.trans (.of_beyond (considerLane_beyond ..))

@[simp] theorem dosePass_orderly (i : LaneNo) (dg : Nat) (ord : Orderly seq s₀ s) : Orderly seq s₀ (dosePass i dg s) := by
  exact ord.trans (.of_beyond (dosePass_beyond ..))

@[simp] theorem tryEndCycle_orderly (j : InjNo) (ord : Orderly seq s₀ s) : Orderly seq s₀ (tryEndCycle j s) := by
  unfold tryEndCycle
  split
  · have ended := modInj_orderly j endCycle ord
    dsimp only
    split
    · exact ended
    · refine foldl_orderly (fun t k ht => ?_) _ ended
      split
      · exact considerLine_orderly _ _ ht
      · exact ht
  · exact ord

@[simp] theorem orderFault_orderly (i : LaneNo) (ord : Orderly seq s₀ s) : Orderly seq s₀ (orderFault i s) := by
  exact ord.trans (.of_beyond (orderFault_beyond ..))

@[simp] theorem injectorFault_orderly (sv : Serving) (j : InjNo) (mandatory : Bool) (ord : Orderly seq s₀ s) :
    Orderly seq s₀ (injectorFault sv j mandatory s) := by
  have marked := giveLimit_orderly sv.lane (modAdditive_orderly sv.lane sv.slot faultLine
    (modInj_orderly j (fun x => { x with faultPending := true }) ord))
  unfold injectorFault
  dsimp only
  split
  · exact orderFault_orderly _ marked
  · exact marked

@[simp] theorem judge_orderly (j : InjNo) (pulse : Bool) (ord : Orderly seq s₀ s) : Orderly seq s₀ (judge j pulse s) := by
  unfold judge
  dsimp only
  repeat' split
  all_goals simp [ord]

@[simp] theorem decideFinal_orderly (i : LaneNo) (ord : Orderly seq s₀ s) : Orderly seq s₀ (decideFinal i s) := by
  exact ord.trans (.of_beyond (decideFinal_beyond ..))

@[simp] theorem tryCloseLine_orderly (i : LaneNo) (k : Nat) (ord : Orderly seq s₀ s) :
    Orderly seq s₀ (tryCloseLine i k s) := by exact ord.trans (.of_beyond (tryCloseLine_beyond ..))

@[simp] theorem tryCloseLines_orderly (i : LaneNo) (ord : Orderly seq s₀ s) : Orderly seq s₀ (tryCloseLines i s) := by
  exact ord.trans (.of_beyond (tryCloseLines_beyond ..))

@[simp] theorem closeAllLines_orderly (i : LaneNo) (ord : Orderly seq s₀ s) : Orderly seq s₀ (closeAllLines i s) := by
  exact ord.trans (.of_beyond (closeAllLines_beyond ..))

@[simp] theorem requestUrgent_orderly (ord : Orderly seq s₀ s) : Orderly seq s₀ (requestUrgent s) := by
  unfold requestUrgent
  split <;> simp [ord]

@[simp] theorem statusDueNow_orderly (ord : Orderly seq s₀ s) : Orderly seq s₀ (statusDueNow s) := by
  unfold statusDueNow
  split <;> simp [ord]

@[simp] theorem requestChange_orderly (ord : Orderly seq s₀ s) : Orderly seq s₀ (requestChange s) := by
  unfold requestChange
  repeat' split
  all_goals simp [ord]

@[simp] theorem statusMet_orderly (ord : Orderly seq s₀ s) : Orderly seq s₀ (statusMet s) := by simp [statusMet, ord]

theorem chooseFrame_kept {l m : Lif} (chosen : chooseFrame l = some m) :
    m.fifo.length ≤ l.fifo.length ∧ m.peers = l.peers ∧ m.station = l.station := by
  unfold chooseFrame at chosen
  repeat' split at chosen
  all_goals cases chosen
  all_goals exact ⟨by simp [*], rfl, rfl⟩

@[simp] theorem beginAttempt_orderly (quiet : Nat) (ord : Orderly seq s₀ s) : Orderly seq s₀ (beginAttempt quiet s) := by
  unfold beginAttempt
  repeat' split
  · exact ord
  · exact ord
  · exact ord
  · rename_i l chosen _ _ c _
    obtain ⟨fifo, peers, station⟩ := chooseFrame_kept chosen
    exact modLif_orderly (fun _ => { l with onLine := some (txPayload s c.frame), sent := 0 }) ⟨fifo, peers, station⟩ ord
  · exact ord

@[simp] theorem nextCurrent_orderly (ord : Orderly seq s₀ s) : Orderly seq s₀ (nextCurrent s) := by simp [nextCurrent, ord]

theorem dropFirst_length (a : TxFrame) (l : List TxFrame) : (dropFirst a l).length ≤ l.length := by
  induction l with
  | nil => exact le_rfl
  | cons b rest ih =>
    unfold dropFirst
    split
    · exact Nat.le_succ rest.length
    · exact Nat.succ_le_succ ih

@[simp] theorem withdrawFrame_orderly (permit : Word32) (ord : Orderly seq s₀ s) : Orderly seq s₀ (withdrawFrame permit s) := by
  unfold withdrawFrame
  exact modLif_orderly _ ⟨dropFirst_length _ _, rfl, rfl⟩ ord

@[simp] theorem adoptRackTime_orderly (p : Payload) (ord : Orderly seq s₀ s) : Orderly seq s₀ (adoptRackTime p s) := by
  unfold adoptRackTime
  repeat' split
  all_goals simp [ord]

@[simp] theorem offerPages_orderly (n : Nat) (ord : Orderly seq s₀ s) : Orderly seq s₀ (offerPages n s) := by
  induction n generalizing s with
  | zero => exact ord
  | succ n ih =>
    unfold offerPages
    repeat' split
    · exact ord
    · exact ih (modNtb_orderly _ (by simp) (enqueue_orderly_of ‹_› ord))
    · exact enqueue_orderly_of ‹_› ord
    · exact ord

@[simp] theorem beginNote_orderly (h : NoteHead) (lines : List OrderLine) (recovered : Bool) (ord : Orderly seq s₀ s) :
    Orderly seq s₀ (beginNote h lines recovered s) := by simp [beginNote, ord]

@[simp] theorem tryBuild_orderly (ord : Orderly seq s₀ s) : Orderly seq s₀ (tryBuild s) := by
  unfold tryBuild
  repeat' split
  all_goals simp [ord]

@[simp] theorem joinStatus_orderly (r : StatusReq) (ord : Orderly seq s₀ s) : Orderly seq s₀ (joinStatus r s) := by
  unfold joinStatus
  split
  · rename_i room
    exact modNtb_orderly_sizes _ (fun _ => by simpa using room) id id ord
  · exact ord

@[simp] theorem requestStatus_orderly (note : Nat) (f : StatusField) (code : Nat) (ord : Orderly seq s₀ s) :
    Orderly seq s₀ (requestStatus note f code s) := by
  unfold requestStatus
  repeat' split
  · exact enqueue_orderly_of ‹_› ord
  · exact joinStatus_orderly _ (enqueue_orderly_of ‹_› ord)
  · exact joinStatus_orderly _ ord

@[simp] theorem offerStatuses_orderly (n : Nat) (ord : Orderly seq s₀ s) : Orderly seq s₀ (offerStatuses n s) := by
  induction n generalizing s with
  | zero => exact ord
  | succ n ih =>
    unfold offerStatuses
    repeat' split
    · exact ord
    · rename_i r rest list _ t offer
      have same : t.ntb = s.ntb := by
        have e := enqueue_modStp ⟨.noteStatus r.note r.field r.code, false⟩ s
        rw [offer] at e
        exact (congrArg State.ntb e).trans rfl
      exact ih (modNtb_orderly _ (by rw [same, list]; simp) (enqueue_orderly_of offer ord))
    · exact enqueue_orderly_of ‹_› ord

@[simp] theorem ntbFreeSlot_orderly (ord : Orderly seq s₀ s) : Orderly seq s₀ (ntbFreeSlot s) := by simp [ntbFreeSlot, ord]

@[simp] theorem sendNext_orderly (ord : Orderly seq s₀ s) : Orderly seq s₀ (sendNext s) := by
  unfold sendNext
  repeat' split
  all_goals simp [ord]

@[simp] theorem beginPrint_orderly (ord : Orderly seq s₀ s) : Orderly seq s₀ (beginPrint s) := by
  unfold beginPrint
  split <;> simp [ord]

@[simp] theorem joinPrints_orderly (e : PrintEntry) (ord : Orderly seq s₀ s) : Orderly seq s₀ (joinPrints e s) := by
  have joined (l : List PrintEntry) (few : l.length ≤ 2) : Orderly seq s₀ (s.modNtb fun x => { x with prints := l }) :=
    modNtb_orderly_sizes _ id id (fun _ => few) ord
  unfold joinPrints
  split
  · dsimp only
    split
    · exact beginPrint_orderly (joined [e] (by simp))
    · exact joined [e] (by simp)
  · exact joined _ (by simp)
  · dsimp only
    split
    · exact joined _ (by simp)
    · exact requestStatus_orderly _ _ _ (joined _ (by simp))

@[simp] theorem finishPrint_orderly (code : Nat) (ord : Orderly seq s₀ s) : Orderly seq s₀ (finishPrint code s) := by
  unfold finishPrint
  split
  · exact ord
  · rename_i h rest prints
    exact beginPrint_orderly (requestStatus_orderly _ _ _ (modNtb_orderly _ (by simp [prints]) ord))

@[simp] theorem noteReady_orderly (note permit : Word32) (ord : Orderly seq s₀ s) : Orderly seq s₀ (noteReady note permit s) := by
  unfold noteReady
  split
  · exact offerFrame_orderly_of ‹_› ord
  · exact modNtb_orderly _ (by simp) (offerFrame_orderly_of ‹_› ord)

@[simp] theorem offerReady_orderly (ord : Orderly seq s₀ s) : Orderly seq s₀ (offerReady s) := by
  unfold offerReady
  repeat' split
  · exact ord
  · exact modNtb_orderly _ (by simp) (offerFrame_orderly_of ‹_› ord)
  · exact offerFrame_orderly_of ‹_› ord

theorem offerFrame_ntb_of {f : TxFrame} {s t : State} {b : Bool} (offer : offerFrame f s = (b, t)) : t.ntb = s.ntb := by
  obtain ⟨_, fifo, e⟩ := offerFrame_eq f s
  rw [e] at offer
  cases offer
  rfl

theorem offerFrame_pct_of {f : TxFrame} {s t : State} {b : Bool} (offer : offerFrame f s = (b, t)) : t.pct = s.pct := by
  obtain ⟨_, fifo, e⟩ := offerFrame_eq f s
  rw [e] at offer
  cases offer
  rfl

@[simp] theorem serve_orderly (n : Nat) (ord : Orderly seq s₀ s) : Orderly seq s₀ (serve n s) := by
  induction n generalizing s with
  | zero => exact ord
  | succ n ih =>
    unfold serve
    split
    · exact ord
    · split
      · exact ih (modNtb_orderly _ (by simp) ord)
      · exact askRead_orderly _ _ (modNtb_orderly _ (by simp) ord)
    · exact ord
    · exact modNtb_orderly _ (by simp) ord
    · rename_i image k a rest _ asks
      split
      · exact offerFrame_orderly_of ‹_› ord
      · rename_i t offer
        have same := offerFrame_ntb_of offer
        have taken := offerFrame_orderly_of offer ord
        split
        · exact ih (modNtb_orderly _ (by simp) taken)
        · exact ih (modNtb_orderly _ (by simp [same, asks]) taken)

@[simp] theorem takeAsk_orderly (a : Ask) (ord : Orderly seq s₀ s) : Orderly seq s₀ (takeAsk a s) := by
  unfold takeAsk
  split
  · exact ord
  · split
    · exact ord
    · rename_i room
      have joined : Orderly seq s₀ (s.modNtb fun x => { x with asks := x.asks ++ [a] }) :=
        modNtb_orderly_sizes _ id (fun _ => by simpa using room) id ord
      dsimp only
      split
      · exact serve_orderly _ joined
      · exact joined

@[simp] theorem ntbRoom_orderly (ord : Orderly seq s₀ s) : Orderly seq s₀ (ntbRoom s) := by
  unfold ntbRoom
  dsimp only
  repeat' split
  all_goals simp [ord]

@[simp] theorem askPage_orderly (page : List Byte) (ord : Orderly seq s₀ s) : Orderly seq s₀ (askPage page s) := by
  unfold askPage
  dsimp only
  repeat' split
  all_goals simp [ord]

@[simp] theorem askReprint_orderly (ord : Orderly seq s₀ s) : Orderly seq s₀ (askReprint s) := by
  unfold askReprint
  split <;> simp [ord]

@[simp] theorem reprintPage_orderly (page : List Byte) (ord : Orderly seq s₀ s) : Orderly seq s₀ (reprintPage page s) := by
  unfold reprintPage
  dsimp only
  repeat' split
  all_goals simp [ord]

@[simp] theorem pctSend_orderly (f : TxFrame) (ord : Orderly seq s₀ s) : Orderly seq s₀ (pctSend f s) := by
  unfold pctSend
  split
  · exact ord
  · split
    · exact offerFrame_orderly_of ‹_› ord
    · split
      · exact hold_orderly f ‹_› (offerFrame_orderly_of ‹_› ord)
      · exact offerFrame_orderly_of ‹_› ord

@[simp] theorem pctRoom_orderly (n : Nat) (ord : Orderly seq s₀ s) : Orderly seq s₀ (pctRoom n s) := by
  induction n generalizing s with
  | zero => exact ord
  | succ n ih =>
    unfold pctRoom
    repeat' split
    · exact ord
    · rename_i f rest held _ t offer
      exact ih (modPct_orderly _ (by simp [offerFrame_pct_of offer, held]) (offerFrame_orderly_of offer ord))
    · exact offerFrame_orderly_of ‹_› ord

@[simp] theorem pctMark_orderly (r : WriteReq) (ord : Orderly seq s₀ s) : Orderly seq s₀ (pctMark r s) := by
  have kept (t : State) (h : Orderly seq s₀ t) : Orderly seq s₀ (if t.pct.heldMarks.length < Config.heldMarks then
      t.modPct fun p => { p with heldMarks := p.heldMarks ++ [r] } else t) := by
    split
    · exact holdMark_orderly r ‹_› h
    · exact h
  unfold pctMark
  dsimp only
  split
  · split
    · exact enqueue_orderly_of ‹_› ord
    · exact kept _ (enqueue_orderly_of ‹_› ord)
  · exact kept s ord

@[simp] theorem pctFreeSlot_orderly (n : Nat) (ord : Orderly seq s₀ s) : Orderly seq s₀ (pctFreeSlot n s) := by
  induction n generalizing s with
  | zero => exact ord
  | succ n ih =>
    unfold pctFreeSlot
    repeat' split
    · exact ord
    · rename_i r rest held _ t offer
      have same : t.pct = s.pct := by
        have e := enqueue_modStp ⟨r, false⟩ s
        rw [offer] at e
        exact (congrArg State.pct e).trans rfl
      exact ih (modPct_orderly _ (by simp [same, held]) (enqueue_orderly_of offer ord))
    · exact enqueue_orderly_of ‹_› ord

@[simp] theorem refusalPulse_orderly (ord : Orderly seq s₀ s) : Orderly seq s₀ (refusalPulse s) := by
  unfold refusalPulse
  split <;> simp [ord]

@[simp] theorem refuseCard_orderly (r : CardRefusal) (ord : Orderly seq s₀ s) : Orderly seq s₀ (refuseCard r s) := by
  simp [refuseCard, ord]

@[simp] theorem refuseTrip_orderly (r : CardRefusal) (ord : Orderly seq s₀ s) : Orderly seq s₀ (refuseTrip r s) := by
  unfold refuseTrip
  exact refuseCard_orderly r (modPct_orderly_slot _ (by simp) (by simp) rfl rfl ord)

@[simp] theorem withdrawClaim_orderly (permit : Word32) (ord : Orderly seq s₀ s) : Orderly seq s₀ (withdrawClaim permit s) :=
  withdrawFrame_orderly permit (modPct_orderly _ ⟨rfl, rfl, dropFirst_length _ _, le_rfl, rfl⟩ ord)

@[simp] theorem hearClaim_orderly (sender : Nat) (permit : Word32) (ord : Orderly seq s₀ s) :
    Orderly seq s₀ (hearClaim sender permit s) := by
  unfold hearClaim
  repeat' split
  all_goals simp [ord]

@[simp] theorem hearHeld_orderly (permit : Word32) (ord : Orderly seq s₀ s) : Orderly seq s₀ (hearHeld permit s) := by
  unfold hearHeld
  repeat' split
  all_goals simp [ord]

@[simp] theorem claimEcho_orderly (permit : Word32) (ord : Orderly seq s₀ s) : Orderly seq s₀ (claimEcho permit s) := by
  unfold claimEcho
  split <;> simp [ord]

@[simp] theorem claimDiscarded_orderly (permit : Word32) (ord : Orderly seq s₀ s) :
    Orderly seq s₀ (claimDiscarded permit s) := by
  unfold claimDiscarded
  split <;> simp [ord]

@[simp] theorem claimCutOff_orderly (ord : Orderly seq s₀ s) : Orderly seq s₀ (claimCutOff s) := by
  unfold claimCutOff
  repeat' split
  all_goals simp [ord]

@[simp] theorem slotEmpty_orderly (ord : Orderly seq s₀ s) : Orderly seq s₀ (slotEmpty s) :=
  modPct_orderly_slot _ (by simp) (by simp) rfl rfl ord

@[simp] theorem sendWrite_orderly (kind : WriteOf) (stamp : Stamp) (ord : Orderly seq s₀ s) :
    Orderly seq s₀ (sendWrite kind stamp s) := by simp [sendWrite, ord]

@[simp] theorem writeTripStamp_orderly (ord : Orderly seq s₀ s) : Orderly seq s₀ (writeTripStamp s) := by
  unfold writeTripStamp
  split <;> simp [ord]

@[simp] theorem writePending_orderly (ord : Orderly seq s₀ s) : Orderly seq s₀ (writePending s) := by
  unfold writePending
  split <;> simp [ord]

@[simp] theorem stampToPending_orderly (ord : Orderly seq s₀ s) : Orderly seq s₀ (stampToPending s) := by
  simp [stampToPending, ord]

@[simp] theorem clearPending_orderly (ord : Orderly seq s₀ s) : Orderly seq s₀ (clearPending s) := by simp [clearPending, ord]

@[simp] theorem lapsePending_orderly (ord : Orderly seq s₀ s) : Orderly seq s₀ (lapsePending s) := by
  unfold lapsePending
  split <;> simp [ord]

@[simp] theorem endWrite_orderly (ord : Orderly seq s₀ s) : Orderly seq s₀ (endWrite s) := by simp [endWrite, ord]

@[simp] theorem writeSucceeded_orderly (ord : Orderly seq s₀ s) : Orderly seq s₀ (writeSucceeded s) := by
  have ended := endWrite_orderly ord
  unfold writeSucceeded
  repeat' split
  · exact ord
  · exact ended
  · exact requestStatus_orderly _ _ _ (slotEmpty_orderly ended)
  · exact ended
  · exact requestStatus_orderly _ _ _ (clearPending_orderly ended)
  · exact requestStatus_orderly _ _ _ ended

@[simp] theorem writeFailed_orderly (ord : Orderly seq s₀ s) : Orderly seq s₀ (writeFailed s) := by
  unfold writeFailed
  repeat' split
  all_goals simp [ord]

@[simp] theorem displacePending_orderly (ord : Orderly seq s₀ s) : Orderly seq s₀ (displacePending s) := by
  unfold displacePending
  split <;> simp [ord]

@[simp] theorem noteSealed_orderly (b : Build) (ord : Orderly seq s₀ s) : Orderly seq s₀ (noteSealed b s) := by
  unfold noteSealed
  split
  · exact ord
  · rename_i t trip
    have held : (pctMark (.markClosed (closeHead t.marker)) (pctSend (.release t.permit) (displacePending s))).pct.trip.isSome = true := by
      have same : (pctMark (.markClosed (closeHead t.marker)) (pctSend (.release t.permit) (displacePending s))).slotHeld =
          s.slotHeld := by simp
      have present := congrArg Prod.snd same
      rw [State.slotHeld, State.slotHeld, trip] at present
      exact present
    have sent := pctMark_orderly (.markClosed (closeHead t.marker)) (pctSend_orderly (.release t.permit) (displacePending_orderly ord))
    dsimp only
    generalize pctMark (.markClosed (closeHead t.marker)) (pctSend (.release t.permit) (displacePending s)) = u at held sent
    refine modPct_orderly_slot _ ⟨nofun, fun none => ?_⟩ nofun rfl rfl sent
    have none : u.pct.trip = Option.none := none
    rw [none] at held
    cases held

@[simp] theorem openCompartment_orderly (i : LaneNo) (ord : Orderly seq s₀ s) : Orderly seq s₀ (openCompartment i s) := by
  exact ord.trans (.of_beyond (openCompartment_beyond ..))

@[simp] theorem enterFlowing_orderly (i : LaneNo) (st : Stage) (ord : Orderly seq s₀ s) :
    Orderly seq s₀ (enterFlowing i st s) := by exact ord.trans (.of_beyond (enterFlowing_beyond ..))

@[simp] theorem resumeOpen_orderly (i : LaneNo) (ord : Orderly seq s₀ s) : Orderly seq s₀ (resumeOpen i s) := by
  exact ord.trans (.of_beyond (resumeOpen_beyond ..))

@[simp] theorem startLane_orderly (i : LaneNo) (ord : Orderly seq s₀ s) : Orderly seq s₀ (startLane i s) := by
  exact ord.trans (.of_beyond (startLane_beyond ..))

@[simp] theorem offerTotal_orderly (i : LaneNo) (gross std : Word48) (ord : Orderly seq s₀ s) :
    Orderly seq s₀ (offerTotal i gross std s) := by exact ord.trans (.of_beyond (offerTotal_beyond ..))

@[simp] theorem offerWaiting_orderly (i : LaneNo) (ord : Orderly seq s₀ s) : Orderly seq s₀ (offerWaiting i s) := by
  exact ord.trans (.of_beyond (offerWaiting_beyond ..))

@[simp] theorem offerAfter_orderly (i : LaneNo) (ord : Orderly seq s₀ s) : Orderly seq s₀ (offerAfter i s) := by
  exact ord.trans (.of_beyond (offerAfter_beyond ..))

@[simp] theorem handOver_orderly (i : LaneNo) (reason : EndReason) (ord : Orderly seq s₀ s) :
    Orderly seq s₀ (handOver i reason s) := by exact ord.trans (.of_beyond (handOver_beyond ..))

@[simp] theorem endSuspended_orderly (i : LaneNo) (ord : Orderly seq s₀ s) : Orderly seq s₀ (endSuspended i s) := by
  exact ord.trans (.of_beyond (endSuspended_beyond ..))

@[simp] theorem closeLineOf_orderly (k : Nat) (ord : Orderly seq s₀ s) : Orderly seq s₀ (closeLineOf k s) := by
  unfold closeLineOf
  repeat' split
  all_goals simp [ord]

@[simp] theorem reportFault_orderly (i : LaneNo) (reason : EndReason) (ord : Orderly seq s₀ s) :
    Orderly seq s₀ (reportFault i reason s) := by
  unfold reportFault
  split <;> simp [ord]

@[simp] theorem learnOvershoot_orderly (i : LaneNo) (ord : Orderly seq s₀ s) : Orderly seq s₀ (learnOvershoot i s) := by
  exact ord.trans (.of_beyond (learnOvershoot_beyond ..))

@[simp] theorem giveShare_orderly (i : LaneNo) (share : Nat) (ord : Orderly seq s₀ s) :
    Orderly seq s₀ (giveShare i share s) := by simp [giveShare, ord]

@[simp] theorem giveShares_orderly (h allotment : Nat) (ord : Orderly seq s₀ s) :
    Orderly seq s₀ (giveShares h allotment s) := by
  unfold giveShares
  with_reducible refine foldl_orderly (fun t a ht => ?_) _ ord
  simp [ht]

@[simp] theorem setShare_orderly (h : Nat) (x : Share) (ord : Orderly seq s₀ s) : Orderly seq s₀ (setShare h x s) := by
  simp [setShare, ord]

@[simp] theorem computeHeader_orderly (h : Nat) (ord : Orderly seq s₀ s) : Orderly seq s₀ (computeHeader h s) := by
  unfold computeHeader
  repeat' split
  all_goals simp [ord]

@[simp] theorem computeShares_orderly (ord : Orderly seq s₀ s) : Orderly seq s₀ (computeShares s) := by
  have formed : Orderly seq s₀ (allHeaders.foldl (fun u h => computeHeader h u) s) :=
    foldl_orderly (fun t h ht => computeHeader_orderly h ht) _ ord
  unfold computeShares
  dsimp only
  generalize allHeaders.foldl (fun u h => computeHeader h u) s = u at formed
  have slot : Orderly seq s₀ (u.modLif fun l => { l with slot := ownEntries u }) := modLif_orderly _ ⟨le_rfl, rfl, rfl⟩ formed
  split
  · exact requestChange_orderly slot
  · exact slot

@[simp] theorem suspendAll_orderly (cause : Cause) (ord : Orderly seq s₀ s) : Orderly seq s₀ (suspendAll cause s) := by
  unfold suspendAll
  with_reducible refine eachLane_orderly (fun i t ht => ?_) ord
  split <;> simp [ht]

@[simp] theorem haltEdge_orderly (before : Bool) (ord : Orderly seq s₀ s) : Orderly seq s₀ (haltEdge before s) := by
  unfold haltEdge
  split <;> simp [ord]

@[simp] theorem setLink_orderly (l : Link) (ord : Orderly seq s₀ s) : Orderly seq s₀ (setLink l s) := by
  have formed : Orderly seq s₀ (computeShares (s.modLif fun x => { x with link := l })) :=
    computeShares_orderly (modLif_orderly _ ⟨le_rfl, rfl, rfl⟩ ord)
  unfold setLink
  dsimp only
  generalize computeShares (s.modLif fun x => { x with link := l }) = u at formed
  split
  · exact claimCutOff_orderly formed
  · exact claimCutOff_orderly formed
  · exact formed

@[simp] theorem enterListen_orderly (ord : Orderly seq s₀ s) : Orderly seq s₀ (enterListen s) := by simp [enterListen, ord]

@[simp] theorem enterMute_orderly (cause : MuteCause) (ord : Orderly seq s₀ s) : Orderly seq s₀ (enterMute cause s) := by
  simp [enterMute, ord]

@[simp] theorem enterJoin_orderly (ord : Orderly seq s₀ s) : Orderly seq s₀ (enterJoin s) := by simp [enterJoin, ord]

@[simp] theorem joinFailed_orderly (ord : Orderly seq s₀ s) : Orderly seq s₀ (joinFailed s) := by
  unfold joinFailed
  split <;> simp [ord]

@[simp] theorem enterHeldLine_orderly (ord : Orderly seq s₀ s) : Orderly seq s₀ (enterHeldLine s) := by
  unfold enterHeldLine
  refine setLink_orderly _ (modLif_orderly_peers _ rfl (fun _ => ?_) ord)
  exact ⟨.nil, nofun⟩

@[simp] theorem enterRun_orderly (ord : Orderly seq s₀ s) : Orderly seq s₀ (enterRun s) := by simp [enterRun, ord]

@[simp] theorem discardFrame_orderly (c : Current) (ord : Orderly seq s₀ s) : Orderly seq s₀ (discardFrame c s) := by
  unfold discardFrame
  repeat' split
  all_goals simp [ord]

@[simp] theorem collided_orderly (ord : Orderly seq s₀ s) : Orderly seq s₀ (collided s) := by
  unfold collided
  repeat' split
  all_goals simp [ord]

@[simp] theorem echoDropped_orderly (ord : Orderly seq s₀ s) : Orderly seq s₀ (echoDropped s) := by
  unfold echoDropped
  split <;> simp [ord]

@[simp] theorem statusSent_orderly (entries : List HeaderEntry) (ord : Orderly seq s₀ s) :
    Orderly seq s₀ (statusSent entries s) := by simp [statusSent, ord]

@[simp] theorem ownEchoOf_orderly (p : Payload) (ord : Orderly seq s₀ s) : Orderly seq s₀ (ownEchoOf p s) := by
  have done (t : State) (h : Orderly seq s₀ t) :
      Orderly seq s₀ (nextCurrent (t.modLif fun l => { l with onLine := none, ownLast := true })) :=
    nextCurrent_orderly (modLif_orderly _ ⟨le_rfl, rfl, rfl⟩ h)
  unfold ownEchoOf
  dsimp only
  split
  · split
    · exact enterRun_orderly (done _ (statusSent_orderly _ ord))
    · exact statusMet_orderly (done _ (statusSent_orderly _ ord))
  · exact claimEcho_orderly _ (done _ ord)
  · exact done _ ord

@[simp] theorem conflictHeard_orderly (ord : Orderly seq s₀ s) : Orderly seq s₀ (conflictHeard s) := by
  unfold conflictHeard
  split <;> simp [ord]

@[simp] theorem peerHeard_orderly (ord : Orderly seq s₀ s) : Orderly seq s₀ (peerHeard s) := by
  unfold peerHeard
  split <;> simp [ord]

@[simp] theorem sulOffer_orderly (r : WriteReq) (ord : Orderly seq s₀ s) : Orderly seq s₀ (sulOffer r s) := by
  unfold sulOffer
  repeat' split
  · exact enqueue_orderly_of ‹_› ord
  · exact modSul_orderly _ (fun _ => ⟨rfl, rfl, rfl, id⟩) (enqueue_orderly_of ‹_› ord)
  · exact modSul_orderly _ (fun _ => ⟨rfl, rfl, rfl, id⟩) ord

@[simp] theorem sulFreeSlot_orderly (n : Nat) (ord : Orderly seq s₀ s) : Orderly seq s₀ (sulFreeSlot n s) := by
  induction n generalizing s with
  | zero => exact ord
  | succ n ih =>
    unfold sulFreeSlot
    repeat' split
    · exact ord
    · exact ih (modSul_orderly _ (fun _ => ⟨rfl, rfl, rfl, id⟩) (enqueue_orderly_of ‹_› ord))
    · exact enqueue_orderly_of ‹_› ord

@[simp] theorem dropPiu_orderly (i : LaneNo) (ord : Orderly seq s₀ s) : Orderly seq s₀ (dropPiu i s) := by
  unfold dropPiu
  split <;> simp [ord]

@[simp] theorem dropUnfitted_orderly (ord : Orderly seq s₀ s) : Orderly seq s₀ (dropUnfitted s) := by
  unfold dropUnfitted
  with_reducible refine eachLane_orderly (fun i t ht => ?_) ord
  simp [ht]

theorem modCfg_orderly (c : Tables) (ord : Orderly seq s₀ s) : Orderly seq s₀ { s with cfg := c } :=
  ord.trans ⟨rfl, id, id, fun _ => ⟨rfl, rfl, rfl, id⟩, id, fun x => ⟨x, rfl⟩⟩

@[simp] theorem configFaultAt_orderly (code entry : Nat) (ord : Orderly false s₀ s) :
    Orderly false s₀ (configFaultAt code entry s) := by
  unfold configFaultAt
  exact dropUnfitted_orderly (modCfg_orderly {} (modSul_orderly _ nofun ord))

@[simp] theorem imageRead_orderly (bytes : List Byte) (ord : Orderly false s₀ s) : Orderly false s₀ (imageRead bytes s) := by
  unfold imageRead
  split
  · exact configFaultAt_orderly _ _ ord
  · exact askRead_orderly _ _ (modSul_orderly _ nofun (dropUnfitted_orderly (modCfg_orderly _ ord)))

@[simp] theorem headerPage_orderly (page : List Byte) (ord : Orderly false s₀ s) : Orderly false s₀ (headerPage page s) := by
  unfold headerPage
  repeat' split
  all_goals simp [ord]

@[simp] theorem imagePage_orderly (last : Nat) (page : List Byte) (ord : Orderly false s₀ s) :
    Orderly false s₀ (imagePage last page s) := by
  unfold imagePage
  split <;> simp [ord]

@[simp] theorem setTotals_orderly (i : LaneNo) (g t : Word48) (ord : Orderly seq s₀ s) :
    Orderly seq s₀ (setTotals i g t s) := by simp [setTotals, ord]

@[simp] theorem totalsPage_orderly (k : Nat) (page : List Byte) (ord : Orderly false s₀ s) :
    Orderly false s₀ (totalsPage k page s) := by
  unfold totalsPage
  dsimp only
  split <;> exact askRead_orderly _ _ (modSul_orderly _ nofun (modSul_orderly _ nofun (modStp_orderly _ (setTotals_orderly _ _ _ ord))))

@[simp] theorem nextSlot_orderly (slot : Nat) (ord : Orderly false s₀ s) : Orderly false s₀ (nextSlot slot s) := by
  unfold nextSlot
  split
  · exact askRead_orderly _ _ (modSul_orderly _ nofun ord)
  · exact askRead_orderly _ _ (modSul_orderly _ nofun (modNtb_orderly _ (by simp) ord))

@[simp] theorem slotRead_orderly (slot : Nat) (bytes : List Byte) (ord : Orderly false s₀ s) :
    Orderly false s₀ (slotRead slot bytes s) := by
  unfold slotRead
  dsimp only
  split
  · refine nextSlot_orderly slot ?_
    split
    · exact sulOffer_orderly _ (modSul_orderly _ nofun ord)
    · exact modSul_orderly _ nofun ord
  · exact nextSlot_orderly slot ord

@[simp] theorem slotFirst_orderly (slot : Nat) (page : List Byte) (ord : Orderly false s₀ s) :
    Orderly false s₀ (slotFirst slot page s) := by
  unfold slotFirst
  repeat' split
  all_goals simp [ord]

@[simp] theorem slotNext_orderly (slot left : Nat) (page : List Byte) (ord : Orderly false s₀ s) :
    Orderly false s₀ (slotNext slot left page s) := by
  unfold slotNext
  split <;> simp [ord]

@[simp] theorem toSettle_orderly (ord : Orderly false s₀ s) : Orderly false s₀ (toSettle s) := by simp [toSettle, ord]

@[simp] theorem raiseTotals_orderly (i : LaneNo) (g t : Word48) (ord : Orderly seq s₀ s) :
    Orderly seq s₀ (raiseTotals i g t s) := by simp [raiseTotals, ord]

@[simp] theorem offerTotals_orderly (ord : Orderly seq s₀ s) : Orderly seq s₀ (offerTotals s) := by
  unfold offerTotals
  with_reducible refine eachLane_orderly (fun i t ht => ?_) ord
  split <;> simp [ht]

@[simp] theorem settleSealed_orderly (m : Marker) (note : List Byte) (ord : Orderly false s₀ s) :
    Orderly false s₀ (settleSealed m note s) := by
  unfold settleSealed
  exact toSettle_orderly (sulOffer_orderly _ (offerTotals_orderly (foldl_orderly (fun t a ht => raiseTotals_orderly _ _ _ ht) _ ord)))

@[simp] theorem passOne_orderly (c : Option CheckRec) (l : OrderLine) (ord : Orderly seq s₀ s) :
    Orderly seq s₀ (passOne c l s) := by
  unfold passOne
  repeat' split
  all_goals simp [ord]

@[simp] theorem passTwo_orderly (number k : Nat) (ord : Orderly seq s₀ s) : Orderly seq s₀ (passTwo number k s) := by
  unfold passTwo
  repeat' split
  all_goals simp [ord]

@[simp] theorem rebuilt_orderly (m : Marker) (ord : Orderly false s₀ s) : Orderly false s₀ (rebuilt m s) := by
  unfold rebuilt
  exact modSul_orderly _ nofun (toSettle_orderly (offerTotals_orderly (foldl_orderly (fun t k ht => passTwo_orderly _ _ ht) _ ord)))

@[simp] theorem nextCheck_orderly (m : Marker) (start : Nat) (ord : Orderly false s₀ s) :
    Orderly false s₀ (nextCheck m start s) := by
  unfold nextCheck
  split <;> simp [ord]

@[simp] theorem checkPage_orderly (m : Marker) (line : Nat) (page : List Byte) (ord : Orderly false s₀ s) :
    Orderly false s₀ (checkPage m line page s) := by
  unfold checkPage
  dsimp only
  split
  · exact rebuilt_orderly m ord
  · exact nextCheck_orderly _ _ (modSul_orderly _ nofun (passOne_orderly _ _ ord))

@[simp] theorem sealedRead_orderly (bytes : List Byte) (ord : Orderly false s₀ s) :
    Orderly false s₀ (sealedRead bytes s) := by
  unfold sealedRead
  repeat' split
  all_goals simp [ord]

@[simp] theorem sealedFirst_orderly (page : List Byte) (ord : Orderly false s₀ s) :
    Orderly false s₀ (sealedFirst page s) := by
  unfold sealedFirst
  repeat' split
  all_goals simp [ord]

@[simp] theorem sealedNext_orderly (left : Nat) (page : List Byte) (ord : Orderly false s₀ s) :
    Orderly false s₀ (sealedNext left page s) := by
  unfold sealedNext
  split <;> simp [ord]

@[simp] theorem markHeadPage_orderly (page : List Byte) (ord : Orderly false s₀ s) :
    Orderly false s₀ (markHeadPage page s) := by
  unfold markHeadPage
  split <;> simp [ord]

@[simp] theorem markLinesPage_orderly (page : List Byte) (ord : Orderly false s₀ s) :
    Orderly false s₀ (markLinesPage page s) := by
  unfold markLinesPage
  repeat' split
  all_goals simp [ord]

@[simp] theorem sulPage_orderly (page : List Byte) (ord : Orderly false s₀ s) : Orderly false s₀ (sulPage page s) := by
  unfold sulPage
  repeat' split
  all_goals simp [ord]

@[simp] theorem recoveryNote_orderly (ord : Orderly seq s₀ s) : Orderly seq s₀ (recoveryNote s) := by
  unfold recoveryNote
  repeat' split
  · exact ord
  · exact beginNote_orderly _ _ _ (modSul_orderly _ (fun _ => ⟨rfl, rfl, rfl, nofun⟩) ord)
  · exact ord

@[simp] theorem recoverySealed_orderly (ord : Orderly seq s₀ s) : Orderly seq s₀ (recoverySealed s) := by
  unfold recoverySealed
  split
  · exact ord
  · exact sulOffer_orderly _ (modSul_orderly _ (fun _ => ⟨rfl, rfl, rfl, nofun⟩) ord)

@[simp] theorem startLanes_orderly (ord : Orderly seq s₀ s) : Orderly seq s₀ (startLanes s) := by
  unfold startLanes
  with_reducible refine eachLane_orderly (fun i t ht => ?_) ord
  split <;> simp [ht]

@[simp] theorem completeFault_orderly (ord : Orderly false s₀ s) : Orderly false s₀ (completeFault s) := by
  unfold completeFault
  exact sendNext_orderly (modNtb_orderly _ (by simp) (modIlm_orderly _ (modSul_orderly _ nofun ord)))

@[simp] theorem completeNormal_orderly (ord : Orderly false s₀ s) : Orderly false s₀ (completeNormal s) := by
  unfold completeNormal
  exact beginPrint_orderly (offerReady_orderly (modHsu_orderly _ (startLanes_orderly (enterListen_orderly
    (modSul_orderly _ nofun ord)))))

@[simp] theorem reportFreeSlot_orderly (ord : Orderly seq s₀ s) : Orderly seq s₀ (reportFreeSlot s) := by
  unfold reportFreeSlot
  split
  · exact sulFreeSlot_orderly _ (ntbFreeSlot_orderly (pctFreeSlot_orderly _
      (eachLane_orderly (fun i t ht => offerAfter_orderly i ht) (modStp_orderly _ ord))))
  · exact ord

@[simp] theorem reportRoom_orderly (ord : Orderly seq s₀ s) : Orderly seq s₀ (reportRoom s) := by
  unfold reportRoom
  split
  · exact ntbRoom_orderly (pctRoom_orderly _ (modLif_orderly _ ⟨le_rfl, rfl, rfl⟩ ord))
  · exact ord

@[simp] theorem statusPage_orderly (page : List Byte) (ord : Orderly seq s₀ s) : Orderly seq s₀ (statusPage page s) := by
  unfold statusPage
  repeat' split
  all_goals simp [ord]

@[simp] theorem deliverPage_orderly (owner : Reader) (page : List Byte) (ord : Orderly false s₀ s) :
    Orderly false s₀ (deliverPage owner page s) := by
  unfold deliverPage
  split <;> simp [ord]

@[simp] theorem sealNote_orderly (b : Build) (ord : Orderly seq s₀ s) : Orderly seq s₀ (sealNote b s) := by
  have counted : Orderly seq s₀ (s.modNtb fun x => { x with next := x.next + 1 }) := modNtb_orderly _ (by simp) ord
  unfold sealNote
  refine modNtb_orderly _ (by simp) (joinPrints_orderly _ (noteReady_orderly _ _ ?_))
  split
  · exact recoverySealed_orderly counted
  · exact noteSealed_orderly b counted

@[simp] theorem reportDone_orderly (q : QItem) (ord : Orderly seq s₀ s) : Orderly seq s₀ (reportDone q s) := by
  unfold reportDone
  repeat' split
  · exact ord
  · exact sealNote_orderly _ ord
  · exact ord
  · exact modSul_orderly _ (fun _ => ⟨rfl, rfl, rfl, nofun⟩) ord
  · exact ord
  · exact ord

@[simp] theorem stepDone_orderly (ord : Orderly seq s₀ s) : Orderly seq s₀ (stepDone s) := by
  unfold stepDone
  repeat' split
  · exact ord
  · exact flightDone_orderly (reportDone_orderly _ (recordCopy_orderly _ ord))
  · exact modStp_orderly _ ord

@[simp] theorem lapseLane_orderly (i : LaneNo) (ord : Orderly seq s₀ s) : Orderly seq s₀ (lapseLane i s) := by
  exact ord.trans (.of_beyond (lapseLane_beyond ..))

@[simp] theorem markLapse_orderly (i : LaneNo) (ord : Orderly seq s₀ s) : Orderly seq s₀ (markLapse i s) := by
  exact ord.trans (.of_beyond (markLapse_beyond ..))

@[simp] theorem permissiveDrop_orderly (ord : Orderly seq s₀ s) : Orderly seq s₀ (permissiveDrop s) := by
  have marked : Orderly seq s₀ (s.eachLane markLapse) := eachLane_orderly (fun i t ht => markLapse_orderly i ht) ord
  unfold permissiveDrop
  dsimp only
  split
  · exact marked
  · exact eachLane_orderly (fun i t ht => lapseLane_orderly i ht) (modIlm_orderly _ marked)

@[simp] theorem dropOutputs_orderly (i : LaneNo) (ord : Orderly seq s₀ s) : Orderly seq s₀ (dropOutputs i s) := by
  exact ord.trans (.of_beyond (dropOutputs_beyond ..))

@[simp] theorem permissiveEffect_orderly (good : Bool) (ord : Orderly seq s₀ s) : Orderly seq s₀ (permissiveEffect good s) := by
  unfold permissiveEffect
  refine eachLane_orderly (fun i t ht => dropOutputs_orderly i ht) ?_
  split
  · exact permissiveDrop_orderly ord
  · exact ord

@[simp] theorem latchLane_orderly (i : LaneNo) (ord : Orderly seq s₀ s) : Orderly seq s₀ (latchLane i s) := by
  simp [latchLane, ord]

@[simp] theorem armLost_orderly (i : LaneNo) (ord : Orderly seq s₀ s) : Orderly seq s₀ (armLost i s) := by
  unfold armLost
  split <;> simp [ord]

@[simp] theorem clearLeak_orderly (i : LaneNo) (ord : Orderly seq s₀ s) : Orderly seq s₀ (clearLeak i s) := by
  simp [clearLeak, ord]

@[simp] theorem ackEffect_orderly (ord : Orderly seq s₀ s) : Orderly seq s₀ (ackEffect s) :=
  eachLane_orderly (fun i _ ht => clearLeak_orderly i ht) (modIlm_orderly _ (modIlm_orderly _ ord))

/-- Some entries of the peer table are removed. -/
theorem filterPeers_orderly (p : Peer → Bool) (ord : Orderly seq s₀ s) :
    Orderly seq s₀ (s.modLif fun l => { l with peers := l.peers.filter p }) := by
  refine modLif_orderly_peers _ rfl (fun ⟨sorted, ok⟩ => ⟨?_, fun e mem => ok e (List.mem_of_mem_filter mem)⟩) ord
  exact sorted.sublist (List.filter_sublist.map _)

@[simp] theorem takeOverride_orderly (ord : Orderly seq s₀ s) : Orderly seq s₀ (takeOverride s) :=
  modTripFlags_orderly _ (filterPeers_orderly _ ord)

@[simp] theorem holdEffect_orderly (ord : Orderly seq s₀ s) : Orderly seq s₀ (holdEffect s) := by
  unfold holdEffect
  dsimp only
  repeat' split
  all_goals simp [ord]

@[simp] theorem pulseStep_orderly (i : LaneNo) (pt : PulseTick) (ord : Orderly seq s₀ s) :
    Orderly seq s₀ (pulseStep i pt s) := by exact ord.trans (.of_beyond (pulseStep_beyond ..))

@[simp] theorem volumeStep_orderly (i : LaneNo) (p : Pass) (ord : Orderly seq s₀ s) : Orderly seq s₀ (volumeStep i p s) := by
  exact ord.trans (.of_beyond (volumeStep_beyond ..))

@[simp] theorem stageStep_orderly (c : LaneCfg) (i : LaneNo) (ord : Orderly seq s₀ s) :
    Orderly seq s₀ (stageStep c i s) := by exact ord.trans (.of_beyond (stageStep_beyond ..))

@[simp] theorem noFlowStep_orderly (i : LaneNo) (pulses : Nat) (d : Steer) (ord : Orderly seq s₀ s) :
    Orderly seq s₀ (noFlowStep i pulses d s) := by exact ord.trans (.of_beyond (noFlowStep_beyond ..))

@[simp] theorem steerStep_orderly (i : LaneNo) (pulses : Nat) (ord : Orderly seq s₀ s) :
    Orderly seq s₀ (steerStep i pulses s) := by exact ord.trans (.of_beyond (steerStep_beyond ..))

@[simp] theorem checkpointStep_orderly (i : LaneNo) (before : Stage) (gross : Nat) (ord : Orderly seq s₀ s) :
    Orderly seq s₀ (checkpointStep i before gross s) := by exact ord.trans (.of_beyond (checkpointStep_beyond ..))

@[simp] theorem leakReport_orderly (before after : Nat) (ord : Orderly seq s₀ s) :
    Orderly seq s₀ (leakReport before after s) := by
  unfold leakReport
  split <;> simp [ord]

@[simp] theorem leakLanePass_orderly (i : LaneNo) (c : VenCfg) (raw : Nat) (ord : Orderly seq s₀ s) :
    Orderly seq s₀ (leakLanePass i c raw s) := by simp [leakLanePass, ord]

@[simp] theorem endStep_orderly (i : LaneNo) (ord : Orderly seq s₀ s) : Orderly seq s₀ (endStep i s) := by
  exact ord.trans (.of_beyond (endStep_beyond ..))

@[simp] theorem edgeA_orderly (i : LaneNo) (cap : Word32) (ord : Orderly seq s₀ s) : Orderly seq s₀ (edgeA i cap s) := by
  exact ord.trans (.of_beyond (edgeA_beyond ..))

@[simp] theorem edgeB_orderly (i : LaneNo) (cap : Word32) (ord : Orderly seq s₀ s) : Orderly seq s₀ (edgeB i cap s) := by
  exact ord.trans (.of_beyond (edgeB_beyond ..))

@[simp] theorem unexpected_orderly (j : InjNo) (ord : Orderly seq s₀ s) : Orderly seq s₀ (unexpected j s) := by
  unfold unexpected
  repeat' split
  all_goals simp [ord]

@[simp] theorem pulseTaken_orderly (j : InjNo) (ord : Orderly seq s₀ s) : Orderly seq s₀ (pulseTaken j s) := by
  unfold pulseTaken
  split <;> simp [ord]

@[simp] theorem hearAsk_orderly (sender target : Nat) (note : Word32) (ord : Orderly seq s₀ s) :
    Orderly seq s₀ (hearAsk sender target note s) := by
  unfold hearAsk
  split <;> simp [ord]

@[simp] theorem aloneEnd_orderly (ord : Orderly seq s₀ s) : Orderly seq s₀ (aloneEnd s) := by
  unfold aloneEnd
  dsimp only
  repeat' split
  all_goals simp [ord]

@[simp] theorem listenEnd_orderly (ord : Orderly seq s₀ s) : Orderly seq s₀ (listenEnd s) := by
  unfold listenEnd
  split <;> simp [ord]

/-- The entries of the peer table change in place. -/
theorem mapPeers_orderly (f : Peer → Peer) (station : ∀ e, (f e).station = e.station) (ord : Orderly seq s₀ s) :
    Orderly seq s₀ (s.modLif fun l => { l with peers := l.peers.map f }) := by
  refine modLif_orderly_peers _ rfl (fun ⟨sorted, ok⟩ => ⟨?_, fun e mem => ?_⟩) ord
  · have same : (s.lif.peers.map f).map (·.station) = s.lif.peers.map (·.station) := by
      rw [List.map_map]
      exact List.map_congr_left fun e _ => station e
    exact same ▸ sorted
  · obtain ⟨x, was, rfl⟩ := List.mem_map.1 mem
    rw [station]
    exact ok x was

@[simp] theorem mapPeer_orderly (n : Nat) (f : Peer → Peer) (station : ∀ e, (f e).station = e.station)
    (ord : Orderly seq s₀ s) : Orderly seq s₀ (mapPeer n f s) :=
  mapPeers_orderly _ (fun e => by split <;> simp [station]) ord

@[simp] theorem dropPeer_orderly (station : Nat) (ord : Orderly seq s₀ s) : Orderly seq s₀ (dropPeer station s) :=
  filterPeers_orderly _ ord

@[simp] theorem busyAsserted_orderly (ord : Orderly seq s₀ s) : Orderly seq s₀ (busyAsserted s) := by simp [busyAsserted, ord]

@[simp] theorem busyReleased_orderly (ord : Orderly seq s₀ s) : Orderly seq s₀ (busyReleased s) := by simp [busyReleased, ord]

@[simp] theorem characterGone_orderly (ord : Orderly seq s₀ s) : Orderly seq s₀ (characterGone s) := by
  unfold characterGone
  dsimp only
  repeat' split
  all_goals simp [ord]

@[simp] theorem unprime_orderly (i : LaneNo) (ord : Orderly seq s₀ s) : Orderly seq s₀ (unprime i s) := by
  exact ord.trans (.of_beyond (unprime_beyond ..))

@[simp] theorem authEnd_orderly (ord : Orderly seq s₀ s) : Orderly seq s₀ (authEnd s) := by
  unfold authEnd
  split
  · refine pctSend_orderly _ (modPct_orderly_slot _ (by simp) (by simp) rfl rfl ?_)
    exact eachLane_orderly (fun i t ht => unprime_orderly i ht) ord
  · exact modPct_orderly _ (by simp) ord

@[simp] theorem stampWindowEnd_orderly (ord : Orderly seq s₀ s) : Orderly seq s₀ (stampWindowEnd s) := by
  unfold stampWindowEnd
  split <;> simp [ord]

@[simp] theorem lifetimeEnd_orderly (ord : Orderly seq s₀ s) : Orderly seq s₀ (lifetimeEnd s) := by
  unfold lifetimeEnd
  split <;> simp [ord]


end Sys2Proof.Machine
end

section
/-! PROOFS. The sizes of the queues, and what every step keeps of the trip slot, the peer table, the start-up sequence, the trip idle
timer and the card reader's port (O58, O60): `Orderly` for the operations that its own file leaves out, and for every command. -/

namespace Sys2Proof.Machine

variable {seq : Bool} {s₀ s : State}

/-! ### The operations that change the slot -/

@[simp] theorem eachInjOf_orderly (i : LaneNo) {f : InjNo → State → State}
    (each : ∀ j t, Orderly seq s₀ t → Orderly seq s₀ (f j t)) (ord : Orderly seq s₀ s) : Orderly seq s₀ (eachInjOf i f s) := by
  unfold eachInjOf
  refine foldl_orderly (fun t j ht => ?_) _ ord
  split
  · exact each j t ht
  · exact ht

theorem slot_of_slotHeld {s t : State} (same : t.slotHeld = s.slotHeld) : t.pct.slot = s.pct.slot := congrArg Prod.fst same

theorem enterAuthorized_orderly (occupied : s.pct.slot ≠ .empty) (ord : Orderly seq s₀ s) : Orderly seq s₀ (enterAuthorized s) := by
  unfold enterAuthorized
  refine eachLane_orderly (fun i t ht => primingCheck_orderly i ht) ?_
  exact modPct_orderly_trip _ occupied nofun nofun rfl rfl rfl ord

theorem startClaim_orderly (permit : Word32) (occupied : s.pct.slot ≠ .empty) (ord : Orderly seq s₀ s) :
    Orderly seq s₀ (startClaim permit s) := by
  unfold startClaim
  split
  · exact pctSend_orderly _ (modPct_orderly_trip _ occupied nofun nofun rfl rfl rfl ord)
  · refine enterAuthorized_orderly ?_ (modTripFlags_orderly _ ord)
    rw [slot_of_slotHeld (modTripFlags_slotHeld s _)]
    exact occupied

theorem takeTrip_orderly (t : Trip) (ord : Orderly seq s₀ s) : Orderly seq s₀ (takeTrip t s) := by
  have taken : Orderly seq s₀ (refreshLamps (s.modPct fun p => { p with slot := .checking, trip := some t })) :=
    refreshLamps_orderly (modPct_orderly_slot _ (by simp) nofun rfl rfl ord)
  have slot : (refreshLamps (s.modPct fun p => { p with slot := .checking, trip := some t })).pct.slot = .checking :=
    (slot_of_slotHeld (refreshLamps_slotHeld _)).trans rfl
  unfold takeTrip
  dsimp only
  generalize refreshLamps (s.modPct fun p => { p with slot := .checking, trip := some t }) = u at taken slot
  split
  · exact refuseTrip_orderly _ taken
  · split
    · exact refuseTrip_orderly _ taken
    · split
      · refine startClaim_orderly _ ?_ (modTrip_orderly _ taken)
        rw [slot_of_slotHeld (modTrip_slotHeld u _), slot]
        exact nofun
      · exact refuseTrip_orderly _ (modTrip_orderly _ taken)

theorem claimWindowEnd_orderly (ord : Orderly seq s₀ s) : Orderly seq s₀ (claimWindowEnd s) := by
  unfold claimWindowEnd
  split
  · rename_i claiming
    exact enterAuthorized_orderly (by rw [claiming]; exact nofun) ord
  · exact modPct_orderly _ (by simp) ord

theorem enterClosing_orderly (occupied : s.pct.slot ≠ .empty) (ord : Orderly seq s₀ s) : Orderly seq s₀ (enterClosing s) := by
  unfold enterClosing
  exact tryBuild_orderly (foldl_orderly (fun t k ht => closeLineOf_orderly k ht) _ (modTrip_orderly _
    (modPct_orderly_trip _ occupied nofun nofun rfl rfl rfl ord)))

theorem handBack_orderly (i : LaneNo) (ord : Orderly seq s₀ s) : Orderly seq s₀ (handBack i s) := by
  have handed : Orderly seq s₀ (handedState i s) := by
    unfold handedState
    exact reportFault_orderly _ _ (handOver_orderly _ _ (modLane_orderly i _ ord))
  rw [handBack_eq]
  split
  · rename_i closes
    exact enterClosing_orderly (by rw [closes.1]; exact nofun) handed
  · exact tryBuild_orderly handed

theorem closeDoses_orderly (i : LaneNo) (ord : Orderly seq s₀ s) : Orderly seq s₀ (closeDoses i s) := by
  unfold closeDoses
  split
  · dsimp only
    split
    · exact handBack_orderly i (tryCloseLines_orderly i ord)
    · exact tryCloseLines_orderly i ord
  · exact ord

theorem enterEnded_orderly (i : LaneNo) (ord : Orderly seq s₀ s) : Orderly seq s₀ (enterEnded i s) := by
  unfold enterEnded
  exact closeDoses_orderly i (considerLane_orderly i (decideFinal_orderly i (modLane_orderly i _ (modRecord_orderly i _
    (learnOvershoot_orderly i ord)))))

theorem closingStep_orderly (i : LaneNo) (pulses : Nat) (ord : Orderly seq s₀ s) : Orderly seq s₀ (closingStep i pulses s) := by
  have counted := modLane_orderly i (fun l => { l with quiet := if pulses = 0 then (s.lane i).quiet + 1 else 0 }) ord
  unfold closingStep
  dsimp only
  generalize (if pulses = 0 then (s.lane i).quiet + 1 else 0) = n at counted
  split
  · exact enterEnded_orderly i counted
  · exact counted

theorem checkStep_orderly (c : LaneCfg) (i : LaneNo) (pulses : Nat) (ord : Orderly seq s₀ s) :
    Orderly seq s₀ (checkStep c i pulses s) := by
  unfold checkStep
  split
  · exact stageStep_orderly c i ord
  · split
    · exact closingStep_orderly i pulses ord
    · exact ord

theorem lanePass_orderly (i : LaneNo) (raw : Nat) (ord : Orderly seq s₀ s) : Orderly seq s₀ (lanePass i raw s) := by
  unfold lanePass
  split
  · exact ord
  · split
    · unfold compartmentPass
      exact checkpointStep_orderly i _ _ (steerStep_orderly i _ (checkStep_orderly _ i _ (dosePass_orderly i _
        (volumeStep_orderly i _ (pulseStep_orderly i _ ord)))))
    · exact leakLanePass_orderly i _ raw ord

theorem stopEffect_orderly (ord : Orderly seq s₀ s) : Orderly seq s₀ (stopEffect s) := by
  unfold stopEffect
  split
  · exact ord
  · rename_i released
    split
    · exact suspendAll_orderly _ ord
    · split
      · exact ord
      · exact enterClosing_orderly (by rw [not_not.1 released]; exact nofun) ord

theorem valveLeak_orderly (i : LaneNo) (ord : Orderly seq s₀ s) : Orderly seq s₀ (valveLeak i s) := by
  unfold valveLeak
  split
  · exact enterEnded_orderly i (modFlags_orderly i _ ord)
  · exact modLane_orderly i _ ord

theorem windowEnd_orderly (j : InjNo) (ord : Orderly seq s₀ s) : Orderly seq s₀ (windowEnd j s) := by
  have judged := tryEndCycle_orderly j (judge_orderly j (s.inj j).pulsed
    (modInj_orderly j (fun x => { x with window := .closed, windowDue := none }) ord))
  unfold windowEnd
  dsimp only
  split
  · exact judged
  · exact closeDoses_orderly _ judged

theorem idleEnd_orderly (ord : Orderly seq s₀ s) : Orderly seq s₀ (idleEnd s) := by
  unfold idleEnd
  split
  · rename_i released
    exact enterClosing_orderly (by rw [released]; exact nofun) ord
  · rename_i other
    exact ord.trans ⟨rfl, id, id, fun _ => ⟨rfl, rfl, rfl, id⟩, id, fun x => absurd x other⟩

/-! ### Peer frames (R162) -/

theorem upsertPeer_stations (e : Peer) (l : List Peer) (n : Nat) :
    n ∈ (upsertPeer e l).map (·.station) → n = e.station ∨ n ∈ l.map (·.station) := by
  induction l with
  | nil => simp [upsertPeer]
  | cons p rest ih =>
    unfold upsertPeer
    split
    · simp only [List.map_cons, List.mem_cons]
      rintro (here | mem)
      · exact .inr (.inl here)
      · exact (ih mem).imp_right .inr
    · split
      · simp only [List.map_cons, List.mem_cons]
        exact fun mem => mem.imp_right .inr
      · simp only [List.map_cons, List.mem_cons]
        exact id

theorem upsertPeer_sorted {e : Peer} {l : List Peer} (sorted : (l.map (·.station)).Pairwise (· < ·)) :
    ((upsertPeer e l).map (·.station)).Pairwise (· < ·) := by
  induction l with
  | nil => simp [upsertPeer]
  | cons p rest ih =>
    rw [List.map_cons, List.pairwise_cons] at sorted
    obtain ⟨above, restSorted⟩ := sorted
    unfold upsertPeer
    split
    · rename_i lower
      rw [List.map_cons, List.pairwise_cons]
      refine ⟨fun n mem => ?_, ih restSorted⟩
      obtain rfl | mem := upsertPeer_stations e rest n mem
      · exact lower
      · exact above n mem
    · split
      · rename_i same
        rw [List.map_cons, List.pairwise_cons]
        exact ⟨same ▸ above, restSorted⟩
      · rename_i notLower other
        have lower : e.station < p.station := by omega
        rw [List.map_cons, List.pairwise_cons, List.map_cons, List.pairwise_cons]
        refine ⟨fun n mem => ?_, above, restSorted⟩
        obtain rfl | mem := List.mem_cons.1 mem
        · exact lower
        · exact lower.trans (above n mem)

theorem tablePeer_orderly {sender : Nat} (p : Payload) (low : 1 ≤ sender) (high : sender ≤ 24) (other : sender ≠ s.lif.station)
    (ord : Orderly seq s₀ s) : Orderly seq s₀ (tablePeer sender p s) := by
  unfold tablePeer
  split
  · refine modLif_orderly_peers _ rfl (fun ⟨sorted, ok⟩ => ⟨upsertPeer_sorted sorted, fun e mem => ?_⟩) ord
    obtain here | mem := upsertPeer_stations _ _ _ (List.mem_map_of_mem mem)
    · rw [here]
      exact ⟨low, high, other⟩
    · obtain ⟨x, was, same⟩ := List.mem_map.1 mem
      rw [← same]
      exact ok x was
  · exact mapPeers_orderly _ (fun e => by split <;> rfl) ord

theorem peerFrame_orderly (sender : Nat) (p : Payload) {deliver : State → State}
    (each : ∀ t, Orderly seq s₀ t → Orderly seq s₀ (deliver t)) (ord : Orderly seq s₀ s) :
    Orderly seq s₀ (peerFrame sender p deliver s) := by
  unfold peerFrame
  split
  · exact ord
  · rename_i taken
    split
    · exact conflictHeard_orderly ord
    · rename_i other
      have ok : stationOk sender = true := by
        simp only [frameOk, Bool.or_eq_true, Bool.not_eq_true', not_or, Bool.not_eq_false, Bool.and_eq_true] at taken
        exact taken.2.1.1
      simp only [stationOk, Bool.and_eq_true, decide_eq_true_eq] at ok
      have told : Orderly seq s₀ (takePeer sender p deliver s) := by
        unfold takePeer
        exact peerHeard_orderly (each _ (adoptRackTime_orderly p (haltEdge_orderly _ (tablePeer_orderly p ok.1 ok.2 other
          (modLif_orderly _ ⟨le_rfl, rfl, rfl⟩ ord)))))
      split
      · exact ord
      · exact ord
      · exact told

/-! ### The start-up sequence (R203 to R211) -/

/-- The start-up sequence has not come to its last step, without a fault and with no offers of a recovery. -/
def State.Reads (s : State) : Prop :=
  s.sul.done = false ∧ s.sul.code = 0 ∧ s.sul.recovery ≠ .offering ∧ s.sul.phase ≠ .complete

theorem State.Reads.startOk (h : s.Reads) : s.StartOk := by
  obtain ⟨done, code, none, phase⟩ := h
  exact ⟨⟨fun x => Bool.noConfusion (done.symm.trans x), fun x => absurd x phase⟩, fun x => absurd code x, fun x => absurd x none⟩

theorem SameSequence.reads {t : State} (same : SameSequence s t) (h : s.Reads) : t.Reads := by
  obtain ⟨done, code, none, phase⟩ := h
  obtain ⟨isDone, isPhase, isCode, back⟩ := same
  exact ⟨isDone.trans done, isCode.trans code, fun x => none (back x), by rw [isPhase]; exact phase⟩

theorem SameSequence.startOk {t : State} (same : SameSequence s t) (h : s.StartOk) : t.StartOk := by
  obtain ⟨last, fault, offers⟩ := h
  obtain ⟨isDone, isPhase, isCode, back⟩ := same
  rw [State.StartOk, isDone, isPhase, isCode]
  exact ⟨last, fault, fun x => offers (back x)⟩

/-- An operation that keeps the sequence keeps that it reads. -/
theorem State.Reads.of {f : State → State} (each : ∀ t, Orderly true s t → Orderly true s (f t)) (h : s.Reads) : (f s).Reads :=
  ((each s (.refl true s)).sequence rfl).reads h

/-- The place of the sequence moves on. -/
theorem State.Reads.go (h : s.Reads) (f : Sul → Sul) (same : (f s.sul).done = s.sul.done ∧ (f s.sul).code = s.sul.code ∧
    (f s.sul).recovery = s.sul.recovery) (phase : (f s.sul).phase ≠ .complete) : (s.modSul f).Reads := by
  obtain ⟨done, code, none, -⟩ := h
  obtain ⟨isDone, isCode, isRecovery⟩ := same
  exact ⟨isDone.trans done, isCode.trans code, by rw [modSul_sul, isRecovery]; exact none, phase⟩

theorem State.Reads.askRead (h : s.Reads) (owner : Reader) (page : Nat) : (Machine.askRead owner page s).Reads := h

theorem State.Reads.askPages (h : s.Reads) (owner : Reader) (page n : Nat) : (Machine.askPages owner page n s).Reads :=
  h.of fun _ => askPages_orderly owner page n

theorem State.Reads.toSettle (h : s.Reads) : (toSettle s).Reads := h.go _ ⟨rfl, rfl, rfl⟩ (by simp)

theorem dropUnfitted_sul (s : State) : (dropUnfitted s).sul = s.sul := by
  unfold dropUnfitted State.eachLane
  have each (l : List LaneNo) (t : State) : (l.foldl (fun t i => dropPiu i t) t).sul = t.sul := by
    induction l generalizing t with
    | nil => rfl
    | cons i rest ih =>
      rw [List.foldl_cons, ih]
      unfold dropPiu
      split <;> rfl
  exact each _ s

theorem configFaultAt_startOk (code entry : Nat) (going : s.sul.done = false) (none : s.sul.recovery ≠ .offering) :
    (configFaultAt code entry s).StartOk := by
  unfold configFaultAt
  rw [State.StartOk, dropUnfitted_sul]
  exact ⟨⟨fun x => Bool.noConfusion (going.symm.trans x), nofun⟩, fun _ => .inl rfl, fun x => absurd x none⟩

theorem offering_startOk (h : s.Reads) : ((toSettle s).modSul fun u => { u with recovery := .offering }).StartOk :=
  ⟨⟨fun x => Bool.noConfusion (h.1.symm.trans x), nofun⟩, fun x => absurd h.2.1 x, fun _ => ⟨rfl, h.2.1⟩⟩

theorem rebuilt_startOk (m : Marker) (h : s.Reads) : (rebuilt m s).StartOk := by
  have passed : (s.sul.lost.foldl (fun u k => passTwo m.number k u) s).Reads :=
    h.of fun _ => foldl_orderly (fun t k ht => passTwo_orderly _ k ht) _
  exact offering_startOk (passed.of fun t => offerTotals_orderly)

theorem nextCheck_startOk (m : Marker) (start : Nat) (h : s.Reads) : (nextCheck m start s).StartOk := by
  unfold nextCheck
  split
  · exact rebuilt_startOk m h
  · exact ((h.go _ ⟨rfl, rfl, rfl⟩ (by simp)).askRead _ _).startOk

theorem imageRead_startOk (bytes : List Byte) (h : s.Reads) : (imageRead bytes s).StartOk := by
  unfold imageRead
  split
  · exact configFaultAt_startOk _ _ h.1 h.2.2.1
  · rename_i t _
    have dropped : (dropUnfitted { s with cfg := t }).Reads := by
      unfold State.Reads
      rw [dropUnfitted_sul]
      exact h
    exact ((dropped.go _ ⟨rfl, rfl, rfl⟩ (by simp)).askRead _ _).startOk

theorem headerPage_startOk (page : List Byte) (h : s.Reads) : (headerPage page s).StartOk := by
  unfold headerPage
  split
  · exact configFaultAt_startOk _ _ h.1 h.2.2.1
  · split
    · exact imageRead_startOk page h
    · exact ((h.go _ ⟨rfl, rfl, rfl⟩ (by simp)).askPages _ _ _).startOk

theorem totalsPage_startOk (k : Nat) (page : List Byte) (h : s.Reads) : (totalsPage k page s).StartOk := by
  unfold totalsPage
  dsimp only
  split
  · exact (((h.go (fun u => { u with stored := _ }) ⟨rfl, rfl, rfl⟩ h.2.2.2).go (fun u => { u with phase := .totals (k + 1) })
      ⟨rfl, rfl, rfl⟩ (by simp)).startOk :)
  · exact (((h.go (fun u => { u with stored := _ }) ⟨rfl, rfl, rfl⟩ h.2.2.2).go (fun u => { u with phase := .slot 0 })
      ⟨rfl, rfl, rfl⟩ (by simp)).startOk :)

theorem nextSlot_reads (slot : Nat) (h : s.Reads) : (nextSlot slot s).Reads := by
  unfold nextSlot
  split
  · exact (h.go _ ⟨rfl, rfl, rfl⟩ (by simp)).askRead _ _
  · have counted : (s.modNtb fun x => { x with next := s.sul.best + 1 }).Reads := h
    exact (counted.go _ ⟨rfl, rfl, rfl⟩ (by simp)).askRead _ _

theorem slotRead_reads (slot : Nat) (bytes : List Byte) (h : s.Reads) : (slotRead slot bytes s).Reads := by
  unfold slotRead
  dsimp only
  split
  · have found : (s.modSul fun u => { u with best := max u.best (fieldNat bytes 1 4) }).Reads := h.go _ ⟨rfl, rfl, rfl⟩ h.2.2.2
    refine nextSlot_reads slot ?_
    split
    · exact found.of fun _ => sulOffer_orderly _
    · exact found
  · exact nextSlot_reads slot h

theorem offersSettled_startOk (r : WriteReq) (h : s.Reads) : (toSettle (sulOffer r (offerTotals s))).StartOk := by
  have offered := h.of fun _ => offerTotals_orderly
  have closed := offered.of fun _ => sulOffer_orderly r
  exact closed.toSettle.startOk

theorem settleSealed_startOk (m : Marker) (note : List Byte) (h : s.Reads) : (settleSealed m note s).StartOk := by
  have raised : ((noteTotals note).foldl (fun u (i, g, x) => raiseTotals i g x u) s).Reads :=
    h.of fun _ => foldl_orderly (f := fun u (i, g, x) => raiseTotals i g x u) (fun t a ht => raiseTotals_orderly _ _ _ ht) _
  exact offersSettled_startOk _ raised

theorem sealedRead_startOk (bytes : List Byte) (h : s.Reads) : (sealedRead bytes s).StartOk := by
  unfold sealedRead
  split
  · exact h.toSettle.startOk
  · split
    · exact settleSealed_startOk _ _ h
    · exact nextCheck_startOk _ _ h

theorem checkPage_startOk (m : Marker) (line : Nat) (page : List Byte) (h : s.Reads) : (checkPage m line page s).StartOk := by
  unfold checkPage
  dsimp only
  split
  · exact rebuilt_startOk m h
  · have passed := h.of fun t => passOne_orderly (checkpointOf m.number page) ‹_›
    exact nextCheck_startOk _ _ (passed.go _ ⟨rfl, rfl, rfl⟩ passed.2.2.2)

/-- A page delivered to the Start-up Loader leaves its sequence in order. -/
theorem sulPage_startOk (page : List Byte) (ok : s.StartOk) : (sulPage page s).StartOk := by
  obtain ⟨last, fault, offers⟩ := ok
  have reads (unsettled : s.sul.phase ≠ .settle) (going : s.sul.phase ≠ .complete) : s.Reads := by
    refine ⟨Bool.eq_false_iff.2 fun x => going (last.1 x), ?_, fun x => unsettled (offers x).1, going⟩
    by_contra faulty
    obtain x | x := fault faulty
    · exact unsettled x
    · exact going x
  unfold sulPage
  split
  case h_11 | h_12 | h_13 => exact ⟨last, fault, offers⟩
  all_goals
    rename_i phase
    have h : s.Reads := reads (by rw [phase]; exact nofun) (by rw [phase]; exact nofun)
  case h_1 => exact headerPage_startOk page h
  case h_2 =>
    unfold imagePage
    split
    · exact imageRead_startOk _ h
    · exact (h.go _ ⟨rfl, rfl, rfl⟩ (by simp)).startOk
  case h_3 => exact totalsPage_startOk _ page h
  case h_4 =>
    unfold slotFirst
    split
    · split
      · exact (slotRead_reads _ page h).startOk
      · exact ((h.go _ ⟨rfl, rfl, rfl⟩ (by simp)).askPages _ _ _).startOk
    · exact (nextSlot_reads _ h).startOk
  case h_5 =>
    unfold slotNext
    split
    · exact (slotRead_reads _ _ h).startOk
    · exact (h.go _ ⟨rfl, rfl, rfl⟩ (by simp)).startOk
  case h_6 =>
    unfold markHeadPage
    split
    · exact h.toSettle.startOk
    · exact ((h.go _ ⟨rfl, rfl, rfl⟩ (by simp)).askRead _ _).startOk
  case h_7 =>
    unfold markLinesPage
    split
    · exact h.toSettle.startOk
    · split
      · exact ((h.go _ ⟨rfl, rfl, rfl⟩ (by simp)).askRead _ _).startOk
      · exact h.toSettle.startOk
  case h_8 =>
    unfold sealedFirst
    split
    · exact h.toSettle.startOk
    · split
      · exact sealedRead_startOk page h
      · exact ((h.go _ ⟨rfl, rfl, rfl⟩ (by simp)).askPages _ _ _).startOk
  case h_9 =>
    unfold sealedNext
    split
    · exact sealedRead_startOk _ h
    · exact (h.go _ ⟨rfl, rfl, rfl⟩ (by simp)).startOk
  case h_10 =>
    split
    · exact h.toSettle.startOk
    · exact checkPage_startOk _ _ page h

theorem deliverPage_startOk (owner : Reader) (page : List Byte) (ok : s.StartOk) : (deliverPage owner page s).StartOk := by
  have others {f : State → State} (each : ∀ t, Orderly true s t → Orderly true s (f t)) : (f s).StartOk :=
    ((each s (.refl true s)).sequence rfl).startOk ok
  cases owner with
  | sul => exact sulPage_startOk page ok
  | ask => exact others fun _ => askPage_orderly page
  | reprint => exact others fun _ => reprintPage_orderly page
  | noteStatus => exact others fun _ => statusPage_orderly page

/-- R209 to R211: the sequence has ended, in order. -/
theorem completed_startOk (ok : s.StartOk) (ready : s.ready = true) : (s.modSul fun u => { u with done := true, phase := .complete }).StartOk := by
  obtain ⟨-, -, offers⟩ := ok
  refine ⟨⟨fun _ => rfl, fun _ => rfl⟩, fun _ => .inr rfl, fun x => ?_⟩
  have x : s.sul.recovery = .offering := x
  obtain ⟨-, code⟩ := offers x
  simp [State.ready, code, x] at ready

theorem complete_startOk (ok : s.StartOk) (ready : s.ready = true) :
    (if s.sul.code = 0 then completeNormal s else completeFault s).StartOk := by
  have ended := completed_startOk ok ready
  have same : Orderly true (s.modSul fun u => { u with done := true, phase := .complete })
      (if s.sul.code = 0 then completeNormal s else completeFault s) := by
    split
    · unfold completeNormal
      exact beginPrint_orderly (offerReady_orderly (modHsu_orderly _ (startLanes_orderly (enterListen_orderly (.refl _ _)))))
    · unfold completeFault
      exact sendNext_orderly (modNtb_orderly _ (by simp) (modIlm_orderly _ (.refl _ _)))
  exact (same.sequence rfl).startOk ended

/-! ### What the operations of a command keep -/

/-- `u` comes from `s` by the operations of one command: every law of the bookkeeping that `s` has `u` has as well, and a slot that is
RELEASED has the trip idle timer as it was. -/
structure Booked (s u : State) : Prop where
  lists : s.ListsOk → u.ListsOk
  peers : s.PeersOk → u.PeersOk
  slot  : s.SlotOk → u.SlotOk
  start : s.StartOk → u.StartOk
  timer : u.pct.slot = .released → u.pct.idleTimer = s.pct.idleTimer

theorem Orderly.booked {t u : State} (h : Orderly true t u) : Booked t u :=
  ⟨h.lists, h.peers, h.slot, (h.sequence rfl).startOk, fun x => (h.released x).2⟩

theorem Orderly.booked_start {t u : State} (h : Orderly false t u) (start : t.StartOk → u.StartOk) : Booked t u :=
  ⟨h.lists, h.peers, h.slot, start, fun x => (h.released x).2⟩

theorem Booked.then {s t u : State} (h : Booked s t) (o : Orderly true t u) : Booked s u where
  lists x := o.lists (h.lists x)
  peers x := o.peers (h.peers x)
  slot x := o.slot (h.slot x)
  start x := (o.sequence rfl).startOk (h.start x)
  timer x := (o.released x).2.trans (h.timer (o.released x).1)

/-- The clock is no part of the bookkeeping. -/
theorem Booked.of_reach {s u : State} {d : Nat} (h : Booked (s.reach d) u) : Booked s u := ⟨h.lists, h.peers, h.slot, h.start, h.timer⟩

/-- A state with the same link, permit, note and start-up parts has the same bookkeeping. -/
theorem booked_of_same {s u : State} (lif : u.lif = s.lif) (pct : u.pct = s.pct) (ntb : u.ntb = s.ntb) (sul : u.sul = s.sul) : Booked s u where
  lists h := by unfold State.ListsOk; rw [lif, pct, ntb]; exact h
  peers h := by unfold State.PeersOk; rw [lif]; exact h
  slot h := by unfold State.SlotOk; rw [pct]; exact h
  start h := by unfold State.StartOk; rw [sul]; exact h
  timer _ := by rw [pct]

/-! ### The answers of the commands -/

/-- An answer that leaves the state, but for the mark of an own last frame, or ends an event in a state that has `Q`, or is a stop. -/
def Answers (Q : State → Prop) (s : State) (a : Answer) : Prop :=
  a = .next s ∨ (∃ b, a = .next (s.modLif fun l => { l with ownLast := b })) ∨ (∃ u, a = finish u ∧ Q u) ∨ ∃ f, a = .fault f

section
variable {Q : State → Prop} {s : State}

theorem answers_next : Answers Q s (.next s) := .inl rfl

theorem answers_finish {u : State} (h : Q u) : Answers Q s (finish u) := .inr (.inr (.inl ⟨u, rfl, h⟩))

theorem answers_onExpiry {effect : Nat → State → State} {due : Option Nat} (h : ∀ d, Q (effect d (s.reach d))) :
    Answers Q s (onExpiry due effect s) := by
  cases due with
  | none => exact answers_next
  | some d => exact answers_finish (h d)

theorem answers_ite {c : Prop} [Decidable c] {a b : Answer} (ha : Answers Q s a) (hb : Answers Q s b) :
    Answers Q s (if c then a else b) := by
  split
  · exact ha
  · exact hb

end

theorem released_booked (t : State) : Booked t (release t) := by
  unfold release
  split
  · exact (Orderly.refl true t).booked
  · rename_i tr trip
    have begun : Booked t (t.modPct fun p => { p with slot := .released, trip := some (releasedTrip t tr), authTimer := none }) :=
      ⟨id, id, fun _ => ⟨nofun, nofun⟩, id, fun _ => rfl⟩
    exact begun.then (pctMark_orderly _ (.refl _ _))

theorem startEffect_booked (t : State) : Booked t (startEffect t) := by
  unfold startEffect
  split
  · split
    · exact released_booked t
    · exact (Orderly.refl true t).booked
  · exact (eachLane_orderly (fun i u hu => startLane_orderly i hu) (.refl _ _)).booked
  · exact (Orderly.refl true t).booked

theorem takeCard_booked (block : List Byte) (s : State) : Answers (Booked s) s (takeCard block s) := by
  unfold takeCard
  split
  · exact answers_next
  · exact answers_finish (refuseCard_orderly _ (.refl _ _)).booked
  · exact answers_finish (takeTrip_orderly _ (.refl _ _)).booked
  · exact answers_finish (writeTripStamp_orderly (.refl _ _)).booked
  · exact answers_finish (writePending_orderly (.refl _ _)).booked

theorem takeReply_booked (success : Bool) (s : State) : Answers (Booked s) s (takeReply success s) := by
  refine answers_ite (answers_finish ?_) answers_next
  split
  · exact (writeSucceeded_orderly (.refl _ _)).booked
  · exact (writeFailed_orderly (.refl _ _)).booked

theorem takeMessage_booked (raw : List Byte) (s : State) : Answers (Booked s) s (takeMessage raw s) := by
  unfold takeMessage
  split
  · exact takeCard_booked _ s
  · exact takeReply_booked _ s
  · exact takeReply_booked _ s

theorem hearFrame_booked (sender : Nat) (p : Payload) {deliver : State → State}
    (each : ∀ t, Orderly true s t → Orderly true s (deliver t)) : Answers (Booked s) s (hearFrame sender p deliver s) :=
  answers_finish (peerFrame_orderly sender p each (.refl _ _)).booked

theorem onExpiry_booked {effect : Nat → State → State} {due : Option Nat} {s : State}
    (h : ∀ d t, Orderly true t (effect d t)) : Answers (Booked s) s (onExpiry due effect s) :=
  answers_onExpiry fun d => (h d _).booked.of_reach

theorem readStraps_orderly (straps : BitVec 5) (listenOnly : Bool) {s₀ s : State} (empty : s.lif.peers = [])
    (ord : Orderly false s₀ s) : Orderly false s₀ (readStraps straps listenOnly s) := by
  have told : Orderly false s₀ (s.modLif fun l => { l with listenOnly := listenOnly }) := modLif_orderly _ ⟨le_rfl, rfl, rfl⟩ ord
  unfold readStraps
  dsimp only
  split
  · refine askRead_orderly _ _ (modSul_orderly _ nofun (modLif_orderly_peers _ rfl (fun _ => ?_) told))
    rw [State.PeersOk, modLif_lif, modLif_lif, empty]
    exact ⟨.nil, nofun⟩
  · exact configFaultAt_orderly _ _ told

theorem reset_booked (straps : BitVec 5) (listenOnly : Bool) (s : State) : Booked s (readStraps straps listenOnly (resetBlocks s)) := by
  have read := readStraps_orderly straps listenOnly (s := resetBlocks s) rfl (.refl _ _)
  have start : (readStraps straps listenOnly (resetBlocks s)).StartOk := by
    unfold readStraps
    dsimp only
    split
    · exact ⟨⟨nofun, nofun⟩, fun x => absurd rfl x, nofun⟩
    · exact configFaultAt_startOk _ _ rfl nofun
  refine ⟨fun _ => read.lists ?_, fun _ => read.peers ⟨.nil, nofun⟩, fun _ => read.slot ⟨fun _ => rfl, fun _ => rfl⟩, fun _ => start,
    fun x => ?_⟩
  · exact ⟨Nat.zero_le _, Nat.zero_le _, Nat.zero_le _, Nat.zero_le _, Nat.zero_le _, Nat.zero_le _⟩
  · exact absurd (read.released x).1 nofun

/-- A change of an input that has its effect only after start-up. -/
theorem changed_booked {c : Prop} [Decidable c] {s t : State} (effect : State → State) (ht : Orderly true s t)
    (each : Orderly true s t → Orderly true s (effect t)) :
    Answers (Booked s) s (if c then .next s else finish (if s.sul.done then effect t else t)) := by
  refine answers_ite answers_next (answers_finish ?_)
  split
  · exact (each ht).booked
  · exact ht.booked

theorem permissiveChange_booked (p : Permissive) (good : Bool) (s : State) : Answers (Booked s) s (execPermissiveChange p good s) :=
  changed_booked _ (modIlm_orderly _ (.refl _ _)) (permissiveEffect_orderly good)

theorem armConnect_booked (i : LaneNo) (s : State) : Answers (Booked s) s (execArmConnect i s) :=
  changed_booked _ (modIlm_orderly _ (.refl _ _)) (primingCheck_orderly i)

theorem armDrop_booked (i : LaneNo) (s : State) : Answers (Booked s) s (execArmDrop i s) :=
  changed_booked _ (modIlm_orderly _ (.refl _ _)) (armLost_orderly i)

theorem rstopChange_booked (pressed : Bool) (s : State) : Answers (Booked s) s (execRstopChange pressed s) :=
  changed_booked (fun t => haltEdge s.halted (requestUrgent t)) (modIlm_orderly _ (.refl _ _))
    fun ht => haltEdge_orderly _ (requestUrgent_orderly ht)

theorem byteGap_booked (s : State) : Answers (Booked s) s (execReaderByteGapTimeout s) := by
  unfold execReaderByteGapTimeout
  refine answers_onExpiry fun d => ?_
  exact booked_of_same (by simp) (by simp) (by simp) (by simp)

theorem stop_booked (s : State) : Answers (Booked s) s (execStop s) :=
  changed_booked _ (modIlm_orderly _ (.refl _ _)) stopEffect_orderly

theorem ackPress_booked (s : State) : Answers (Booked s) s (execAckPress s) :=
  changed_booked _ (modIlm_orderly _ (.refl _ _)) ackEffect_orderly

theorem feedbackPulse_booked (j : InjNo) (s : State) : Answers (Booked s) s (execFeedbackPulse j s) := by
  unfold execFeedbackPulse
  refine answers_ite (answers_finish ?_) answers_next
  have taken : Orderly true s (s.modInj j fun x => { x with level := true }) := modInj_orderly j _ (.refl _ _)
  split
  · exact (pulseTaken_orderly j taken).booked
  · exact taken.booked

theorem startKey_booked (s : State) : Booked s (if s.sul.done then startEffect (s.modIlm fun m => { m with startKey := true })
    else s.modIlm fun m => { m with startKey := true }) := by
  have key : Booked s (s.modIlm fun m => { m with startKey := true }) := (modIlm_orderly _ (.refl _ _)).booked
  split
  · have go := startEffect_booked (s.modIlm fun m => { m with startKey := true })
    exact ⟨fun x => go.lists (key.lists x), fun x => go.peers (key.peers x), fun x => go.slot (key.slot x),
      fun x => go.start (key.start x), fun x => go.timer x⟩
  · exact key

theorem completion_booked (s : State) : Answers (Booked s) s (exec .startUpCompletion s) := by
  change Answers _ s (if s.ready then finish (if s.sul.code = 0 then completeNormal s else completeFault s) else .next s)
  split
  · rename_i ready
    refine answers_finish (Orderly.booked_start ?_ fun ok => complete_startOk ok ready)
    split
    · exact completeNormal_orderly (.refl _ _)
    · exact completeFault_orderly (.refl _ _)
  · exact answers_next

theorem pageReadComplete_booked (s : State) : Answers (Booked s) s (exec .pageReadComplete s) := by
  obtain e | ⟨r, -, -, e⟩ | ⟨r, -, -, e⟩ := exec_pageReadComplete_cases s <;> rw [e]
  · exact answers_next
  · exact .inr (.inr (.inr ⟨_, rfl⟩))
  · have idle : Booked s (s.modStp fun p => { p with port := .idle, lastRead := true }) := (modStp_orderly _ (.refl _ _)).booked
    exact answers_finish ((deliverPage_orderly r.owner _ (modStp_orderly _ (.refl _ _))).booked_start fun ok =>
      deliverPage_startOk r.owner _ (idle.start ok))

theorem pageWriteComplete_booked (s : State) : Answers (Booked s) s (exec .pageWriteComplete s) := by
  obtain e | ⟨w, due, -, -, e⟩ | ⟨w, due, -, -, e⟩ := exec_pageWriteComplete_cases s <;> rw [e]
  · exact answers_next
  · exact .inr (.inr (.inr ⟨_, rfl⟩))
  · have done : Booked s (written w due s) := ⟨id, id, id, id, fun _ => rfl⟩
    exact answers_finish (done.then (stepDone_orderly (.refl _ _)))

theorem spacingPeriodEnd_booked (j : InjNo) (s : State) : Answers (Booked s) s (exec (.spacingPeriodEnd j) s) := by
  change Answers _ s (execSpacingPeriodEnd j s)
  unfold execSpacingPeriodEnd
  refine onExpiry_booked fun d t => ?_
  have ended := tryEndCycle_orderly j (modInj_orderly j (fun x => { x with spacingDue := none, spacingOver := true }) (.refl true t))
  split
  · exact ended
  · exact closeDoses_orderly _ ended

theorem meteringTick_booked (i : LaneNo) (raw : BitVec 12) (s : State) : Answers (Booked s) s (execMeteringTick i raw s) :=
  onExpiry_booked fun _ _ => lanePass_orderly i _ (modLane_orderly i _ (.refl _ _))

theorem risingEdge_booked (i : LaneNo) (ch : Channel) (cap : Word32) (s : State) : Answers (Booked s) s (execRisingEdge i ch cap s) := by
  have reached : Booked s (s.reachCapture cap) := booked_of_same rfl rfl rfl rfl
  unfold execRisingEdge
  refine answers_ite ?_ answers_next
  cases ch
  · exact answers_finish (reached.then (edgeA_orderly i cap (.refl _ _)))
  · exact answers_finish (reached.then (edgeB_orderly i cap (.refl _ _)))

theorem lampStretchEnd_booked (lamp : Lamp) (s : State) : Answers (Booked s) s (execLampStretchEnd lamp s) := by
  unfold execLampStretchEnd
  exact answers_ite answers_next (answers_finish (booked_of_same rfl rfl rfl rfl))

theorem start_booked (s : State) : Answers (Booked s) s (execStart s) := by
  unfold execStart
  exact answers_ite answers_next (answers_finish (startKey_booked s))

theorem ackRelease_booked (s : State) : Answers (Booked s) s (execAckRelease s) := by
  unfold execAckRelease
  exact answers_ite (answers_finish (modIlm_orderly _ (.refl _ _)).booked) answers_next

theorem ownEcho_booked (s : State) : Answers (Booked s) s (execOwnEcho s) := by
  unfold execOwnEcho
  split
  · exact answers_next
  · exact answers_finish (ownEchoOf_orderly _ (.refl _ _)).booked

theorem frameDropped_booked (framing : Bool) (raw : List Byte) (s : State) : Answers (Booked s) s (execFrameDropped framing raw s) := by
  unfold execFrameDropped
  refine answers_ite answers_next ?_
  split
  · exact .inr (.inl ⟨false, rfl⟩)
  · exact answers_finish (echoDropped_orderly (modLif_orderly _ ⟨le_rfl, rfl, rfl⟩ (.refl _ _))).booked

theorem collision_booked (s : State) : Answers (Booked s) s (execCollision s) := by
  unfold execCollision
  split
  · exact answers_next
  · exact answers_finish (collided_orderly (.refl _ _)).booked

theorem freshToStale_booked (station : Nat) (s : State) : Answers (Booked s) s (execFreshToStale station s) := by
  unfold execFreshToStale
  split
  · exact answers_next
  · rename_i e _
    refine answers_ite (answers_finish (Booked.of_reach (d := e.heardAt + Config.staleAge) (Orderly.booked ?_))) answers_next
    exact mapPeer_orderly _ _ (fun _ => rfl) (.refl _ _)

theorem staleToSilent_booked (station : Nat) (s : State) : Answers (Booked s) s (execStaleToSilent station s) := by
  unfold execStaleToSilent
  split
  · exact answers_next
  · rename_i e _
    refine answers_ite (answers_finish (Booked.of_reach (d := e.heardAt + Config.silentAge) (Orderly.booked ?_))) answers_next
    split
    · exact mapPeer_orderly _ _ (fun _ => rfl) (.refl _ _)
    · exact dropPeer_orderly _ (.refl _ _)

theorem silentRemoval_booked (station : Nat) (s : State) : Answers (Booked s) s (execSilentRemoval station s) := by
  unfold execSilentRemoval
  split
  · exact answers_next
  · exact answers_ite (answers_finish (Booked.of_reach (dropPeer_orderly _ (.refl _ _)).booked)) answers_next

theorem busyChange_booked (asserted : Bool) (s : State) : Answers (Booked s) s (execBusyChange asserted s) := by
  unfold execBusyChange
  refine answers_ite answers_next (answers_finish ?_)
  split
  · exact (busyAsserted_orderly (.refl _ _)).booked
  · exact (busyReleased_orderly (.refl _ _)).booked

theorem characterSent_booked (s : State) : Answers (Booked s) s (execCharacterSent s) := by
  unfold execCharacterSent
  split
  · exact answers_next
  · rename_i c _
    have out : Booked s (s.emit (.printed c)) := booked_of_same rfl rfl rfl rfl
    exact answers_finish (out.then (characterGone_orderly (.refl _ _)))

theorem driveTimeEnd_booked (j : InjNo) (s : State) : Answers (Booked s) s (execDriveTimeEnd j s) :=
  onExpiry_booked fun _ _ => modInj_orderly j _ (.refl _ _)

theorem pendingAEdgeTimeout_booked (i : LaneNo) (s : State) : Answers (Booked s) s (execPendingAEdgeTimeout i s) :=
  onExpiry_booked fun _ _ => modPiu_orderly i _ (.refl _ _)

theorem lampBlinkPhase_booked (lamp : Lamp) (s : State) : Answers (Booked s) s (execLampBlinkPhase lamp s) :=
  onExpiry_booked fun _ _ => modIlm_orderly _ (.refl _ _)

theorem faultCodePatternPhase_booked (s : State) : Answers (Booked s) s (execFaultCodePatternPhase s) :=
  onExpiry_booked fun _ _ => modIlm_orderly _ (.refl _ _)

theorem refusalPulseEnd_booked (s : State) : Answers (Booked s) s (execRefusalPulseEnd s) :=
  onExpiry_booked fun _ _ => modIlm_orderly _ (.refl _ _)

theorem statusPeriodExpiry_booked (s : State) : Answers (Booked s) s (execStatusPeriodExpiry s) :=
  onExpiry_booked fun _ _ => statusDueNow_orderly (modLif_orderly _ ⟨le_rfl, rfl, rfl⟩ (.refl _ _))

theorem statusSpacingExpiry_booked (s : State) : Answers (Booked s) s (execStatusSpacingExpiry s) :=
  onExpiry_booked fun _ _ => statusDueNow_orderly (modLif_orderly _ ⟨le_rfl, rfl, rfl⟩ (.refl _ _))

theorem secondTimer_booked (s : State) : Answers (Booked s) s (execSecondTimer s) :=
  onExpiry_booked fun _ _ => modLif_orderly _ ⟨le_rfl, rfl, rfl⟩ (.refl _ _)

theorem shareTick_booked (s : State) : Answers (Booked s) s (execShareTick s) :=
  onExpiry_booked fun _ _ => computeShares_orderly (modHsu_orderly _ (.refl _ _))

theorem ackHoldEvent_booked (s : State) : Answers (Booked s) s (execAckHoldEvent s) :=
  onExpiry_booked fun _ _ => holdEffect_orderly (.refl _ _)

theorem valveStepEnd_booked (i : LaneNo) (s : State) : Answers (Booked s) s (execValveStepEnd i s) :=
  onExpiry_booked fun _ _ => endStep_orderly i (.refl _ _)

theorem closingTimerExpiry_booked (i : LaneNo) (s : State) : Answers (Booked s) s (execClosingTimerExpiry i s) :=
  onExpiry_booked fun _ _ => valveLeak_orderly i (.refl _ _)

theorem feedbackWindowClose_booked (j : InjNo) (s : State) : Answers (Booked s) s (execFeedbackWindowClose j s) :=
  onExpiry_booked fun _ _ => windowEnd_orderly j (.refl _ _)

theorem claimWindowExpiry_booked (s : State) : Answers (Booked s) s (execClaimWindowExpiry s) :=
  onExpiry_booked fun _ _ => claimWindowEnd_orderly (.refl _ _)

theorem authorizationTimeout_booked (s : State) : Answers (Booked s) s (execAuthorizationTimeout s) :=
  onExpiry_booked fun _ _ => authEnd_orderly (.refl _ _)

theorem tripIdleTimerExpiry_booked (s : State) : Answers (Booked s) s (execTripIdleTimerExpiry s) :=
  onExpiry_booked fun _ _ => idleEnd_orderly (.refl _ _)

theorem stampWindowExpiry_booked (s : State) : Answers (Booked s) s (execStampWindowExpiry s) :=
  onExpiry_booked fun _ _ => stampWindowEnd_orderly (.refl _ _)

theorem stampLifetimeExpiry_booked (s : State) : Answers (Booked s) s (execStampLifetimeExpiry s) :=
  onExpiry_booked fun _ _ => lifetimeEnd_orderly (.refl _ _)

theorem replyTimerExpiry_booked (s : State) : Answers (Booked s) s (execReplyTimerExpiry s) :=
  onExpiry_booked fun _ _ => writeFailed_orderly (.refl _ _)

theorem aloneTimerExpiry_booked (s : State) : Answers (Booked s) s (execAloneTimerExpiry s) :=
  onExpiry_booked fun _ _ => aloneEnd_orderly (.refl _ _)

theorem listenWindowExpiry_booked (s : State) : Answers (Booked s) s (execListenWindowExpiry s) :=
  onExpiry_booked fun _ _ => listenEnd_orderly (.refl _ _)

theorem busyTimerExpiry_booked (s : State) : Answers (Booked s) s (execBusyTimerExpiry s) :=
  onExpiry_booked fun _ _ => finishPrint_orderly _ (.refl _ _)

/-- Every command keeps the bookkeeping. -/
theorem exec_booked (c : Instr) (s : State) : Answers (Booked s) s (exec c s) := by
  have same : Orderly true s s := .refl _ _
  cases c with
  | reset straps listenOnly => exact answers_finish (reset_booked straps listenOnly s)
  | pageReadComplete => exact pageReadComplete_booked s
  | pageWriteComplete => exact pageWriteComplete_booked s
  | startUpCompletion => exact completion_booked s
  | card block => exact takeCard_booked block s
  | readerMessageDiscarded raw => exact answers_ite (takeMessage_booked raw s) answers_next
  | readerByteGapTimeout => exact byteGap_booked s
  | writeDone => exact takeReply_booked true s
  | writeFail => exact takeReply_booked false s
  | replyTimerExpiry => exact replyTimerExpiry_booked s
  | claimWindowExpiry => exact claimWindowExpiry_booked s
  | authorizationTimeout => exact authorizationTimeout_booked s
  | tripIdleTimerExpiry => exact tripIdleTimerExpiry_booked s
  | stampWindowExpiry => exact stampWindowExpiry_booked s
  | stampLifetimeExpiry => exact stampLifetimeExpiry_booked s
  | permissiveChange p good => exact permissiveChange_booked p good s
  | armConnect i => exact armConnect_booked i s
  | armDrop i => exact armDrop_booked i s
  | rstopChange pressed => exact rstopChange_booked pressed s
  | start => exact start_booked s
  | stop => exact stop_booked s
  | ackPress => exact ackPress_booked s
  | ackRelease => exact ackRelease_booked s
  | ackHoldEvent => exact ackHoldEvent_booked s
  | refusalPulseEnd => exact refusalPulseEnd_booked s
  | lampStretchEnd lamp => exact lampStretchEnd_booked lamp s
  | lampBlinkPhase lamp => exact lampBlinkPhase_booked lamp s
  | faultCodePatternPhase => exact faultCodePatternPhase_booked s
  | meteringTick i raw => exact meteringTick_booked i raw s
  | valveStepEnd i => exact valveStepEnd_booked i s
  | closingTimerExpiry i => exact closingTimerExpiry_booked i s
  | risingEdge i ch cap => exact risingEdge_booked i ch cap s
  | pendingAEdgeTimeout i => exact pendingAEdgeTimeout_booked i s
  | driveTimeEnd j => exact driveTimeEnd_booked j s
  | spacingPeriodEnd j => exact spacingPeriodEnd_booked j s
  | feedbackPulse j => exact feedbackPulse_booked j s
  | feedbackWindowClose j => exact feedbackWindowClose_booked j s
  | shareTick => exact shareTick_booked s
  | status => exact hearFrame_booked _ _ fun _ h => h
  | claim => exact hearFrame_booked _ _ fun _ => hearClaim_orderly _ _
  | held => exact hearFrame_booked _ _ fun _ => hearHeld_orderly _
  | release => exact hearFrame_booked _ _ fun _ h => h
  | noteReady => exact hearFrame_booked _ _ fun _ h => h
  | noteAsk => exact hearFrame_booked _ _ fun _ => hearAsk_orderly _ _ _
  | notePart => exact hearFrame_booked _ _ fun _ h => h
  | ownEcho => exact ownEcho_booked s
  | conflict => exact answers_ite (answers_finish (conflictHeard_orderly same).booked) answers_next
  | frameDropped framing raw => exact frameDropped_booked framing raw s
  | accessAttempt quiet => exact answers_finish (beginAttempt_orderly quiet same).booked
  | collision => exact collision_booked s
  | statusPeriodExpiry => exact statusPeriodExpiry_booked s
  | statusSpacingExpiry => exact statusSpacingExpiry_booked s
  | aloneTimerExpiry => exact aloneTimerExpiry_booked s
  | listenWindowExpiry => exact listenWindowExpiry_booked s
  | heldLineDetected => exact answers_ite (answers_finish (enterHeldLine_orderly same).booked) answers_next
  | heldLineEnd => exact answers_ite (answers_finish (enterListen_orderly same).booked) answers_next
  | freshToStale station => exact freshToStale_booked station s
  | staleToSilent station => exact staleToSilent_booked station s
  | silentRemoval station => exact silentRemoval_booked station s
  | secondTimer => exact secondTimer_booked s
  | busyChange asserted => exact busyChange_booked asserted s
  | characterSent => exact characterSent_booked s
  | busyTimerExpiry => exact busyTimerExpiry_booked s

end Sys2Proof.Machine
end

section
/-! PROOFS. The end of an event, a microsecond and the card reader's port, and the bookkeeping that every step keeps (O60). -/

namespace Sys2Proof.Machine

/-! ### The end of an event -/

/-- The reports at the end of an event, before the trip idle timer, the lamps and the store port follow. -/
def reports (u : State) : State := reportRoom (reportFreeSlot (recoveryNote (reportFreeSlot u)))

theorem settle_eq (u : State) : settle u = portKick (refreshLamps (idleTimer (reports u))) := rfl

theorem reports_orderly (u : State) : Orderly true u (reports u) :=
  reportRoom_orderly (reportFreeSlot_orderly (recoveryNote_orderly (reportFreeSlot_orderly (.refl _ _))))

/-- What the idle timer, the lamps and the store port leave: all but the idle timer itself, the lamps and the store port. -/
theorem settle_pct (u : State) : (settle u).pct = (idleTimer (reports u)).pct := by
  rw [settle_eq, portKick_pct, refreshLamps_pct]

theorem settle_lif_reports (u : State) : (settle u).lif = (reports u).lif := by
  rw [settle_eq, portKick_lif, refreshLamps_lif, idleTimer_lif]

theorem settle_ntb_reports (u : State) : (settle u).ntb = (reports u).ntb := by
  rw [settle_eq, portKick_ntb, refreshLamps_ntb, idleTimer_ntb]

theorem settle_lanes_reports (u : State) : (settle u).lanes = (reports u).lanes := by
  rw [settle_eq, portKick_lanes, refreshLamps_lanes, idleTimer_lanes]

theorem idleTimer_sul (s : State) : (idleTimer s).sul = s.sul := by
  unfold idleTimer
  repeat' split
  all_goals rfl

theorem settle_sul_reports (u : State) : (settle u).sul = (reports u).sul := by
  have kick (s : State) : (portKick s).sul = s.sul := by
    unfold portKick
    repeat' split
    all_goals rfl
  have lamps (s : State) : (refreshLamps s).sul = s.sul := by unfold refreshLamps; split <;> rfl
  rw [settle_eq, kick, lamps, idleTimer_sul]

/-- What the trip idle timer's rule leaves of Permit Control: all but the timer. -/
theorem settle_pct_reports (u : State) :
    (settle u).pct.slot = (reports u).pct.slot ∧ (settle u).pct.trip = (reports u).pct.trip ∧
    (settle u).pct.held = (reports u).pct.held ∧ (settle u).pct.heldMarks = (reports u).pct.heldMarks := by
  rw [settle_pct]
  have same := idleTimer_pct (reports u)
  exact ⟨congrArg (·.slot) same, congrArg (·.trip) same, congrArg (·.held) same, congrArg (·.heldMarks) same⟩

/-- R23: no lane flows or closes. -/
def State.still (s : State) : Prop := s.anyFlowing = false ∧ s.anyClosing = false

theorem still_of_lanes {s t : State} (same : t.lanes = s.lanes) : t.still ↔ s.still := by
  have stage (i : LaneNo) : t.stage i = s.stage i := congrArg (fun v : Vector Lane 4 => v[i].stage) same
  simp only [State.still, State.anyFlowing, State.anyClosing, stage]

/-- R23: what the rule of the trip idle timer leaves in it: the timer as it runs, or one of 600 s from now, in a RELEASED slot with no
lane that flows or closes, and none otherwise. -/
theorem idleTimer_rule (s : State) :
    (s.pct.slot = .released ∧ s.still → (idleTimer s).pct.idleTimer =
      some (s.pct.idleTimer.getD (s.now + 600000000))) ∧
    (¬(s.pct.slot = .released ∧ s.still) → (idleTimer s).pct.idleTimer = none) := by
  have iff : (s.pct.slot = .released ∧ !s.anyFlowing ∧ !s.anyClosing) ↔ s.pct.slot = .released ∧ s.still := by simp [State.still]
  unfold idleTimer
  constructor
  · intro h
    rw [if_pos (iff.2 h)]
    cases running : s.pct.idleTimer with
    | none => rfl
    | some d => exact running
  · intro h
    rw [if_neg fun x => h (iff.1 x)]
    rfl

theorem settle_idleTimer (u : State) :
    (settle u).pct.idleTimer = (idleTimer (reports u)).pct.idleTimer := by rw [settle_pct]

theorem settle_released_iff (u : State) :
    ((settle u).pct.slot = .released ∧ (settle u).still) ↔ ((reports u).pct.slot = .released ∧ (reports u).still) := by
  rw [(settle_pct_reports u).1, still_of_lanes (settle_lanes_reports u)]

/-- R23: at the end of every event the trip idle timer runs just while it has to. -/
theorem settle_idleOk (u : State) : (settle u).IdleOk := by
  obtain ⟨runs, stops⟩ := idleTimer_rule (reports u)
  change _ ↔ (settle u).pct.slot = .released ∧ (settle u).still
  rw [settle_released_iff, settle_idleTimer]
  by_cases h : (reports u).pct.slot = .released ∧ (reports u).still
  · simp [runs h, h]
  · simp [stops h, h]

/-- R23: a trip idle timer that runs at the end of an event ran before it, or starts there at 600 s. -/
theorem settle_idleTimer_some {u : State} {d : Nat} (runs : (settle u).pct.idleTimer = some d) :
    u.pct.slot = .released ∧ (u.pct.idleTimer = some d ∨ (u.pct.idleTimer = none ∧ d = (settle u).now + 600000000)) := by
  obtain ⟨go, stops⟩ := idleTimer_rule (reports u)
  rw [settle_idleTimer] at runs
  by_cases h : (reports u).pct.slot = .released ∧ (reports u).still
  · obtain ⟨slot, same⟩ := (reports_orderly u).released h.1
    rw [go h, same, (reports_orderly u).now] at runs
    refine ⟨slot, ?_⟩
    cases before : u.pct.idleTimer with
    | none =>
      rw [before] at runs
      refine .inr ⟨rfl, ?_⟩
      rw [settle_now]
      exact (Option.some.inj runs).symm
    | some e =>
      rw [before] at runs
      exact .inl runs
  · rw [stops h] at runs
    cases runs

/-- The laws of the bookkeeping go on at the end of an event. -/
theorem settle_listsOk {u : State} (ok : u.ListsOk) : (settle u).ListsOk := by
  obtain ⟨-, -, held, marks⟩ := settle_pct_reports u
  have after := (reports_orderly u).lists ok
  unfold State.ListsOk at after ⊢
  rw [settle_lif_reports, held, marks, settle_ntb_reports]
  exact after

theorem settle_peersOk {u : State} (ok : u.PeersOk) : (settle u).PeersOk := by
  have after := (reports_orderly u).peers ok
  unfold State.PeersOk at after ⊢
  rw [settle_lif_reports]
  exact after

theorem settle_slotOk {u : State} (ok : u.SlotOk) : (settle u).SlotOk := by
  obtain ⟨slot, trip, -, -⟩ := settle_pct_reports u
  have after := (reports_orderly u).slot ok
  unfold State.SlotOk at after ⊢
  rw [slot, trip]
  exact after

theorem settle_startOk {u : State} (ok : u.StartOk) : (settle u).StartOk := by
  have after := ((reports_orderly u).sequence rfl).startOk ok
  unfold State.StartOk at after ⊢
  rw [settle_sul_reports]
  exact after

/-! ### The bookkeeping through a step -/

/-- R2, R3, R23, R162, R209 to R211: the laws of the bookkeeping from `s` to `t`, the reports and the trip idle timer with them. -/
structure BooksKept (s t : State) : Prop where
  lists : s.ListsOk → t.ListsOk
  peers : s.PeersOk → t.PeersOk
  slot  : s.SlotOk → t.SlotOk
  start : s.StartOk → t.StartOk
  calm  : s.noReportDue → t.noReportDue
  idle  : s.IdleOk → t.IdleOk
  timer : s.IdleOk → ∀ d, t.pct.idleTimer = some d →
    s.pct.idleTimer = some d ∨ (s.pct.idleTimer = none ∧ d = t.now + 600000000)

/-- An event that ends in `u` keeps the bookkeeping. -/
theorem Booked.settled {s u : State} (h : Booked s u) : BooksKept s (settle u) where
  lists ok := settle_listsOk (h.lists ok)
  peers ok := settle_peersOk (h.peers ok)
  slot ok := settle_slotOk (h.slot ok)
  start ok := settle_startOk (h.start ok)
  calm _ := settle_noReportDue u
  idle _ := settle_idleOk u
  timer _ d runs := by
    obtain ⟨slot, before⟩ := settle_idleTimer_some runs
    rwa [h.timer slot] at before

/-- Nothing that the laws speak of has changed. -/
theorem booksKept_of_same {s t : State} (same : Booked s t) (stp : t.stp = s.stp) (room : t.lif.roomFreed = s.lif.roomFreed)
    (pct : t.pct = s.pct) (still : t.still ↔ s.still) : BooksKept s t where
  lists := same.lists
  peers := same.peers
  slot := same.slot
  start := same.start
  calm ok := by rwa [State.noReportDue, stp, room]
  idle ok := by
    change _ ↔ t.pct.slot = .released ∧ t.still
    rw [pct, still]
    exact ok
  timer _ d runs := .inl (pct ▸ runs)

/-- Every command keeps the bookkeeping. -/
theorem exec_booksKept {c : Instr} {s t : State} (next : exec c s = .next t) : BooksKept s t := by
  obtain e | ⟨b, e⟩ | ⟨u, e, booked⟩ | ⟨f, e⟩ := exec_booked c s <;> rw [e] at next
  · obtain rfl : s = t := by simpa using next
    exact booksKept_of_same (booked_of_same rfl rfl rfl rfl) rfl rfl rfl .rfl
  · obtain rfl : (s.modLif fun l => { l with ownLast := b }) = t := by simpa using next
    exact booksKept_of_same ⟨id, id, id, id, fun _ => rfl⟩ rfl rfl rfl .rfl
  · obtain rfl : settle u = t := by simpa [finish] using next
    exact booked.settled
  · cases next

/-! ### A microsecond -/

/-- R28, R76: the levels that follow their pins leave every lane's stage. -/
theorem followLevels_still (s : State) : (followLevels s).still ↔ s.still := by
  have stages (t : State) (i : LaneNo) : (t.besideLevels).stage i = t.stage i := by
    simp [State.besideLevels, State.stage, State.lane]
  have stage (i : LaneNo) : (followLevels s).stage i = s.stage i := followLevels_part s (·.stage i) fun t => stages t i
  simp only [State.still, State.anyFlowing, State.anyClosing, stage]

theorem microsecond_still (s : State) : (microsecond s).still ↔ s.still := by
  have lanes : (microsecond s).lanes = (followLevels s).lanes := by simp [microsecond, followLine_eq, State.later]
  rw [still_of_lanes lanes, followLevels_still]

/-- R146: a microsecond of the line leaves the peers, the transmit FIFO and the report of its room. -/
theorem microsecond_lif_kept (s : State) : (microsecond s).lif.fifo = s.lif.fifo ∧ (microsecond s).lif.peers = s.lif.peers ∧
    (microsecond s).lif.station = s.lif.station ∧ (microsecond s).lif.roomFreed = s.lif.roomFreed := by
  rw [microsecond_lif]
  split <;> exact ⟨rfl, rfl, rfl, rfl⟩

theorem microsecond_booksKept (s : State) : BooksKept s (microsecond s) := by
  obtain ⟨fifo, peers, station, room⟩ := microsecond_lif_kept s
  refine booksKept_of_same ⟨fun ok => ?_, fun ok => ?_, fun ok => ?_, fun ok => ?_, fun _ => by rw [microsecond_pct]⟩
    (microsecond_stp s) room (microsecond_pct s) (microsecond_still s)
  · unfold State.ListsOk
    rwa [fifo, microsecond_pct, microsecond_ntb]
  · unfold State.PeersOk
    rwa [peers, station]
  · rwa [State.SlotOk, microsecond_pct]
  · rwa [State.StartOk, microsecond_sul]

/-- A step keeps the bookkeeping. -/
theorem step_booksKept {s t : State} (next : step s = .next t) : BooksKept s t := by
  have queue (q : List Instr) : BooksKept s { s with pending := q } :=
    booksKept_of_same (booked_of_same rfl rfl rfl rfl) rfl rfl rfl .rfl
  unfold step at next
  split at next
  · obtain rfl : tick s = t := by simpa using next
    obtain ⟨c, rest, -, e⟩ | ⟨-, e⟩ := tick_cases s <;> rw [e]
    · exact queue _
    · exact microsecond_booksKept s
  · obtain ⟨lists, peers, slot, start, calm, idle, timer⟩ := exec_booksKept next
    exact ⟨lists, peers, slot, start, calm, idle, timer⟩

/-! ### The card reader's port (R1) -/

theorem crd_of_kept {s t : State} (kept : t.kept = s.kept) : t.crd = s.crd := by
  simp only [State.kept, Prod.mk.injEq] at kept
  exact kept.2.2.2.2.2

@[simp] theorem dropUnfitted_crd (s : State) : (dropUnfitted s).crd = s.crd := by
  have drop (i : LaneNo) (t : State) : (dropPiu i t).crd = t.crd := by unfold dropPiu; split <;> rfl
  simp [dropUnfitted, State.eachLane, allLanes, drop]

@[simp] theorem configFaultAt_crd (code entry : Nat) (s : State) : (configFaultAt code entry s).crd = s.crd := by
  rw [configFaultAt, dropUnfitted_crd]; rfl

@[simp] theorem askRead_crd (owner : Reader) (page : Nat) (s : State) : (askRead owner page s).crd = s.crd := rfl

@[simp] theorem imageRead_crd (bytes : List Byte) (s : State) : (imageRead bytes s).crd = s.crd := by
  unfold imageRead
  split
  · exact configFaultAt_crd ..
  · rw [askRead_crd, modSul_crd, dropUnfitted_crd]

theorem sulPage_crd (page : List Byte) (s : State) : (sulPage page s).crd = s.crd := by
  unfold sulPage
  split
  case h_1 =>
    unfold headerPage
    repeat' split
    · exact configFaultAt_crd ..
    · exact imageRead_crd ..
    · exact crd_of_kept (by simp)
  case h_2 =>
    unfold imagePage
    split
    · exact imageRead_crd ..
    · rfl
  case h_10 => split <;> exact crd_of_kept (by simp)
  case h_11 | h_12 | h_13 => rfl
  all_goals exact crd_of_kept (by simp)

theorem deliverPage_crd (owner : Reader) (page : List Byte) (s : State) : (deliverPage owner page s).crd = s.crd := by
  cases owner with
  | sul => exact sulPage_crd page s
  | ask => exact crd_of_kept (askPage_kept ..)
  | reprint => exact crd_of_kept (reprintPage_kept ..)
  | noteStatus => exact crd_of_kept (statusPage_kept ..)

theorem settle_crd (s : State) : (settle s).crd = s.crd := crd_of_kept (settle_kept s)

/-- R1: a command leaves the reader's port as it is, or empty. -/
theorem exec_crd {c : Instr} {s t : State} (next : exec c s = .next t) : t.crd = s.crd ∨ t.crd = {} := by
  by_cases h : changesParts c = false
  · obtain ⟨u, e, kept⟩ := exec_keepsParts h s
    obtain rfl : u = t := by simpa [e] using next
    exact .inl (crd_of_kept kept)
  · cases c with
    | reset straps listenOnly =>
      obtain rfl : settle (readStraps straps listenOnly (resetBlocks s)) = t := by simpa [exec, execReset, finish] using next
      have emptied : (readStraps straps listenOnly (resetBlocks s)).crd = {} := by
        unfold readStraps
        dsimp only
        split
        · rfl
        · rw [configFaultAt_crd]; rfl
      exact .inr ((settle_crd _).trans emptied)
    | pageReadComplete =>
      obtain e | ⟨r, -, -, e⟩ | ⟨r, -, -, e⟩ := exec_pageReadComplete_cases s <;> rw [e] at next
      · obtain rfl : s = t := by simpa using next
        exact .inl rfl
      · cases next
      · obtain rfl := Host.Outcome.next.inj next
        exact .inl ((settle_crd _).trans (deliverPage_crd ..))
    | pageWriteComplete =>
      obtain e | ⟨w, due, -, -, e⟩ | ⟨w, due, -, -, e⟩ := exec_pageWriteComplete_cases s <;> rw [e] at next
      · obtain rfl : s = t := by simpa using next
        exact .inl rfl
      · cases next
      · obtain rfl := Host.Outcome.next.inj next
        exact .inl ((settle_crd _).trans ((crd_of_kept (stepDone_kept _)).trans rfl))
    | readerByteGapTimeout =>
      change execReaderByteGapTimeout s = _ at next
      unfold execReaderByteGapTimeout at next
      cases gap : s.crd.gap with
      | none =>
        rw [gap] at next
        obtain rfl := Host.Outcome.next.inj next
        exact .inl rfl
      | some d =>
        rw [gap] at next
        obtain rfl := Host.Outcome.next.inj next
        exact .inr (settle_crd _)
    | _ => exact absurd rfl h

/-- R1: a port without bytes times no gap. -/
theorem portOk_empty {s : State} (empty : s.crd = {}) : s.PortOk := by
  rw [State.PortOk, empty]
  exact ⟨⟨nofun, fun x => absurd rfl x⟩, by decide⟩

theorem microsecond_portOk {s : State} (ok : s.PortOk) : (microsecond s).PortOk := by
  have crd : (microsecond s).crd = (portTick s.pins.cdrx (s.now + 1) s.crd).1 := rfl
  cases byte : s.pins.cdrx with
  | none =>
    rw [byte] at crd
    rw [State.PortOk, crd]
    exact ok
  | some b =>
    rw [byte, portTick] at crd
    obtain ⟨-, e⟩ | ⟨part, e⟩ := CardPort.take_cases b (s.now + 1) s.crd <;> rw [e] at crd
    · exact portOk_empty crd
    · rw [State.PortOk, crd]
      exact ⟨⟨fun _ => by simp, fun _ => rfl⟩, part⟩

theorem step_portOk (s t : State) (ok : s.PortOk) (next : step s = .next t) : t.PortOk := by
  refine step_keeps (law := State.PortOk) (fun s q ok => ok) (fun c s t ok next => ?_) (fun s ok => microsecond_portOk ok) s t ok next
  obtain same | empty := exec_crd next
  · rwa [State.PortOk, same]
  · exact portOk_empty empty

/-- The other queues through a step, the half of O58 that the bookkeeping gives. -/
theorem step_listsOk (s t : State) (ok : s.ListsOk) (next : step s = .next t) : t.ListsOk := (step_booksKept next).lists ok

end Sys2Proof.Machine

open Sys2Proof Sys2Proof.Machine

/-- Settles O60, by the operations of the commands, each of which keeps the bookkeeping (`exec_booked`), by the reports at the end of an
event, and by the reader's port, which a command leaves or empties. -/
theorem bookkeepingKept : Obligations.BookkeepingKept := by
  intro s t next
  have books := step_booksKept next
  exact ⟨books.slot, books.peers, books.start, books.calm, books.idle, fun ok => step_portOk s t ok next, books.timer⟩

end

section
/-! PROOFS. The store write queue through every command: within its size, with one checkpoint for a line (O58). -/

namespace Sys2Proof.Machine

/-- A store write queue that is within R189 and R190 in `s` is so in `u`. -/
def Queued (s u : State) : Prop := s.StpHas queueWithin → u.StpHas queueWithin

/-! ### The operations of the store port itself -/

theorem flightDone_queued {s : State} (h : s.StpHas queueWithin) : (flightDone s).StpHas queueWithin :=
  startNext_queueWithin (s := s.modStp fun p => { p with flight := none }) h

theorem statusPage_queued (page : List Byte) {s : State} (h : s.StpHas queueWithin) : (statusPage page s).StpHas queueWithin := by
  unfold statusPage
  repeat' split
  · exact h
  · exact flightDone_queued h
  · exact h
  · exact h

theorem recordCopy_queued (r : WriteReq) {s : State} (h : s.StpHas queueWithin) : (recordCopy r s).StpHas queueWithin := by
  unfold recordCopy
  split <;> exact h

theorem stepDone_queued {s : State} (h : s.StpHas queueWithin) : (stepDone s).StpHas queueWithin := by
  unfold stepDone
  repeat' split
  · exact h
  · exact flightDone_queued (reportDone_stpHas queueWithin_law _ (recordCopy_queued _ h))
  · exact h

theorem sulPage_queued (page : List Byte) {s : State} (h : s.StpHas queueWithin) : (sulPage page s).StpHas queueWithin := by
  have law := queueWithin_law
  unfold sulPage
  split
  · exact headerPage_stpHas law _ h
  · exact imagePage_stpHas law _ _ h
  · unfold totalsPage
    dsimp only
    split <;> exact h
  · exact slotFirst_stpHas law _ _ h
  · exact slotNext_stpHas law _ _ _ h
  · exact markHeadPage_stpHas law _ h
  · exact markLinesPage_stpHas law _ h
  · exact sealedFirst_stpHas law _ h
  · exact sealedNext_stpHas law _ _ h
  · split
    · exact toSettle_stpHas law h
    · exact checkPage_stpHas law _ _ _ h
  all_goals exact h

theorem deliverPage_queued (owner : Reader) (page : List Byte) {s : State} (h : s.StpHas queueWithin) :
    (deliverPage owner page s).StpHas queueWithin := by
  cases owner with
  | sul => exact sulPage_queued page h
  | ask => exact askPage_stpHas queueWithin_law page h
  | reprint => exact reprintPage_stpHas queueWithin_law page h
  | noteStatus => exact statusPage_queued page h

/-- The end of an event keeps the queue within its sizes. -/
theorem settle_queued {u : State} (h : u.StpHas queueWithin) : (settle u).StpHas queueWithin := by
  have law := queueWithin_law
  have clear (p : Stp) (h : queueWithin p) : queueWithin { p with departed := false } := h
  have told : (reports u).StpHas queueWithin := reportRoom_stpHas law (reportFreeSlot_stpHas law clear (recoveryNote_stpHas law
    (reportFreeSlot_stpHas law clear h)))
  have queue : (settle u).stp.queue = (reports u).stp.queue := by
    rw [settle_eq, (portKick_queue_flight _).1, refreshLamps_stp, idleTimer_stp]
  change queueWithin _
  rw [queueWithin, queue]
  exact told

/-! ### The commands -/

theorem onExpiry_queued {effect : Nat → State → State} {due : Option Nat} {s : State}
    (h : ∀ d t, State.StpHas t queueWithin → (effect d t).StpHas queueWithin) : Answers (Queued s) s (onExpiry due effect s) :=
  answers_onExpiry fun d ok => h d _ ok

/-- A change of an input that has its effect only after start-up. -/
theorem changed_queued {c : Prop} [Decidable c] {s t : State} (effect : State → State) (same : t.stp = s.stp)
    (each : t.StpHas queueWithin → (effect t).StpHas queueWithin) :
    Answers (Queued s) s (if c then .next s else finish (if s.sul.done then effect t else t)) := by
  refine answers_ite answers_next (answers_finish fun ok => ?_)
  have ok : t.StpHas queueWithin := by rwa [State.StpHas, same]
  split
  · exact each ok
  · exact ok

theorem takeCard_queued (block : List Byte) (s : State) : Answers (Queued s) s (takeCard block s) := by
  have law := queueWithin_law
  unfold takeCard
  split
  · exact answers_next
  · exact answers_finish (refuseCard_stpHas law _)
  · exact answers_finish (takeTrip_stpHas law _)
  · exact answers_finish (writeTripStamp_stpHas law)
  · exact answers_finish (writePending_stpHas law)

theorem takeReply_queued (success : Bool) (s : State) : Answers (Queued s) s (takeReply success s) := by
  have law := queueWithin_law
  unfold takeReply
  refine answers_ite (answers_finish fun ok => ?_) answers_next
  split
  · exact writeSucceeded_stpHas law ok
  · exact writeFailed_stpHas law ok

theorem takeMessage_queued (raw : List Byte) (s : State) : Answers (Queued s) s (takeMessage raw s) := by
  unfold takeMessage
  split
  · exact takeCard_queued _ s
  · exact takeReply_queued _ s
  · exact takeReply_queued _ s

/-- A frame of a peer, with what it is delivered to. -/
theorem hearFrame_queued (sender : Nat) (p : Payload) {deliver : State → State} {s : State}
    (each : ∀ t, State.StpHas t queueWithin → (deliver t).StpHas queueWithin) : Answers (Queued s) s (hearFrame sender p deliver s) := by
  have law := queueWithin_law
  refine answers_finish fun ok => ?_
  unfold peerFrame
  split
  · exact ok
  split
  · exact conflictHeard_stpHas law ok
  · split
    · exact ok
    · exact ok
    · exact peerHeard_stpHas law (each _ (adoptRackTime_stpHas law _ (haltEdge_stpHas law _ (tablePeer_stpHas law _ _
      ((modLif_stpHas _ _).2 ok)))))

theorem permissiveChange_queued (p : Permissive) (good : Bool) (s : State) : Answers (Queued s) s (execPermissiveChange p good s) :=
  changed_queued _ rfl (permissiveEffect_stpHas queueWithin_law good)

theorem armConnect_queued (i : LaneNo) (s : State) : Answers (Queued s) s (execArmConnect i s) :=
  changed_queued _ rfl (primingCheck_stpHas queueWithin_law i)

theorem armDrop_queued (i : LaneNo) (s : State) : Answers (Queued s) s (execArmDrop i s) :=
  changed_queued _ rfl (armLost_stpHas queueWithin_law i)

theorem rstopChange_queued (pressed : Bool) (s : State) : Answers (Queued s) s (execRstopChange pressed s) :=
  changed_queued (fun t => haltEdge s.halted (requestUrgent t)) rfl
    fun h => haltEdge_stpHas queueWithin_law _ (requestUrgent_stpHas queueWithin_law h)

theorem start_queued (s : State) : Answers (Queued s) s (execStart s) :=
  changed_queued _ rfl (startEffect_stpHas queueWithin_law)

theorem stop_queued (s : State) : Answers (Queued s) s (execStop s) :=
  changed_queued _ rfl (stopEffect_stpHas queueWithin_law)

theorem ackPress_queued (s : State) : Answers (Queued s) s (execAckPress s) :=
  changed_queued _ rfl (ackEffect_stpHas queueWithin_law)

theorem ackRelease_queued (s : State) : Answers (Queued s) s (execAckRelease s) := by
  unfold execAckRelease
  exact answers_ite (answers_finish id) answers_next

theorem feedbackPulse_queued (j : InjNo) (s : State) : Answers (Queued s) s (execFeedbackPulse j s) := by
  unfold execFeedbackPulse
  refine answers_ite (answers_finish fun ok => ?_) answers_next
  have ok : (s.modInj j fun x => { x with level := true }).StpHas queueWithin := ok
  split
  · exact pulseTaken_stpHas queueWithin_law j ok
  · exact ok

theorem lampStretchEnd_queued (lamp : Lamp) (s : State) : Answers (Queued s) s (execLampStretchEnd lamp s) := by
  unfold execLampStretchEnd
  exact answers_ite answers_next (answers_finish id)

theorem risingEdge_queued (i : LaneNo) (ch : Channel) (cap : Word32) (s : State) : Answers (Queued s) s (execRisingEdge i ch cap s) := by
  unfold execRisingEdge
  refine answers_ite ?_ answers_next
  cases ch
  · exact answers_finish fun ok => edgeA_stpHas queueWithin_law i cap ((reachCapture_stpHas s cap).2 ok)
  · exact answers_finish fun ok => edgeB_stpHas queueWithin_law i cap ((reachCapture_stpHas s cap).2 ok)

theorem spacingPeriodEnd_queued (j : InjNo) (s : State) : Answers (Queued s) s (execSpacingPeriodEnd j s) := by
  unfold execSpacingPeriodEnd
  refine onExpiry_queued fun d t ok => ?_
  have ended := tryEndCycle_stpHas queueWithin_law j (s := t.modInj j fun x => { x with spacingDue := none, spacingOver := true }) ok
  split
  · exact ended
  · exact closeDoses_stpHas queueWithin_law _ ended

theorem ownEcho_queued (s : State) : Answers (Queued s) s (execOwnEcho s) := by
  unfold execOwnEcho
  split
  · exact answers_next
  · exact answers_finish (ownEchoOf_stpHas queueWithin_law _)

theorem frameDropped_queued (framing : Bool) (raw : List Byte) (s : State) : Answers (Queued s) s (execFrameDropped framing raw s) := by
  unfold execFrameDropped
  refine answers_ite answers_next ?_
  split
  · exact .inr (.inl ⟨false, rfl⟩)
  · exact answers_finish fun ok => echoDropped_stpHas queueWithin_law ((modLif_stpHas s _).2 ok)

theorem collision_queued (s : State) : Answers (Queued s) s (execCollision s) := by
  unfold execCollision
  split
  · exact answers_next
  · exact answers_finish (collided_stpHas queueWithin_law)

theorem freshToStale_queued (station : Nat) (s : State) : Answers (Queued s) s (execFreshToStale station s) := by
  unfold execFreshToStale
  split
  · exact answers_next
  · exact answers_ite (answers_finish fun ok => ok) answers_next

theorem staleToSilent_queued (station : Nat) (s : State) : Answers (Queued s) s (execStaleToSilent station s) := by
  unfold execStaleToSilent
  split
  · exact answers_next
  · refine answers_ite (answers_finish fun ok => ?_) answers_next
    split <;> exact ok

theorem silentRemoval_queued (station : Nat) (s : State) : Answers (Queued s) s (execSilentRemoval station s) := by
  unfold execSilentRemoval
  split
  · exact answers_next
  · exact answers_ite (answers_finish fun ok => ok) answers_next

theorem busyChange_queued (asserted : Bool) (s : State) : Answers (Queued s) s (execBusyChange asserted s) := by
  unfold execBusyChange
  refine answers_ite answers_next (answers_finish fun ok => ?_)
  split
  · exact busyAsserted_stpHas queueWithin_law ok
  · exact busyReleased_stpHas queueWithin_law ok

theorem characterSent_queued (s : State) : Answers (Queued s) s (execCharacterSent s) := by
  unfold execCharacterSent
  split
  · exact answers_next
  · exact answers_finish fun ok => characterGone_stpHas queueWithin_law ((emit_stpHas s _).2 ok)

theorem startUpCompletion_queued (s : State) : Answers (Queued s) s (execStartUpCompletion s) := by
  unfold execStartUpCompletion
  refine answers_ite (answers_finish fun ok => ?_) answers_next
  split
  · exact completeNormal_stpHas queueWithin_law ok
  · exact completeFault_stpHas queueWithin_law ok

theorem pageReadComplete_queued (s : State) : Answers (Queued s) s (exec .pageReadComplete s) := by
  obtain e | ⟨r, -, -, e⟩ | ⟨r, -, -, e⟩ := exec_pageReadComplete_cases s <;> rw [e]
  · exact answers_next
  · exact .inr (.inr (.inr ⟨_, rfl⟩))
  · exact answers_finish fun ok => deliverPage_queued r.owner _ (s := s.modStp fun p => { p with port := .idle, lastRead := true }) ok

theorem pageWriteComplete_queued (s : State) : Answers (Queued s) s (exec .pageWriteComplete s) := by
  obtain e | ⟨w, due, -, -, e⟩ | ⟨w, due, -, -, e⟩ := exec_pageWriteComplete_cases s <;> rw [e]
  · exact answers_next
  · exact .inr (.inr (.inr ⟨_, rfl⟩))
  · exact answers_finish fun ok => stepDone_queued (s := written w due s) ok

/-- R201: nothing waits right after reset. -/
theorem reset_queued (straps : BitVec 5) (listenOnly : Bool) (s : State) : Queued s (readStraps straps listenOnly (resetBlocks s)) := by
  intro _
  have empty : (resetBlocks s).StpHas queueWithin := ⟨Nat.zero_le _, .nil⟩
  unfold readStraps
  dsimp only
  split
  · exact empty
  · exact configFaultAt_stpHas queueWithin_law _ _ ((modLif_stpHas _ _).2 empty)

theorem replyTimerExpiry_queued (s : State) : Answers (Queued s) s (execReplyTimerExpiry s) :=
  onExpiry_queued fun _ _ h => writeFailed_stpHas queueWithin_law h

theorem claimWindowExpiry_queued (s : State) : Answers (Queued s) s (execClaimWindowExpiry s) :=
  onExpiry_queued fun _ _ h => claimWindowEnd_stpHas queueWithin_law h

theorem authorizationTimeout_queued (s : State) : Answers (Queued s) s (execAuthorizationTimeout s) :=
  onExpiry_queued fun _ _ h => authEnd_stpHas queueWithin_law h

theorem tripIdleTimerExpiry_queued (s : State) : Answers (Queued s) s (execTripIdleTimerExpiry s) :=
  onExpiry_queued fun _ _ h => idleEnd_stpHas queueWithin_law h

theorem stampWindowExpiry_queued (s : State) : Answers (Queued s) s (execStampWindowExpiry s) :=
  onExpiry_queued fun _ _ h => stampWindowEnd_stpHas queueWithin_law h

theorem stampLifetimeExpiry_queued (s : State) : Answers (Queued s) s (execStampLifetimeExpiry s) :=
  onExpiry_queued fun _ _ h => lifetimeEnd_stpHas queueWithin_law h

theorem ackHoldEvent_queued (s : State) : Answers (Queued s) s (execAckHoldEvent s) :=
  onExpiry_queued fun _ _ h => holdEffect_stpHas queueWithin_law h

theorem refusalPulseEnd_queued (s : State) : Answers (Queued s) s (execRefusalPulseEnd s) :=
  onExpiry_queued fun _ _ h => h

theorem lampBlinkPhase_queued (lamp : Lamp) (s : State) : Answers (Queued s) s (execLampBlinkPhase lamp s) :=
  onExpiry_queued fun _ _ h => h

theorem faultCodePatternPhase_queued (s : State) : Answers (Queued s) s (execFaultCodePatternPhase s) :=
  onExpiry_queued fun _ _ h => h

theorem meteringTick_queued (i : LaneNo) (raw : BitVec 12) (s : State) : Answers (Queued s) s (execMeteringTick i raw s) :=
  onExpiry_queued fun _ _ h => lanePass_stpHas queueWithin_law i _ ((modLane_stpHas _ _ _).2 h)

theorem valveStepEnd_queued (i : LaneNo) (s : State) : Answers (Queued s) s (execValveStepEnd i s) :=
  onExpiry_queued fun _ _ h => endStep_stpHas queueWithin_law i h

theorem closingTimerExpiry_queued (i : LaneNo) (s : State) : Answers (Queued s) s (execClosingTimerExpiry i s) :=
  onExpiry_queued fun _ _ h => valveLeak_stpHas queueWithin_law i h

theorem pendingAEdgeTimeout_queued (i : LaneNo) (s : State) : Answers (Queued s) s (execPendingAEdgeTimeout i s) :=
  onExpiry_queued fun _ _ h => h

theorem driveTimeEnd_queued (j : InjNo) (s : State) : Answers (Queued s) s (execDriveTimeEnd j s) :=
  onExpiry_queued fun _ _ h => h

theorem feedbackWindowClose_queued (j : InjNo) (s : State) : Answers (Queued s) s (execFeedbackWindowClose j s) :=
  onExpiry_queued fun _ _ h => windowEnd_stpHas queueWithin_law j h

theorem shareTick_queued (s : State) : Answers (Queued s) s (execShareTick s) :=
  onExpiry_queued fun _ _ h => computeShares_stpHas queueWithin_law ((modHsu_stpHas _ _).2 h)

theorem statusPeriodExpiry_queued (s : State) : Answers (Queued s) s (execStatusPeriodExpiry s) :=
  onExpiry_queued fun _ _ h => statusDueNow_stpHas queueWithin_law ((modLif_stpHas _ _).2 h)

theorem statusSpacingExpiry_queued (s : State) : Answers (Queued s) s (execStatusSpacingExpiry s) :=
  onExpiry_queued fun _ _ h => statusDueNow_stpHas queueWithin_law ((modLif_stpHas _ _).2 h)

theorem aloneTimerExpiry_queued (s : State) : Answers (Queued s) s (execAloneTimerExpiry s) :=
  onExpiry_queued fun _ _ h => aloneEnd_stpHas queueWithin_law h

theorem listenWindowExpiry_queued (s : State) : Answers (Queued s) s (execListenWindowExpiry s) :=
  onExpiry_queued fun _ _ h => listenEnd_stpHas queueWithin_law h

theorem secondTimer_queued (s : State) : Answers (Queued s) s (execSecondTimer s) :=
  onExpiry_queued fun _ _ h => h

theorem busyTimerExpiry_queued (s : State) : Answers (Queued s) s (execBusyTimerExpiry s) :=
  onExpiry_queued fun _ _ h => finishPrint_stpHas queueWithin_law _ h

theorem readerByteGapTimeout_queued (s : State) : Answers (Queued s) s (execReaderByteGapTimeout s) :=
  onExpiry_queued fun _ _ h => h

/-- Every command keeps the store write queue within its sizes. -/
theorem exec_queued (c : Instr) (s : State) : Answers (Queued s) s (exec c s) := by
  have law := queueWithin_law
  cases c with
  | reset straps listenOnly => exact answers_finish (reset_queued straps listenOnly s)
  | pageReadComplete => exact pageReadComplete_queued s
  | pageWriteComplete => exact pageWriteComplete_queued s
  | startUpCompletion => exact startUpCompletion_queued s
  | card block => exact takeCard_queued block s
  | readerMessageDiscarded raw => exact answers_ite (takeMessage_queued raw s) answers_next
  | readerByteGapTimeout => exact readerByteGapTimeout_queued s
  | writeDone => exact takeReply_queued true s
  | writeFail => exact takeReply_queued false s
  | replyTimerExpiry => exact replyTimerExpiry_queued s
  | claimWindowExpiry => exact claimWindowExpiry_queued s
  | authorizationTimeout => exact authorizationTimeout_queued s
  | tripIdleTimerExpiry => exact tripIdleTimerExpiry_queued s
  | stampWindowExpiry => exact stampWindowExpiry_queued s
  | stampLifetimeExpiry => exact stampLifetimeExpiry_queued s
  | permissiveChange p good => exact permissiveChange_queued p good s
  | armConnect i => exact armConnect_queued i s
  | armDrop i => exact armDrop_queued i s
  | rstopChange pressed => exact rstopChange_queued pressed s
  | start => exact start_queued s
  | stop => exact stop_queued s
  | ackPress => exact ackPress_queued s
  | ackRelease => exact ackRelease_queued s
  | ackHoldEvent => exact ackHoldEvent_queued s
  | refusalPulseEnd => exact refusalPulseEnd_queued s
  | lampStretchEnd lamp => exact lampStretchEnd_queued lamp s
  | lampBlinkPhase lamp => exact lampBlinkPhase_queued lamp s
  | faultCodePatternPhase => exact faultCodePatternPhase_queued s
  | meteringTick i raw => exact meteringTick_queued i raw s
  | valveStepEnd i => exact valveStepEnd_queued i s
  | closingTimerExpiry i => exact closingTimerExpiry_queued i s
  | risingEdge i ch cap => exact risingEdge_queued i ch cap s
  | pendingAEdgeTimeout i => exact pendingAEdgeTimeout_queued i s
  | driveTimeEnd j => exact driveTimeEnd_queued j s
  | spacingPeriodEnd j => exact spacingPeriodEnd_queued j s
  | feedbackPulse j => exact feedbackPulse_queued j s
  | feedbackWindowClose j => exact feedbackWindowClose_queued j s
  | shareTick => exact shareTick_queued s
  | status => exact hearFrame_queued _ _ fun _ h => h
  | claim => exact hearFrame_queued _ _ fun _ => hearClaim_stpHas law _ _
  | held => exact hearFrame_queued _ _ fun _ => hearHeld_stpHas law _
  | release => exact hearFrame_queued _ _ fun _ h => h
  | noteReady => exact hearFrame_queued _ _ fun _ h => h
  | noteAsk => exact hearFrame_queued _ _ fun _ => hearAsk_stpHas law _ _ _
  | notePart => exact hearFrame_queued _ _ fun _ h => h
  | ownEcho => exact ownEcho_queued s
  | conflict => exact answers_ite (answers_finish (conflictHeard_stpHas law)) answers_next
  | frameDropped framing raw => exact frameDropped_queued framing raw s
  | accessAttempt quiet => exact answers_finish (beginAttempt_stpHas law quiet)
  | collision => exact collision_queued s
  | statusPeriodExpiry => exact statusPeriodExpiry_queued s
  | statusSpacingExpiry => exact statusSpacingExpiry_queued s
  | aloneTimerExpiry => exact aloneTimerExpiry_queued s
  | listenWindowExpiry => exact listenWindowExpiry_queued s
  | heldLineDetected => exact answers_ite (answers_finish (enterHeldLine_stpHas law)) answers_next
  | heldLineEnd => exact answers_ite (answers_finish (enterListen_stpHas law)) answers_next
  | freshToStale station => exact freshToStale_queued station s
  | staleToSilent station => exact staleToSilent_queued station s
  | silentRemoval station => exact silentRemoval_queued station s
  | secondTimer => exact secondTimer_queued s
  | busyChange asserted => exact busyChange_queued asserted s
  | characterSent => exact characterSent_queued s
  | busyTimerExpiry => exact busyTimerExpiry_queued s

theorem step_queueOk (s t : State) (ok : s.QueueOk) (next : step s = .next t) : t.QueueOk := by
  refine step_keeps (law := State.QueueOk) (fun s q ok => ok) (fun c s t ok next => ?_) (fun s ok => ?_) s t ok next
  · obtain e | ⟨b, e⟩ | ⟨u, e, queued⟩ | ⟨f, e⟩ := exec_queued c s <;> rw [e] at next
    · obtain rfl : s = t := by simpa using next
      exact ok
    · obtain rfl : (s.modLif fun l => { l with ownLast := b }) = t := by simpa using next
      exact ok
    · obtain rfl : settle u = t := by simpa [finish] using next
      exact settle_queued (queued ok)
    · cases next
  · rwa [State.QueueOk, microsecond_stp]

end Sys2Proof.Machine

open Sys2Proof Sys2Proof.Machine

/-- Settles O58, by the offers, each of which keeps the store write queue (`queueWithin_law`), through the operations of every command,
and by the sizes of the other lists in the bookkeeping. -/
theorem queuesStayWithinSizes : Obligations.QueuesStayWithinSizes := ⟨step_queueOk, step_listsOk⟩

end

section
/-! PROOFS. What every operation of the model keeps of the lanes' outputs (O59): a lane output is on in a flowing stage only, none is
turned on but where the lane may energise it, and no lane begins to flow but at a START. One lemma for each operation. -/

namespace Sys2Proof.Machine

/-! ### The relation -/

/-- An output of the lane is on. -/
def Lane.energised (l : Lane) : Bool := l.openOut || l.holdOut

/-- R29: nothing but the lane's stage keeps it from energising its outputs: the permissive set is whole, no latch is set for it, and
no rack halt is in force. -/
def State.clear (s : State) (i : LaneNo) : Prop :=
  s.whole = true ∧ s.ilm.bayLatch = false ∧ s.laneLatched i = false ∧ s.halted = false

/-- R29: outputs are on in the flowing stages only. -/
def State.Contained (s : State) : Prop := ∀ i : LaneNo, (s.lane i).energised = true → (s.stage i).flowing = true

/-- `t` comes from `s` by operations that turn no output on but where the lane may energise it, and bring up no condition that would
have to turn one off. With `still` no lane begins to flow. -/
structure Tame (still : Bool) (s t : State) : Prop where
  whole     : t.whole = s.whole
  clear     : ∀ i, s.clear i → t.clear i
  contained : s.Contained → t.Contained
  powered   : ∀ i, (t.lane i).energised = true → (s.lane i).energised = true ∨ t.clear i
  flows     : still = true → ∀ i, (t.stage i).flowing = true → (s.stage i).flowing = true
  ended     : t.sul.done = false → s.sul.done = false

@[simp] theorem Tame.refl (still : Bool) (s : State) : Tame still s s := ⟨rfl, fun _ => id, id, fun _ => .inl, fun _ _ => id, id⟩

theorem Tame.trans {still : Bool} {s t u : State} (a : Tame still s t) (b : Tame still t u) : Tame still s u where
  whole := b.whole.trans a.whole
  clear i h := b.clear i (a.clear i h)
  contained h := b.contained (a.contained h)
  powered i h := by
    obtain before | free := b.powered i h
    · exact (a.powered i before).imp_right (b.clear i)
    · exact .inr free
  flows h i x := a.flows h i (b.flows h i x)
  ended h := a.ended (b.ended h)

variable {still : Bool} {s₀ s : State}

/-! ### Updates of one block -/

@[simp] theorem modPct_tame (f : Pct → Pct) (tame : Tame still s₀ s) : Tame still s₀ (s.modPct f) := tame.trans ⟨rfl, fun _ => id, id, fun _ => .inl, fun _ _ => id, id⟩
@[simp] theorem modHsu_tame (f : Hsu → Hsu) (tame : Tame still s₀ s) : Tame still s₀ (s.modHsu f) := tame.trans ⟨rfl, fun _ => id, id, fun _ => .inl, fun _ _ => id, id⟩
@[simp] theorem modStp_tame (f : Stp → Stp) (tame : Tame still s₀ s) : Tame still s₀ (s.modStp f) := tame.trans ⟨rfl, fun _ => id, id, fun _ => .inl, fun _ _ => id, id⟩
@[simp] theorem modNtb_tame (f : Ntb → Ntb) (tame : Tame still s₀ s) : Tame still s₀ (s.modNtb f) := tame.trans ⟨rfl, fun _ => id, id, fun _ => .inl, fun _ _ => id, id⟩
@[simp] theorem modInj_tame (j : InjNo) (f : Injector → Injector) (tame : Tame still s₀ s) : Tame still s₀ (s.modInj j f) :=
  tame.trans ⟨rfl, fun _ => id, id, fun _ => .inl, fun _ _ => id, id⟩
@[simp] theorem emit_tame (o : Output) (tame : Tame still s₀ s) : Tame still s₀ (s.emit o) := tame.trans ⟨rfl, fun _ => id, id, fun _ => .inl, fun _ _ => id, id⟩

/-- An update of the Interlock Monitor that leaves the permissive set, and after which a lane that was clear is so. -/
theorem modIlm_tame_clear (f : Ilm → Ilm) (whole : (s.modIlm f).whole = s.whole) (clear : ∀ i, s.clear i → (s.modIlm f).clear i)
    (tame : Tame still s₀ s) : Tame still s₀ (s.modIlm f) :=
  tame.trans ⟨whole, clear, id, fun _ => .inl, fun _ _ => id, id⟩

/-- An update of the Interlock Monitor that leaves the inputs and latches that R29 speaks of. -/
@[simp] theorem modIlm_tame (f : Ilm → Ilm)
    (inputs : (f s.ilm).ground = s.ilm.ground ∧ (f s.ilm).overfill = s.ilm.overfill ∧ (f s.ilm).vapour = s.ilm.vapour ∧
      (f s.ilm).estop = s.ilm.estop ∧ (f s.ilm).rstop = s.ilm.rstop)
    (latches : (f s.ilm).bayLatch = s.ilm.bayLatch ∧ (f s.ilm).laneLatch = s.ilm.laneLatch) (tame : Tame still s₀ s) :
    Tame still s₀ (s.modIlm f) := by
  obtain ⟨ground, overfill, vapour, estop, rstop⟩ := inputs
  obtain ⟨bay, latch⟩ := latches
  have whole : (s.modIlm f).whole = s.whole := by simp only [State.whole, modIlm_ilm, ground, overfill, vapour, estop]
  refine modIlm_tame_clear f whole (fun i free => ?_) tame
  unfold State.clear State.laneLatched State.halted at free ⊢
  rwa [whole, modIlm_ilm, modIlm_lif, bay, latch, rstop]

/-- An update of the Line Interface that brings no rack halt up. -/
theorem modLif_tame_halt (f : Lif → Lif) (halt : (f s.lif).peers.any (·.halt) = true → s.lif.peers.any (·.halt) = true)
    (tame : Tame still s₀ s) : Tame still s₀ (s.modLif f) := by
  refine tame.trans ⟨rfl, fun i free => ?_, id, fun _ => .inl, fun _ _ => id, id⟩
  obtain ⟨whole, bay, latch, unhalted⟩ := free
  refine ⟨whole, bay, latch, ?_⟩
  unfold State.halted at unhalted ⊢
  rw [Bool.or_eq_false_iff] at unhalted ⊢
  exact ⟨unhalted.1, Bool.eq_false_iff.2 fun x => Bool.eq_false_iff.1 unhalted.2 (halt x)⟩

@[simp] theorem modLif_tame (f : Lif → Lif) (same : (f s.lif).peers = s.lif.peers) (tame : Tame still s₀ s) :
    Tame still s₀ (s.modLif f) := modLif_tame_halt f (by rw [same]; exact id) tame

@[simp] theorem modSul_tame (f : Sul → Sul) (ended : (f s.sul).done = false → s.sul.done = false) (tame : Tame still s₀ s) :
    Tame still s₀ (s.modSul f) := tame.trans ⟨rfl, fun _ => id, id, fun _ => .inl, fun _ _ => id, ended⟩

/-- An update of a lane, by what it makes of the lane's outputs and stage. -/
theorem modLane_tame_of (i : LaneNo) (f : Lane → Lane)
    (contained : ((s.lane i).energised = true → (s.stage i).flowing = true) →
      (f (s.lane i)).energised = true → (f (s.lane i)).stage.flowing = true)
    (powered : (f (s.lane i)).energised = true → (s.lane i).energised = true ∨ s.clear i)
    (flows : still = true → (f (s.lane i)).stage.flowing = true → (s.stage i).flowing = true)
    (tame : Tame still s₀ s) : Tame still s₀ (s.modLane i f) := by
  refine tame.trans ⟨rfl, fun _ => id, fun h k => ?_, fun k => ?_, fun on k => ?_, id⟩
  all_goals
    rcases eq_or_ne i k with rfl | ne
    on_goal 2 => simp only [State.stage, modLane_lane_ne _ _ _ ne]
  · rw [State.stage, modLane_lane_self]
    exact contained (h i)
  · exact h k
  · rw [modLane_lane_self]
    exact powered
  · exact .inl
  · rw [State.stage, modLane_lane_self]
    exact flows on
  · exact id

/-- An update of a lane that leaves its outputs, and that it flows or not. -/
@[simp] theorem modLane_tame (i : LaneNo) (f : Lane → Lane) (openOut : (f (s.lane i)).openOut = (s.lane i).openOut)
    (holdOut : (f (s.lane i)).holdOut = (s.lane i).holdOut) (stage : (f (s.lane i)).stage.flowing = (s.lane i).stage.flowing)
    (tame : Tame still s₀ s) : Tame still s₀ (s.modLane i f) := by
  have same : (f (s.lane i)).energised = (s.lane i).energised := by rw [Lane.energised, Lane.energised, openOut, holdOut]
  refine modLane_tame_of i f ?_ ?_ (fun _ => ?_) tame
  · rw [same, stage]; exact id
  · rw [same]; exact .inl
  · rw [stage]; exact id

/-- An update of a lane with its outputs off, by which it does not begin to flow. -/
theorem modLane_tame_off (i : LaneNo) (f : Lane → Lane) (off : (f (s.lane i)).openOut = false ∧ (f (s.lane i)).holdOut = false)
    (stage : (f (s.lane i)).stage.flowing = true → (s.stage i).flowing = true) (tame : Tame still s₀ s) :
    Tame still s₀ (s.modLane i f) := by
  have dark : (f (s.lane i)).energised = false := by rw [Lane.energised, off.1, off.2]; rfl
  refine modLane_tame_of i f (fun _ x => ?_) (fun x => ?_) (fun _ => stage) tame
  all_goals rw [dark] at x; cases x

@[simp] theorem modPiu_tame (i : LaneNo) (f : Piu → Piu) (tame : Tame still s₀ s) : Tame still s₀ (s.modPiu i f) :=
  modLane_tame i _ rfl rfl rfl tame
@[simp] theorem modVen_tame (i : LaneNo) (f : Ven → Ven) (tame : Tame still s₀ s) : Tame still s₀ (s.modVen i f) :=
  modLane_tame i _ rfl rfl rfl tame

@[simp] theorem modTrip_tame (f : Trip → Trip) (tame : Tame still s₀ s) : Tame still s₀ (s.modTrip f) := modPct_tame _ tame
@[simp] theorem modLine_tame (k : Nat) (f : OrderLine → OrderLine) (tame : Tame still s₀ s) : Tame still s₀ (s.modLine k f) :=
  modTrip_tame _ tame
@[simp] theorem modTripFlags_tame (f : TripFlags → TripFlags) (tame : Tame still s₀ s) : Tame still s₀ (s.modTripFlags f) :=
  modTrip_tame _ tame
@[simp] theorem modHeld_tame (i : LaneNo) (f : OrderLine → OrderLine) (tame : Tame still s₀ s) : Tame still s₀ (s.modHeld i f) := by
  unfold State.modHeld
  split <;> simp [tame]
@[simp] theorem modRecord_tame (i : LaneNo) (f : CompRecord → CompRecord) (tame : Tame still s₀ s) : Tame still s₀ (s.modRecord i f) :=
  modHeld_tame i _ tame
@[simp] theorem modFlags_tame (i : LaneNo) (f : CompFlags → CompFlags) (tame : Tame still s₀ s) : Tame still s₀ (s.modFlags i f) :=
  modRecord_tame i _ tame
@[simp] theorem modAdditive_tame (i : LaneNo) (k : Nat) (f : AdditiveLine → AdditiveLine) (tame : Tame still s₀ s) :
    Tame still s₀ (s.modAdditive i k f) := modRecord_tame i _ tame

theorem foldl_tame {α : Type} {f : State → α → State} (hf : ∀ t a, Tame still s₀ t → Tame still s₀ (f t a)) (l : List α)
    (tame : Tame still s₀ s) : Tame still s₀ (l.foldl f s) := by
  induction l generalizing s with
  | nil => exact tame
  | cons a l ih => exact ih (hf s a tame)

theorem eachLane_tame {f : LaneNo → State → State} (hf : ∀ i t, Tame still s₀ t → Tame still s₀ (f i t))
    (tame : Tame still s₀ s) : Tame still s₀ (s.eachLane f) := foldl_tame (fun t i => hf i t) _ tame

/-! ### Offers to the store write queue and to the transmit FIFO -/

@[simp] theorem enqueue_tame (q : QItem) (tame : Tame still s₀ s) : Tame still s₀ (enqueue q s).2 := by
  rw [enqueue_modStp]
  exact modStp_tame _ tame

theorem enqueue_tame_of {q : QItem} {t : State} {b : Bool} (h : enqueue q s = (b, t)) (tame : Tame still s₀ s) : Tame still s₀ t := by
  rw [show t = (enqueue q s).2 by rw [h]]
  exact enqueue_tame q tame

@[simp] theorem offerFrame_tame (f : TxFrame) (tame : Tame still s₀ s) : Tame still s₀ (offerFrame f s).2 := by
  unfold offerFrame
  repeat' split
  all_goals simp [tame]

theorem offerFrame_tame_of {f : TxFrame} {t : State} {b : Bool} (h : offerFrame f s = (b, t)) (tame : Tame still s₀ s) :
    Tame still s₀ t := by
  rw [show t = (offerFrame f s).2 by rw [h]]
  exact offerFrame_tame f tame

/-! ### The operations, in the order of the model -/

@[simp] theorem refreshLamps_tame (tame : Tame still s₀ s) : Tame still s₀ (refreshLamps s) := by
  unfold refreshLamps
  split <;> simp [tame]

@[simp] theorem askRead_tame (owner : Reader) (page : Nat) (tame : Tame still s₀ s) :
    Tame still s₀ (askRead owner page s) := by simp [askRead, tame]

@[simp] theorem askPages_tame (o : Reader) (page n : Nat) (tame : Tame still s₀ s) : Tame still s₀ (askPages o page n s) := by
  induction n generalizing s page with
  | zero => exact tame
  | succ n ih => exact ih _ (askRead_tame o page tame)

@[simp] theorem askStatusRead_tame (q : QItem) (tame : Tame still s₀ s) : Tame still s₀ (askStatusRead q s) := by
  unfold askStatusRead
  split <;> simp [tame]

@[simp] theorem startNext_tame (tame : Tame still s₀ s) : Tame still s₀ (startNext s) := by
  unfold startNext
  split <;> simp [tame]

@[simp] theorem portKick_tame (tame : Tame still s₀ s) : Tame still s₀ (portKick s) := by
  unfold portKick
  repeat' split
  all_goals simp [tame]

@[simp] theorem flightDone_tame (tame : Tame still s₀ s) : Tame still s₀ (flightDone s) := by simp [flightDone, tame]

@[simp] theorem recordCopy_tame (req : WriteReq) (tame : Tame still s₀ s) : Tame still s₀ (recordCopy req s) := by
  unfold recordCopy
  split <;> simp [tame]

@[simp] theorem retarget_tame (i : LaneNo) (tame : Tame still s₀ s) : Tame still s₀ (retarget i s) := by simp [retarget, tame]

@[simp] theorem rise_tame (i : LaneNo) (tame : Tame still s₀ s) : Tame still s₀ (rise i s) := by
  unfold rise
  split <;> simp [tame]

@[simp] theorem outputsOff_tame (i : LaneNo) (tame : Tame still s₀ s) : Tame still s₀ (outputsOff i s) :=
  modLane_tame_off i _ ⟨rfl, rfl⟩ id tame

@[simp] theorem steerNow_tame (i : LaneNo) (tame : Tame still s₀ s) : Tame still s₀ (steerNow i s) := by
  unfold steerNow
  split
  · rename_i may
    simp only [State.mayEnergise, Bool.and_eq_true, Bool.not_eq_true'] at may
    obtain ⟨⟨⟨⟨whole, bay⟩, latch⟩, halt⟩, flowing⟩ := may
    have stage : (commandOutputs (s.decision i) s.now (s.lane i)).stage = s.stage i := by cases s.decision i <;> rfl
    refine modLane_tame_of i _ (fun _ _ => ?_) (fun _ => .inr ⟨whole, bay, latch, halt⟩) (fun _ => ?_) tame
    · rw [stage]; exact flowing
    · rw [stage]; exact id
  · exact outputsOff_tame i tame

@[simp] theorem offerCheckpoint_tame (i : LaneNo) (tame : Tame still s₀ s) : Tame still s₀ (offerCheckpoint i s) := by
  unfold offerCheckpoint
  split <;> simp [tame]

@[simp] theorem setStage_tame (i : LaneNo) (st : Stage) (same : st.flowing = (s.lane i).stage.flowing) (tame : Tame still s₀ s) :
    Tame still s₀ (setStage i st s) := retarget_tame i (modLane_tame i _ rfl rfl same tame)

/-- A lane with its outputs off enters a stage that does not flow. -/
theorem setStage_tame_off (i : LaneNo) (st : Stage) (off : (s.lane i).openOut = false ∧ (s.lane i).holdOut = false)
    (quiet : st.flowing = false) (tame : Tame still s₀ s) : Tame still s₀ (setStage i st s) :=
  retarget_tame i (modLane_tame_off i _ off (fun x => Bool.noConfusion (quiet.symm.trans x)) tame)

@[simp] theorem setStatus_tame (i : LaneNo) (st : LineStatus) (tame : Tame still s₀ s) :
    Tame still s₀ (setStatus i st s) := by simp [setStatus, tame]

@[simp] theorem closeDecision_tame (i : LaneNo) (reason : EndReason) (tame : Tame still s₀ s) :
    Tame still s₀ (closeDecision i reason s) := modLane_tame_off i _ ⟨rfl, rfl⟩ nofun tame

@[simp] theorem takeFault_tame (i : LaneNo) (reason : EndReason) (tame : Tame still s₀ s) :
    Tame still s₀ (takeFault i reason s) := by
  unfold takeFault
  split <;> simp [tame]

@[simp] theorem suspendFlowing_tame (i : LaneNo) (cause : Cause) (left : LeftStage) (tame : Tame still s₀ s) :
    Tame still s₀ (suspendFlowing i cause left s) := by
  refine offerCheckpoint_tame i (setStage_tame_off i _ ?_ rfl (setStatus_tame i _ (outputsOff_tame i tame)))
  rw [setStatus, lane_of_lanes (modHeld_lanes _ _ _), outputsOff, modLane_lane_self]
  exact ⟨rfl, rfl⟩

theorem suspendPrimed_tame (i : LaneNo) (primed : s.stage i = .primed) (tame : Tame still s₀ s) : Tame still s₀ (suspendPrimed i s) := by
  refine setStage_tame i _ ?_ (setStatus_tame i _ tame)
  have stage : (setStatus i (.suspended .lapse) s).stage i = .primed := by
    rw [← primed, setStatus]
    exact congrArg Lane.stage (lane_of_lanes (modHeld_lanes _ _ _) i)
  rw [← State.stage, stage]
  rfl

@[simp] theorem suspendLane_tame (i : LaneNo) (cause : Cause) (tame : Tame still s₀ s) : Tame still s₀ (suspendLane i cause s) := by
  unfold suspendLane
  split
  · exact suspendFlowing_tame i _ _ tame
  · exact suspendFlowing_tame i _ _ tame
  · exact suspendFlowing_tame i _ _ tame
  · exact suspendPrimed_tame i ‹_› tame
  · exact tame

@[simp] theorem toIdle_tame (i : LaneNo) (tame : Tame still s₀ s) : Tame still s₀ (toIdle i s) := by
  refine setStage_tame_off i .idle ?_ rfl (outputsOff_tame i (modLane_tame i _ rfl rfl rfl tame))
  rw [outputsOff, modLane_lane_self]
  exact ⟨rfl, rfl⟩

@[simp] theorem primingCheck_tame (i : LaneNo) (tame : Tame still s₀ s) : Tame still s₀ (primingCheck i s) := by
  unfold primingCheck
  split
  · rename_i primes
    split
    · exact tame
    · exact modLane_tame i _ rfl rfl (by rw [← State.stage, primes.1]; rfl) tame
  · exact tame

@[simp] theorem giveLimit_tame (i : LaneNo) (tame : Tame still s₀ s) : Tame still s₀ (giveLimit i s) := by
  unfold giveLimit
  split <;> simp [tame]

@[simp] theorem eachInjOf_tame (i : LaneNo) {f : InjNo → State → State}
    (each : ∀ j t, Tame still s₀ t → Tame still s₀ (f j t)) (tame : Tame still s₀ s) : Tame still s₀ (eachInjOf i f s) := by
  unfold eachInjOf
  refine foldl_tame (fun t j ht => ?_) _ tame
  split
  · exact each j t ht
  · exact ht

@[simp] theorem renewInjectors_tame (i : LaneNo) (tame : Tame still s₀ s) : Tame still s₀ (renewInjectors i s) :=
  eachInjOf_tame i (fun j _ ht => modInj_tame j _ ht) tame

@[simp] theorem startStroke_tame (final : Bool) (i : LaneNo) (k : Nat) (j : InjNo) (tame : Tame still s₀ s) :
    Tame still s₀ (startStroke final i k j s) := by
  unfold startStroke
  split
  · exact tame
  · exact giveLimit_tame i (modInj_tame j _ (modAdditive_tame i k _ tame))

@[simp] theorem considerLine_tame (i : LaneNo) (k : Nat) (tame : Tame still s₀ s) : Tame still s₀ (considerLine i k s) := by
  unfold considerLine
  repeat' split
  all_goals simp [tame]

@[simp] theorem considerLane_tame (i : LaneNo) (tame : Tame still s₀ s) : Tame still s₀ (considerLane i s) := by
  unfold considerLane
  with_reducible refine foldl_tame (fun t a ht => ?_) _ tame
  simp [ht]

@[simp] theorem dosePass_tame (i : LaneNo) (dg : Nat) (tame : Tame still s₀ s) : Tame still s₀ (dosePass i dg s) :=
  considerLane_tame i (giveLimit_tame i (modRecord_tame i _ tame))

@[simp] theorem tryEndCycle_tame (j : InjNo) (tame : Tame still s₀ s) : Tame still s₀ (tryEndCycle j s) := by
  unfold tryEndCycle
  split
  · have ended := modInj_tame j endCycle tame
    dsimp only
    split
    · exact ended
    · refine foldl_tame (fun t k ht => ?_) _ ended
      split
      · exact considerLine_tame _ _ ht
      · exact ht
  · exact tame

@[simp] theorem orderFault_tame (i : LaneNo) (tame : Tame still s₀ s) : Tame still s₀ (orderFault i s) := by
  unfold orderFault
  dsimp only
  repeat' split
  all_goals simp [tame]

@[simp] theorem injectorFault_tame (sv : Serving) (j : InjNo) (mandatory : Bool) (tame : Tame still s₀ s) :
    Tame still s₀ (injectorFault sv j mandatory s) := by
  have marked := giveLimit_tame sv.lane (modAdditive_tame sv.lane sv.slot faultLine
    (modInj_tame j (fun x => { x with faultPending := true }) tame))
  unfold injectorFault
  dsimp only
  split
  · exact orderFault_tame _ marked
  · exact marked

@[simp] theorem judge_tame (j : InjNo) (pulse : Bool) (tame : Tame still s₀ s) : Tame still s₀ (judge j pulse s) := by
  unfold judge
  dsimp only
  repeat' split
  all_goals simp [tame]

@[simp] theorem decideFinal_tame (i : LaneNo) (tame : Tame still s₀ s) : Tame still s₀ (decideFinal i s) := by
  simp [decideFinal, tame]

@[simp] theorem tryCloseLine_tame (i : LaneNo) (k : Nat) (tame : Tame still s₀ s) : Tame still s₀ (tryCloseLine i k s) := by
  unfold tryCloseLine
  repeat' split
  all_goals simp [tame]

@[simp] theorem tryCloseLines_tame (i : LaneNo) (tame : Tame still s₀ s) : Tame still s₀ (tryCloseLines i s) :=
  giveLimit_tame i (foldl_tame (fun _ k ht => tryCloseLine_tame i k ht) _ tame)

@[simp] theorem closeAllLines_tame (i : LaneNo) (tame : Tame still s₀ s) : Tame still s₀ (closeAllLines i s) :=
  foldl_tame (fun _ j ht => modInj_tame j _ ht) _ (modRecord_tame i _ tame)

@[simp] theorem requestUrgent_tame (tame : Tame still s₀ s) : Tame still s₀ (requestUrgent s) := by
  unfold requestUrgent
  split <;> simp [tame]

@[simp] theorem statusDueNow_tame (tame : Tame still s₀ s) : Tame still s₀ (statusDueNow s) := by
  unfold statusDueNow
  split <;> simp [tame]

@[simp] theorem requestChange_tame (tame : Tame still s₀ s) : Tame still s₀ (requestChange s) := by
  unfold requestChange
  repeat' split
  all_goals simp [tame]

@[simp] theorem statusMet_tame (tame : Tame still s₀ s) : Tame still s₀ (statusMet s) := by simp [statusMet, tame]

@[simp] theorem beginAttempt_tame (quiet : Nat) (tame : Tame still s₀ s) : Tame still s₀ (beginAttempt quiet s) := by
  unfold beginAttempt
  repeat' split
  · exact tame
  · exact tame
  · exact tame
  · rename_i l chosen _ _ c _
    exact modLif_tame (fun _ => { l with onLine := some (txPayload s c.frame), sent := 0 }) (chooseFrame_kept chosen).2.1 tame
  · exact tame

@[simp] theorem nextCurrent_tame (tame : Tame still s₀ s) : Tame still s₀ (nextCurrent s) := by simp [nextCurrent, tame]

@[simp] theorem withdrawFrame_tame (permit : Word32) (tame : Tame still s₀ s) : Tame still s₀ (withdrawFrame permit s) := by
  simp [withdrawFrame, tame]

@[simp] theorem adoptRackTime_tame (p : Payload) (tame : Tame still s₀ s) : Tame still s₀ (adoptRackTime p s) := by
  unfold adoptRackTime
  repeat' split
  all_goals simp [tame]

@[simp] theorem offerPages_tame (n : Nat) (tame : Tame still s₀ s) : Tame still s₀ (offerPages n s) := by
  induction n generalizing s with
  | zero => exact tame
  | succ n ih =>
    unfold offerPages
    repeat' split
    · exact tame
    · exact ih (modNtb_tame _ (enqueue_tame_of ‹_› tame))
    · exact enqueue_tame_of ‹_› tame
    · exact tame

@[simp] theorem beginNote_tame (h : NoteHead) (lines : List OrderLine) (recovered : Bool) (tame : Tame still s₀ s) :
    Tame still s₀ (beginNote h lines recovered s) := by simp [beginNote, tame]

@[simp] theorem tryBuild_tame (tame : Tame still s₀ s) : Tame still s₀ (tryBuild s) := by
  unfold tryBuild
  repeat' split
  all_goals simp [tame]

@[simp] theorem joinStatus_tame (r : StatusReq) (tame : Tame still s₀ s) : Tame still s₀ (joinStatus r s) := by
  unfold joinStatus
  split <;> simp [tame]

@[simp] theorem requestStatus_tame (note : Nat) (f : StatusField) (code : Nat) (tame : Tame still s₀ s) :
    Tame still s₀ (requestStatus note f code s) := by
  unfold requestStatus
  repeat' split
  · exact enqueue_tame_of ‹_› tame
  · exact joinStatus_tame _ (enqueue_tame_of ‹_› tame)
  · exact joinStatus_tame _ tame

@[simp] theorem offerStatuses_tame (n : Nat) (tame : Tame still s₀ s) : Tame still s₀ (offerStatuses n s) := by
  induction n generalizing s with
  | zero => exact tame
  | succ n ih =>
    unfold offerStatuses
    repeat' split
    · exact tame
    · exact ih (modNtb_tame _ (enqueue_tame_of ‹_› tame))
    · exact enqueue_tame_of ‹_› tame

@[simp] theorem ntbFreeSlot_tame (tame : Tame still s₀ s) : Tame still s₀ (ntbFreeSlot s) := by simp [ntbFreeSlot, tame]

@[simp] theorem sendNext_tame (tame : Tame still s₀ s) : Tame still s₀ (sendNext s) := by
  unfold sendNext
  repeat' split
  all_goals simp [tame]

@[simp] theorem beginPrint_tame (tame : Tame still s₀ s) : Tame still s₀ (beginPrint s) := by
  unfold beginPrint
  split <;> simp [tame]

@[simp] theorem joinPrints_tame (e : PrintEntry) (tame : Tame still s₀ s) : Tame still s₀ (joinPrints e s) := by
  unfold joinPrints
  repeat' split
  all_goals simp [tame]

@[simp] theorem finishPrint_tame (code : Nat) (tame : Tame still s₀ s) : Tame still s₀ (finishPrint code s) := by
  unfold finishPrint
  split
  · exact tame
  · rename_i h rest prints
    exact beginPrint_tame (requestStatus_tame _ _ _ (modNtb_tame _ tame))

@[simp] theorem noteReady_tame (note permit : Word32) (tame : Tame still s₀ s) : Tame still s₀ (noteReady note permit s) := by
  unfold noteReady
  split
  · exact offerFrame_tame_of ‹_› tame
  · exact modNtb_tame _ (offerFrame_tame_of ‹_› tame)

@[simp] theorem offerReady_tame (tame : Tame still s₀ s) : Tame still s₀ (offerReady s) := by
  unfold offerReady
  repeat' split
  · exact tame
  · exact modNtb_tame _ (offerFrame_tame_of ‹_› tame)
  · exact offerFrame_tame_of ‹_› tame

@[simp] theorem serve_tame (n : Nat) (tame : Tame still s₀ s) : Tame still s₀ (serve n s) := by
  induction n generalizing s with
  | zero => exact tame
  | succ n ih =>
    unfold serve
    split
    · exact tame
    · split
      · exact ih (modNtb_tame _ tame)
      · exact askRead_tame _ _ (modNtb_tame _ tame)
    · exact tame
    · exact modNtb_tame _ tame
    · rename_i image k a rest _ asks
      split
      · exact offerFrame_tame_of ‹_› tame
      · rename_i t offer
        have same := offerFrame_ntb_of offer
        have taken := offerFrame_tame_of offer tame
        split
        · exact ih (modNtb_tame _ taken)
        · exact ih (modNtb_tame _ taken)

@[simp] theorem takeAsk_tame (a : Ask) (tame : Tame still s₀ s) : Tame still s₀ (takeAsk a s) := by
  unfold takeAsk
  repeat' split
  all_goals simp [tame]

@[simp] theorem ntbRoom_tame (tame : Tame still s₀ s) : Tame still s₀ (ntbRoom s) := by
  unfold ntbRoom
  dsimp only
  repeat' split
  all_goals simp [tame]

@[simp] theorem askPage_tame (page : List Byte) (tame : Tame still s₀ s) : Tame still s₀ (askPage page s) := by
  unfold askPage
  dsimp only
  repeat' split
  all_goals simp [tame]

@[simp] theorem askReprint_tame (tame : Tame still s₀ s) : Tame still s₀ (askReprint s) := by
  unfold askReprint
  split <;> simp [tame]

@[simp] theorem reprintPage_tame (page : List Byte) (tame : Tame still s₀ s) : Tame still s₀ (reprintPage page s) := by
  unfold reprintPage
  dsimp only
  repeat' split
  all_goals simp [tame]

@[simp] theorem pctSend_tame (f : TxFrame) (tame : Tame still s₀ s) : Tame still s₀ (pctSend f s) := by
  unfold pctSend
  split
  · exact tame
  · split
    · exact offerFrame_tame_of ‹_› tame
    · split
      · exact modPct_tame _ (offerFrame_tame_of ‹_› tame)
      · exact offerFrame_tame_of ‹_› tame

@[simp] theorem pctRoom_tame (n : Nat) (tame : Tame still s₀ s) : Tame still s₀ (pctRoom n s) := by
  induction n generalizing s with
  | zero => exact tame
  | succ n ih =>
    unfold pctRoom
    repeat' split
    · exact tame
    · rename_i f rest held _ t offer
      exact ih (modPct_tame _ (offerFrame_tame_of offer tame))
    · exact offerFrame_tame_of ‹_› tame

@[simp] theorem pctMark_tame (r : WriteReq) (tame : Tame still s₀ s) : Tame still s₀ (pctMark r s) := by
  have kept (t : State) (h : Tame still s₀ t) : Tame still s₀ (if t.pct.heldMarks.length < Config.heldMarks then
      t.modPct fun p => { p with heldMarks := p.heldMarks ++ [r] } else t) := by
    split
    · exact modPct_tame _ h
    · exact h
  unfold pctMark
  dsimp only
  split
  · split
    · exact enqueue_tame_of ‹_› tame
    · exact kept _ (enqueue_tame_of ‹_› tame)
  · exact kept s tame

@[simp] theorem pctFreeSlot_tame (n : Nat) (tame : Tame still s₀ s) : Tame still s₀ (pctFreeSlot n s) := by
  induction n generalizing s with
  | zero => exact tame
  | succ n ih =>
    unfold pctFreeSlot
    repeat' split
    · exact tame
    · rename_i r rest held _ t offer
      have same : t.pct = s.pct := by
        have e := enqueue_modStp ⟨r, false⟩ s
        rw [offer] at e
        exact (congrArg State.pct e).trans rfl
      exact ih (modPct_tame _ (enqueue_tame_of offer tame))
    · exact enqueue_tame_of ‹_› tame

@[simp] theorem refusalPulse_tame (tame : Tame still s₀ s) : Tame still s₀ (refusalPulse s) := by
  unfold refusalPulse
  split <;> simp [tame]

@[simp] theorem refuseCard_tame (r : CardRefusal) (tame : Tame still s₀ s) : Tame still s₀ (refuseCard r s) := by
  simp [refuseCard, tame]

@[simp] theorem refuseTrip_tame (r : CardRefusal) (tame : Tame still s₀ s) : Tame still s₀ (refuseTrip r s) := by
  simp [refuseTrip, tame]

@[simp] theorem enterAuthorized_tame (tame : Tame still s₀ s) : Tame still s₀ (enterAuthorized s) :=
  eachLane_tame (fun i _ ht => primingCheck_tame i ht) (modPct_tame _ tame)

@[simp] theorem startClaim_tame (permit : Word32) (tame : Tame still s₀ s) : Tame still s₀ (startClaim permit s) := by
  unfold startClaim
  split <;> simp [tame]

@[simp] theorem takeTrip_tame (t : Trip) (tame : Tame still s₀ s) : Tame still s₀ (takeTrip t s) := by
  have taken : Tame still s₀ (refreshLamps (s.modPct fun p => { p with slot := .checking, trip := some t })) :=
    refreshLamps_tame (modPct_tame _ tame)
  unfold takeTrip
  dsimp only
  generalize refreshLamps (s.modPct fun p => { p with slot := .checking, trip := some t }) = u at taken
  repeat' split
  · exact refuseTrip_tame _ taken
  · exact refuseTrip_tame _ taken
  · exact startClaim_tame _ (modTrip_tame _ taken)
  · exact refuseTrip_tame _ (modTrip_tame _ taken)

@[simp] theorem withdrawClaim_tame (permit : Word32) (tame : Tame still s₀ s) : Tame still s₀ (withdrawClaim permit s) := by
  simp [withdrawClaim, tame]

@[simp] theorem hearClaim_tame (sender : Nat) (permit : Word32) (tame : Tame still s₀ s) :
    Tame still s₀ (hearClaim sender permit s) := by
  unfold hearClaim
  repeat' split
  all_goals simp [tame]

@[simp] theorem hearHeld_tame (permit : Word32) (tame : Tame still s₀ s) : Tame still s₀ (hearHeld permit s) := by
  unfold hearHeld
  repeat' split
  all_goals simp [tame]

@[simp] theorem claimEcho_tame (permit : Word32) (tame : Tame still s₀ s) : Tame still s₀ (claimEcho permit s) := by
  unfold claimEcho
  split <;> simp [tame]

@[simp] theorem claimDiscarded_tame (permit : Word32) (tame : Tame still s₀ s) :
    Tame still s₀ (claimDiscarded permit s) := by
  unfold claimDiscarded
  split <;> simp [tame]

@[simp] theorem claimCutOff_tame (tame : Tame still s₀ s) : Tame still s₀ (claimCutOff s) := by
  unfold claimCutOff
  repeat' split
  all_goals simp [tame]

@[simp] theorem slotEmpty_tame (tame : Tame still s₀ s) : Tame still s₀ (slotEmpty s) := by simp [slotEmpty, tame]

@[simp] theorem sendWrite_tame (kind : WriteOf) (stamp : Stamp) (tame : Tame still s₀ s) :
    Tame still s₀ (sendWrite kind stamp s) := by simp [sendWrite, tame]

@[simp] theorem writeTripStamp_tame (tame : Tame still s₀ s) : Tame still s₀ (writeTripStamp s) := by
  unfold writeTripStamp
  split <;> simp [tame]

@[simp] theorem writePending_tame (tame : Tame still s₀ s) : Tame still s₀ (writePending s) := by
  unfold writePending
  split <;> simp [tame]

@[simp] theorem stampToPending_tame (tame : Tame still s₀ s) : Tame still s₀ (stampToPending s) := by
  simp [stampToPending, tame]

@[simp] theorem clearPending_tame (tame : Tame still s₀ s) : Tame still s₀ (clearPending s) := by simp [clearPending, tame]

@[simp] theorem lapsePending_tame (tame : Tame still s₀ s) : Tame still s₀ (lapsePending s) := by
  unfold lapsePending
  split <;> simp [tame]

@[simp] theorem endWrite_tame (tame : Tame still s₀ s) : Tame still s₀ (endWrite s) := by simp [endWrite, tame]

@[simp] theorem writeSucceeded_tame (tame : Tame still s₀ s) : Tame still s₀ (writeSucceeded s) := by
  have ended := endWrite_tame tame
  unfold writeSucceeded
  repeat' split
  · exact tame
  · exact ended
  · exact requestStatus_tame _ _ _ (slotEmpty_tame ended)
  · exact ended
  · exact requestStatus_tame _ _ _ (clearPending_tame ended)
  · exact requestStatus_tame _ _ _ ended

@[simp] theorem writeFailed_tame (tame : Tame still s₀ s) : Tame still s₀ (writeFailed s) := by
  unfold writeFailed
  repeat' split
  all_goals simp [tame]

@[simp] theorem displacePending_tame (tame : Tame still s₀ s) : Tame still s₀ (displacePending s) := by
  unfold displacePending
  split <;> simp [tame]

@[simp] theorem noteSealed_tame (b : Build) (tame : Tame still s₀ s) : Tame still s₀ (noteSealed b s) := by
  unfold noteSealed
  split
  · exact tame
  · exact modPct_tame _ (pctMark_tame _ (pctSend_tame _ (displacePending_tame tame)))

@[simp] theorem release_tame (tame : Tame still s₀ s) : Tame still s₀ (release s) := by
  unfold release
  split <;> simp [tame]

/-- A lane enters a flowing stage with its outputs as they are. -/
theorem modLane_tame_flow (i : LaneNo) (f : Lane → Lane) (openOut : (f (s.lane i)).openOut = (s.lane i).openOut)
    (holdOut : (f (s.lane i)).holdOut = (s.lane i).holdOut) (stage : (f (s.lane i)).stage.flowing = true) (tame : Tame false s₀ s) :
    Tame false s₀ (s.modLane i f) := by
  refine modLane_tame_of i f (fun _ _ => stage) (fun x => .inl ?_) nofun tame
  rwa [Lane.energised, openOut, holdOut] at x

theorem openCompartment_tame (i : LaneNo) (tame : Tame false s₀ s) : Tame false s₀ (openCompartment i s) := by
  unfold openCompartment
  exact offerCheckpoint_tame i (steerNow_tame i (retarget_tame i (giveLimit_tame i (renewInjectors_tame i
    (modLane_tame_flow i _ rfl rfl rfl (modHeld_tame i _ tame))))))

theorem enterFlowing_tame (i : LaneNo) (st : Stage) (flows : st.flowing = true) (tame : Tame false s₀ s) :
    Tame false s₀ (enterFlowing i st s) := by
  unfold enterFlowing
  exact steerNow_tame i (retarget_tame i (modLane_tame_flow i _ rfl rfl flows tame))

theorem resumeOpen_tame (i : LaneNo) (tame : Tame false s₀ s) : Tame false s₀ (resumeOpen i s) := by
  unfold resumeOpen
  split
  · exact tame
  · have active := modLane_tame i (fun l => { l with noFlow := 0 }) rfl rfl rfl (setStatus_tame i .active tame)
    dsimp only
    split
    · exact offerCheckpoint_tame i (closeDecision_tame i _ active)
    · rename_i st resumes
      refine offerCheckpoint_tame i (enterFlowing_tame i st ?_ active)
      unfold resumeStage at resumes
      repeat' split at resumes
      all_goals cases resumes
      all_goals rfl

theorem startLane_tame (i : LaneNo) (tame : Tame false s₀ s) : Tame false s₀ (startLane i s) := by
  unfold startLane
  repeat' split
  · exact openCompartment_tame i tame
  · exact openCompartment_tame i tame
  · exact resumeOpen_tame i tame
  · exact tame
  · exact tame

@[simp] theorem offerTotal_tame (i : LaneNo) (gross std : Word48) (tame : Tame still s₀ s) :
    Tame still s₀ (offerTotal i gross std s) := by
  unfold offerTotal
  split
  · exact primingCheck_tame i (toIdle_tame i (modLane_tame i _ rfl rfl rfl (enqueue_tame_of ‹_› tame)))
  · exact modLane_tame i _ rfl rfl rfl (enqueue_tame_of ‹_› tame)

@[simp] theorem offerWaiting_tame (i : LaneNo) (tame : Tame still s₀ s) : Tame still s₀ (offerWaiting i s) := by
  unfold offerWaiting
  repeat' split
  · exact offerTotal_tame i _ _ (enqueue_tame_of ‹_› tame)
  · exact enqueue_tame_of ‹_› tame
  · exact offerTotal_tame i _ _ tame
  · exact tame

@[simp] theorem offerAfter_tame (i : LaneNo) (tame : Tame still s₀ s) : Tame still s₀ (offerAfter i s) := by
  unfold offerAfter
  split <;> simp [tame]

@[simp] theorem handOver_tame (i : LaneNo) (reason : EndReason) (tame : Tame still s₀ s) : Tame still s₀ (handOver i reason s) := by
  unfold handOver
  split
  · exact tame
  · exact offerAfter_tame i (giveLimit_tame i (modLane_tame i _ rfl rfl rfl (modLane_tame i _ rfl rfl rfl (modVen_tame i _
      (modHeld_tame i _ tame)))))

@[simp] theorem endSuspended_tame (i : LaneNo) (tame : Tame still s₀ s) : Tame still s₀ (endSuspended i s) := by
  unfold endSuspended
  split
  · exact toIdle_tame i (setStatus_tame i _ tame)
  · rename_i stage
    refine handOver_tame i _ (closeAllLines_tame i (modRecord_tame i _ (modLane_tame i _ rfl rfl ?_ tame)))
    rw [← State.stage, stage]
    rfl
  · exact tame

@[simp] theorem closeLineOf_tame (k : Nat) (tame : Tame still s₀ s) : Tame still s₀ (closeLineOf k s) := by
  unfold closeLineOf
  repeat' split
  all_goals simp [tame]

@[simp] theorem enterClosing_tame (tame : Tame still s₀ s) : Tame still s₀ (enterClosing s) := by
  unfold enterClosing
  exact tryBuild_tame (foldl_tame (fun t k ht => closeLineOf_tame k ht) _ (modTrip_tame _ (modPct_tame _ tame)))

@[simp] theorem reportFault_tame (i : LaneNo) (reason : EndReason) (tame : Tame still s₀ s) :
    Tame still s₀ (reportFault i reason s) := by
  unfold reportFault
  split <;> simp [tame]

@[simp] theorem handBack_tame (i : LaneNo) (tame : Tame still s₀ s) : Tame still s₀ (handBack i s) := by
  have handed : Tame still s₀ (handedState i s) := by
    unfold handedState
    exact reportFault_tame _ _ (handOver_tame _ _ (modLane_tame i _ rfl rfl rfl tame))
  rw [handBack_eq]
  split
  · exact enterClosing_tame handed
  · exact tryBuild_tame handed

@[simp] theorem closeDoses_tame (i : LaneNo) (tame : Tame still s₀ s) : Tame still s₀ (closeDoses i s) := by
  unfold closeDoses
  dsimp only
  repeat' split
  all_goals simp [tame]

@[simp] theorem learnOvershoot_tame (i : LaneNo) (tame : Tame still s₀ s) : Tame still s₀ (learnOvershoot i s) := by
  unfold learnOvershoot
  split <;> simp [tame]

theorem enterEnded_tame (i : LaneNo) (closing : s.stage i = .closing) (tame : Tame still s₀ s) : Tame still s₀ (enterEnded i s) := by
  have learned : (learnOvershoot i s).stage i = .closing := by
    rw [← closing]
    unfold learnOvershoot
    split
    · rw [State.stage, modLane_lane_self]; rfl
    · rfl
  have stage : (((learnOvershoot i s).modRecord i (finalRecord s i)).lane i).stage = .closing := by
    rw [lane_of_lanes (modRecord_lanes _ _ _)]
    exact learned
  unfold enterEnded
  refine closeDoses_tame i (considerLane_tame i (decideFinal_tame i (modLane_tame i _ rfl rfl ?_ (modRecord_tame i _
    (learnOvershoot_tame i tame)))))
  rw [stage]
  rfl

@[simp] theorem giveShare_tame (i : LaneNo) (share : Nat) (tame : Tame still s₀ s) :
    Tame still s₀ (giveShare i share s) := by simp [giveShare, tame]

@[simp] theorem giveShares_tame (h allotment : Nat) (tame : Tame still s₀ s) : Tame still s₀ (giveShares h allotment s) := by
  unfold giveShares
  with_reducible refine foldl_tame (fun t a ht => ?_) _ tame
  simp [ht]

@[simp] theorem setShare_tame (h : Nat) (x : Share) (tame : Tame still s₀ s) : Tame still s₀ (setShare h x s) := by
  simp [setShare, tame]

@[simp] theorem computeHeader_tame (h : Nat) (tame : Tame still s₀ s) : Tame still s₀ (computeHeader h s) := by
  unfold computeHeader
  repeat' split
  all_goals simp [tame]

@[simp] theorem computeShares_tame (tame : Tame still s₀ s) : Tame still s₀ (computeShares s) := by
  have formed : Tame still s₀ (allHeaders.foldl (fun u h => computeHeader h u) s) :=
    foldl_tame (fun t h ht => computeHeader_tame h ht) _ tame
  unfold computeShares
  dsimp only
  generalize allHeaders.foldl (fun u h => computeHeader h u) s = u at formed
  have slot : Tame still s₀ (u.modLif fun l => { l with slot := ownEntries u }) := modLif_tame _ rfl formed
  split
  · exact requestChange_tame slot
  · exact slot

@[simp] theorem suspendAll_tame (cause : Cause) (tame : Tame still s₀ s) : Tame still s₀ (suspendAll cause s) := by
  unfold suspendAll
  with_reducible refine eachLane_tame (fun i t ht => ?_) tame
  split <;> simp [ht]

@[simp] theorem setLink_tame (l : Link) (tame : Tame still s₀ s) : Tame still s₀ (setLink l s) := by
  have formed : Tame still s₀ (computeShares (s.modLif fun x => { x with link := l })) :=
    computeShares_tame (modLif_tame _ rfl tame)
  unfold setLink
  dsimp only
  generalize computeShares (s.modLif fun x => { x with link := l }) = u at formed
  split
  · exact claimCutOff_tame formed
  · exact claimCutOff_tame formed
  · exact formed

@[simp] theorem enterListen_tame (tame : Tame still s₀ s) : Tame still s₀ (enterListen s) := by simp [enterListen, tame]

@[simp] theorem enterMute_tame (cause : MuteCause) (tame : Tame still s₀ s) : Tame still s₀ (enterMute cause s) := by
  simp [enterMute, tame]

@[simp] theorem enterJoin_tame (tame : Tame still s₀ s) : Tame still s₀ (enterJoin s) := by simp [enterJoin, tame]

@[simp] theorem joinFailed_tame (tame : Tame still s₀ s) : Tame still s₀ (joinFailed s) := by
  unfold joinFailed
  split <;> simp [tame]

@[simp] theorem enterHeldLine_tame (tame : Tame still s₀ s) : Tame still s₀ (enterHeldLine s) := by
  unfold enterHeldLine
  exact setLink_tame _ (modLif_tame_halt _ (fun x => by simp at x) tame)

@[simp] theorem enterRun_tame (tame : Tame still s₀ s) : Tame still s₀ (enterRun s) := by simp [enterRun, tame]

@[simp] theorem discardFrame_tame (c : Current) (tame : Tame still s₀ s) : Tame still s₀ (discardFrame c s) := by
  unfold discardFrame
  repeat' split
  all_goals simp [tame]

@[simp] theorem collided_tame (tame : Tame still s₀ s) : Tame still s₀ (collided s) := by
  unfold collided
  repeat' split
  all_goals simp [tame]

@[simp] theorem echoDropped_tame (tame : Tame still s₀ s) : Tame still s₀ (echoDropped s) := by
  unfold echoDropped
  split <;> simp [tame]

@[simp] theorem statusSent_tame (entries : List HeaderEntry) (tame : Tame still s₀ s) :
    Tame still s₀ (statusSent entries s) := by simp [statusSent, tame]

@[simp] theorem ownEchoOf_tame (p : Payload) (tame : Tame still s₀ s) : Tame still s₀ (ownEchoOf p s) := by
  have done (t : State) (h : Tame still s₀ t) :
      Tame still s₀ (nextCurrent (t.modLif fun l => { l with onLine := none, ownLast := true })) :=
    nextCurrent_tame (modLif_tame _ rfl h)
  unfold ownEchoOf
  dsimp only
  split
  · split
    · exact enterRun_tame (done _ (statusSent_tame _ tame))
    · exact statusMet_tame (done _ (statusSent_tame _ tame))
  · exact claimEcho_tame _ (done _ tame)
  · exact done _ tame

@[simp] theorem conflictHeard_tame (tame : Tame still s₀ s) : Tame still s₀ (conflictHeard s) := by
  unfold conflictHeard
  split <;> simp [tame]

@[simp] theorem peerHeard_tame (tame : Tame still s₀ s) : Tame still s₀ (peerHeard s) := by
  unfold peerHeard
  split <;> simp [tame]

@[simp] theorem sulOffer_tame (r : WriteReq) (tame : Tame still s₀ s) : Tame still s₀ (sulOffer r s) := by
  unfold sulOffer
  repeat' split
  · exact enqueue_tame_of ‹_› tame
  · exact modSul_tame _ id (enqueue_tame_of ‹_› tame)
  · exact modSul_tame _ id tame

@[simp] theorem sulFreeSlot_tame (n : Nat) (tame : Tame still s₀ s) : Tame still s₀ (sulFreeSlot n s) := by
  induction n generalizing s with
  | zero => exact tame
  | succ n ih =>
    unfold sulFreeSlot
    repeat' split
    · exact tame
    · exact ih (modSul_tame _ id (enqueue_tame_of ‹_› tame))
    · exact enqueue_tame_of ‹_› tame

@[simp] theorem dropPiu_tame (i : LaneNo) (tame : Tame still s₀ s) : Tame still s₀ (dropPiu i s) := by
  unfold dropPiu
  split <;> simp [tame]

@[simp] theorem dropUnfitted_tame (tame : Tame still s₀ s) : Tame still s₀ (dropUnfitted s) := by
  unfold dropUnfitted
  with_reducible refine eachLane_tame (fun i t ht => ?_) tame
  simp [ht]

theorem modCfg_tame (c : Tables) (tame : Tame still s₀ s) : Tame still s₀ { s with cfg := c } :=
  tame.trans ⟨rfl, fun _ => id, id, fun _ => .inl, fun _ _ => id, id⟩

@[simp] theorem configFaultAt_tame (code entry : Nat) (tame : Tame still s₀ s) : Tame still s₀ (configFaultAt code entry s) := by
  unfold configFaultAt
  exact dropUnfitted_tame (modCfg_tame {} (modSul_tame _ id tame))

@[simp] theorem imageRead_tame (bytes : List Byte) (tame : Tame still s₀ s) : Tame still s₀ (imageRead bytes s) := by
  unfold imageRead
  split
  · exact configFaultAt_tame _ _ tame
  · exact askRead_tame _ _ (modSul_tame _ id (dropUnfitted_tame (modCfg_tame _ tame)))

@[simp] theorem headerPage_tame (page : List Byte) (tame : Tame still s₀ s) : Tame still s₀ (headerPage page s) := by
  unfold headerPage
  repeat' split
  all_goals simp [tame]

@[simp] theorem imagePage_tame (last : Nat) (page : List Byte) (tame : Tame still s₀ s) :
    Tame still s₀ (imagePage last page s) := by
  unfold imagePage
  split <;> simp [tame]

@[simp] theorem setTotals_tame (i : LaneNo) (g t : Word48) (tame : Tame still s₀ s) : Tame still s₀ (setTotals i g t s) := by
  simp [setTotals, tame]

@[simp] theorem totalsPage_tame (k : Nat) (page : List Byte) (tame : Tame still s₀ s) :
    Tame still s₀ (totalsPage k page s) := by
  unfold totalsPage
  dsimp only
  split <;> exact askRead_tame _ _ (modSul_tame _ id (modSul_tame _ id (modStp_tame _ (setTotals_tame _ _ _ tame))))

@[simp] theorem nextSlot_tame (slot : Nat) (tame : Tame still s₀ s) : Tame still s₀ (nextSlot slot s) := by
  unfold nextSlot
  split
  · exact askRead_tame _ _ (modSul_tame _ id tame)
  · exact askRead_tame _ _ (modSul_tame _ id (modNtb_tame _ tame))

@[simp] theorem slotRead_tame (slot : Nat) (bytes : List Byte) (tame : Tame still s₀ s) :
    Tame still s₀ (slotRead slot bytes s) := by
  unfold slotRead
  dsimp only
  split
  · refine nextSlot_tame slot ?_
    split
    · exact sulOffer_tame _ (modSul_tame _ id tame)
    · exact modSul_tame _ id tame
  · exact nextSlot_tame slot tame

@[simp] theorem slotFirst_tame (slot : Nat) (page : List Byte) (tame : Tame still s₀ s) :
    Tame still s₀ (slotFirst slot page s) := by
  unfold slotFirst
  repeat' split
  all_goals simp [tame]

@[simp] theorem slotNext_tame (slot left : Nat) (page : List Byte) (tame : Tame still s₀ s) :
    Tame still s₀ (slotNext slot left page s) := by
  unfold slotNext
  split <;> simp [tame]

@[simp] theorem toSettle_tame (tame : Tame still s₀ s) : Tame still s₀ (toSettle s) := by simp [toSettle, tame]

@[simp] theorem raiseTotals_tame (i : LaneNo) (g t : Word48) (tame : Tame still s₀ s) :
    Tame still s₀ (raiseTotals i g t s) := by simp [raiseTotals, tame]

@[simp] theorem offerTotals_tame (tame : Tame still s₀ s) : Tame still s₀ (offerTotals s) := by
  unfold offerTotals
  with_reducible refine eachLane_tame (fun i t ht => ?_) tame
  split <;> simp [ht]

@[simp] theorem settleSealed_tame (m : Marker) (note : List Byte) (tame : Tame still s₀ s) :
    Tame still s₀ (settleSealed m note s) := by
  unfold settleSealed
  exact toSettle_tame (sulOffer_tame _ (offerTotals_tame (foldl_tame (fun t a ht => raiseTotals_tame _ _ _ ht) _ tame)))

@[simp] theorem passOne_tame (c : Option CheckRec) (l : OrderLine) (tame : Tame still s₀ s) :
    Tame still s₀ (passOne c l s) := by
  unfold passOne
  repeat' split
  all_goals simp [tame]

@[simp] theorem passTwo_tame (number k : Nat) (tame : Tame still s₀ s) : Tame still s₀ (passTwo number k s) := by
  unfold passTwo
  repeat' split
  all_goals simp [tame]

@[simp] theorem rebuilt_tame (m : Marker) (tame : Tame still s₀ s) : Tame still s₀ (rebuilt m s) := by
  have passed : Tame still s₀ (toSettle (offerTotals (s.sul.lost.foldl (fun u k => passTwo m.number k u) s))) :=
    toSettle_tame (offerTotals_tame (foldl_tame (fun t k ht => passTwo_tame _ _ ht) _ tame))
  unfold rebuilt
  exact modSul_tame _ (by simp) passed

@[simp] theorem nextCheck_tame (m : Marker) (start : Nat) (tame : Tame still s₀ s) :
    Tame still s₀ (nextCheck m start s) := by
  unfold nextCheck
  split <;> simp [tame]

@[simp] theorem checkPage_tame (m : Marker) (line : Nat) (page : List Byte) (tame : Tame still s₀ s) :
    Tame still s₀ (checkPage m line page s) := by
  unfold checkPage
  dsimp only
  split
  · exact rebuilt_tame m tame
  · exact nextCheck_tame _ _ (modSul_tame _ id (passOne_tame _ _ tame))

@[simp] theorem sealedRead_tame (bytes : List Byte) (tame : Tame still s₀ s) : Tame still s₀ (sealedRead bytes s) := by
  unfold sealedRead
  repeat' split
  all_goals simp [tame]

@[simp] theorem sealedFirst_tame (page : List Byte) (tame : Tame still s₀ s) : Tame still s₀ (sealedFirst page s) := by
  unfold sealedFirst
  repeat' split
  all_goals simp [tame]

@[simp] theorem sealedNext_tame (left : Nat) (page : List Byte) (tame : Tame still s₀ s) :
    Tame still s₀ (sealedNext left page s) := by
  unfold sealedNext
  split <;> simp [tame]

@[simp] theorem markHeadPage_tame (page : List Byte) (tame : Tame still s₀ s) : Tame still s₀ (markHeadPage page s) := by
  unfold markHeadPage
  split <;> simp [tame]

@[simp] theorem markLinesPage_tame (page : List Byte) (tame : Tame still s₀ s) : Tame still s₀ (markLinesPage page s) := by
  unfold markLinesPage
  repeat' split
  all_goals simp [tame]

@[simp] theorem sulPage_tame (page : List Byte) (tame : Tame still s₀ s) : Tame still s₀ (sulPage page s) := by
  unfold sulPage
  repeat' split
  all_goals simp [tame]

@[simp] theorem recoveryNote_tame (tame : Tame still s₀ s) : Tame still s₀ (recoveryNote s) := by
  unfold recoveryNote
  repeat' split
  all_goals simp [tame]

@[simp] theorem recoverySealed_tame (tame : Tame still s₀ s) : Tame still s₀ (recoverySealed s) := by
  unfold recoverySealed
  split <;> simp [tame]

@[simp] theorem startLanes_tame (tame : Tame still s₀ s) : Tame still s₀ (startLanes s) := by
  refine eachLane_tame (fun i t ht => ?_) tame
  split
  · exact modLane_tame i _ rfl rfl rfl ht
  · exact ht

@[simp] theorem completeFault_tame (tame : Tame still s₀ s) : Tame still s₀ (completeFault s) := by
  unfold completeFault
  exact sendNext_tame (modNtb_tame _ (modIlm_tame _ ⟨rfl, rfl, rfl, rfl, rfl⟩ ⟨rfl, rfl⟩ (modSul_tame _ nofun tame)))

@[simp] theorem completeNormal_tame (tame : Tame still s₀ s) : Tame still s₀ (completeNormal s) := by
  unfold completeNormal
  exact beginPrint_tame (offerReady_tame (modHsu_tame _ (startLanes_tame (enterListen_tame
    (modSul_tame _ nofun tame)))))

@[simp] theorem reportFreeSlot_tame (tame : Tame still s₀ s) : Tame still s₀ (reportFreeSlot s) := by
  unfold reportFreeSlot
  split
  · exact sulFreeSlot_tame _ (ntbFreeSlot_tame (pctFreeSlot_tame _
      (eachLane_tame (fun i t ht => offerAfter_tame i ht) (modStp_tame _ tame))))
  · exact tame

@[simp] theorem reportRoom_tame (tame : Tame still s₀ s) : Tame still s₀ (reportRoom s) := by
  unfold reportRoom
  split
  · exact ntbRoom_tame (pctRoom_tame _ (modLif_tame _ rfl tame))
  · exact tame

@[simp] theorem idleTimer_tame (tame : Tame still s₀ s) : Tame still s₀ (idleTimer s) := by
  unfold idleTimer
  repeat' split
  all_goals simp [tame]

@[simp] theorem statusPage_tame (page : List Byte) (tame : Tame still s₀ s) : Tame still s₀ (statusPage page s) := by
  unfold statusPage
  repeat' split
  all_goals simp [tame]

@[simp] theorem deliverPage_tame (owner : Reader) (page : List Byte) (tame : Tame still s₀ s) :
    Tame still s₀ (deliverPage owner page s) := by
  unfold deliverPage
  split <;> simp [tame]

@[simp] theorem sealNote_tame (b : Build) (tame : Tame still s₀ s) : Tame still s₀ (sealNote b s) := by
  have counted : Tame still s₀ (s.modNtb fun x => { x with next := x.next + 1 }) := modNtb_tame _ tame
  unfold sealNote
  refine modNtb_tame _ (joinPrints_tame _ (noteReady_tame _ _ ?_))
  split
  · exact recoverySealed_tame counted
  · exact noteSealed_tame b counted

@[simp] theorem reportDone_tame (q : QItem) (tame : Tame still s₀ s) : Tame still s₀ (reportDone q s) := by
  unfold reportDone
  repeat' split
  all_goals simp [tame]

@[simp] theorem stepDone_tame (tame : Tame still s₀ s) : Tame still s₀ (stepDone s) := by
  unfold stepDone
  repeat' split
  · exact tame
  · exact flightDone_tame (reportDone_tame _ (recordCopy_tame _ tame))
  · exact modStp_tame _ tame

@[simp] theorem lapseLane_tame (i : LaneNo) (tame : Tame still s₀ s) : Tame still s₀ (lapseLane i s) := by
  unfold lapseLane
  split <;> simp [tame]

@[simp] theorem markLapse_tame (i : LaneNo) (tame : Tame still s₀ s) : Tame still s₀ (markLapse i s) := by
  unfold markLapse
  split <;> simp [tame]

@[simp] theorem dropOutputs_tame (i : LaneNo) (tame : Tame still s₀ s) : Tame still s₀ (dropOutputs i s) := by
  unfold dropOutputs
  split <;> simp [tame]

@[simp] theorem stopEffect_tame (tame : Tame still s₀ s) : Tame still s₀ (stopEffect s) := by
  unfold stopEffect
  repeat' split
  all_goals simp [tame]

@[simp] theorem clearLeak_tame (i : LaneNo) (tame : Tame still s₀ s) : Tame still s₀ (clearLeak i s) := by
  simp [clearLeak, tame]

@[simp] theorem ackEffect_tame (tame : Tame still s₀ s) : Tame still s₀ (ackEffect s) := by
  refine eachLane_tame (fun i t ht => clearLeak_tame i ht) (modIlm_tame _ ⟨rfl, rfl, rfl, rfl, rfl⟩ ⟨rfl, rfl⟩
    (modIlm_tame_clear _ rfl (fun i free => ?_) tame))
  obtain ⟨whole, bay, latch, halt⟩ := free
  refine ⟨whole, ?_, ?_, halt⟩
  · simp [clearLatches, bay]
  · have latch : s.ilm.laneLatch[i] = false := latch
    simp only [State.laneLatched, modIlm_ilm, clearLatches, Fin.getElem_fin, Vector.getElem_ofFn]
    rw [Fin.getElem_fin] at latch
    rw [latch, Bool.false_and]

/-- Some entries of the peer table are removed. -/
theorem filterPeers_tame (p : Peer → Bool) (tame : Tame still s₀ s) :
    Tame still s₀ (s.modLif fun l => { l with peers := l.peers.filter p }) := by
  refine modLif_tame_halt _ (fun x => ?_) tame
  obtain ⟨e, mem, halt⟩ := List.any_eq_true.1 x
  exact List.any_eq_true.2 ⟨e, List.mem_of_mem_filter mem, halt⟩

@[simp] theorem takeOverride_tame (tame : Tame still s₀ s) : Tame still s₀ (takeOverride s) :=
  modTripFlags_tame _ (filterPeers_tame _ tame)

@[simp] theorem holdEffect_tame (tame : Tame still s₀ s) : Tame still s₀ (holdEffect s) := by
  unfold holdEffect
  dsimp only
  repeat' split
  all_goals simp [tame]

@[simp] theorem pulseStep_tame (i : LaneNo) (pt : PulseTick) (tame : Tame still s₀ s) : Tame still s₀ (pulseStep i pt s) := by
  have taken : Tame still s₀ ((s.modPiu i fun _ => pt.piu).modRecord i (recordPulses pt.piu)) :=
    modRecord_tame i _ (modPiu_tame i _ tame)
  unfold pulseStep
  dsimp only
  split
  · exact taken
  · exact takeFault_tame i _ taken

@[simp] theorem volumeStep_tame (i : LaneNo) (p : Pass) (tame : Tame still s₀ s) : Tame still s₀ (volumeStep i p s) := by
  simp [volumeStep, tame]

theorem stageStep_tame (c : LaneCfg) (i : LaneNo) (flows : (s.stage i).flowing = true) (tame : Tame still s₀ s) :
    Tame still s₀ (stageStep c i s) := by
  unfold stageStep
  split
  · exact closeDecision_tame i _ tame
  · exact setStage_tame i _ ((stageAfter_flowing c _ _ flows).trans flows.symm) tame

theorem closingStep_tame (i : LaneNo) (pulses : Nat) (closing : s.stage i = .closing) (tame : Tame still s₀ s) :
    Tame still s₀ (closingStep i pulses s) := by
  have counted (n : Nat) : Tame still s₀ (s.modLane i fun l => { l with quiet := n }) := modLane_tame i _ rfl rfl rfl tame
  have stage (n : Nat) : (s.modLane i fun l => { l with quiet := n }).stage i = .closing := by
    rw [State.stage, modLane_lane_self]
    exact closing
  unfold closingStep
  dsimp only
  generalize (if pulses = 0 then (s.lane i).quiet + 1 else 0) = n
  split
  · exact enterEnded_tame i (stage n) (counted n)
  · exact counted n

@[simp] theorem checkStep_tame (c : LaneCfg) (i : LaneNo) (pulses : Nat) (tame : Tame still s₀ s) :
    Tame still s₀ (checkStep c i pulses s) := by
  unfold checkStep
  split
  · exact stageStep_tame c i ‹_› tame
  · split
    · exact closingStep_tame i pulses ‹_› tame
    · exact tame

@[simp] theorem noFlowStep_tame (i : LaneNo) (pulses : Nat) (d : Steer) (tame : Tame still s₀ s) :
    Tame still s₀ (noFlowStep i pulses d s) := by
  unfold noFlowStep
  dsimp only
  repeat' split
  all_goals simp [tame]

@[simp] theorem steerStep_tame (i : LaneNo) (pulses : Nat) (tame : Tame still s₀ s) : Tame still s₀ (steerStep i pulses s) := by
  unfold steerStep
  split
  · exact noFlowStep_tame i _ _ (steerNow_tame i (rise_tame i (retarget_tame i tame)))
  · exact tame

@[simp] theorem checkpointStep_tame (i : LaneNo) (before : Stage) (gross : Nat) (tame : Tame still s₀ s) :
    Tame still s₀ (checkpointStep i before gross s) := by
  unfold checkpointStep
  split <;> simp [tame]

@[simp] theorem compartmentPass_tame (i : LaneNo) (c : VenCfg) (raw : Nat) (tame : Tame still s₀ s) :
    Tame still s₀ (compartmentPass i c raw s) := by
  unfold compartmentPass
  exact checkpointStep_tame i _ _ (steerStep_tame i _ (checkStep_tame _ i _ (dosePass_tame i _ (volumeStep_tame i _
    (pulseStep_tame i _ tame)))))

@[simp] theorem leakReport_tame (before after : Nat) (tame : Tame still s₀ s) :
    Tame still s₀ (leakReport before after s) := by
  unfold leakReport
  split <;> simp [tame]

@[simp] theorem leakLanePass_tame (i : LaneNo) (c : VenCfg) (raw : Nat) (tame : Tame still s₀ s) :
    Tame still s₀ (leakLanePass i c raw s) := by simp [leakLanePass, tame]

@[simp] theorem lanePass_tame (i : LaneNo) (raw : Nat) (tame : Tame still s₀ s) : Tame still s₀ (lanePass i raw s) := by
  unfold lanePass
  repeat' split
  all_goals simp [tame]

@[simp] theorem endStep_tame (i : LaneNo) (tame : Tame still s₀ s) : Tame still s₀ (endStep i s) := by
  have may (x : s.mayEnergise i = true) : s.clear i ∧ (s.stage i).flowing = true := by
    simp only [State.mayEnergise, Bool.and_eq_true, Bool.not_eq_true'] at x
    obtain ⟨⟨⟨⟨whole, bay⟩, latch⟩, halt⟩, flowing⟩ := x
    exact ⟨⟨whole, bay, latch, halt⟩, flowing⟩
  exact modLane_tame_of i _ (fun _ x => (may x).2) (fun x => .inr (may x).1) (fun _ => id) tame

@[simp] theorem valveLeak_tame (i : LaneNo) (tame : Tame still s₀ s) : Tame still s₀ (valveLeak i s) := by
  unfold valveLeak
  split
  · rename_i closing
    refine enterEnded_tame i ?_ (modFlags_tame i _ tame)
    rw [← closing]
    exact congrArg Lane.stage (lane_of_lanes (modFlags_lanes s i _) i)
  · exact modLane_tame i _ rfl rfl rfl tame

@[simp] theorem edgeA_tame (i : LaneNo) (cap : Word32) (tame : Tame still s₀ s) : Tame still s₀ (edgeA i cap s) := by
  simp [edgeA, tame]

@[simp] theorem edgeB_tame (i : LaneNo) (cap : Word32) (tame : Tame still s₀ s) : Tame still s₀ (edgeB i cap s) := by
  simp [edgeB, tame]

@[simp] theorem unexpected_tame (j : InjNo) (tame : Tame still s₀ s) : Tame still s₀ (unexpected j s) := by
  unfold unexpected
  repeat' split
  all_goals simp [tame]

@[simp] theorem pulseTaken_tame (j : InjNo) (tame : Tame still s₀ s) : Tame still s₀ (pulseTaken j s) := by
  unfold pulseTaken
  split <;> simp [tame]

@[simp] theorem windowEnd_tame (j : InjNo) (tame : Tame still s₀ s) : Tame still s₀ (windowEnd j s) := by
  have judged := tryEndCycle_tame j (judge_tame j (s.inj j).pulsed
    (modInj_tame j (fun x => { x with window := .closed, windowDue := none }) tame))
  unfold windowEnd
  dsimp only
  split
  · exact judged
  · exact closeDoses_tame _ judged

@[simp] theorem hearAsk_tame (sender target : Nat) (note : Word32) (tame : Tame still s₀ s) :
    Tame still s₀ (hearAsk sender target note s) := by
  unfold hearAsk
  split <;> simp [tame]

@[simp] theorem aloneEnd_tame (tame : Tame still s₀ s) : Tame still s₀ (aloneEnd s) := by
  unfold aloneEnd
  dsimp only
  repeat' split
  all_goals simp [tame]

@[simp] theorem listenEnd_tame (tame : Tame still s₀ s) : Tame still s₀ (listenEnd s) := by
  unfold listenEnd
  split <;> simp [tame]

theorem mapPeer_tame (n : Nat) (f : Peer → Peer) (halt : ∀ e, (f e).halt = e.halt) (tame : Tame still s₀ s) :
    Tame still s₀ (mapPeer n f s) := by
  refine modLif_tame_halt _ (fun x => ?_) tame
  simp only [List.any_map] at x
  obtain ⟨e, mem, halts⟩ := List.any_eq_true.1 x
  refine List.any_eq_true.2 ⟨e, mem, ?_⟩
  simp only [Function.comp_apply] at halts
  split at halts
  · rwa [halt] at halts
  · exact halts

@[simp] theorem dropPeer_tame (station : Nat) (tame : Tame still s₀ s) : Tame still s₀ (dropPeer station s) :=
  filterPeers_tame _ tame

@[simp] theorem busyAsserted_tame (tame : Tame still s₀ s) : Tame still s₀ (busyAsserted s) := by simp [busyAsserted, tame]

@[simp] theorem busyReleased_tame (tame : Tame still s₀ s) : Tame still s₀ (busyReleased s) := by simp [busyReleased, tame]

@[simp] theorem characterGone_tame (tame : Tame still s₀ s) : Tame still s₀ (characterGone s) := by
  unfold characterGone
  dsimp only
  repeat' split
  all_goals simp [tame]

@[simp] theorem claimWindowEnd_tame (tame : Tame still s₀ s) : Tame still s₀ (claimWindowEnd s) := by
  unfold claimWindowEnd
  split <;> simp [tame]

@[simp] theorem unprime_tame (i : LaneNo) (tame : Tame still s₀ s) : Tame still s₀ (unprime i s) := by
  unfold unprime
  split <;> simp [tame]

@[simp] theorem authEnd_tame (tame : Tame still s₀ s) : Tame still s₀ (authEnd s) := by
  unfold authEnd
  split
  · refine pctSend_tame _ (modPct_tame _ ?_)
    exact eachLane_tame (fun i t ht => unprime_tame i ht) tame
  · exact modPct_tame _ tame

@[simp] theorem idleEnd_tame (tame : Tame still s₀ s) : Tame still s₀ (idleEnd s) := by
  unfold idleEnd
  split <;> simp [tame]

@[simp] theorem stampWindowEnd_tame (tame : Tame still s₀ s) : Tame still s₀ (stampWindowEnd s) := by
  unfold stampWindowEnd
  split <;> simp [tame]

@[simp] theorem lifetimeEnd_tame (tame : Tame still s₀ s) : Tame still s₀ (lifetimeEnd s) := by
  unfold lifetimeEnd
  split <;> simp [tame]


end Sys2Proof.Machine
end

section
/-! PROOFS. The lane outputs through every command (O59). -/

namespace Sys2Proof.Machine

variable {s₀ s : State}

/-! ### Safe outputs -/

theorem mayEnergise_iff (s : State) (i : LaneNo) : s.mayEnergise i = true ↔ s.clear i ∧ (s.stage i).flowing = true := by
  simp [State.mayEnergise, State.clear, and_assoc]

theorem anyFlowing_false_iff (s : State) : s.anyFlowing = false ↔ ∀ i : LaneNo, (s.stage i).flowing = false := by
  simp only [State.anyFlowing, List.any_eq_false, Bool.not_eq_true]
  exact ⟨fun h i => h i (mem_allLanes i), fun h i _ => h i⟩

/-- R29: a lane output is on only where the lane may energise it. -/
def State.Safe (s : State) : Prop := ∀ i : LaneNo, (s.lane i).energised = true → s.mayEnergise i = true

theorem State.Safe.contained (h : s.Safe) : s.Contained := fun i on => ((mayEnergise_iff s i).1 (h i on)).2

/-- Outputs that are on in the flowing stages only are safe where every lane that flows is clear. -/
theorem State.Contained.safe (h : s.Contained) (free : ∀ i, (s.lane i).energised = true → (s.stage i).flowing = true → s.clear i) :
    s.Safe := fun i on => (mayEnergise_iff s i).2 ⟨free i on (h i on), h i on⟩

theorem Tame.safe {still : Bool} {t : State} (tame : Tame still s t) (h : s.Safe) : t.Safe := by
  refine (tame.contained h.contained).safe fun i on _ => ?_
  obtain before | free := tame.powered i on
  · exact tame.clear i ((mayEnergise_iff s i).1 (h i before)).1
  · exact free

/-- With no lane flowing no output is on. -/
theorem State.Contained.safe_of_still (h : s.Contained) (still : s.anyFlowing = false) : s.Safe :=
  h.safe fun i _ flows => absurd ((anyFlowing_false_iff s).1 still i) (by rw [flows]; exact nofun)

theorem Tame.still {t : State} (tame : Tame true s t) (still : s.anyFlowing = false) : t.anyFlowing = false := by
  rw [anyFlowing_false_iff] at still ⊢
  exact fun i => Bool.eq_false_iff.2 fun x => absurd (tame.flows rfl i x) (by rw [still i]; exact nofun)

/-- The operations of one command, from `s` to `u`: safe outputs stay so, and no lane flows before start-up has completed. -/
def Secured (s u : State) : Prop := s.OutputsOk → u.Safe ∧ (u.sul.done = false → u.anyFlowing = false)

theorem Tame.secured {u : State} (tame : Tame true s u) : Secured s u := fun ⟨safe, early, _⟩ =>
  ⟨tame.safe safe, fun x => tame.still (early (tame.ended x))⟩

theorem Secured.then {t u : State} (h : Secured s t) (tame : Tame true t u) : Secured s u := fun ok =>
  ⟨tame.safe (h ok).1, fun x => tame.still ((h ok).2 (tame.ended x))⟩

/-- The clock is no part of it. -/
theorem Secured.of_reach {u : State} {d : Nat} (h : Secured (s.reach d) u) : Secured s u := h

/-- The end of an event keeps the outputs. -/
theorem settle_tame (u : State) : Tame true u (settle u) :=
  portKick_tame (refreshLamps_tame (idleTimer_tame (reportRoom_tame (reportFreeSlot_tame (recoveryNote_tame
    (reportFreeSlot_tame (.refl _ _)))))))

theorem settle_outputsOk {u : State} (safe : u.Safe) (early : u.sul.done = false → u.anyFlowing = false) : (settle u).OutputsOk :=
  ⟨(settle_tame u).safe safe, fun x => (settle_tame u).still (early ((settle_tame u).ended x)), fun x => ((settle_idleOk u).1 x).2.1⟩

/-! ### Conditions that turn outputs off -/

theorem suspendAll_tame_still (cause : Cause) (s : State) : (suspendAll cause s).anyFlowing = false := by
  rw [anyFlowing_false_iff]
  intro i
  have lane : (suspendAll cause s).lane i = (s.lane i).suspend cause := suspendAll_lane cause s i
  rw [State.stage, lane]
  cases flows : (s.lane i).stage.flowing with
  | false => rw [Lane.suspend_of_not_flowing flows, flows]
  | true =>
    obtain ⟨left, leaves⟩ := leftOf_of_flowing flows
    rw [Lane.suspend_of_flowing flows leaves]
    rfl

/-- R35: a halt that is in force has every flowing lane suspended when it starts; before and after it the outputs are safe. -/
theorem haltEdge_safe {t : State} (safe : s.Safe) (contained : t.Contained) (outputs : ∀ i, (t.lane i).energised = (s.lane i).energised)
    (bay : ∀ i, s.clear i → t.halted = false → t.clear i) : (haltEdge s.halted t).Safe := by
  have nothing (x : s.halted = true) (i : LaneNo) : (s.lane i).energised = false := Bool.eq_false_iff.2 fun on => by
    have free := ((mayEnergise_iff s i).1 (safe i on)).1.2.2.2
    rw [x] at free
    cases free
  unfold haltEdge
  split
  · exact ((suspendAll_tame .halt (.refl true t)).contained contained).safe_of_still (suspendAll_tame_still _ _)
  · rename_i edge
    refine contained.safe fun i on _ => ?_
    rw [outputs] at on
    have free := ((mayEnergise_iff s i).1 (safe i on)).1
    refine bay i free (Bool.eq_false_iff.2 fun halt => edge ?_)
    rw [free.2.2.2, halt]
    rfl

theorem haltEdge_tame (before : Bool) (s : State) : Tame true s (haltEdge before s) := by
  unfold haltEdge
  split
  · exact suspendAll_tame .halt (.refl true s)
  · exact .refl true s

/-- R29: with the permissive set broken, outputs that are on in the flowing stages only go off. -/
theorem dropOutputs_safe (broken : s.whole = false) (contained : s.Contained) : (s.eachLane dropOutputs).Safe := by
  have tame : Tame true s (s.eachLane dropOutputs) := eachLane_tame (fun i t ht => dropOutputs_tame i ht) (.refl true s)
  intro i on
  have lane := eachLane_dropOutputs_lane s i
  have flows := tame.contained contained i on
  rw [lane, broken] at on
  rw [State.stage, lane, broken] at flows
  have dark : (((s.lane i).dropped false).stage.flowing = true) → ((s.lane i).dropped false).energised = false := by
    unfold Lane.dropped
    split
    · exact fun _ => rfl
    · rename_i other
      exact fun flows => absurd flows (by simpa using other)
  rw [dark flows] at on
  cases on

/-- R28 to R32: the bay latch, once it is set, has every lane that flows or is PRIMED suspended; the outputs are as they were or off. -/
theorem permissiveDrop_contained (contained : s.Contained) :
    (permissiveDrop s).whole = s.whole ∧ (permissiveDrop s).Contained := by
  have marked : Tame true s (s.eachLane markLapse) := eachLane_tame (fun i t ht => markLapse_tame i ht) (.refl true s)
  unfold permissiveDrop
  dsimp only
  split
  · exact ⟨marked.whole, marked.contained contained⟩
  · have lapsed : Tame true ((s.eachLane markLapse).modIlm fun m => { m with bayLatch := true })
        (((s.eachLane markLapse).modIlm fun m => { m with bayLatch := true }).eachLane lapseLane) :=
      eachLane_tame (fun i t ht => lapseLane_tame i ht) (.refl true _)
    have kept := marked.contained contained
    generalize s.eachLane markLapse = t at marked lapsed kept
    have latched : (t.modIlm fun m => { m with bayLatch := true }).Contained := kept
    exact ⟨lapsed.whole.trans marked.whole, lapsed.contained latched⟩

/-- R29, R30: after a permissive change the outputs are safe: one that goes bad has them off, and one that becomes good turns none on. -/
theorem permissiveEffect_safe {t : State} (good : Bool) (safe : s.Safe) (lanes : t.lanes = s.lanes)
    (level : good = false → t.whole = false) (rises : good = true → ∀ i, s.clear i → t.clear i) : (permissiveEffect good t).Safe := by
  have lane (i : LaneNo) : t.lane i = s.lane i := congrArg (fun v : Vector Lane 4 => v[i]) lanes
  have contained : t.Contained := fun i on => by
    rw [lane] at on
    rw [State.stage, lane]
    exact safe.contained i on
  unfold permissiveEffect
  cases good with
  | true =>
    have ready : t.Safe := contained.safe fun i on _ => by
      rw [lane] at on
      exact rises rfl i ((mayEnergise_iff s i).1 (safe i on)).1
    rw [if_neg (by simp)]
    exact (eachLane_tame (fun i t ht => dropOutputs_tame i ht) (.refl true t)).safe ready
  | false =>
    split
    · obtain ⟨whole, within⟩ := permissiveDrop_contained contained
      exact dropOutputs_safe (whole.trans (level rfl)) within
    · exact dropOutputs_safe (level rfl) contained

/-- R31, R32: an ARM drop latches a lane whose outputs go off, or are off. -/
theorem armLost_safe (i : LaneNo) (safe : s.Safe) : (armLost i s).Safe := by
  have same : Tame true s s := .refl true s
  have latched (u : State) (tame : Tame true (latchLane i s) u) (dark : (u.stage i).flowing = false) : u.Safe := by
    refine (tame.contained safe.contained).safe fun k on flows => ?_
    rcases eq_or_ne i k with rfl | ne
    · exact absurd flows (by rw [dark]; exact nofun)
    · obtain before | free := tame.powered k on
      · obtain ⟨whole, bay, latch, halt⟩ := ((mayEnergise_iff s k).1 (safe k before)).1
        refine tame.clear k ⟨whole, bay, ?_, halt⟩
        simp only [State.laneLatched, latchLane, modIlm_ilm, Fin.getElem_fin] at latch ⊢
        rw [Vector.getElem_set_ne _ _ (fun x => ne (Fin.ext x))]
        exact latch
      · exact free
  have suspended (left : LeftStage) (flows : (s.stage i).flowing = true) (leaves : leftOf (s.stage i) = some left) :
      (armLost i s).Safe := by
    rw [armLost_flowing flows leaves]
    refine latched _ (suspendFlowing_tame i _ _ (.refl true _)) ?_
    rw [State.stage, suspendFlowing_lane]
    rfl
  cases stage : s.stage i with
  | primed =>
    rw [armLost, stage]
    exact (toIdle_tame i same).safe safe
  | lowFlow => exact suspended .lowFlow (by rw [stage]; rfl) (by rw [stage]; rfl)
  | fullFlow => exact suspended .fullFlow (by rw [stage]; rfl) (by rw [stage]; rfl)
  | slowdown => exact suspended .slowdown (by rw [stage]; rfl) (by rw [stage]; rfl)
  | closing =>
    rw [armLost_closing stage]
    refine latched _ (modFlags_tame i _ (.refl true _)) ?_
    rw [State.stage, lane_of_lanes (modFlags_lanes _ _ _)]
    change (s.stage i).flowing = false
    rw [stage]
    rfl
  | idle | ended | suspended =>
    rw [armLost, stage]
    exact safe

/-! ### The commands -/

/-- Nothing is on, and nothing flows, before start-up has completed. -/
theorem levels_secured {c : Prop} [Decidable c] {t : State} (effect : State → State) (lanes : t.lanes = s.lanes) (sul : t.sul = s.sul)
    (ordered : Orderly true t (effect t)) (go : s.Safe → (effect t).Safe) :
    Answers (Secured s) s (if c then .next s else finish (if s.sul.done then effect t else t)) := by
  refine answers_ite answers_next (answers_finish fun ⟨powered, early, _⟩ => ?_)
  have safe : s.Safe := powered
  split
  · rename_i done
    refine ⟨go safe, fun x => ?_⟩
    obtain ⟨same, -⟩ := ordered.sequence rfl
    rw [same, sul, done] at x
    cases x
  · rename_i going
    have lane (i : LaneNo) : t.lane i = s.lane i := congrArg (fun v : Vector Lane 4 => v[i]) lanes
    have still : t.anyFlowing = false := by
      have before := (anyFlowing_false_iff s).1 (early (Bool.eq_false_iff.2 going))
      rw [anyFlowing_false_iff]
      exact fun i => by rw [State.stage, lane]; exact before i
    have contained : t.Contained := fun i on => by
      rw [lane] at on
      rw [State.stage, lane]
      exact safe.contained i on
    exact ⟨contained.safe_of_still still, fun _ => still⟩

theorem onExpiry_secured {effect : Nat → State → State} {due : Option Nat}
    (h : ∀ d t, Tame true t (effect d t)) : Answers (Secured s) s (onExpiry due effect s) :=
  answers_onExpiry fun d => Secured.of_reach (h d _).secured

/-- A change of an input whose effect turns nothing on. -/
theorem changed_secured {c : Prop} [Decidable c] {t : State} (effect : State → State) (ht : Tame true s t)
    (each : Tame true s t → Tame true s (effect t)) :
    Answers (Secured s) s (if c then .next s else finish (if s.sul.done then effect t else t)) := by
  refine answers_ite answers_next (answers_finish ?_)
  split
  · exact (each ht).secured
  · exact ht.secured

theorem permissiveChange_secured (p : Permissive) (good : Bool) (s : State) : Answers (Secured s) s (execPermissiveChange p good s) := by
  refine levels_secured (permissiveEffect good) rfl rfl (permissiveEffect_orderly good (.refl true _)) fun safe => ?_
  refine permissiveEffect_safe good safe rfl (fun bad => ?_) (fun rises i free => ?_)
  · subst bad
    cases p <;> simp [State.whole, Ilm.setLevel]
  · subst rises
    obtain ⟨whole, bay, latch, halt⟩ := free
    simp only [State.whole, Bool.and_eq_true] at whole
    refine ⟨?_, ?_, ?_, ?_⟩
    · cases p <;> simp [State.whole, Ilm.setLevel, whole]
    · cases p <;> exact bay
    · cases p <;> exact latch
    · cases p <;> exact halt

theorem armConnect_secured (i : LaneNo) (s : State) : Answers (Secured s) s (execArmConnect i s) :=
  changed_secured _ (modIlm_tame _ ⟨rfl, rfl, rfl, rfl, rfl⟩ ⟨rfl, rfl⟩ (.refl _ _)) (primingCheck_tame i)

theorem armDrop_secured (i : LaneNo) (s : State) : Answers (Secured s) s (execArmDrop i s) :=
  levels_secured (armLost i) rfl rfl (armLost_orderly i (.refl true _)) fun safe =>
    armLost_safe i ((modIlm_tame (still := true) _ ⟨rfl, rfl, rfl, rfl, rfl⟩ ⟨rfl, rfl⟩ (.refl _ s)).safe safe)

theorem rstopChange_secured (pressed : Bool) (s : State) : Answers (Secured s) s (execRstopChange pressed s) := by
  refine levels_secured (fun t => haltEdge s.halted (requestUrgent t)) rfl rfl
    (haltEdge_orderly _ (requestUrgent_orderly (.refl true _))) fun safe => ?_
  have lanes : (requestUrgent (s.modIlm fun m => { m with rstop := pressed })).lanes = s.lanes := by
    unfold requestUrgent
    repeat' split
    all_goals rfl
  have lane (i : LaneNo) : (requestUrgent (s.modIlm fun m => { m with rstop := pressed })).lane i = s.lane i :=
    congrArg (fun v : Vector Lane 4 => v[i]) lanes
  have asked := requestUrgent_tame (still := true) (.refl true (s.modIlm fun m => { m with rstop := pressed }))
  refine haltEdge_safe safe (asked.contained safe.contained) (fun i => by rw [lane]) fun i free unhalted => ?_
  obtain ⟨whole, bay, latch, -⟩ := free
  have ilm : (requestUrgent (s.modIlm fun m => { m with rstop := pressed })).ilm =
      (s.modIlm fun m => { m with rstop := pressed }).ilm := by
    unfold requestUrgent
    repeat' split
    all_goals rfl
  refine ⟨asked.whole.trans whole, ?_, ?_, unhalted⟩
  · rw [ilm]; exact bay
  · rw [State.laneLatched, ilm]; exact latch

/-- R39: a START opens and resumes lanes, with each output turned on where the lane may energise it. -/
theorem startEffect_tame (t : State) : Tame false t (startEffect t) := by
  unfold startEffect
  repeat' split
  · exact release_tame (.refl _ _)
  · exact .refl _ _
  · exact eachLane_tame (fun i u hu => startLane_tame i hu) (.refl _ _)
  · exact .refl _ _

theorem start_secured (s : State) : Answers (Secured s) s (execStart s) := by
  have pressed : Tame true s (s.modIlm fun m => { m with startKey := true }) :=
    modIlm_tame _ ⟨rfl, rfl, rfl, rfl, rfl⟩ ⟨rfl, rfl⟩ (.refl _ _)
  unfold execStart
  refine answers_ite answers_next (answers_finish fun ok => ?_)
  split
  · rename_i done
    have go := startEffect_tame (s.modIlm fun m => { m with startKey := true })
    refine ⟨go.safe (pressed.safe ok.1), fun x => ?_⟩
    rw [pressed.ended (go.ended x)] at done
    cases done
  · exact pressed.secured ok

theorem stop_secured (s : State) : Answers (Secured s) s (execStop s) :=
  changed_secured _ (modIlm_tame _ ⟨rfl, rfl, rfl, rfl, rfl⟩ ⟨rfl, rfl⟩ (.refl _ _)) stopEffect_tame

theorem ackPress_secured (s : State) : Answers (Secured s) s (execAckPress s) :=
  changed_secured _ (modIlm_tame _ ⟨rfl, rfl, rfl, rfl, rfl⟩ ⟨rfl, rfl⟩ (.refl _ _)) ackEffect_tame

theorem ackRelease_secured (s : State) : Answers (Secured s) s (execAckRelease s) := by
  unfold execAckRelease
  exact answers_ite (answers_finish (modIlm_tame _ ⟨rfl, rfl, rfl, rfl, rfl⟩ ⟨rfl, rfl⟩ (.refl _ _)).secured) answers_next

theorem feedbackPulse_secured (j : InjNo) (s : State) : Answers (Secured s) s (execFeedbackPulse j s) := by
  unfold execFeedbackPulse
  refine answers_ite (answers_finish ?_) answers_next
  have taken : Tame true s (s.modInj j fun x => { x with level := true }) := modInj_tame j _ (.refl _ _)
  split
  · exact (pulseTaken_tame j taken).secured
  · exact taken.secured

theorem setLamp_tame (lamp : Lamp) (f : LampState → LampState) (tame : Tame true s₀ s) :
    Tame true s₀ (s.modIlm fun m => m.setLamp lamp (f (m.lamp lamp))) := by
  cases lamp <;> exact modIlm_tame _ ⟨rfl, rfl, rfl, rfl, rfl⟩ ⟨rfl, rfl⟩ tame

theorem lampStretchEnd_secured (lamp : Lamp) (s : State) : Answers (Secured s) s (execLampStretchEnd lamp s) := by
  unfold execLampStretchEnd
  exact answers_ite answers_next (answers_finish (Secured.of_reach (Tame.refl true _).secured))

theorem takeCard_secured (block : List Byte) (s : State) : Answers (Secured s) s (takeCard block s) := by
  unfold takeCard
  split
  · exact answers_next
  · exact answers_finish (refuseCard_tame _ (.refl _ _)).secured
  · exact answers_finish (takeTrip_tame _ (.refl _ _)).secured
  · exact answers_finish (writeTripStamp_tame (.refl _ _)).secured
  · exact answers_finish (writePending_tame (.refl _ _)).secured

theorem takeReply_secured (success : Bool) (s : State) : Answers (Secured s) s (takeReply success s) := by
  unfold takeReply
  refine answers_ite (answers_finish ?_) answers_next
  split
  · exact (writeSucceeded_tame (.refl _ _)).secured
  · exact (writeFailed_tame (.refl _ _)).secured

theorem takeMessage_secured (raw : List Byte) (s : State) : Answers (Secured s) s (takeMessage raw s) := by
  unfold takeMessage
  split
  · exact takeCard_secured _ s
  · exact takeReply_secured _ s
  · exact takeReply_secured _ s

/-- R35: the peer table's new entry may start a halt; the lanes it finds flowing are suspended in the same event. -/
theorem takePeer_secured (sender : Nat) (p : Payload) {deliver : State → State} (done : s.sul.done = true)
    (each : ∀ t, Tame true t (deliver t)) : Secured s (takePeer sender p deliver s) := by
  have kept : (tablePeer sender p (s.modLif fun l => { l with ownLast := false })).lanes = s.lanes ∧
      (tablePeer sender p (s.modLif fun l => { l with ownLast := false })).ilm = s.ilm ∧
      (tablePeer sender p (s.modLif fun l => { l with ownLast := false })).sul = s.sul := by
    unfold tablePeer
    split <;> exact ⟨rfl, rfl, rfl⟩
  unfold takePeer
  generalize tablePeer sender p (s.modLif fun l => { l with ownLast := false }) = t at kept
  obtain ⟨lanes, ilm, sul⟩ := kept
  have lane (i : LaneNo) : t.lane i = s.lane i := congrArg (fun v : Vector Lane 4 => v[i]) lanes
  have rest : Tame true (haltEdge s.halted t) (peerHeard (deliver (adoptRackTime p (haltEdge s.halted t)))) :=
    peerHeard_tame ((adoptRackTime_tame p (.refl true _)).trans (each _))
  rintro ⟨powered, -, -⟩
  have safe : s.Safe := powered
  have contained : t.Contained := fun i on => by
    rw [lane] at on
    rw [State.stage, lane]
    exact safe.contained i on
  have whole : t.whole = s.whole := by rw [State.whole, State.whole, ilm]
  refine ⟨rest.safe (haltEdge_safe safe contained (fun i => by rw [lane]) fun i free unhalted => ?_), fun x => ?_⟩
  · obtain ⟨whole', bay, latch, -⟩ := free
    exact ⟨whole.trans whole', by rw [ilm]; exact bay, by rw [State.laneLatched, ilm]; exact latch, unhalted⟩
  · have going := (haltEdge_tame s.halted t).ended (rest.ended x)
    rw [sul, done] at going
    cases going

/-- A frame of a peer, with what it is delivered to. -/
theorem hearFrame_secured (sender : Nat) (p : Payload) {deliver : State → State}
    (each : ∀ t, Tame true t t → Tame true t (deliver t)) : Answers (Secured s) s (hearFrame sender p deliver s) := by
  refine answers_finish ?_
  unfold peerFrame
  split
  · exact (Tame.refl true s).secured
  · rename_i taken
    have done : s.sul.done = true := by
      simp only [Bool.or_eq_true, Bool.not_eq_true', not_or, Bool.not_eq_false] at taken
      exact taken.1
    split
    · exact (conflictHeard_tame (.refl _ _)).secured
    · split
      · exact (Tame.refl true s).secured
      · exact (Tame.refl true s).secured
      · exact takePeer_secured sender p done fun t => each t (.refl true t)

theorem risingEdge_secured (i : LaneNo) (ch : Channel) (cap : Word32) (s : State) : Answers (Secured s) s (execRisingEdge i ch cap s) := by
  have reached : Tame true s (s.reachCapture cap) := ⟨rfl, fun _ => id, id, fun _ => .inl, fun _ _ => id, id⟩
  unfold execRisingEdge
  refine answers_ite ?_ answers_next
  cases ch
  · exact answers_finish (edgeA_tame i cap reached).secured
  · exact answers_finish (edgeB_tame i cap reached).secured

theorem spacingPeriodEnd_secured (j : InjNo) (s : State) : Answers (Secured s) s (execSpacingPeriodEnd j s) := by
  unfold execSpacingPeriodEnd
  refine onExpiry_secured fun d t => ?_
  have ended := tryEndCycle_tame j (modInj_tame j (fun x => { x with spacingDue := none, spacingOver := true }) (.refl true t))
  split
  · exact ended
  · exact closeDoses_tame _ ended

theorem ownEcho_secured (s : State) : Answers (Secured s) s (execOwnEcho s) := by
  unfold execOwnEcho
  split
  · exact answers_next
  · exact answers_finish (ownEchoOf_tame _ (.refl _ _)).secured

theorem frameDropped_secured (framing : Bool) (raw : List Byte) (s : State) : Answers (Secured s) s (execFrameDropped framing raw s) := by
  unfold execFrameDropped
  refine answers_ite answers_next ?_
  split
  · exact .inr (.inl ⟨false, rfl⟩)
  · exact answers_finish (echoDropped_tame (modLif_tame _ rfl (.refl _ _))).secured

theorem collision_secured (s : State) : Answers (Secured s) s (execCollision s) := by
  unfold execCollision
  split
  · exact answers_next
  · exact answers_finish (collided_tame (.refl _ _)).secured

theorem freshToStale_secured (station : Nat) (s : State) : Answers (Secured s) s (execFreshToStale station s) := by
  unfold execFreshToStale
  split
  · exact answers_next
  · rename_i e _
    refine answers_ite (answers_finish (Secured.of_reach (d := e.heardAt + Config.staleAge) (Tame.secured ?_))) answers_next
    exact mapPeer_tame _ _ (fun _ => rfl) (.refl _ _)

theorem staleToSilent_secured (station : Nat) (s : State) : Answers (Secured s) s (execStaleToSilent station s) := by
  unfold execStaleToSilent
  split
  · exact answers_next
  · rename_i e _
    refine answers_ite (answers_finish (Secured.of_reach (d := e.heardAt + Config.silentAge) (Tame.secured ?_))) answers_next
    split
    · exact mapPeer_tame _ _ (fun _ => rfl) (.refl _ _)
    · exact dropPeer_tame _ (.refl _ _)

theorem silentRemoval_secured (station : Nat) (s : State) : Answers (Secured s) s (execSilentRemoval station s) := by
  unfold execSilentRemoval
  split
  · exact answers_next
  · rename_i e _
    refine answers_ite (answers_finish (Secured.of_reach (d := e.heardAt + Config.removalAge) (Tame.secured ?_))) answers_next
    exact dropPeer_tame _ (.refl _ _)

theorem busyChange_secured (asserted : Bool) (s : State) : Answers (Secured s) s (execBusyChange asserted s) := by
  unfold execBusyChange
  refine answers_ite answers_next (answers_finish ?_)
  split
  · exact (busyAsserted_tame (.refl _ _)).secured
  · exact (busyReleased_tame (.refl _ _)).secured

theorem characterSent_secured (s : State) : Answers (Secured s) s (execCharacterSent s) := by
  unfold execCharacterSent
  split
  · exact answers_next
  · exact answers_finish (characterGone_tame (emit_tame _ (.refl _ _))).secured

theorem startUpCompletion_secured (s : State) : Answers (Secured s) s (execStartUpCompletion s) := by
  unfold execStartUpCompletion
  refine answers_ite (answers_finish ?_) answers_next
  split
  · exact (completeNormal_tame (.refl _ _)).secured
  · exact (completeFault_tame (.refl _ _)).secured

theorem pageReadComplete_secured (s : State) : Answers (Secured s) s (exec .pageReadComplete s) := by
  obtain e | ⟨r, -, -, e⟩ | ⟨r, -, -, e⟩ := exec_pageReadComplete_cases s <;> rw [e]
  · exact answers_next
  · exact .inr (.inr (.inr ⟨_, rfl⟩))
  · exact answers_finish (deliverPage_tame r.owner _ (modStp_tame _ (.refl _ _))).secured

theorem pageWriteComplete_secured (s : State) : Answers (Secured s) s (exec .pageWriteComplete s) := by
  obtain e | ⟨w, due, -, -, e⟩ | ⟨w, due, -, -, e⟩ := exec_pageWriteComplete_cases s <;> rw [e]
  · exact answers_next
  · exact .inr (.inr (.inr ⟨_, rfl⟩))
  · have done : Tame true s (written w due s) := ⟨rfl, fun _ => id, id, fun _ => .inl, fun _ _ => id, id⟩
    exact answers_finish (stepDone_tame done).secured

theorem readerByteGapTimeout_secured (s : State) : Answers (Secured s) s (execReaderByteGapTimeout s) := by
  unfold execReaderByteGapTimeout
  exact onExpiry_secured fun d t => ⟨rfl, fun _ => id, id, fun _ => .inl, fun _ _ => id, id⟩

/-- R201: after a reset every lane is in IDLE with its outputs off. -/
theorem resetBlocks_dark (s : State) (i : LaneNo) :
    ((resetBlocks s).lane i).energised = false ∧ ((resetBlocks s).stage i).flowing = false := by
  have lane : (resetBlocks s).lane i = resetLane (s.lane i) := by simp [resetBlocks, State.lane]
  rw [State.stage, lane]
  exact ⟨rfl, rfl⟩

theorem reset_secured (straps : BitVec 5) (listenOnly : Bool) (s : State) : Secured s (readStraps straps listenOnly (resetBlocks s)) := by
  intro _
  have read : Tame true (resetBlocks s) (readStraps straps listenOnly (resetBlocks s)) := by
    unfold readStraps
    dsimp only
    split
    · exact askRead_tame _ _ (modSul_tame _ id (modLif_tame _ rfl (modLif_tame _ rfl (.refl _ _))))
    · exact configFaultAt_tame _ _ (modLif_tame _ rfl (.refl _ _))
  have safe : (resetBlocks s).Safe := fun i on => by
    rw [(resetBlocks_dark s i).1] at on
    cases on
  exact ⟨read.safe safe, fun _ => read.still ((anyFlowing_false_iff _).2 fun i => (resetBlocks_dark s i).2)⟩

theorem replyTimerExpiry_secured (s : State) : Answers (Secured s) s (execReplyTimerExpiry s) :=
  onExpiry_secured fun _ _ => writeFailed_tame (.refl _ _)

theorem claimWindowExpiry_secured (s : State) : Answers (Secured s) s (execClaimWindowExpiry s) :=
  onExpiry_secured fun _ _ => claimWindowEnd_tame (.refl _ _)

theorem authorizationTimeout_secured (s : State) : Answers (Secured s) s (execAuthorizationTimeout s) :=
  onExpiry_secured fun _ _ => authEnd_tame (.refl _ _)

theorem tripIdleTimerExpiry_secured (s : State) : Answers (Secured s) s (execTripIdleTimerExpiry s) :=
  onExpiry_secured fun _ _ => idleEnd_tame (.refl _ _)

theorem stampWindowExpiry_secured (s : State) : Answers (Secured s) s (execStampWindowExpiry s) :=
  onExpiry_secured fun _ _ => stampWindowEnd_tame (.refl _ _)

theorem stampLifetimeExpiry_secured (s : State) : Answers (Secured s) s (execStampLifetimeExpiry s) :=
  onExpiry_secured fun _ _ => lifetimeEnd_tame (.refl _ _)

theorem ackHoldEvent_secured (s : State) : Answers (Secured s) s (execAckHoldEvent s) :=
  onExpiry_secured fun _ _ => holdEffect_tame (.refl _ _)

theorem refusalPulseEnd_secured (s : State) : Answers (Secured s) s (execRefusalPulseEnd s) :=
  onExpiry_secured fun _ _ => modIlm_tame _ ⟨rfl, rfl, rfl, rfl, rfl⟩ ⟨rfl, rfl⟩ (.refl _ _)

theorem lampBlinkPhase_secured (lamp : Lamp) (s : State) : Answers (Secured s) s (execLampBlinkPhase lamp s) :=
  onExpiry_secured fun _ _ => setLamp_tame lamp _ (.refl _ _)

theorem faultCodePatternPhase_secured (s : State) : Answers (Secured s) s (execFaultCodePatternPhase s) :=
  onExpiry_secured fun _ _ => modIlm_tame _ ⟨rfl, rfl, rfl, rfl, rfl⟩ ⟨rfl, rfl⟩ (.refl _ _)

theorem meteringTick_secured (i : LaneNo) (raw : BitVec 12) (s : State) : Answers (Secured s) s (execMeteringTick i raw s) :=
  onExpiry_secured fun _ _ => lanePass_tame i _ (modLane_tame i _ rfl rfl rfl (.refl _ _))

theorem valveStepEnd_secured (i : LaneNo) (s : State) : Answers (Secured s) s (execValveStepEnd i s) :=
  onExpiry_secured fun _ _ => endStep_tame i (.refl _ _)

theorem closingTimerExpiry_secured (i : LaneNo) (s : State) : Answers (Secured s) s (execClosingTimerExpiry i s) :=
  onExpiry_secured fun _ _ => valveLeak_tame i (.refl _ _)

theorem pendingAEdgeTimeout_secured (i : LaneNo) (s : State) : Answers (Secured s) s (execPendingAEdgeTimeout i s) :=
  onExpiry_secured fun _ _ => modPiu_tame i _ (.refl _ _)

theorem driveTimeEnd_secured (j : InjNo) (s : State) : Answers (Secured s) s (execDriveTimeEnd j s) :=
  onExpiry_secured fun _ _ => modInj_tame j _ (.refl _ _)

theorem feedbackWindowClose_secured (j : InjNo) (s : State) : Answers (Secured s) s (execFeedbackWindowClose j s) :=
  onExpiry_secured fun _ _ => windowEnd_tame j (.refl _ _)

theorem shareTick_secured (s : State) : Answers (Secured s) s (execShareTick s) :=
  onExpiry_secured fun _ _ => computeShares_tame (modHsu_tame _ (.refl _ _))

theorem statusPeriodExpiry_secured (s : State) : Answers (Secured s) s (execStatusPeriodExpiry s) :=
  onExpiry_secured fun _ _ => statusDueNow_tame (modLif_tame _ rfl (.refl _ _))

theorem statusSpacingExpiry_secured (s : State) : Answers (Secured s) s (execStatusSpacingExpiry s) :=
  onExpiry_secured fun _ _ => statusDueNow_tame (modLif_tame _ rfl (.refl _ _))

theorem aloneTimerExpiry_secured (s : State) : Answers (Secured s) s (execAloneTimerExpiry s) :=
  onExpiry_secured fun _ _ => aloneEnd_tame (.refl _ _)

theorem listenWindowExpiry_secured (s : State) : Answers (Secured s) s (execListenWindowExpiry s) :=
  onExpiry_secured fun _ _ => listenEnd_tame (.refl _ _)

theorem secondTimer_secured (s : State) : Answers (Secured s) s (execSecondTimer s) :=
  onExpiry_secured fun _ _ => modLif_tame _ rfl (.refl _ _)

theorem busyTimerExpiry_secured (s : State) : Answers (Secured s) s (execBusyTimerExpiry s) :=
  onExpiry_secured fun _ _ => finishPrint_tame _ (.refl _ _)

/-- Every command keeps the outputs safe. -/
theorem exec_secured (c : Instr) (s : State) : Answers (Secured s) s (exec c s) := by
  have same : Tame true s s := .refl _ _
  cases c with
  | reset straps listenOnly => exact answers_finish (reset_secured straps listenOnly s)
  | pageReadComplete => exact pageReadComplete_secured s
  | pageWriteComplete => exact pageWriteComplete_secured s
  | startUpCompletion => exact startUpCompletion_secured s
  | card block => exact takeCard_secured block s
  | readerMessageDiscarded raw => exact answers_ite (takeMessage_secured raw s) answers_next
  | readerByteGapTimeout => exact readerByteGapTimeout_secured s
  | writeDone => exact takeReply_secured true s
  | writeFail => exact takeReply_secured false s
  | replyTimerExpiry => exact replyTimerExpiry_secured s
  | claimWindowExpiry => exact claimWindowExpiry_secured s
  | authorizationTimeout => exact authorizationTimeout_secured s
  | tripIdleTimerExpiry => exact tripIdleTimerExpiry_secured s
  | stampWindowExpiry => exact stampWindowExpiry_secured s
  | stampLifetimeExpiry => exact stampLifetimeExpiry_secured s
  | permissiveChange p good => exact permissiveChange_secured p good s
  | armConnect i => exact armConnect_secured i s
  | armDrop i => exact armDrop_secured i s
  | rstopChange pressed => exact rstopChange_secured pressed s
  | start => exact start_secured s
  | stop => exact stop_secured s
  | ackPress => exact ackPress_secured s
  | ackRelease => exact ackRelease_secured s
  | ackHoldEvent => exact ackHoldEvent_secured s
  | refusalPulseEnd => exact refusalPulseEnd_secured s
  | lampStretchEnd lamp => exact lampStretchEnd_secured lamp s
  | lampBlinkPhase lamp => exact lampBlinkPhase_secured lamp s
  | faultCodePatternPhase => exact faultCodePatternPhase_secured s
  | meteringTick i raw => exact meteringTick_secured i raw s
  | valveStepEnd i => exact valveStepEnd_secured i s
  | closingTimerExpiry i => exact closingTimerExpiry_secured i s
  | risingEdge i ch cap => exact risingEdge_secured i ch cap s
  | pendingAEdgeTimeout i => exact pendingAEdgeTimeout_secured i s
  | driveTimeEnd j => exact driveTimeEnd_secured j s
  | spacingPeriodEnd j => exact spacingPeriodEnd_secured j s
  | feedbackPulse j => exact feedbackPulse_secured j s
  | feedbackWindowClose j => exact feedbackWindowClose_secured j s
  | shareTick => exact shareTick_secured s
  | status => exact hearFrame_secured _ _ fun _ h => h
  | claim => exact hearFrame_secured _ _ fun _ => hearClaim_tame _ _
  | held => exact hearFrame_secured _ _ fun _ => hearHeld_tame _
  | release => exact hearFrame_secured _ _ fun _ h => h
  | noteReady => exact hearFrame_secured _ _ fun _ h => h
  | noteAsk => exact hearFrame_secured _ _ fun _ => hearAsk_tame _ _ _
  | notePart => exact hearFrame_secured _ _ fun _ h => h
  | ownEcho => exact ownEcho_secured s
  | conflict => exact answers_ite (answers_finish (conflictHeard_tame same).secured) answers_next
  | frameDropped framing raw => exact frameDropped_secured framing raw s
  | accessAttempt quiet => exact answers_finish (beginAttempt_tame quiet same).secured
  | collision => exact collision_secured s
  | statusPeriodExpiry => exact statusPeriodExpiry_secured s
  | statusSpacingExpiry => exact statusSpacingExpiry_secured s
  | aloneTimerExpiry => exact aloneTimerExpiry_secured s
  | listenWindowExpiry => exact listenWindowExpiry_secured s
  | heldLineDetected => exact answers_ite (answers_finish (enterHeldLine_tame same).secured) answers_next
  | heldLineEnd => exact answers_ite (answers_finish (enterListen_tame same).secured) answers_next
  | freshToStale station => exact freshToStale_secured station s
  | staleToSilent station => exact staleToSilent_secured station s
  | silentRemoval station => exact silentRemoval_secured station s
  | secondTimer => exact secondTimer_secured s
  | busyChange asserted => exact busyChange_secured asserted s
  | characterSent => exact characterSent_secured s
  | busyTimerExpiry => exact busyTimerExpiry_secured s

/-! ### A step -/

theorem exec_outputsOk {c : Instr} {t : State} (ok : s.OutputsOk) (next : exec c s = .next t) : t.OutputsOk := by
  obtain e | ⟨b, e⟩ | ⟨u, e, secured⟩ | ⟨f, e⟩ := exec_secured c s <;> rw [e] at next
  · obtain rfl : s = t := by simpa using next
    exact ok
  · obtain rfl : (s.modLif fun l => { l with ownLast := b }) = t := by simpa using next
    exact ok
  · obtain rfl : settle u = t := by simpa [finish] using next
    obtain ⟨safe, early⟩ := secured ok
    exact settle_outputsOk safe early
  · cases next

/-- R28, R76: the levels that follow their pins leave the lanes' outputs and stages. -/
theorem followLevels_lane (s : State) (i : LaneNo) : ((followLevels s).lane i).energised = (s.lane i).energised ∧
    (followLevels s).stage i = s.stage i := by
  have energised : ((followLevels s).lane i).energised = (s.lane i).energised :=
    followLevels_part s (fun t => (t.lane i).energised) fun t => by simp [State.besideLevels, State.lane, Lane.energised]
  have stage : (followLevels s).stage i = s.stage i :=
    followLevels_part s (·.stage i) fun t => by simp [State.besideLevels, State.stage, State.lane]
  exact ⟨energised, stage⟩

theorem microsecond_tame (s : State) : Tame true s (microsecond s) := by
  have lanes : (microsecond s).lanes = (followLevels s).lanes := by simp [microsecond, followLine_eq, State.later]
  have ilm : (microsecond s).ilm = (followLevels s).ilm := by simp [microsecond, followLine_eq, State.later]
  have lane (i : LaneNo) : (microsecond s).lane i = (followLevels s).lane i := congrArg (fun v : Vector Lane 4 => v[i]) lanes
  have stage (i : LaneNo) : (microsecond s).stage i = s.stage i := by
    rw [State.stage, lane]
    exact (followLevels_lane s i).2
  have energised (i : LaneNo) : ((microsecond s).lane i).energised = (s.lane i).energised := by
    rw [lane]
    exact (followLevels_lane s i).1
  have whole : (microsecond s).whole = s.whole := by
    rw [State.whole, ilm]
    exact followLevels_part s (·.whole) fun _ => rfl
  have bay : (microsecond s).ilm.bayLatch = s.ilm.bayLatch := by
    rw [ilm]
    exact followLevels_part s (·.ilm.bayLatch) fun _ => rfl
  have latch : (microsecond s).ilm.laneLatch = s.ilm.laneLatch := by
    rw [ilm]
    exact followLevels_part s (·.ilm.laneLatch) fun _ => rfl
  have rstop : (microsecond s).ilm.rstop = s.ilm.rstop := by
    rw [ilm]
    exact followLevels_part s (·.ilm.rstop) fun _ => rfl
  have halted : (microsecond s).halted = s.halted := by
    rw [State.halted, State.halted, rstop, (microsecond_lif_kept s).2.1]
  refine ⟨whole, fun i free => ?_, fun contained i => ?_, fun i => ?_, fun _ i => ?_, fun x => ?_⟩
  · obtain ⟨free, clear, unlatched, unhalted⟩ := free
    exact ⟨whole.trans free, bay.trans clear, by rw [State.laneLatched, latch]; exact unlatched, halted.trans unhalted⟩
  · rw [energised, stage]
    exact contained i
  · rw [energised]
    exact .inl
  · rw [stage]
    exact id
  · rwa [microsecond_sul] at x

theorem microsecond_outputsOk (ok : s.OutputsOk) : (microsecond s).OutputsOk := by
  obtain ⟨safe, early, idle⟩ := ok
  have tame := microsecond_tame s
  exact ⟨tame.safe safe, fun x => tame.still (early (tame.ended x)), fun x => tame.still (idle (by rwa [microsecond_pct] at x))⟩

end Sys2Proof.Machine

open Sys2Proof Sys2Proof.Machine

/-- Settles O59, by the operations of the model, each of which turns an output on only where the lane may energise it (`Tame`), and by
the commands that bring up a condition of R29: each has turned the outputs off before its event ends. -/
theorem outputsStaySafe : Obligations.OutputsStaySafe :=
  step_keeps (law := State.OutputsOk) (fun _ _ ok => ok) (fun _ _ _ ok next => exec_outputsOk ok next) fun _ ok => microsecond_outputsOk ok

end

section
/-! PROOFS. The bytes of the store after a page write and after a reset that cuts one short (O5). -/

namespace Sys2Proof.Machine

/-- Each byte that a read of several bytes gives is the one that a read of its address gives. -/
theorem getElem?_readBytes (m : List Host.Cell) (addr n k : Nat) :
    (readBytes m addr n)[k]? = if k < n then some (readByte m (addr + k)) else none := by
  induction n generalizing addr k with
  | zero => simp [readBytes]
  | succ n ih =>
    cases k with
    | zero => simp [readBytes]
    | succ k =>
      rw [readBytes, List.getElem?_cons_succ, ih]
      simp only [Nat.add_lt_add_iff_right]
      congr 2
      rw [show addr + 1 + k = addr + (k + 1) by omega]

/-- R188: each loaded byte of a page write is read back. -/
theorem readByte_applyWrite {m : List Host.Cell} (wf : Memory.wf m = true) {w : PageWrite} (inside : w.inRange = true) {k : Nat}
    {b : Byte} (loaded : w.bytes[k]? = some b) : readByte (applyWrite m w) (w.page * 128 + w.offset + k) = b := by
  have within : w.page * 128 + w.offset + w.bytes.length ≤ 262144 := by
    simp only [PageWrite.inRange, Bool.and_eq_true, decide_eq_true_eq] at inside
    have pages : pageCount = 2048 := rfl
    omega
  have read := congrArg (·[k]?) (readBytes_writeBytes wf within)
  obtain ⟨lt, -⟩ := List.getElem?_eq_some_iff.1 loaded
  simp only [getElem?_readBytes, if_pos lt, loaded] at read
  exact Option.some.inj read

/-- R191: what a reset leaves of the memory during a page write: the loaded bytes at free values, and every other byte. -/
theorem storeAfterReset_writing {s : State} (wf : s.StoreOk) {w : PageWrite} {due : Nat} (port : s.stp.port = .writing w due)
    (inside : w.inRange = true) :
    (∀ k < w.bytes.length, readByte (storeAfterReset s) (w.page * 128 + w.offset + k) = Config.freeByte (s.free + k)) ∧
    (∀ a, a < w.page * 128 + w.offset ∨ w.page * 128 + w.offset + w.bytes.length ≤ a →
      readByte (storeAfterReset s) a = readByte s.store a) := by
  have store : storeAfterReset s = applyWrite s.store { w with bytes := freeBytes s.free w.bytes.length } := by
    unfold storeAfterReset
    rw [port]
    exact if_pos inside
  have length : (freeBytes s.free w.bytes.length).length = w.bytes.length := by simp [freeBytes]
  rw [store]
  refine ⟨fun k lt => ?_, fun a out => readByte_applyWrite_out _ _ (by simpa only [length] using out)⟩
  refine readByte_applyWrite (w := { w with bytes := freeBytes s.free w.bytes.length }) wf ?_ ?_
  · simpa only [PageWrite.inRange, length] using inside
  · simp [freeBytes, lt]

/-- R191: a reset with no page write in progress leaves the memory. -/
theorem storeAfterReset_idle {s : State} (idle : ∀ w due, s.stp.port ≠ .writing w due) : storeAfterReset s = s.store := by
  unfold storeAfterReset
  split
  · rename_i w due port
    exact absurd port (idle w due)
  · rfl

/-- R188: the completion of a page write inside the memory. -/
theorem exec_pageWriteComplete_inside {s : State} {w : PageWrite} {due : Nat} (port : s.stp.port = .writing w due)
    (inside : w.inRange = true) : exec .pageWriteComplete s = finish (stepDone (written w due s)) := by
  simp only [exec, execPageWriteComplete, port, inside, if_true]
  rfl

theorem stepDone_written_now (w : PageWrite) (due : Nat) (s : State) : (settle (stepDone (written w due s))).now = max s.now due := by
  have stands : (stepDone (written w due s)).now = (written w due s).now :=
    (stepDone_orderly (seq := true) (.refl _ (written w due s))).now
  rw [settle_now, stands]
  rfl

end Sys2Proof.Machine

open Sys2Proof Sys2Proof.Machine

/-- Settles O5, by what a reset makes of the memory (`storeAfterReset`) and by the bytes of a page write, each read back. -/
theorem storeBytes : Obligations.StoreBytes := by
  refine ⟨fun straps listenOnly s wf => ?_, fun s w due wf port inside => ?_⟩
  · obtain ⟨t, e, memory⟩ := exec_reset_memory straps listenOnly s
    have store := store_of_memory memory
    refine ⟨t, e, ?_, fun w due port inside => ?_, fun idle => store.trans (storeAfterReset_idle idle)⟩
    · rw [State.StoreOk, store]
      exact wf_storeAfterReset wf
    · rw [store]
      exact storeAfterReset_writing wf port inside
  · have memory := stepDone_written_memory w due s
    have store := store_of_memory memory
    refine ⟨_, exec_pageWriteComplete_inside port inside, ?_, stepDone_written_now w due s, ?_, fun k b loaded => ?_, fun a out => ?_⟩
    · rw [State.StoreOk, store]
      exact wf_applyWrite wf inside
    · rw [settle_cfg]
      exact congrArg (·.1) (stepDone_kept (written w due s))
    · rw [store]
      exact readByte_applyWrite wf inside loaded
    · rw [store]
      exact readByte_applyWrite_out _ w out

end

section
/-! PROOFS. The completion of start-up with and without a config fault, and inputs before it (O10). -/

namespace Sys2Proof.Machine

/-! ### The lanes' ticks start (R46, R78, R210) -/

/-- A lane at the completion of start-up. -/
def startOne (i : LaneNo) (s : State) : State := if s.fitted i then s.modLane i (startLaneTick s.now) else s

theorem startOne_order : LaneOrder startOne where
  beyond i s := by
    unfold startOne
    split
    · exact modLane_beyond ..
    · rfl
  line i s := by
    unfold startOne
    split
    · rw [modLane_lane_self]; rfl
    · rfl
  lines i s k _ := by
    unfold startOne
    split <;> rfl

/-- The lane with its tick started, where the image fits it. -/
def Lane.begun (fitted : Bool) (now : Nat) (l : Lane) : Lane := if fitted then startLaneTick now l else l

theorem startOne_lane (i : LaneNo) (s : State) : (startOne i s).lane i = (s.lane i).begun (s.fitted i) s.now := by
  unfold startOne Lane.begun
  split
  · rw [modLane_lane_self]
  · rfl

theorem startLanes_foldl (s : State) : startLanes s = allLanes.foldl (fun t i => startOne i t) s := rfl

theorem startLanes_lane (s : State) (i : LaneNo) : (startLanes s).lane i = (s.lane i).begun (s.fitted i) s.now := by
  rw [startLanes_foldl]
  refine foldl_orders_lane_self (g := Lane.begun (s.fitted i) s.now) startOne_order allLanes_nodup (mem_allLanes i) fun t same => ?_
  have fitted : t.fitted i = s.fitted i := congrArg (fun c : Tables => (c.lanes[i]).isSome) (cfg_of_aside same)
  rw [startOne_lane, fitted, now_of_aside same]

theorem startLanes_eq (s : State) : ∃ lanes, startLanes s = { s with lanes := lanes } := by
  have each : ∀ (l : List LaneNo) (t : State), ∃ lanes, l.foldl (fun u i => startOne i u) t = { t with lanes := lanes } := by
    intro l
    induction l with
    | nil => exact fun t => ⟨t.lanes, rfl⟩
    | cons i rest ih =>
      intro t
      obtain ⟨lanes, e⟩ := ih (startOne i t)
      refine ⟨lanes, e.trans ?_⟩
      unfold startOne
      split <;> rfl
  rw [startLanes_foldl]
  exact each allLanes s

/-! ### The completion without a config fault (R209, R210) -/

/-- The state right after start-up's last step, before anything starts. -/
def State.atEnd (s : State) : State := s.modSul fun u => { u with done := true, phase := .complete }

/-- The state in LISTEN, with its allotments worked out. -/
def State.listening (s : State) : State := enterListen s.atEnd

/-- The state in LISTEN, its allotments as they were. -/
def State.listens (s : State) : State :=
  { s.atEnd with lif := { s.lif with link := .listen, listen := if s.lif.listenOnly then none else some (s.now + 1500000) } }

theorem listening_unshared (s : State) : s.listening.unshared = s.listens.unshared := by
  rw [State.listening, enterListen, setLink_plain (l := .listen) (by decide) (by decide), computeShares_unshared]
  rfl

section
variable {s t : State} (same : t.unshared = s.unshared)
include same

theorem store_of_unshared : t.store = s.store := congrArg (·.store) same

theorem listen_of_unshared : t.lif.listen = s.lif.listen := congrArg (·.listen) (lif_of_unshared same)

end

/-- What a NOTE-READY held until now and a print that begins change: the transmit FIFO and the Note Builder. -/
def State.unreported (s : State) : State := { s with ntb := {}, lif := { s.lif with fifo := [] } }

section
variable {s t : State} (same : t.unreported = s.unreported)
include same

theorem lif_of_unreported : { t.lif with fifo := [] } = { s.lif with fifo := [] } := congrArg (·.lif) same

theorem line_of_unreported : t.lif.link = s.lif.link ∧ t.lif.listen = s.lif.listen ∧ t.lif.onLine = s.lif.onLine ∧
    t.lif.roomFreed = s.lif.roomFreed := by
  have line := lif_of_unreported same
  exact ⟨congrArg (·.link) line, congrArg (·.listen) line, congrArg (·.onLine) line, congrArg (·.roomFreed) line⟩

theorem sul_of_unreported : t.sul = s.sul := congrArg (·.sul) same

theorem now_of_unreported : t.now = s.now := congrArg (·.now) same

theorem stp_of_unreported : t.stp = s.stp := congrArg (·.stp) same

theorem pct_of_unreported : t.pct = s.pct := congrArg (·.pct) same

theorem injs_of_unreported : t.injs = s.injs := congrArg (·.injs) same

theorem store_of_unreported : t.store = s.store := congrArg (·.store) same

theorem hsu_of_unreported : t.hsu = s.hsu := congrArg (·.hsu) same

theorem lanes_of_unreported : t.lanes = s.lanes := congrArg (·.lanes) same

end

theorem offerReady_unreported (s : State) : (offerReady s).unreported = s.unreported := by
  unfold offerReady
  repeat' split
  · rfl
  · rename_i t offer
    obtain ⟨_, fifo, e⟩ := offerFrame_eq (.noteReady _ _) s
    rw [offer] at e
    cases e
    rfl
  · rename_i t offer
    obtain ⟨_, fifo, e⟩ := offerFrame_eq (.noteReady _ _) s
    rw [offer] at e
    cases e
    rfl

theorem sendNext_unreported (s : State) : (sendNext s).unreported = s.unreported := by
  unfold sendNext
  repeat' split
  all_goals rfl

theorem beginPrint_unreported (s : State) : (beginPrint s).unreported = s.unreported := by
  unfold beginPrint
  split
  · rfl
  · rw [sendNext_unreported]; rfl

/-- The state with every tick started. -/
def startTicks (due : Nat) (s : State) : State := (startLanes s).modHsu fun u => { u with tick := some due }

theorem completeNormal_unreported (s : State) : (completeNormal s).unreported = (startTicks (s.now + 500000) s.listening).unreported := by
  unfold completeNormal
  dsimp only
  rw [beginPrint_unreported, offerReady_unreported]
  rfl
theorem exec_startUpCompletion_ready {s : State} (ready : s.ready = true) :
    exec .startUpCompletion s = finish (if s.sul.code = 0 then completeNormal s else completeFault s) := if_pos ready

theorem exec_startUpCompletion_unready {s : State} (unready : s.ready = false) : exec .startUpCompletion s = .next s :=
  if_neg (by rw [unready]; exact nofun)

/-- The parts of the state in LISTEN that a computation of the shares leaves. -/
theorem listening_parts (s : State) : s.listening.sul = { s.sul with done := true, phase := .complete } ∧ s.listening.now = s.now ∧
    s.listening.cfg = s.cfg ∧ s.listening.stp = s.stp ∧ s.listening.pct = s.pct ∧ s.listening.injs = s.injs ∧
    s.listening.store = s.store := by
  have same := listening_unshared s
  rw [sul_of_unshared same, now_of_unshared same, cfg_of_unshared same, stp_of_unshared same, pct_of_unshared same,
    injs_of_unshared same, store_of_unshared same]
  exact ⟨rfl, rfl, rfl, rfl, rfl, rfl, rfl⟩

theorem listening_line (s : State) : s.listening.lif.link = .listen ∧
    s.listening.lif.listen = (if s.lif.listenOnly then none else some (s.now + 1500000)) ∧
    s.listening.lif.onLine = s.lif.onLine ∧ s.listening.lif.roomFreed = s.lif.roomFreed := by
  have same := listening_unshared s
  rw [link_of_unshared same, listen_of_unshared same, onLine_of_unshared same, roomFreed_of_unshared same]
  exact ⟨rfl, rfl, rfl, rfl⟩

theorem listening_lane (s : State) (i : LaneNo) : (s.listening.lane i).unshared = (s.lane i).unshared :=
  lane_of_unshared (listening_unshared s) i

theorem startTicks_eq (due : Nat) (s : State) :
    ∃ lanes, startTicks due s = { s with lanes := lanes, hsu := { s.hsu with tick := some due } } := by
  obtain ⟨lanes, e⟩ := startLanes_eq s
  refine ⟨lanes, ?_⟩
  rw [startTicks, e]
  rfl

/-- The ticks of the lanes and of the shares change the lanes and the Header Share Unit only. -/
theorem startTicks_parts (due : Nat) (s : State) : (startTicks due s).sul = s.sul ∧ (startTicks due s).now = s.now ∧
    (startTicks due s).stp = s.stp ∧ (startTicks due s).pct = s.pct ∧ (startTicks due s).injs = s.injs ∧
    (startTicks due s).store = s.store ∧ (startTicks due s).hsu.tick = some due := by
  obtain ⟨lanes, e⟩ := startTicks_eq due s
  rw [e]
  exact ⟨rfl, rfl, rfl, rfl, rfl, rfl, rfl⟩

theorem startTicks_lif (due : Nat) (s : State) : (startTicks due s).lif = s.lif := by
  obtain ⟨lanes, e⟩ := startTicks_eq due s
  rw [e]

theorem startTicks_lane (due : Nat) (s : State) (i : LaneNo) : (startTicks due s).lane i = (s.lane i).begun (s.fitted i) s.now :=
  startLanes_lane s i

/-- The completion of start-up, part by part. -/
theorem completeNormal_parts (s : State) : (completeNormal s).sul = { s.sul with done := true, phase := .complete } ∧
    (completeNormal s).now = s.now ∧ (completeNormal s).stp = s.stp ∧ (completeNormal s).pct = s.pct ∧
    (completeNormal s).injs = s.injs ∧ (completeNormal s).store = s.store ∧ (completeNormal s).hsu.tick = some (s.now + 500000) := by
  obtain ⟨sul, now, -, stp, pct, injs, store⟩ := listening_parts s
  obtain ⟨sul', now', stp', pct', injs', store', tick⟩ := startTicks_parts (s.now + 500000) s.listening
  have same := completeNormal_unreported s
  rw [sul_of_unreported same, now_of_unreported same, stp_of_unreported same, pct_of_unreported same, injs_of_unreported same,
    store_of_unreported same, hsu_of_unreported same]
  exact ⟨sul'.trans sul, now'.trans now, stp'.trans stp, pct'.trans pct, injs'.trans injs, store'.trans store, tick⟩

theorem completeNormal_line (s : State) : (completeNormal s).lif.link = .listen ∧
    (completeNormal s).lif.listen = (if s.lif.listenOnly then none else some (s.now + 1500000)) ∧
    (completeNormal s).lif.onLine = s.lif.onLine ∧ (completeNormal s).lif.roomFreed = s.lif.roomFreed := by
  obtain ⟨link, listen, onLine, room⟩ := listening_line s
  obtain ⟨link', listen', onLine', room'⟩ := line_of_unreported (completeNormal_unreported s)
  rw [startTicks_lif] at link' listen' onLine' room'
  exact ⟨link'.trans link, listen'.trans listen, onLine'.trans onLine, room'.trans room⟩

theorem fitted_of_cfg {s t : State} (same : t.cfg = s.cfg) (i : LaneNo) : t.fitted i = s.fitted i := by
  rw [State.fitted, State.laneCfg, same]
  rfl

theorem completeNormal_lane (s : State) (i : LaneNo) : (completeNormal s).lane i = (s.listening.lane i).begun (s.fitted i) s.now := by
  obtain ⟨-, now, cfg, -⟩ := listening_parts s
  rw [lane_of_lanes (lanes_of_unreported (completeNormal_unreported s)), startTicks_lane, fitted_of_cfg cfg, now]

/-- R46, R78, R210: what becomes of a lane's tick and snapshots. -/
theorem Lane.begun_spec {l m : Lane} (same : l.unshared = m.unshared) (fitted : Bool) (now : Nat) :
    (fitted = true → (l.begun fitted now).tick = some (now + 250000) ∧
      (l.begun fitted now).piu = { m.piu with snapA := m.piu.cntA, snapB := m.piu.cntB }) ∧
    (fitted = false → (l.begun fitted now).tick = m.tick ∧ (l.begun fitted now).piu = m.piu) ∧
    (l.begun fitted now).stage = m.stage := by
  have tick : l.tick = m.tick := congrArg (·.tick) same
  have piu : l.piu = m.piu := congrArg (·.piu) same
  have stage : l.stage = m.stage := congrArg (·.stage) same
  cases fitted with
  | true => exact ⟨fun _ => ⟨rfl, by rw [← piu]; rfl⟩, nofun, stage⟩
  | false => exact ⟨nofun, fun _ => ⟨tick, piu⟩, stage⟩

/-- R46, R78, R210: a lane after the completion of start-up. -/
theorem completeNormal_ticks (s : State) (i : LaneNo) :
    (s.fitted i = true → ((completeNormal s).lane i).tick = some (s.now + 250000) ∧
      ((completeNormal s).lane i).piu = { (s.lane i).piu with snapA := (s.lane i).piu.cntA, snapB := (s.lane i).piu.cntB }) ∧
    (s.fitted i = false → ((completeNormal s).lane i).tick = (s.lane i).tick ∧ ((completeNormal s).lane i).piu = (s.lane i).piu) ∧
    (completeNormal s).stage i = s.stage i := by
  rw [State.stage, completeNormal_lane]
  exact Lane.begun_spec (listening_lane s i) (s.fitted i) s.now

/-! ### The completion in the config fault state (R207, R211) -/

/-- The state in which the line of the config fault goes to the printer port. -/
def State.faultLine (s : State) : State :=
  (s.atEnd.modIlm fun m => { m with pattern := some ⟨0, s.now + Config.lampTime⟩ }).modNtb fun x =>
    { x with port := { x.port with chars := faultText s.sul.code s.sul.entry (tableName s.sul.code) } }

theorem completeFault_eq (s : State) : completeFault s = sendNext s.faultLine := rfl

/-- Sending a character moves it from the waiting ones to the port. -/
theorem sendNext_chars {s : State} (free : s.ntb.port.wire = none) :
    (sendNext s).ntb.port.wire.toList ++ (sendNext s).ntb.port.chars = s.ntb.port.chars := by
  unfold sendNext
  rw [free]
  split
  · rename_i c rest _ chars
    split
    · rw [free, chars]; rfl
    · simp [chars]
  · rw [free]; rfl


theorem faultLine_parts (s : State) : s.faultLine.sul = { s.sul with done := true, phase := .complete } ∧
    s.faultLine.ilm.pattern = some ⟨0, s.now + 300000⟩ ∧ s.faultLine.lif = s.lif ∧ s.faultLine.hsu = s.hsu ∧
    s.faultLine.lanes = s.lanes ∧ s.faultLine.store = s.store ∧ s.faultLine.stp = s.stp ∧
    s.faultLine.ntb.port.wire = s.ntb.port.wire ∧
    s.faultLine.ntb.port.chars = faultText s.sul.code s.sul.entry (tableName s.sul.code) :=
  ⟨rfl, rfl, rfl, rfl, rfl, rfl, rfl, rfl, rfl⟩

/-- The character that goes to the port changes the Note Builder only. -/
theorem sendNext_parts (s : State) : (sendNext s).sul = s.sul ∧ (sendNext s).ilm = s.ilm ∧ (sendNext s).lif = s.lif ∧
    (sendNext s).hsu = s.hsu ∧ (sendNext s).lanes = s.lanes ∧ (sendNext s).store = s.store ∧ (sendNext s).stp = s.stp := by
  have same := sendNext_unreported s
  refine ⟨sul_of_unreported same, ?_, ?_, hsu_of_unreported same, lanes_of_unreported same, store_of_unreported same,
    stp_of_unreported same⟩
  all_goals
    unfold sendNext
    repeat' split
    all_goals rfl

/-! ### The end of the event -/

/-- With no report due the end of the event leaves these parts. -/
theorem settle_parts {u : State} (calm : u.Calm) : (settle u).sul = u.sul ∧ (settle u).hsu = u.hsu ∧ (settle u).injs = u.injs ∧
    (settle u).ilm.pattern = u.ilm.pattern := by
  have same := settle_apart calm
  exact ⟨congrArg (·.sul) same, congrArg (·.hsu) same, congrArg (·.injs) same, congrArg (·.ilm.pattern) same⟩

/-- R209, R210: the completion without a config fault. -/
theorem startUpCompletes_normal {s : State} (settled : s.sul.phase = .settle) (code : s.sul.code = 0) (held : s.sul.held = [])
    (recovered : s.sul.recovery = .none ∨ s.sul.recovery = .complete) (quiet : s.noReportDue) :
    ∃ t, exec .startUpCompletion s = .next t ∧ t.sul = { s.sul with done := true, phase := .complete } ∧
      t.now = s.now ∧ t.lif.link = .listen ∧
      t.lif.listen = (if s.lif.listenOnly then none else some (s.now + 1500000)) ∧
      t.hsu.tick = some (s.now + 500000) ∧
      (∀ i : LaneNo, s.fitted i = true → (t.lane i).tick = some (s.now + 250000) ∧
        (t.lane i).piu = { (s.lane i).piu with snapA := (s.lane i).piu.cntA, snapB := (s.lane i).piu.cntB }) ∧
      (∀ i : LaneNo, s.fitted i = false → (t.lane i).tick = (s.lane i).tick ∧ (t.lane i).piu = (s.lane i).piu) ∧
      (∀ i : LaneNo, t.stage i = s.stage i) ∧
      t.lif.onLine = s.lif.onLine ∧ t.stp.queue = s.stp.queue ∧ t.stp.flight = s.stp.flight ∧
      t.pct.slot = s.pct.slot ∧ t.pct.trip = s.pct.trip ∧ t.injs = s.injs ∧ t.store = s.store := by
  have ready : s.ready = true := by
    unfold State.ready
    obtain x | x := recovered <;> simp [settled, held, x]
  have answer := exec_startUpCompletion_ready ready
  rw [if_pos code] at answer
  have parts := completeNormal_parts s
  have line := completeNormal_line s
  have ticks := completeNormal_ticks s
  generalize completeNormal s = u at answer parts line ticks
  obtain ⟨sul, now, stp, pct, injs, store, tick⟩ := parts
  obtain ⟨link, listen, onLine, room⟩ := line
  obtain ⟨departed, unfreed⟩ := quiet
  have calm : u.Calm := by
    refine ⟨⟨by rw [stp]; exact departed, room.trans unfreed⟩, ?_⟩
    rw [sul]
    obtain x | x := recovered <;> simp [x]
  obtain ⟨sul', hsu', injs', -⟩ := settle_parts calm
  obtain ⟨queue, flight⟩ := settle_queue_flight calm
  have lane (i : LaneNo) : (settle u).lane i = u.lane i := lane_of_lanes (settle_lanes calm) i
  refine ⟨_, answer, sul'.trans sul, (settle_now u).trans now, ?_, ?_, (congrArg Hsu.tick hsu').trans tick, fun i => ?_, fun i => ?_,
    fun i => ?_, ?_, queue.trans (by rw [stp]), flight.trans (by rw [stp]), (settle_slot u).trans (by rw [pct]),
    (settle_trip u).trans (by rw [pct]), injs'.trans injs, (settle_store u).trans store⟩
  · rw [settle_lif_calm calm, link]
  · rw [settle_lif_calm calm, listen]
  · rw [lane]
    exact (ticks i).1
  · rw [lane]
    exact (ticks i).2.1
  · rw [State.stage, lane]
    exact (ticks i).2.2
  · rw [settle_lif_calm calm, onLine]

/-- R207, R211: the completion in the config fault state. -/
theorem startUpCompletes_fault {s : State} (settled : s.sul.phase = .settle) (code : s.sul.code ≠ 0) (quiet : s.Calm)
    (free : s.ntb.port.wire = none) :
    ∃ t, exec .startUpCompletion s = .next t ∧ t.sul = { s.sul with done := true, phase := .complete } ∧
      t.ilm.pattern = some ⟨0, s.now + 300000⟩ ∧ t.lif = s.lif ∧ t.hsu = s.hsu ∧ t.lanes = s.lanes ∧
      t.store = s.store ∧ t.stp.queue = s.stp.queue ∧
      t.ntb.port.wire.toList ++ t.ntb.port.chars = faultText s.sul.code s.sul.entry (tableName s.sul.code) := by
  have ready : s.ready = true := by simp [State.ready, settled, code]
  have answer := exec_startUpCompletion_ready ready
  rw [if_neg code, completeFault_eq] at answer
  obtain ⟨sul, pattern, lif, hsu, lanes, store, stp, wire, chars⟩ := faultLine_parts s
  obtain ⟨sul', ilm', lif', hsu', lanes', store', stp'⟩ := sendNext_parts s.faultLine
  have text := (sendNext_chars (wire.trans free)).trans chars
  generalize sendNext s.faultLine = u at answer sul' ilm' lif' hsu' lanes' store' stp' text
  have calm : u.Calm := by
    obtain ⟨⟨departed, room⟩, offers⟩ := quiet
    refine ⟨⟨by rw [stp', stp]; exact departed, by rw [lif', lif]; exact room⟩, ?_⟩
    rw [sul', sul]
    exact offers
  obtain ⟨sulKept, hsuKept, -, patternKept⟩ := settle_parts calm
  refine ⟨_, answer, sulKept.trans (sul'.trans sul), patternKept.trans ?_, (settle_lif_calm calm).trans (lif'.trans lif),
    hsuKept.trans (hsu'.trans hsu), (settle_lanes calm).trans (lanes'.trans lanes), (settle_store u).trans (store'.trans store),
    (settle_queue_flight calm).1.trans (by rw [stp', stp]), ?_⟩
  · rw [ilm', pattern]
  · rw [settle_ntb calm]
    exact text

/-- Before start-up is ready, its step not reached, an offer held or a recovery going on, the command has no effect. -/
theorem startUpCompletion_early {s : State} (early : s.sul.phase ≠ .settle ∨ (s.sul.code = 0 ∧ (s.sul.held ≠ [] ∨
    s.sul.recovery = .offering ∨ s.sul.recovery = .sealing ∨ s.sul.recovery = .closing))) :
    exec .startUpCompletion s = .next s := by
  refine exec_startUpCompletion_unready ?_
  unfold State.ready
  obtain phase | ⟨code, held | x | x | x⟩ := early
  · simp [phase]
  · simp [code, held]
  · simp [code, x]
  · simp [code, x]
  · simp [code, x]

/-! ### Inputs before start-up has completed (R28, R114, R211) -/

theorem startUpInputs {s : State} (early : s.sul.done = false) :
    (∀ (p : Permissive) (good : Bool), s.ilm.level p ≠ good →
      Leaves (.permissiveChange p good) s { s with ilm := s.ilm.setLevel p good }) ∧
    (∀ i : LaneNo, s.armOn i = false → Leaves (.armConnect i) s { s with ilm := { s.ilm with arm := s.ilm.arm.set i true } }) ∧
    (∀ i : LaneNo, s.armOn i = true → Leaves (.armDrop i) s { s with ilm := { s.ilm with arm := s.ilm.arm.set i false } }) ∧
    (∀ pressed : Bool, s.ilm.rstop ≠ pressed → Leaves (.rstopChange pressed) s { s with ilm := { s.ilm with rstop := pressed } }) ∧
    (s.ilm.startKey = false → Leaves .start s { s with ilm := { s.ilm with startKey := true } }) ∧
    (s.ilm.stopKey = false → Leaves .stop s { s with ilm := { s.ilm with stopKey := true } }) ∧
    (s.ilm.ackKey = false → Leaves .ackPress s { s with ilm := { s.ilm with ackKey := true } }) := by
  have down : ¬s.sul.done = true := by rw [early]; exact nofun
  refine ⟨fun p good change => leaves_of_finish ?_, fun i off => leaves_of_finish ?_, fun i on => leaves_of_finish ?_,
    fun pressed change => leaves_of_finish ?_, fun released => leaves_of_finish ?_, fun released => leaves_of_finish ?_,
    fun released => leaves_of_finish ?_⟩
  · change execPermissiveChange p good s = _
    rw [execPermissiveChange, if_neg change]
    exact congrArg finish (if_neg down)
  · change execArmConnect i s = _
    rw [execArmConnect, if_neg (by rw [off]; exact nofun)]
    exact congrArg finish (if_neg down)
  · change execArmDrop i s = _
    rw [execArmDrop, if_neg (by rw [on]; exact nofun)]
    exact congrArg finish (if_neg down)
  · change execRstopChange pressed s = _
    rw [execRstopChange, if_neg change]
    exact congrArg finish (if_neg down)
  · change execStart s = _
    rw [execStart, if_neg (by rw [released]; exact nofun)]
    exact congrArg finish (if_neg down)
  · change execStop s = _
    rw [execStop, if_neg (by rw [released]; exact nofun)]
    exact congrArg finish (if_neg down)
  · change execAckPress s = _
    rw [execAckPress, if_neg (by rw [released]; exact nofun)]
    exact congrArg finish (if_neg down)

/-- R114: before start-up completes a feedback pulse is followed without being taken. -/
theorem feedbackPulse_early {s : State} {j : InjNo} (early : s.sul.done = false) (low : (s.inj j).level = false) :
    exec (.feedbackPulse j) s = finish (s.modInj j fun x => { x with level := true }) := by
  have reads : (s.reads j && !(s.inj j).level) = true := by simp [State.reads, early, low]
  have down : ¬s.sul.done = true := by rw [early]; exact nofun
  change execFeedbackPulse j s = _
  rw [execFeedbackPulse, if_pos reads]
  exact congrArg finish (if_neg down)

end Sys2Proof.Machine

open Sys2Proof Sys2Proof.Machine

/-- Settles O10, by the parts of the completion event (`completeNormal_parts`, `faultLine_parts`), and by the commands of the inputs, whose
effect waits for start-up. -/
theorem startUpCompletes : Obligations.StartUpCompletes := by
  refine ⟨fun s => ⟨startUpCompletes_normal, startUpCompletes_fault, startUpCompletion_early⟩, fun s early => ?_⟩
  obtain ⟨permissive, connect, drop, rstop, start, stop, ack⟩ := startUpInputs early
  exact ⟨permissive, connect, drop, rstop, start, stop, ack, fun j low => leaves_of_finish (feedbackPulse_early early low)⟩

end

section
/-! PROOFS. The checks of the configuration image in their order, and what loaded tables hold (R203 to R206). -/

namespace Sys2Proof.Machine

/-! ### The first check that fails -/

/-- The code and entry of the first check that fails. -/
def faultOf (checks : List ImageCheck) : Option (Nat × Nat) := (checks.find? fun c => !c.ok).map fun c => (c.code, c.entry)

theorem faultOf_append (a b : List ImageCheck) : faultOf (a ++ b) = (faultOf a <|> faultOf b) := by
  rw [faultOf, List.find?_append, faultOf, faultOf]
  cases a.find? fun c => !c.ok <;> rfl

theorem faultOf_cons (c : ImageCheck) (rest : List ImageCheck) :
    faultOf (c :: rest) = if c.ok then faultOf rest else some (c.code, c.entry) := by
  rw [faultOf, List.find?_cons]
  cases ok : c.ok <;> rfl

theorem faultOf_eq_none {checks : List ImageCheck} : faultOf checks = none ↔ ∀ c ∈ checks, c.ok = true := by
  simp [faultOf]

/-! ### The range checks (R205) -/

theorem faultOf_entryChecks {α : Type} (id : Nat) (entries : List (Option α)) (ok : α → Bool) :
    faultOf (entryChecks id entries ok) = firstBad id entries ok := by
  rw [faultOf, entryChecks, firstBad, List.find?_map, Option.map_map]
  exact congrArg (Option.map _) (congrArg (List.find? · _) (funext fun ⟨e, _⟩ => by cases e <;> rfl))

theorem within_eq (v lo hi : Nat) : within v lo hi = decide (lo ≤ v ∧ v ≤ hi) := by
  rw [within, Bool.decide_and]

theorem doseInRange_eq (d : DoseCfg) : doseInRange d = d.legal := by
  simp [doseInRange, DoseCfg.legal, within_eq, Bool.and_assoc]

theorem recipeInRange_eq (r : RecipeCfg) : recipeInRange r =
    decide ((r.kind = 1 ∧ r.dose.legal = true) ∨ (r.kind = 2 ∧ r.dose.injector ≤ 15) ∨ r.kind = 3) := by
  rw [recipeInRange, doseInRange_eq]
  split
  · simp [*]
  · simp [*, within_eq]
  · simp [*]
  · rename_i direct block withdrawn
    exact (decide_eq_false fun legal => legal.elim (fun l => direct l.1) fun l => l.elim (fun l => block l.1) withdrawn).symm

theorem laneInRange_eq (l : LaneCfg) : laneInRange l = decide (1 ≤ l.product ∧ l.product ≤ 15 ∧ 1 ≤ l.header ∧ l.header ≤ 6 ∧
    1000 ≤ l.k ∧ l.k ≤ 999999 ∧ 50 ≤ l.lowRate ∧ l.lowRate ≤ 1000 ∧ l.lowVolume ≤ 2000 ∧ l.slowVolume ≤ 5000 ∧
    50 ≤ l.slowRate ∧ l.slowRate ≤ 2000 ∧ 100 ≤ l.maxFlow ∧ l.maxFlow ≤ 5000 ∧ 10 ≤ l.ramp ∧ l.ramp ≤ 1000 ∧
    1 ≤ l.overrun ∧ l.overrun ≤ 200 ∧ l.level ≤ 2 ∧ l.correction ≤ 255 ∧ 1 ≤ l.ceiling ∧ l.ceiling ≤ 65535) := by
  simp [laneInRange, within_eq, Bool.and_assoc]

theorem tempInRange_eq (x : TempCfg) : tempInRange x =
    decide (1 ≤ x.cLo ∧ x.cLo < x.cHi ∧ x.cHi ≤ 4094 ∧ -10000 ≤ x.tLo ∧ x.tLo < x.tHi ∧ x.tHi ≤ 20000) := by
  rw [Bool.eq_iff_iff]
  simp only [tempInRange, within_eq, Bool.and_eq_true, decide_eq_true_eq]
  omega

theorem rangeFault_eq (t : Tables) : rangeFault t = faultOf t.rangeChecks := by
  unfold Tables.rangeChecks rangeFault
  simp only [faultOf_append, faultOf_entryChecks, within_eq, funext doseInRange_eq, funext recipeInRange_eq, funext laneInRange_eq,
    funext tempInRange_eq, ← Bool.decide_and, and_assoc, Nat.zero_le, true_and, Option.orElse_eq_orElse, Option.orElse_eq_or,
    Option.or_assoc]
  cases t.bay with
  | none => rfl
  | some b => by_cases low : b.tolerance ≤ 20 <;> simp [low, faultOf]

/-! ### The checks of the lanes and injectors (R206) -/

theorem faultOf_curve : ∀ curve : List (Nat × PointCfg),
    faultOf ((curve.zip (curve.drop 1)).map fun (a, b) => ⟨5, b.1, decide (a.2.q < b.2.q)⟩) =
      (notAscending curve).map fun e => (5, e)
  | [] => rfl
  | [_] => rfl
  | (n, p) :: (e, q) :: rest => by
    have ih := faultOf_curve ((e, q) :: rest)
    simp only [List.drop_succ_cons, List.drop_zero] at ih
    simp only [List.drop_succ_cons, List.drop_zero, List.zip_cons_cons, List.map_cons, notAscending]
    rw [faultOf_cons, ih]
    by_cases low : q.q ≤ p.q
    · simp [low]
    · simp [low, Nat.lt_of_not_le low]

theorem laneFault_eq (t : Tables) (i : LaneNo) : laneFault t i = faultOf (t.laneChecks i) := by
  unfold laneFault Tables.laneChecks
  cases t.lanes[i] with
  | none => rfl
  | some l =>
    dsimp only
    rw [List.cons_append, faultOf_cons, List.cons_append, faultOf_cons, List.cons_append, faultOf_cons, List.cons_append,
      faultOf_cons, List.nil_append, faultOf_curve]
    cases entryOf t.products l.product <;> cases entryOf t.headers l.header <;> cases t.temps[i] <;>
      by_cases points : lanePoints t i = [] <;> simp [points]

theorem serviceFault_eq (t : Tables) : serviceFault t = faultOf t.serviceChecks := by
  unfold serviceFault Tables.serviceChecks
  simp only [List.flatMap_cons, List.flatMap_nil, List.append_nil, faultOf_append, faultOf_entryChecks, laneFault_eq, faultOf_cons,
    Option.orElse_eq_orElse, Option.orElse_eq_or, Option.or_assoc, laneFitted]
  cases t.lanes.toList.any (·.isSome) <;> rfl

theorem imageCrcOk_iff (image : List Byte) :
    imageCrcOk image = true ↔ crc16 (image.take 6 ++ image.drop 8) = fieldNat image 6 2 := by simp [imageCrcOk]

/-- R203 to R206: what an image whose check matches and whose descriptors load gives. -/
theorem loadImage_of_loaded {image : List Byte} {t : Tables} (crc : crc16 (image.take 6 ++ image.drop 8) = fieldNat image 6 2)
    (loaded : loadDescriptors (fieldNat image 4 2) (image.drop 8) {} = some t) :
    loadImage image = match faultOf (t.rangeChecks ++ t.serviceChecks) with
      | some f => .error f
      | none => .ok t := by
  rw [faultOf_append, ← rangeFault_eq, ← serviceFault_eq, loadImage, (imageCrcOk_iff image).mpr crc, loaded]
  rfl

theorem loadImage_crc {image : List Byte} (crc : crc16 (image.take 6 ++ image.drop 8) ≠ fieldNat image 6 2) :
    loadImage image = .error (12, 0) := by
  rw [loadImage, Bool.eq_false_iff.mpr fun ok => crc ((imageCrcOk_iff image).mp ok)]
  rfl

theorem loadImage_unloaded {image : List Byte} (crc : crc16 (image.take 6 ++ image.drop 8) = fieldNat image 6 2)
    (stuck : loadDescriptors (fieldNat image 4 2) (image.drop 8) {} = none) : loadImage image = .error (13, 0) := by
  rw [loadImage, (imageCrcOk_iff image).mpr crc, stuck]
  rfl

theorem loadImage_ok {image : List Byte} {t : Tables} (ok : loadImage image = .ok t) :
    crc16 (image.take 6 ++ image.drop 8) = fieldNat image 6 2 ∧
    loadDescriptors (fieldNat image 4 2) (image.drop 8) {} = some t ∧
    ∀ c ∈ t.rangeChecks ++ t.serviceChecks, c.ok = true := by
  by_cases crc : crc16 (image.take 6 ++ image.drop 8) = fieldNat image 6 2
  · cases loaded : loadDescriptors (fieldNat image 4 2) (image.drop 8) {} with
    | none => rw [loadImage_unloaded crc loaded] at ok; cases ok
    | some u =>
      rw [loadImage_of_loaded crc loaded] at ok
      cases fault : faultOf (u.rangeChecks ++ u.serviceChecks) with
      | some f => rw [fault] at ok; cases ok
      | none =>
        rw [fault] at ok
        cases ok
        exact ⟨crc, rfl, faultOf_eq_none.mp fault⟩
  · rw [loadImage_crc crc] at ok
    cases ok

/-! ### What loaded tables hold -/

theorem entry_ok {α : Type} {id : Nat} {entries : List (Option α)} {ok : α → Bool}
    (passes : ∀ c ∈ entryChecks id entries ok, c.ok = true) {x : α} (mem : some x ∈ entries) : ok x = true := by
  obtain ⟨k, lt, e⟩ := List.mem_iff_getElem.mp mem
  refine passes ⟨id, k + 1, ok x⟩ (List.mem_map.mpr ⟨(some x, k), ?_, rfl⟩)
  rw [List.mem_zipIdx_iff_getElem?, List.getElem?_eq_getElem lt, e]

theorem mem_toList_of_entryOf {α : Type} {n : Nat} {v : Vector (Option α) n} {entry : Nat} {x : α} (e : entryOf v entry = some x) :
    some x ∈ v.toList := by
  unfold entryOf at e
  split at e
  · cases e
  · obtain e := Option.join_eq_some_iff.mp e
    exact Vector.mem_toList_iff.mpr (Vector.mem_of_getElem? e)

theorem entryOf_succ {α : Type} {n : Nat} (v : Vector (Option α) n) (i : Fin n) : entryOf v (i.val + 1) = v[i] := by
  simp [entryOf]

theorem mem_toList_getElem {α : Type} {n : Nat} {v : Vector (Option α) n} {i : Fin n} {x : α} (e : v[i] = some x) :
    some x ∈ v.toList := mem_toList_of_entryOf ((entryOf_succ v i).trans e)

/-- The checks of R205 pass, table by table. -/
theorem rangeChecks_ok {t : Tables} (passes : ∀ c ∈ t.rangeChecks, c.ok = true) :
    (∃ b, t.bay = some b ∧ b.tolerance ≤ 20) ∧
    (∀ h, some h ∈ t.headers.toList → 100 ≤ h.capacity ∧ h.capacity ≤ 20000 ∧ 1 ≤ h.stations ∧ h.stations ≤ 24) ∧
    (∀ l, some l ∈ t.lanes.toList → 1 ≤ l.product ∧ l.product ≤ 15 ∧ 1 ≤ l.header ∧ l.header ≤ 6 ∧
      1000 ≤ l.k ∧ l.k ≤ 999999 ∧ 50 ≤ l.lowRate ∧ l.lowRate ≤ 1000 ∧ l.lowVolume ≤ 2000 ∧ l.slowVolume ≤ 5000 ∧
      50 ≤ l.slowRate ∧ l.slowRate ≤ 2000 ∧ 100 ≤ l.maxFlow ∧ l.maxFlow ≤ 5000 ∧ 10 ≤ l.ramp ∧ l.ramp ≤ 1000 ∧
      1 ≤ l.overrun ∧ l.overrun ≤ 200 ∧ l.level ≤ 2 ∧ l.correction ≤ 255 ∧ 1 ≤ l.ceiling ∧ l.ceiling ≤ 65535) ∧
    (∀ p, some p ∈ t.products.toList → p.cls ≤ 15 ∧ p.alpha ≤ 2000 ∧ p.beta ≤ 200) ∧
    (∀ x, some x ∈ t.temps.toList → 1 ≤ x.cLo ∧ x.cLo < x.cHi ∧ x.cHi ≤ 4094 ∧ -10000 ≤ x.tLo ∧ x.tLo < x.tHi ∧ x.tHi ≤ 20000) ∧
    (∀ x, some x ∈ t.injectors.toList → 1 ≤ x.lane ∧ x.lane ≤ 4 ∧ 500 ≤ x.stroke ∧ x.stroke ≤ 50000 ∧
      1 ≤ x.rate ∧ x.rate ≤ 120 ∧ 50 ≤ x.drive ∧ x.drive ≤ 1000) := by
  unfold Tables.rangeChecks at passes
  simp only [List.forall_mem_append, List.forall_mem_singleton] at passes
  obtain ⟨⟨⟨⟨⟨⟨⟨⟨bay, headers⟩, lanes⟩, products⟩, -⟩, temps⟩, injectors⟩, -⟩, -⟩ := passes
  refine ⟨?_, fun h mem => of_decide_eq_true (entry_ok headers mem), fun l mem => of_decide_eq_true (entry_ok lanes mem),
    fun p mem => of_decide_eq_true (entry_ok products mem), fun x mem => of_decide_eq_true (entry_ok temps mem),
    fun x mem => of_decide_eq_true (entry_ok injectors mem)⟩
  cases some_bay : t.bay with
  | none => rw [some_bay] at bay; cases bay
  | some b => rw [some_bay] at bay; exact ⟨b, rfl, of_decide_eq_true bay⟩

/-- R206: each point of the curve lies above the one before. -/
theorem pairwise_of_zip : ∀ {curve : List (Nat × PointCfg)},
    (∀ x ∈ curve.zip (curve.drop 1), x.1.2.q < x.2.2.q) → (curve.map (·.2.q)).Pairwise (· < ·)
  | [], _ => .nil
  | [_], _ => List.pairwise_singleton ..
  | a :: b :: rest, steps => by
    simp only [List.drop_succ_cons, List.drop_zero, List.zip_cons_cons, List.forall_mem_cons] at steps
    obtain ⟨first, later⟩ := steps
    have ih : ((b :: rest).map (·.2.q)).Pairwise (· < ·) := pairwise_of_zip later
    rw [List.map_cons, List.pairwise_cons]
    refine ⟨fun q mem => ?_, ih⟩
    rw [List.map_cons, List.mem_cons] at mem
    obtain rfl | mem := mem
    · exact first
    · exact first.trans ((List.pairwise_cons.mp ih).1 q mem)

/-- The checks of R206 pass for a fitted lane. -/
theorem laneChecks_ok {t : Tables} {i : LaneNo} {l : LaneCfg} (fitted : t.lanes[i] = some l)
    (passes : ∀ c ∈ t.laneChecks i, c.ok = true) :
    (entryOf t.products l.product).isSome = true ∧ (entryOf t.headers l.header).isSome = true ∧ (t.temps[i]).isSome = true ∧
    lanePoints t i ≠ [] ∧ ((lanePoints t i).map (·.2.q)).Pairwise (· < ·) := by
  unfold Tables.laneChecks at passes
  rw [fitted] at passes
  dsimp only at passes
  simp only [List.forall_mem_append, List.forall_mem_cons, List.forall_mem_map] at passes
  obtain ⟨⟨product, header, temp, curve, -⟩, steps⟩ := passes
  exact ⟨product, header, temp, of_decide_eq_true curve, pairwise_of_zip fun x mem => of_decide_eq_true (steps x mem)⟩

/-- The checks of R206 pass. -/
theorem serviceChecks_ok {t : Tables} (passes : ∀ c ∈ t.serviceChecks, c.ok = true) :
    (∀ i : LaneNo, ∀ c ∈ t.laneChecks i, c.ok = true) ∧ (∃ i : LaneNo, (t.lanes[i]).isSome = true) ∧
    (∀ x, some x ∈ t.injectors.toList → (entryOf t.lanes x.lane).isSome = true) := by
  unfold Tables.serviceChecks at passes
  simp only [List.forall_mem_append, List.forall_mem_singleton] at passes
  obtain ⟨⟨lanes, some_lane⟩, injectors⟩ := passes
  refine ⟨fun i c mem => lanes c (List.mem_flatMap.mpr ⟨i, mem_allLanes i, mem⟩), ?_, fun x mem => entry_ok injectors mem⟩
  obtain ⟨x, mem, fitted⟩ := List.any_eq_true.mp some_lane
  obtain ⟨k, lt, rfl⟩ := List.mem_iff_getElem.mp mem
  exact ⟨⟨k, by simpa using lt⟩, by simpa using fitted⟩

/-- R206: the lane of a fitted injector. -/
theorem fitted_of_number {t : Tables} {n : Nat} (fitted : (entryOf t.lanes n).isSome = true) (low : 1 ≤ n) (high : n ≤ 4) :
    ∃ i : LaneNo, n = i.val + 1 ∧ (t.lanes[i]).isSome = true := by
  have lt : n - 1 < 4 := by omega
  have e : n = (⟨n - 1, lt⟩ : LaneNo).val + 1 := by dsimp only; omega
  refine ⟨⟨n - 1, lt⟩, e, ?_⟩
  rwa [e, entryOf_succ] at fitted

end Sys2Proof.Machine
end

section
/-! PROOFS. A page that has been read and the reads that follow it, and the loading of the configuration image at start-up (O6). -/

namespace Sys2Proof.Machine

/-! ### A page that has been read (R188) -/

/-- The state in which a page read is complete. -/
def State.pageRead (s : State) : State := s.modStp fun p => { p with port := .idle, lastRead := true }

theorem exec_pageRead {s : State} {o : Reader} {n : Nat} (port : s.stp.port = .reading ⟨o, n⟩) (low : n < 2048) :
    exec .pageReadComplete s = finish (deliverPage o (readPage s.store n) s.pageRead) := by
  change execPageReadComplete s = _
  rw [execPageReadComplete, port]
  exact if_pos low

theorem exec_pageRead_sul {s : State} {n : Nat} (port : s.stp.port = .reading ⟨.sul, n⟩) (low : n < 2048) :
    exec .pageReadComplete s = finish (sulPage (readPage s.store n) s.pageRead) := by
  rw [exec_pageRead port low, deliverPage]

theorem askPages_eq (o : Reader) : ∀ (n p : Nat) (s : State),
    askPages o p n s = s.modStp fun x => { x with reads := x.reads ++ (List.range n).map fun k => ⟨o, p + k⟩ }
  | 0, _, s => by
    rw [askPages, State.modStp, List.range_zero, List.map_nil, List.append_nil]
  | n + 1, p, s => by
    rw [askPages, askPages_eq o n, List.range_succ_eq_map, List.map_cons, List.map_map]
    have e : (fun k : Nat => (⟨o, p + k⟩ : ReadReq)) ∘ Nat.succ = fun k => ⟨o, p + 1 + k⟩ :=
      funext fun k => congrArg (ReadReq.mk o) (by omega)
    rw [e]
    simp only [askRead, State.modStp, List.append_assoc, List.singleton_append, Nat.add_zero]

/-- R188: with no page write to do, the first read that waits begins at the end of the event. -/
theorem settle_stp_first {s : State} {r : ReadReq} {rest : List ReadReq} (calm : s.Calm) (idle : s.stp.port = .idle)
    (reads : s.stp.reads = r :: rest) (free : s.stp.flight.bind (·.steps.head?) = none) :
    (settle s).stp = { s.stp with port := .reading r, reads := rest } := by
  have same : (refreshLamps (idleTimer s)).stp = s.stp := by rw [refreshLamps_stp, idleTimer_stp]
  have kick : portKick (refreshLamps (idleTimer s)) = (refreshLamps (idleTimer s)).modStp fun p =>
      { p with reads := rest, port := .reading r } := by
    rw [portKick, same, idle]
    dsimp only
    rw [reads, free]
  rw [settle_stp calm, kick]
  change { (refreshLamps (idleTimer s)).stp with port := .reading r, reads := rest } = _
  rw [same]

/-- R188: the read that the port begins at the end of a command. -/
theorem begins_of_answer {c : Instr} {s u : State} {r : ReadReq} {rest : List ReadReq} (answer : exec c s = finish u) (calm : u.Calm)
    (idle : u.stp.port = .idle) (reads : u.stp.reads = r :: rest) (free : u.stp.flight.bind (·.steps.head?) = none) :
    ∀ t, exec c s = .next t → t.stp.port = .reading r ∧ t.stp.reads = rest := by
  intro t next
  obtain rfl := Host.Outcome.next.inj (answer.symm.trans next)
  rw [settle_stp_first calm idle reads free]
  exact ⟨rfl, rfl⟩

/-! ### The working state of a lane's PIU (R75) -/

/-- The lane, with its PIU's working state only where the image fits it. -/
def Lane.fittedPiu (fitted : Bool) (l : Lane) : Lane := if fitted then l else { l with piu := {} }

theorem dropPiu_eq (i : LaneNo) (s : State) : dropPiu i s = s.modLane i (Lane.fittedPiu (s.fitted i)) := by
  unfold dropPiu Lane.fittedPiu
  cases s.fitted i with
  | false => rfl
  | true => simp [State.modLane]

theorem eachLane_modEach (g : LaneNo → Lane → Lane) (s : State) :
    s.eachLane (fun i => State.modLane i (g i)) = { s with lanes := Vector.ofFn fun i => g i (s.lane i) } := by
  have lanes : (s.eachLane fun i => State.modLane i (g i)).lanes = Vector.ofFn fun i => g i (s.lane i) := by
    ext k lt
    simp only [State.eachLane, allLanes, List.foldl, State.modLane, Fin.getElem_fin, Vector.getElem_set, Vector.getElem_ofFn,
      State.lane]
    match k, lt with
    | 0, _ | 1, _ | 2, _ | 3, _ => simp
  rw [← lanes]
  rfl

/-- R75: a lane that the image leaves unfitted has no working PIU. -/
theorem dropUnfitted_eq (s : State) : dropUnfitted s =
    { s with lanes := Vector.ofFn fun i => if s.fitted i then s.lane i else { s.lane i with piu := {} } } := by
  have each : ∀ (l : List LaneNo) (t : State), t.cfg = s.cfg →
      l.foldl (fun u i => dropPiu i u) t = l.foldl (fun u i => u.modLane i (Lane.fittedPiu (s.fitted i))) t := by
    intro l
    induction l with
    | nil => exact fun _ _ => rfl
    | cons i rest ih =>
      intro t same
      rw [List.foldl_cons, List.foldl_cons, dropPiu_eq, fitted_of_cfg same]
      exact ih _ same
  exact (each allLanes s rfl).trans (eachLane_modEach (fun i => Lane.fittedPiu (s.fitted i)) s)

/-- R207: no table is left, and no lane is fitted. -/
theorem configFaultAt_eq (code entry : Nat) (s : State) : configFaultAt code entry s = { s with
    sul := { s.sul with code := code, entry := entry, phase := .settle, buf := [] }
    cfg := {}, lanes := s.lanes.map fun l => { l with piu := {} } } := by
  rw [configFaultAt, dropUnfitted_eq]
  have none (i : LaneNo) : (({} : Tables).lanes[i]).isSome = false := by simp
  have lanes : (Vector.ofFn fun i : LaneNo => if (({} : Tables).lanes[i]).isSome then s.lane i else { s.lane i with piu := {} }) =
      s.lanes.map fun l => { l with piu := {} } := by
    ext k lt
    simp only [Vector.getElem_ofFn, none, Vector.getElem_map]
    rfl
  rw [← lanes]
  rfl

/-! ### The image (R203, R204, R207) -/

/-- R203: the image's tables are taken. -/
def State.withTables (tables : Tables) (s : State) : State := { s with
  cfg := tables, sul := { s.sul with phase := .totals 0, buf := [] }
  lanes := Vector.ofFn fun i : LaneNo => if (tables.lanes[i]).isSome then s.lane i else { s.lane i with piu := {} } }

theorem imageRead_error {bytes : List Byte} {code entry : Nat}
    (e : loadImage (bytes.take (fieldNat bytes 2 2)) = .error (code, entry)) (s : State) :
    imageRead bytes s = configFaultAt code entry s := by
  rw [imageRead, e]

theorem imageRead_ok {bytes : List Byte} {tables : Tables}
    (e : loadImage (bytes.take (fieldNat bytes 2 2)) = .ok tables) (s : State) :
    imageRead bytes s = askRead .sul 64 (s.withTables tables) := by
  rw [imageRead, e]
  dsimp only
  rw [dropUnfitted_eq]
  rfl

theorem headerPage_fault {page : List Byte} (wrong : fieldNat page 0 2 ≠ 0x5A61 ∨ fieldNat page 2 2 < 8 ∨ 8192 < fieldNat page 2 2)
    (s : State) : headerPage page s = configFaultAt 11 0 s := by
  rw [headerPage, imageHeader, if_pos wrong]

theorem imageHeader_ok {page : List Byte} (tag : fieldNat page 0 2 = 0x5A61) (low : 8 ≤ fieldNat page 2 2)
    (high : fieldNat page 2 2 ≤ 8192) : imageHeader page = .ok (fieldNat page 2 2) := by
  rw [imageHeader, if_neg (by omega)]

theorem pagesOf_eq (n : Nat) : pagesOf n = (n + 127) / 128 := by
  rw [pagesOf]
  split <;> omega

theorem headerPage_single {page : List Byte} (tag : fieldNat page 0 2 = 0x5A61) (low : 8 ≤ fieldNat page 2 2)
    (high : fieldNat page 2 2 ≤ 128) (s : State) : headerPage page s = imageRead page s := by
  rw [headerPage, imageHeader_ok tag low (by omega)]
  dsimp only
  rw [if_pos (by rw [pagesOf_eq]; omega)]

theorem headerPage_further {page : List Byte} (tag : fieldNat page 0 2 = 0x5A61) (low : 128 < fieldNat page 2 2)
    (high : fieldNat page 2 2 ≤ 8192) (s : State) : headerPage page s =
    askPages .sul 1 ((fieldNat page 2 2 + 127) / 128 - 1)
      (s.modSul fun u => { u with phase := .image ((fieldNat page 2 2 + 127) / 128 - 1), buf := page }) := by
  rw [headerPage, imageHeader_ok tag (by omega) high]
  dsimp only
  rw [pagesOf_eq, if_neg (by omega)]

/-! ### An image page in the event of its read -/

section

variable {s : State}

/-- R207: the fault is taken up, and nothing else changes. -/
theorem leaves_configFault {code entry : Nat} (answer : exec .pageReadComplete s = finish (configFaultAt code entry s.pageRead)) :
    Leaves .pageReadComplete s { s with
      sul := { s.sul with code := code, entry := entry, phase := .settle, buf := [] }
      cfg := {}, lanes := s.lanes.map fun l => { l with piu := {} } } :=
  leaves_of_steady (answer.trans (congrArg finish (configFaultAt_eq code entry s.pageRead))) rfl rfl

/-- R203: the whole image has been read. -/
theorem imageRead_answer {bytes : List Byte} (answer : exec .pageReadComplete s = finish (imageRead bytes s.pageRead)) :
    (∀ code entry, loadImage (bytes.take (fieldNat bytes 2 2)) = .error (code, entry) →
      Leaves .pageReadComplete s { s with
        sul := { s.sul with code := code, entry := entry, phase := .settle, buf := [] }
        cfg := {}, lanes := s.lanes.map fun l => { l with piu := {} } }) ∧
    (∀ tables : Tables, loadImage (bytes.take (fieldNat bytes 2 2)) = .ok tables →
      Leaves .pageReadComplete s (s.withTables tables) ∧
      (s.Calm → s.stp.reads = [] → s.stp.queue = [] → s.stp.flight = none →
        ∀ t, exec .pageReadComplete s = .next t → t.stp.port = .reading ⟨.sul, 64⟩)) := by
  refine ⟨fun code entry e => leaves_configFault (answer.trans (congrArg finish (imageRead_error e _))), fun tables e => ?_⟩
  have answer := answer.trans (congrArg finish (imageRead_ok e s.pageRead))
  refine ⟨leaves_of_steady answer rfl rfl, fun calm reads _ free t next => ?_⟩
  have alone : s.stp.reads ++ [⟨.sul, 64⟩] = [(⟨.sul, 64⟩ : ReadReq)] := by rw [reads]; rfl
  have none : s.stp.flight.bind (·.steps.head?) = Option.none := by rw [free]; rfl
  exact (begins_of_answer answer calm rfl alone none t next).1

/-- R203: the further pages of the image are read in order. -/
theorem furtherPages_answer {page : List Byte} {n : Nat} (two : 1 ≤ n)
    (answer : exec .pageReadComplete s = finish (askPages .sul 1 n
      (s.pageRead.modSul fun u => { u with phase := .image n, buf := page }))) :
    Leaves .pageReadComplete s { s with sul := { s.sul with phase := .image n, buf := page } } ∧
    (s.Calm → s.stp.reads = [] → s.stp.queue = [] → s.stp.flight = none →
      ∀ t, exec .pageReadComplete s = .next t → t.stp.port = .reading ⟨.sul, 1⟩ ∧
        t.stp.reads = (List.range (n - 1)).map fun k => ⟨.sul, k + 2⟩) := by
  have answer := answer.trans (congrArg finish (askPages_eq ..))
  refine ⟨leaves_of_steady answer rfl rfl, fun calm reads _ free => ?_⟩
  obtain ⟨k, rfl⟩ : ∃ k, n = k + 1 := ⟨n - 1, by omega⟩
  have pages : s.stp.reads ++ ((List.range (k + 1)).map fun j => (⟨.sul, 1 + j⟩ : ReadReq)) =
      ⟨.sul, 1⟩ :: (List.range k).map fun j => ⟨.sul, j + 2⟩ := by
    rw [reads, List.nil_append, List.range_succ_eq_map, List.map_cons, List.map_map]
    exact congrArg₂ _ rfl (List.map_congr_left fun j _ => congrArg (ReadReq.mk .sul) (Nat.add_comm 1 (j + 1)))
  have none : s.stp.flight.bind (·.steps.head?) = Option.none := by rw [free]; rfl
  exact begins_of_answer answer calm rfl pages none

/-- R203: the first page of the image has been read. -/
theorem headerPage_answer {page : List Byte} (answer : exec .pageReadComplete s = finish (headerPage page s.pageRead)) :
    (fieldNat page 0 2 ≠ 0x5A61 ∨ fieldNat page 2 2 < 8 ∨ 8192 < fieldNat page 2 2 →
      exec .pageReadComplete s = finish (configFaultAt 11 0 s.pageRead)) ∧
    (fieldNat page 0 2 = 0x5A61 → 8 ≤ fieldNat page 2 2 → fieldNat page 2 2 ≤ 128 →
      exec .pageReadComplete s = finish (imageRead page s.pageRead)) ∧
    (fieldNat page 0 2 = 0x5A61 → 128 < fieldNat page 2 2 → fieldNat page 2 2 ≤ 8192 →
      exec .pageReadComplete s = finish (askPages .sul 1 ((fieldNat page 2 2 + 127) / 128 - 1)
        (s.pageRead.modSul fun u => { u with phase := .image ((fieldNat page 2 2 + 127) / 128 - 1), buf := page }))) :=
  ⟨fun wrong => by rw [answer, headerPage_fault wrong], fun tag low high => by rw [answer, headerPage_single tag low high],
    fun tag low high => by rw [answer, headerPage_further tag low high]⟩

/-- R203: a further page of the image has been read. -/
theorem imagePage_answer {page : List Byte} {left : Nat}
    (answer : exec .pageReadComplete s = finish (imagePage left page s.pageRead)) :
    (2 ≤ left → Leaves .pageReadComplete s { s with
      sul := { s.sul with phase := .image (left - 1), buf := s.sul.buf ++ page } }) ∧
    (left ≤ 1 → exec .pageReadComplete s = finish (imageRead (s.sul.buf ++ page) s.pageRead)) := by
  refine ⟨fun more => ?_, fun last => ?_⟩
  · rw [imagePage, if_neg (by omega)] at answer
    exact leaves_of_steady answer rfl rfl
  · rw [imagePage, if_pos last] at answer
    exact answer

end

/-- What a lane's, an injector's and a header's loaded entries are. -/
theorem loaded_entries {image : List Byte} {t : Tables} (ok : loadImage image = .ok t) :
    (∃ b, t.bay = some b ∧ b.tolerance ≤ 20) ∧ (∃ i : LaneNo, (t.lanes[i]).isSome = true) ∧
    (∀ (i : LaneNo) (l : LaneCfg), t.lanes[i] = some l →
      (1000 ≤ l.k ∧ l.k ≤ 999999 ∧ 50 ≤ l.lowRate ∧ l.lowRate ≤ 1000 ∧ l.lowVolume ≤ 2000 ∧ l.slowVolume ≤ 5000 ∧
        50 ≤ l.slowRate ∧ l.slowRate ≤ 2000 ∧ 100 ≤ l.maxFlow ∧ l.maxFlow ≤ 5000 ∧ 10 ≤ l.ramp ∧ l.ramp ≤ 1000 ∧
        1 ≤ l.overrun ∧ l.overrun ≤ 200 ∧ l.level ≤ 2 ∧ l.correction ≤ 255 ∧ 1 ≤ l.ceiling ∧ l.ceiling ≤ 65535) ∧
      (∃ p, entryOf t.products l.product = some p ∧ p.cls ≤ 15 ∧ p.alpha ≤ 2000 ∧ p.beta ≤ 200) ∧
      (entryOf t.headers l.header).isSome = true ∧
      (∃ x, t.temps[i] = some x ∧ 1 ≤ x.cLo ∧ x.cLo < x.cHi ∧ x.cHi ≤ 4094 ∧ -10000 ≤ x.tLo ∧ x.tLo < x.tHi ∧
        x.tHi ≤ 20000) ∧
      lanePoints t i ≠ [] ∧ ((lanePoints t i).map (·.2.q)).Pairwise (· < ·)) ∧
    (∀ (j : InjNo) (x : InjectorCfg), t.injectors[j] = some x →
      (∃ i : LaneNo, x.lane = i.val + 1 ∧ (t.lanes[i]).isSome = true) ∧ 500 ≤ x.stroke ∧ x.stroke ≤ 50000 ∧
      1 ≤ x.rate ∧ x.rate ≤ 120 ∧ 50 ≤ x.drive ∧ x.drive ≤ 1000) ∧
    (∀ (h : Nat) (c : HeaderCfg), entryOf t.headers h = some c →
      100 ≤ c.capacity ∧ c.capacity ≤ 20000 ∧ 1 ≤ c.stations ∧ c.stations ≤ 24) := by
  obtain ⟨-, -, passes⟩ := loadImage_ok ok
  obtain ⟨range, service⟩ := List.forall_mem_append.mp passes
  obtain ⟨bay, headers, lanes, products, temps, injectors⟩ := rangeChecks_ok range
  obtain ⟨laneService, someLane, injService⟩ := serviceChecks_ok service
  refine ⟨bay, someLane, fun i l fitted => ?_, fun j x fitted => ?_, fun h c e => headers c (mem_toList_of_entryOf e)⟩
  · obtain ⟨product, header, temp, curve, ascends⟩ := laneChecks_ok fitted (laneService i)
    obtain ⟨-, -, -, -, ranges⟩ := lanes l (mem_toList_getElem fitted)
    obtain ⟨p, hp⟩ := Option.isSome_iff_exists.mp product
    obtain ⟨x, hx⟩ := Option.isSome_iff_exists.mp temp
    exact ⟨ranges, ⟨p, hp, products p (mem_toList_of_entryOf hp)⟩, header, ⟨x, hx, temps x (mem_toList_getElem hx)⟩, curve, ascends⟩
  · obtain ⟨low, high, ranges⟩ := injectors x (mem_toList_getElem fitted)
    exact ⟨fitted_of_number (injService x (mem_toList_getElem fitted)) low high, ranges⟩

/-- R203 to R206: what loadImage accepts and which fault it finds. -/
theorem loadImage_spec (image : List Byte) :
    (crc16 (image.take 6 ++ image.drop 8) ≠ fieldNat image 6 2 → loadImage image = .error (12, 0)) ∧
    (crc16 (image.take 6 ++ image.drop 8) = fieldNat image 6 2 →
      loadDescriptors (fieldNat image 4 2) (image.drop 8) {} = none → loadImage image = .error (13, 0)) ∧
    (∀ t : Tables, crc16 (image.take 6 ++ image.drop 8) = fieldNat image 6 2 →
      loadDescriptors (fieldNat image 4 2) (image.drop 8) {} = some t →
      ((∀ c ∈ t.rangeChecks ++ t.serviceChecks, c.ok = true) → loadImage image = .ok t) ∧
      (∀ c : ImageCheck, (t.rangeChecks ++ t.serviceChecks).find? (fun c => !c.ok) = some c →
        loadImage image = .error (c.code, c.entry))) := by
  refine ⟨loadImage_crc, loadImage_unloaded, fun t crc loaded => ⟨fun passes => ?_, fun c first => ?_⟩⟩
  · rw [loadImage_of_loaded crc loaded, faultOf_eq_none.mpr passes]
  · rw [loadImage_of_loaded crc loaded, faultOf, first]
    rfl

end Sys2Proof.Machine

open Sys2Proof Sys2Proof.Machine

/-- Settles O6, by what each page of the image leads to, and by the order of the checks as one list. -/
theorem imageLoads : Obligations.ImageLoads := by
  unfold Obligations.ImageLoads
  refine ⟨fun s n port low => ?_, fun image => ?_⟩
  · have answer : exec .pageReadComplete s = finish (sulPage (readPage s.store n) s.pageRead) :=
      exec_pageRead_sul port low
    generalize readPage s.store n = page at answer ⊢
    have header : s.sul.phase = .header → exec .pageReadComplete s = finish (headerPage page s.pageRead) := fun phase =>
      answer.trans (by rw [sulPage, show s.pageRead.sul.phase = _ from phase])
    have image (left : Nat) : s.sul.phase = .image left → exec .pageReadComplete s = finish (imagePage left page s.pageRead) :=
      fun phase => answer.trans (by rw [sulPage, show s.pageRead.sul.phase = _ from phase])
    clear answer
    dsimp only
    refine ⟨fun phase => ?_, fun left phase => ?_⟩
    · obtain ⟨wrong, single, further⟩ := headerPage_answer (header phase)
      exact ⟨fun h => leaves_configFault (wrong h), fun tag low high => imageRead_answer (single tag low high),
        fun tag low high => furtherPages_answer (by omega) (further tag low high)⟩
    · obtain ⟨more, last⟩ := imagePage_answer (image left phase)
      exact ⟨more, fun h => imageRead_answer (last h)⟩
  · obtain ⟨crc, unloaded, checked⟩ := loadImage_spec image
    refine ⟨crc, unloaded, checked, fun t ok => ?_⟩
    obtain ⟨crc, loaded, -⟩ := loadImage_ok ok
    exact ⟨crc, loaded, loaded_entries ok⟩
end

section
/-! PROOFS. The totals pages, the scan of the note slots and the trip marker at start-up (O7). -/

namespace Sys2Proof.Machine

/-! ### The totals copies at the end of an event (R194) -/

theorem copies_law (c : Vector CopyState 4) : StpLaw fun p => p.copies = c where
  offers q s h := by
    unfold enqueue startNext askStatusRead askRead
    repeat' split
    all_goals exact h
  reads _ _ h := h

theorem reportFreeSlot_copies (s : State) : (reportFreeSlot s).stp.copies = s.stp.copies := by
  have law := copies_law s.stp.copies
  unfold reportFreeSlot
  split
  · exact sulFreeSlot_stpHas law _ (ntbFreeSlot_stpHas law (pctFreeSlot_stpHas law _
      (eachLane_stpHas offerAfter (fun i _ h => offerAfter_stpHas law i h) (s := s.modStp fun p => { p with departed := false }) rfl)))
  · rfl

theorem portKick_copies (s : State) : (portKick s).stp.copies = s.stp.copies := by
  unfold portKick
  repeat' split
  all_goals rfl

theorem settle_copies (s : State) : (settle s).stp.copies = s.stp.copies := by
  have law := copies_law s.stp.copies
  have first := reportFreeSlot_copies s
  have note : (recoveryNote (reportFreeSlot s)).StpHas _ := recoveryNote_stpHas law first
  have second := (reportFreeSlot_copies _).trans note
  rw [settle, portKick_copies, refreshLamps_stp, idleTimer_stp]
  exact reportRoom_stpHas law second

/-! ### The totals pages (R194, R208) -/

/-- R194: the copy of a lane's totals page that holds its totals, and these. -/
def bestCopy (i : LaneNo) (page : List Byte) : Bool × Nat × Word48 × Word48 :=
  match totalsOf i page 0, totalsOf i page 64 with
  | none, none => (false, 0, 0, 0)
  | some a, none => (false, a)
  | none, some b => (true, b)
  | some a, some b => if b.1 ≤ a.1 then (false, a) else (true, b)

theorem chooseTotals_eq (i : LaneNo) (page : List Byte) : chooseTotals (totalsOf i page 0) (totalsOf i page 64) =
    (⟨(bestCopy i page).1, (bestCopy i page).2.1⟩, (bestCopy i page).2.2) := by
  unfold chooseTotals bestCopy
  cases totalsOf i page 0 with
  | none => cases totalsOf i page 64 <;> rfl
  | some a =>
    cases totalsOf i page 64 with
    | none => rfl
    | some b =>
      obtain ⟨n, g, x⟩ := a
      obtain ⟨m, h, y⟩ := b
      dsimp only
      by_cases le : m ≤ n
      · rw [if_pos le, if_pos le]
      · rw [if_neg le, if_neg le]

/-- R194, R208: the lane's totals have been read. -/
def State.withTotals (i : LaneNo) (best : Bool × Nat × Word48 × Word48) (s : State) : State :=
  { s with
    lanes := s.lanes.set i { s.lane i with ven := { (s.lane i).ven with
      totGross := best.2.2.1, totStd := best.2.2.2 } }
    sul := { s.sul with
      stored := s.sul.stored.set i best.2.2
      phase := if i.val < 3 then .totals (i.val + 1) else .slot 0 } }

theorem totalsPage_eq (i : LaneNo) (page : List Byte) (s : State) : ∃ n,
    totalsPage i.val page s = askRead .sul n ((s.withTotals i (bestCopy i page)).modStp fun p =>
      { p with copies := p.copies.set i ⟨(bestCopy i page).1, (bestCopy i page).2.1⟩ }) := by
  have lane : Fin.ofNat 4 i.val = i := Fin.ext (Nat.mod_eq_of_lt i.isLt)
  unfold totalsPage State.withTotals
  simp only [lane, chooseTotals_eq]
  by_cases more : i.val < 3
  · rw [if_pos more, if_pos more]
    exact ⟨64 + i.val + 1, rfl⟩
  · rw [if_neg more, if_neg more]
    exact ⟨slotPage 0 1, rfl⟩

/-- R194: a lane's totals page has been read. -/
theorem totals_answer {s : State} {i : LaneNo} {page : List Byte}
    (answer : exec .pageReadComplete s = finish (totalsPage i.val page s.pageRead)) :
    Leaves .pageReadComplete s (s.withTotals i (bestCopy i page)) ∧
    ∃ t, exec .pageReadComplete s = .next t ∧
      t.stp.copies = s.stp.copies.set i ⟨(bestCopy i page).1, (bestCopy i page).2.1⟩ := by
  obtain ⟨n, e⟩ := totalsPage_eq i page s.pageRead
  have answer := answer.trans (congrArg finish e)
  exact ⟨leaves_of_steady answer rfl rfl, _, answer, settle_copies _⟩

/-! ### The next read of the Start-up Loader's sequence -/

section

variable {s : State}

/-- Nothing waits at the store port, and nothing is held. -/
def State.Quiet (s : State) : Prop := s.Calm ∧ s.stp.reads = [] ∧ s.stp.queue = [] ∧ s.stp.flight = none ∧ s.sul.held = []

/-- A page read leads to a state and asks for a page. -/
def State.GoesOn (s u : State) (next : Nat) : Prop :=
  Leaves .pageReadComplete s u ∧ (s.Quiet → ∀ t, exec .pageReadComplete s = .next t → t.stp.port = .reading ⟨.sul, next⟩)

theorem goesOn_of_ask {u : State} {next : Nat} {more : List ReadReq}
    (answer : exec .pageReadComplete s = finish (u.modStp fun _ =>
      { s.pageRead.stp with reads := s.pageRead.stp.reads ++ ⟨.sul, next⟩ :: more }))
    (room : u.lif.roomFreed = s.lif.roomFreed) (recovery : u.sul.recovery = s.sul.recovery) : s.GoesOn u next := by
  refine ⟨leaves_of_steady answer rfl rfl, fun ⟨calm, reads, _, flight, _⟩ t e => ?_⟩
  obtain ⟨⟨departed, freed⟩, offers⟩ := calm
  have alone : s.stp.reads ++ ⟨.sul, next⟩ :: more = ⟨.sul, next⟩ :: more := by rw [reads]; rfl
  have none : s.stp.flight.bind (·.steps.head?) = Option.none := by rw [flight]; rfl
  have after : u.sul.recovery ≠ .offering := recovery.symm ▸ offers
  exact (begins_of_answer answer ⟨⟨departed, room.trans freed⟩, after⟩ rfl alone none t e).1

/-- A command with no report due leaves the queue that its effect leaves. -/
theorem queue_of_answer {c : Instr} {u : State} (answer : exec c s = finish u) (calm : u.Calm) :
    ∀ t, exec c s = .next t → t.stp.queue = u.stp.queue := by
  intro t next
  obtain rfl := Host.Outcome.next.inj (answer.symm.trans next)
  exact (settle_queue_flight calm).1

/-! ### The scan of the note slots (R208) -/

/-- R208: what follows a slot's scan, and the page that is read next. -/
def State.onward (s : State) (k best : Nat) : State × Nat :=
  if k < 239 then ({ s with sul := { s.sul with best := best, phase := .slot (k + 1), buf := [] } }, 128 + 4 * (k + 1))
  else ({ s with
    ntb := { s.ntb with next := best + 1 }
    sul := { s.sul with best := best, phase := .markHead, buf := [] } }, 68)

/-- The state with another highest number found, port and held offers. -/
def State.scanning (s : State) (best : Nat) (p : Stp) (h : List WriteReq) : State :=
  { s with stp := p, sul := { s.sul with best := best, held := h } }

theorem nextSlot_scanning (k best : Nat) (p : Stp) (h : List WriteReq) (s : State) :
    nextSlot k (s.scanning best p h) = { (s.onward k best).1 with
      stp := { p with reads := p.reads ++ [⟨.sul, (s.onward k best).2⟩] }
      sul := { (s.onward k best).1.sul with held := h } } := by
  by_cases more : k < 239
  · rw [nextSlot, if_pos (show k + 1 < Config.noteSlots from Nat.succ_lt_succ more), State.onward, if_pos more]
    rfl
  · rw [nextSlot, if_neg (show ¬k + 1 < Config.noteSlots from fun lt => more (Nat.lt_of_succ_lt_succ lt)), State.onward, if_neg more]
    rfl

theorem onward_parts (k best : Nat) (s : State) : (s.onward k best).1.lif = s.lif ∧ (s.onward k best).1.sul.held = s.sul.held ∧
    (s.onward k best).1.sul.recovery = s.sul.recovery ∧ (s.onward k best).1.lanes = s.lanes := by
  unfold State.onward
  split <;> exact ⟨rfl, rfl, rfl, rfl⟩

theorem sulOffer_scanning (r : WriteReq) (best : Nat) (s : State) : ∃ p h,
    sulOffer r (s.modSul fun u => { u with best := best }) = s.scanning best p h := by
  unfold sulOffer
  split
  · have e : (enqueue ⟨r, true⟩ (s.modSul fun u => { u with best := best })).2 =
        (s.modSul fun u => { u with best := best }).modStp fun _ => (enqueue ⟨r, true⟩ (s.modSul fun u => { u with best := best })).2.stp := by
      unfold enqueue startNext askStatusRead
      repeat' split
      all_goals rfl
    split
    · rename_i t q
      rw [q] at e
      exact ⟨t.stp, s.sul.held, e⟩
    · rename_i t q
      rw [q] at e
      exact ⟨t.stp, [r], congrArg (State.modSul fun u => { u with held := [r] }) e⟩
  · exact ⟨s.stp, s.sul.held ++ [r], rfl⟩

theorem stampIsPending_iff (bytes : List Byte) :
    stampIsPending bytes = true ↔ fieldNat bytes (fieldNat bytes 5 2 - 4) 1 = 1 := by
  rw [stampIsPending, beq_iff_eq]
  exact Iff.rfl

theorem goesOn_nextSlot {k best : Nat}
    (answer : exec .pageReadComplete s = finish (nextSlot k (s.scanning best s.pageRead.stp s.sul.held))) :
    s.GoesOn (s.onward k best).1 (s.onward k best).2 := by
  obtain ⟨lif, held, recovery, -⟩ := onward_parts k best s
  rw [nextSlot_scanning, ← held] at answer
  exact goesOn_of_ask answer (congrArg Lif.roomFreed lif) recovery

/-- R208: the note found has NOTE-STATUS(LAPSED) offered. -/
theorem lapse_answer {k best number : Nat}
    (answer : exec .pageReadComplete s = finish (nextSlot k (sulOffer (.noteStatus number .stamp stampLapsed)
      (s.pageRead.modSul fun u => { u with best := best })))) :
    Leaves .pageReadComplete s (s.onward k best).1 ∧
    (s.Calm → s.sul.held = [] → s.stp.flight.isSome = true → s.stp.queue.length < 12 →
      ∀ t, exec .pageReadComplete s = .next t → t.stp.queue = s.stp.queue ++ [⟨.noteStatus number .stamp 3, true⟩]) := by
  constructor
  · obtain ⟨p, h, e⟩ := sulOffer_scanning (.noteStatus number .stamp stampLapsed) best s.pageRead
    rw [e] at answer
    exact leaves_of_steady (answer.trans (congrArg finish (nextSlot_scanning k best p h s))) rfl rfl
  · intro calm held flight room t next
    have offer : sulOffer (.noteStatus number .stamp stampLapsed) (s.pageRead.modSul fun u => { u with best := best }) =
        s.scanning best { s.pageRead.stp with queue := s.stp.queue ++ [⟨.noteStatus number .stamp 3, true⟩] } s.sul.held := by
      rw [sulOffer, if_pos (by exact held), enqueue_tail rfl (by exact room) (by exact flight)]
      rfl
    rw [offer, nextSlot_scanning] at answer
    obtain ⟨lif, -, recovery, -⟩ := onward_parts k best s
    obtain ⟨⟨departed, freed⟩, offers⟩ := calm
    have room : (s.onward k best).1.lif.roomFreed = false := (congrArg Lif.roomFreed lif).trans freed
    have after : (s.onward k best).1.sul.recovery ≠ .offering := recovery.symm ▸ offers
    exact queue_of_answer answer ⟨⟨departed, room⟩, after⟩ t next

/-- R208: all pages of a slot have been read. -/
theorem slotRead_answer {k : Nat} {bytes : List Byte} (answer : exec .pageReadComplete s = finish (slotRead k bytes s.pageRead)) :
    (notePresent (fieldNat bytes 1 4) bytes = false → s.GoesOn (s.onward k s.sul.best).1 (s.onward k s.sul.best).2) ∧
    (notePresent (fieldNat bytes 1 4) bytes = true → ¬fieldNat bytes (fieldNat bytes 5 2 - 4) 1 = 1 →
      s.GoesOn (s.onward k (max s.sul.best (fieldNat bytes 1 4))).1 (s.onward k (max s.sul.best (fieldNat bytes 1 4))).2) ∧
    (notePresent (fieldNat bytes 1 4) bytes = true → fieldNat bytes (fieldNat bytes 5 2 - 4) 1 = 1 →
      Leaves .pageReadComplete s (s.onward k (max s.sul.best (fieldNat bytes 1 4))).1 ∧
      (s.Calm → s.sul.held = [] → s.stp.flight.isSome = true → s.stp.queue.length < 12 →
        ∀ t, exec .pageReadComplete s = .next t →
          t.stp.queue = s.stp.queue ++ [⟨.noteStatus (fieldNat bytes 1 4) .stamp 3, true⟩])) := by
  rw [slotRead] at answer
  refine ⟨fun absent => ?_, fun present settled => ?_, fun present pending => ?_⟩
  · rw [if_neg (by rw [absent]; decide)] at answer
    exact goesOn_nextSlot answer
  · rw [if_pos present] at answer
    dsimp only at answer
    rw [if_neg fun e => settled ((stampIsPending_iff bytes).mp e)] at answer
    exact goesOn_nextSlot answer
  · rw [if_pos present] at answer
    dsimp only at answer
    rw [if_pos ((stampIsPending_iff bytes).mpr pending)] at answer
    exact lapse_answer answer

/-- R208: the tests of a slot's first page. -/
def SlotCandidate (k : Nat) (page : List Byte) : Prop :=
  fieldNat page 0 1 = 0x4E ∧ 1 ≤ fieldNat page 1 4 ∧ fieldNat page 1 4 % 240 = k ∧ 34 ≤ fieldNat page 5 2 ∧ fieldNat page 5 2 ≤ 498

theorem lengthFieldOk_iff (page : List Byte) : lengthFieldOk page = true ↔ 34 ≤ fieldNat page 5 2 ∧ fieldNat page 5 2 ≤ 498 := by
  rw [lengthFieldOk, Bool.and_eq_true, decide_eq_true_iff, decide_eq_true_iff]
  exact Iff.rfl

theorem slotCandidate_iff (k : Nat) (page : List Byte) : slotCandidate k page = true ↔ SlotCandidate k page := by
  simp only [slotCandidate, SlotCandidate, Bool.and_eq_true, beq_iff_eq, decide_eq_true_eq, lengthFieldOk_iff, and_assoc]
  exact Iff.rfl

theorem furtherPages_eq {page : List Byte} (low : 34 ≤ fieldNat page 5 2) (high : fieldNat page 5 2 ≤ 498) :
    furtherPages page = (fieldNat page 5 2 + 127) / 128 - 1 := by
  rw [furtherPages, if_pos ((lengthFieldOk_iff page).mpr ⟨low, high⟩), pagesOf_eq]
  rfl

/-- R203, R208: further pages are asked for in order. -/
theorem goesOn_askPages {u : State} {first n : Nat} (some_page : 1 ≤ n)
    (answer : exec .pageReadComplete s = finish (askPages .sul first n (u.modStp fun _ => s.pageRead.stp)))
    (room : u.lif.roomFreed = s.lif.roomFreed) (recovery : u.sul.recovery = s.sul.recovery) : s.GoesOn u first := by
  obtain ⟨m, rfl⟩ : ∃ m, n = m + 1 := ⟨n - 1, by omega⟩
  rw [askPages_eq, List.range_succ_eq_map, List.map_cons] at answer
  exact goesOn_of_ask answer room recovery

/-- R208: the first page of a slot. -/
theorem slotFirst_answer {k : Nat} {page : List Byte} (answer : exec .pageReadComplete s = finish (slotFirst k page s.pageRead)) :
    (¬SlotCandidate k page → s.GoesOn (s.onward k s.sul.best).1 (s.onward k s.sul.best).2) ∧
    (SlotCandidate k page → fieldNat page 5 2 ≤ 128 → exec .pageReadComplete s = finish (slotRead k page s.pageRead)) ∧
    (SlotCandidate k page → 128 < fieldNat page 5 2 → s.GoesOn { s with
      sul := { s.sul with phase := .slotRest k ((fieldNat page 5 2 + 127) / 128 - 1), buf := page } } (128 + 4 * k + 1)) := by
  rw [slotFirst] at answer
  refine ⟨fun other => ?_, fun candidate short => ?_, fun candidate long => ?_⟩
  · rw [if_neg fun e => other ((slotCandidate_iff k page).mp e)] at answer
    exact goesOn_nextSlot answer
  · have ⟨_, _, _, low, high⟩ := candidate
    rwa [if_pos ((slotCandidate_iff k page).mpr candidate), furtherPages_eq low high, if_pos (by omega)] at answer
  · have ⟨_, _, _, low, high⟩ := candidate
    rw [if_pos ((slotCandidate_iff k page).mpr candidate), furtherPages_eq low high, if_neg (by omega)] at answer
    exact goesOn_askPages (u := { s with
      sul := { s.sul with phase := .slotRest k ((fieldNat page 5 2 + 127) / 128 - 1), buf := page } }) (by omega) answer rfl rfl

/-- R208: a further page of a slot. -/
theorem slotNext_answer {k left : Nat} {page : List Byte}
    (answer : exec .pageReadComplete s = finish (slotNext k left page s.pageRead)) :
    (2 ≤ left → Leaves .pageReadComplete s { s with
      sul := { s.sul with phase := .slotRest k (left - 1), buf := s.sul.buf ++ page } }) ∧
    (left ≤ 1 → exec .pageReadComplete s = finish (slotRead k (s.sul.buf ++ page) s.pageRead)) := by
  rw [slotNext] at answer
  refine ⟨fun more => ?_, fun last => ?_⟩
  · rw [if_neg (by omega)] at answer
    exact leaves_of_steady answer rfl rfl
  · rwa [if_pos last] at answer

/-! ### The trip marker (R193, R197) -/

/-- R209: all reading is done. -/
def State.readingDone (s : State) : State := { s with sul := { s.sul with phase := .settle, buf := [] } }

theorem markHead_answer {page : List Byte} (answer : exec .pageReadComplete s = finish (markHeadPage page s.pageRead)) :
    (markerOf page = none → Leaves .pageReadComplete s s.readingDone) ∧
    (∀ m : Marker, markerOf page = some m →
      s.GoesOn { s with sul := { s.sul with marker := some m, phase := .markLines } } 69) := by
  rw [markHeadPage] at answer
  refine ⟨fun none => ?_, fun m e => ?_⟩
  · rw [none] at answer
    exact leaves_of_steady answer rfl rfl
  · rw [e] at answer
    exact goesOn_of_ask (u := { s with sul := { s.sul with marker := some m, phase := .markLines } }) answer rfl rfl

theorem markLines_answer {page : List Byte} {m : Marker} (marker : s.sul.marker = some m)
    (answer : exec .pageReadComplete s = finish (markLinesPage page s.pageRead)) :
    (markLinesOk m.number page = false → Leaves .pageReadComplete s s.readingDone) ∧
    (markLinesOk m.number page = true → s.GoesOn { s with
      sul := { s.sul with lines := (List.range m.count).map (markLineOf page), phase := .sealed } }
      (128 + 4 * (m.number % 240))) := by
  rw [markLinesPage, show s.pageRead.sul.marker = _ from marker] at answer
  dsimp only at answer
  refine ⟨fun other => ?_, fun own => ?_⟩
  · rw [if_neg (by rw [other]; decide)] at answer
    exact leaves_of_steady answer rfl rfl
  · rw [if_pos own] at answer
    exact goesOn_of_ask (u := { s with
      sul := { s.sul with lines := (List.range m.count).map (markLineOf page), phase := .sealed } }) answer rfl rfl

/-! ### Which page was read -/

theorem sulPage_totals {k : Nat} {page : List Byte} (phase : s.sul.phase = .totals k) :
    sulPage page s.pageRead = totalsPage k page s.pageRead := by rw [sulPage, show s.pageRead.sul.phase = _ from phase]

theorem sulPage_slot {k : Nat} {page : List Byte} (phase : s.sul.phase = .slot k) :
    sulPage page s.pageRead = slotFirst k page s.pageRead := by rw [sulPage, show s.pageRead.sul.phase = _ from phase]

theorem sulPage_slotRest {k left : Nat} {page : List Byte} (phase : s.sul.phase = .slotRest k left) :
    sulPage page s.pageRead = slotNext k left page s.pageRead := by rw [sulPage, show s.pageRead.sul.phase = _ from phase]

theorem sulPage_markHead {page : List Byte} (phase : s.sul.phase = .markHead) :
    sulPage page s.pageRead = markHeadPage page s.pageRead := by rw [sulPage, show s.pageRead.sul.phase = _ from phase]

theorem sulPage_markLines {page : List Byte} (phase : s.sul.phase = .markLines) :
    sulPage page s.pageRead = markLinesPage page s.pageRead := by rw [sulPage, show s.pageRead.sul.phase = _ from phase]

end

end Sys2Proof.Machine

open Sys2Proof Sys2Proof.Machine

/-- Settles O7, by what each page of the sequence leads to and the page that it asks for. -/
theorem startUpReads : Obligations.StartUpReads := by
  unfold Obligations.StartUpReads
  refine ⟨fun s i phase port => ?_, fun s n port low => ?_⟩
  · have answer := exec_pageRead_sul port (by omega)
    rw [sulPage_totals phase] at answer
    exact totals_answer answer
  · have answer := exec_pageRead_sul port low
    generalize readPage s.store n = page at answer ⊢
    refine ⟨fun k phase => ?_, fun k left phase => ?_, fun phase => ?_, fun m phase marker => ?_⟩
    · rw [sulPage_slot phase] at answer
      obtain ⟨other, short, long⟩ := slotFirst_answer answer
      exact ⟨other, fun candidate le => slotRead_answer (short candidate le), long⟩
    · rw [sulPage_slotRest phase] at answer
      obtain ⟨more, last⟩ := slotNext_answer answer
      exact ⟨more, fun le => slotRead_answer (last le)⟩
    · rw [sulPage_markHead phase] at answer
      exact markHead_answer answer
    · rw [sulPage_markLines phase] at answer
      exact markLines_answer marker answer
end

section
/-! PROOFS. The input filters and the reader port over a microsecond, and the events that join the queue (O2). -/

namespace Sys2Proof.Machine

/-! ### The levels that follow their pins (R28, R76, R114) -/

/-- R76: a lane's channel levels follow their pins where the lane counts. -/
def Lane.followed (counts a b : Bool) (l : Lane) : Lane := if counts then { l with piu := piuLevels a b l.piu } else l

/-- R114: an injector's feedback level follows its pin where it is read. -/
def Injector.followed (reads : Bool) (p : Pin) (x : Injector) : Injector := if reads then feedbackAfter p x else x

theorem followChannels_eq (i : LaneNo) (s : State) :
    followChannels i s = s.modLane i (Lane.followed (s.counts i) s.pins.meterA[i] s.pins.meterB[i]) := by
  unfold followChannels Lane.followed
  cases s.counts i with
  | false => simp [State.modLane]
  | true => rfl

theorem counts_of_same {s t : State} (cfg : t.cfg = s.cfg) (sul : t.sul = s.sul) (i : LaneNo) : t.counts i = s.counts i := by
  rw [State.counts, State.counts, fitted_of_cfg cfg, sul]

theorem eachLane_followChannels (s : State) : s.eachLane followChannels = { s with
    lanes := Vector.ofFn fun i => (s.lane i).followed (s.counts i) s.pins.meterA[i] s.pins.meterB[i] } := by
  have each : ∀ (l : List LaneNo) (t : State), t.cfg = s.cfg → t.sul = s.sul → t.pins = s.pins →
      l.foldl (fun u i => followChannels i u) t =
        l.foldl (fun u i => u.modLane i (Lane.followed (s.counts i) s.pins.meterA[i] s.pins.meterB[i])) t := by
    intro l
    induction l with
    | nil => exact fun _ _ _ _ => rfl
    | cons i rest ih =>
      intro t cfg sul pins
      rw [List.foldl_cons, List.foldl_cons, followChannels_eq, counts_of_same cfg sul, pins]
      exact ih _ cfg sul pins
  exact (each allLanes s rfl rfl rfl).trans
    (eachLane_modEach (fun i => Lane.followed (s.counts i) s.pins.meterA[i] s.pins.meterB[i]) s)

theorem foldl_set (g : InjNo → Injector → Injector) (v : Vector Injector 8) :
    allInjs.foldl (fun w j => w.set j (g j w[j])) v = Vector.ofFn fun j => g j v[j] := by
  ext k lt
  simp only [allInjs, List.foldl, Fin.getElem_fin, Vector.getElem_set, Vector.getElem_ofFn]
  match k, lt with
  | 0, _ | 1, _ | 2, _ | 3, _ | 4, _ | 5, _ | 6, _ | 7, _ => simp

theorem foldl_modInj (g : InjNo → Injector → Injector) (s : State) :
    allInjs.foldl (fun t j => t.modInj j (g j)) s = { s with injs := Vector.ofFn fun j => g j (s.inj j) } := by
  have each : ∀ (l : List InjNo) (t : State),
      l.foldl (fun t j => t.modInj j (g j)) t = { t with injs := l.foldl (fun w (j : InjNo) => w.set j (g j w[j])) t.injs } := by
    intro l
    induction l with
    | nil => exact fun _ => rfl
    | cons j rest ih => exact fun t => ih _
  rw [each, foldl_set]
  rfl

theorem foldl_feedback (pins : Vector Pin 8) (s : State) :
    allInjs.foldl (fun t j => if t.reads j then t.modInj j (feedbackAfter pins[j]) else t) s =
      { s with injs := Vector.ofFn fun j => (s.inj j).followed (s.reads j) pins[j] } := by
  have each : ∀ (l : List InjNo) (t : State), t.cfg = s.cfg → t.sul = s.sul →
      l.foldl (fun t j => if t.reads j then t.modInj j (feedbackAfter pins[j]) else t) t =
        l.foldl (fun t j => t.modInj j (Injector.followed (s.reads j) pins[j])) t := by
    intro l
    induction l with
    | nil => exact fun _ _ _ => rfl
    | cons j rest ih =>
      intro t cfg sul
      have reads : t.reads j = s.reads j := by rw [State.reads, State.reads, State.injCfg, State.injCfg, cfg, sul]
      have one : (if t.reads j then t.modInj j (feedbackAfter pins[j]) else t) =
          t.modInj j (Injector.followed (s.reads j) pins[j]) := by
        rw [reads]
        unfold Injector.followed
        cases s.reads j with
        | false => simp [State.modInj]
        | true => rfl
      rw [List.foldl_cons, List.foldl_cons, one]
      exact ih _ cfg sul
  exact (each allInjs s rfl rfl).trans (foldl_modInj (fun j => Injector.followed (s.reads j) pins[j]) s)

theorem followLevels_eq (s : State) : followLevels s = { s with
    lanes := Vector.ofFn fun i => (s.lane i).followed (s.counts i) s.pins.meterA[i] s.pins.meterB[i]
    injs := Vector.ofFn fun j => (s.inj j).followed (s.reads j) s.pins.feedback[j]
    ilm := { s.ilm with
      startKey := keyAfter s.ilm.startKey s.pins.startKey, stopKey := keyAfter s.ilm.stopKey s.pins.stopKey } } := by
  rw [followLevels, foldl_feedback, eachLane_followChannels]
  rfl

section

variable (s : State)

theorem microsecond_lane (i : LaneNo) :
    (microsecond s).lane i = (s.lane i).followed (s.counts i) s.pins.meterA[i] s.pins.meterB[i] := by
  rw [microsecond, followLine_eq, followLevels_eq]
  exact Vector.getElem_ofFn _

theorem microsecond_inj (j : InjNo) : (microsecond s).inj j = (s.inj j).followed (s.reads j) s.pins.feedback[j] := by
  rw [microsecond, followLine_eq, followLevels_eq]
  exact Vector.getElem_ofFn _

theorem microsecond_ilm : (microsecond s).ilm = { s.ilm with
    startKey := keyAfter s.ilm.startKey s.pins.startKey, stopKey := keyAfter s.ilm.stopKey s.pins.stopKey } := by
  rw [microsecond, followLine_eq, followLevels_eq]
  rfl

end

/-- R76: the channel levels of a lane after a microsecond. -/
theorem Lane.followed_eq (counts a b : Bool) (l : Lane) : l.followed counts a b = { l with piu := { l.piu with
    levelA := if counts then (if l.piu.levelA = some false then some false else some a) else l.piu.levelA
    levelB := if counts then (if l.piu.levelB = some false then some false else some b) else l.piu.levelB } } := by
  have follow (pin : Bool) (level : Option Bool) :
      channelAfter pin level = if level = some false then some false else some pin := by
    match level with
    | none => rfl
    | some true => rfl
    | some false => rfl
  cases counts with
  | false => rfl
  | true =>
    change { l with piu := piuLevels a b l.piu } = _
    rw [piuLevels, follow, follow]
    rfl

/-- R114: the feedback level of an injector after a microsecond. -/
theorem Injector.followed_eq (reads : Bool) (p : Pin) (x : Injector) : x.followed reads p = { x with
    level := x.level && !(reads && !p.level && decide (2000 ≤ p.run + 1)) } := by
  cases reads with
  | false => simp [Injector.followed]
  | true =>
    change { x with level := x.level && !(p.passes x.level 2000 && !p.level) } = _
    unfold Pin.passes
    cases x.level <;> cases p.level <;> simp

theorem keyAfter_eq_false (level : Bool) (p : Pin) :
    keyAfter level p = false ↔ level = false ∨ (p.level = false ∧ 50000 ≤ p.run + 1) := by
  unfold keyAfter Pin.passes
  cases level <;> cases p.level <;> simp [Config.filterTime]

theorem passes_iff (level : Bool) (time : Nat) (p : Pin) : p.passes level time = true ↔ p.level ≠ level ∧ time ≤ p.run + 1 := by
  simp [Pin.passes]

theorem tick_counts (level : Bool) (time : Nat) (p : Pin) :
    p.tick level time = { p with run := if p.level = level ∨ time ≤ p.run + 1 then 0 else p.run + 1 } := by
  unfold Pin.tick
  by_cases same : p.level = level
  · rw [if_pos same, if_pos (.inl same)]
  · by_cases done : p.run + 1 < time
    · rw [if_neg same, if_pos done, if_neg fun h => h.elim same (Nat.not_le_of_lt done)]
    · rw [if_neg same, if_neg done, if_pos (.inr (by omega))]

/-! ### The events of a microsecond -/

/-- The event comes from the line. -/
def FromLine : Instr → Prop
  | .collision | .frameDropped _ _ | .ownEcho | .conflict | .status .. | .claim .. | .held .. | .release .. | .noteReady ..
  | .noteAsk .. | .notePart .. | .accessAttempt _ | .heldLineDetected | .heldLineEnd => True
  | _ => False

/-- The event comes from the card reader's port. -/
def FromReader : Instr → Prop
  | .card _ | .readerMessageDiscarded _ | .writeDone | .writeFail => True
  | _ => False

theorem frameCommand_fromLine (sender : Nat) (p : Payload) : FromLine (frameCommand sender p) := by
  cases p <;> exact trivial

theorem frameEvent_fromLine (l : Lif) (framing : Bool) (raw : List Byte) : FromLine (frameEvent l framing raw) := by
  unfold frameEvent
  split
  · exact trivial
  · split
    · exact trivial
    · split
      · exact trivial
      · exact frameCommand_fromLine ..

theorem lineEvents_fromLine {dominant : Bool} {l : Lif} {c : Instr} (mem : c ∈ lineEvents dominant l) : FromLine c := by
  have single {p : Prop} [Decidable p] {x : Instr} (mem : c ∈ if p then [x] else []) (from_line : FromLine x) : FromLine c := by
    split at mem
    · obtain rfl := List.mem_singleton.mp mem
      exact from_line
    · cases mem
  unfold lineEvents at mem
  simp only [List.mem_append] at mem
  obtain (((mem | mem) | mem) | mem) | mem := mem
  · exact single mem trivial
  · obtain ⟨⟨framing, raw⟩, -, rfl⟩ := List.mem_map.mp mem
    exact frameEvent_fromLine ..
  · exact single mem trivial
  · exact single mem trivial
  · exact single mem trivial

theorem lineInput_fromLine {s : State} {c : Instr} (mem : c ∈ lineInput s) : FromLine c := by
  unfold lineInput at mem
  split at mem
  · exact lineEvents_fromLine mem
  · cases mem

theorem messageEvent_fromReader (raw : List Byte) : FromReader (messageEvent raw) := by
  unfold messageEvent
  split
  · split <;> exact trivial
  · exact trivial

theorem cardInput_fromReader {s : State} {c : Instr} (mem : c ∈ (cardInput s).2) : FromReader c := by
  unfold cardInput portTick at mem
  split at mem
  · cases mem
  · obtain ⟨raw, -, rfl⟩ := List.mem_map.mp mem
    exact messageEvent_fromReader raw

theorem mem_event {level : Bool} {time : Nat} {event : Bool → List Instr} {p : Pin} {c : Instr} :
    c ∈ p.event level time event ↔ p.passes level time = true ∧ c ∈ event p.level := by
  unfold Pin.event
  split <;> simp [*]

theorem mem_pressEvent {x c : Instr} {pressed : Bool} : c ∈ pressEvent x pressed ↔ pressed = true ∧ c = x := by
  unfold pressEvent
  split <;> simp [*]

theorem mem_edgeEvent {s : State} {i : LaneNo} {ch : Channel} {pin : Bool} {c : Instr} : c ∈ edgeEvent s i ch pin ↔
    (s.counts i = true ∧ (s.lane i).piu.level ch = some false ∧ pin = true) ∧ c = .risingEdge i ch (BitVec.ofNat 32 (s.now + 1)) := by
  unfold edgeEvent
  split <;> simp [*]

theorem mem_allInjs (j : InjNo) : j ∈ allInjs := by
  revert j
  decide

theorem mem_feedback {s : State} {j : InjNo} {c : Instr} :
    (c ∈ if s.reads j then s.pins.feedback[j].event s.injs[j].level Config.feedbackTime (pressEvent (.feedbackPulse j)) else []) ↔
      s.reads j = true ∧ s.pins.feedback[j].passes (s.inj j).level 2000 = true ∧ s.pins.feedback[j].level = true ∧
        c = .feedbackPulse j := by
  split
  · rename_i reads
    rw [mem_event, mem_pressEvent]
    exact ⟨fun h => ⟨reads, h⟩, fun h => h.2⟩
  · rename_i reads
    exact ⟨nofun, fun h => absurd h.1 reads⟩

/-- Which filtered change each event of the inputs is. -/
theorem mem_inputEvents (s : State) (c : Instr) : c ∈ inputEvents s ↔
    (s.pins.ground.passes s.ilm.ground 50000 = true ∧ c = .permissiveChange .ground s.pins.ground.level) ∨
    (s.pins.overfill.passes s.ilm.overfill 50000 = true ∧ c = .permissiveChange .overfill s.pins.overfill.level) ∨
    (s.pins.vapour.passes s.ilm.vapour 50000 = true ∧ c = .permissiveChange .vapour s.pins.vapour.level) ∨
    (s.pins.estop.passes s.ilm.estop 50000 = true ∧ c = .permissiveChange .estop s.pins.estop.level) ∨
    (s.pins.rstop.passes s.ilm.rstop 50000 = true ∧ c = .rstopChange s.pins.rstop.level) ∨
    (∃ i : LaneNo, s.pins.arm[i].passes s.ilm.arm[i] 50000 = true ∧
      c = if s.pins.arm[i].level then .armConnect i else .armDrop i) ∨
    (s.pins.startKey.passes s.ilm.startKey 50000 = true ∧ s.pins.startKey.level = true ∧ c = .start) ∨
    (s.pins.stopKey.passes s.ilm.stopKey 50000 = true ∧ s.pins.stopKey.level = true ∧ c = .stop) ∨
    (s.pins.ackKey.passes s.ilm.ackKey 50000 = true ∧ c = if s.pins.ackKey.level then .ackPress else .ackRelease) ∨
    (∃ i : LaneNo, (s.counts i = true ∧ (s.lane i).piu.levelA = some false ∧ s.pins.meterA[i] = true) ∧
      c = .risingEdge i .a (BitVec.ofNat 32 (s.now + 1))) ∨
    (∃ i : LaneNo, (s.counts i = true ∧ (s.lane i).piu.levelB = some false ∧ s.pins.meterB[i] = true) ∧
      c = .risingEdge i .b (BitVec.ofNat 32 (s.now + 1))) ∨
    (∃ j : InjNo, s.reads j = true ∧ s.pins.feedback[j].passes (s.inj j).level 2000 = true ∧ s.pins.feedback[j].level = true ∧
      c = .feedbackPulse j) ∨
    (s.pins.busy.passes s.ntb.port.busy 10000 = true ∧ c = .busyChange s.pins.busy.level) := by
  unfold inputEvents
  simp only [List.mem_append, List.mem_flatMap, mem_event, mem_pressEvent, mem_edgeEvent, mem_feedback, List.mem_singleton,
    mem_allLanes, mem_allInjs, true_and, exists_or, or_assoc]
  exact Iff.rfl

theorem inputEvents_inward {s : State} {c : Instr} (mem : c ∈ inputEvents s) : ¬FromLine c ∧ ¬FromReader c := by
  have off {x : Instr} (line : ¬FromLine x) (reader : ¬FromReader x) (e : c = x) : ¬FromLine c ∧ ¬FromReader c := e ▸ ⟨line, reader⟩
  obtain ⟨-, e⟩ | ⟨-, e⟩ | ⟨-, e⟩ | ⟨-, e⟩ | ⟨-, e⟩ | ⟨i, -, e⟩ | ⟨-, -, e⟩ | ⟨-, -, e⟩ | ⟨-, e⟩ | ⟨i, -, e⟩ | ⟨i, -, e⟩ |
    ⟨j, -, -, -, e⟩ | ⟨-, e⟩ := (mem_inputEvents s c).mp mem
  case' inr.inr.inr.inr.inr.inl => split at e
  case' inr.inr.inr.inr.inr.inr.inr.inr.inl => split at e
  all_goals exact off id id e

section

variable {s : State} {c : Instr}

/-- Which of the three sources an event of the microsecond comes from. -/
theorem mem_pending_inward (line : ¬FromLine c) (reader : ¬FromReader c) : c ∈ (microsecond s).pending ↔ c ∈ inputEvents s := by
  rw [microsecond_pending, List.mem_append, List.mem_append]
  exact ⟨fun mem => mem.elim (fun mem => mem.elim id fun x => absurd (lineInput_fromLine x) line)
    fun x => absurd (cardInput_fromReader x) reader, fun mem => .inl (.inl mem)⟩

theorem mem_pending_reader (reader : FromReader c) (line : ¬FromLine c) : c ∈ (microsecond s).pending ↔ c ∈ (cardInput s).2 := by
  rw [microsecond_pending, List.mem_append, List.mem_append]
  exact ⟨fun mem => mem.elim (fun mem => mem.elim (fun x => absurd reader (inputEvents_inward x).2)
    fun x => absurd (lineInput_fromLine x) line) id, fun mem => .inr mem⟩

theorem mem_pending_line (line : FromLine c) (reader : ¬FromReader c) : c ∈ (microsecond s).pending ↔ c ∈ lineInput s := by
  rw [microsecond_pending, List.mem_append, List.mem_append]
  exact ⟨fun mem => mem.elim (fun mem => mem.elim (fun x => absurd line (inputEvents_inward x).1) id)
    fun x => absurd (cardInput_fromReader x) reader, fun mem => .inl (.inr mem)⟩

end

theorem step_microsecond {s : State} (empty : s.pending = []) (still : dueEvents s = []) : step s = .next (microsecond s) := by
  rw [step, empty]
  change Host.Outcome.next (tick s) = _
  rw [tick, still]

/-! ### The card reader's port (R1) -/

theorem messageWhole_iff (raw : List Byte) : messageWhole raw = true ↔ 2 ≤ raw.length ∧ fieldNat raw 1 1 + 4 ≤ raw.length := by
  rw [messageWhole, Bool.and_eq_true, decide_eq_true_iff, decide_eq_true_iff]

/-- R1: what a microsecond does at the card reader's port. -/
theorem cardInput_spec (s : State) :
    (s.pins.cdrx = none → (cardInput s).1 = s.crd) ∧
    (s.pins.cdrx ≠ none → (cardInput s).1 =
      if messageWhole (s.crd.bytes ++ s.pins.cdrx.toList) = true then ⟨[], none⟩
      else ⟨s.crd.bytes ++ s.pins.cdrx.toList, some (s.now + 1 + 20000)⟩) ∧
    ∀ c, c ∈ (cardInput s).2 ↔ (s.pins.cdrx ≠ none ∧ messageWhole (s.crd.bytes ++ s.pins.cdrx.toList) = true) ∧
      c = messageEvent (s.crd.bytes ++ s.pins.cdrx.toList) := by
  unfold cardInput
  cases s.pins.cdrx with
  | none => exact ⟨fun _ => rfl, fun h => absurd rfl h, fun c => ⟨nofun, fun h => absurd rfl h.1.1⟩⟩
  | some b =>
    refine ⟨nofun, fun _ => ?_, fun c => ?_⟩
    · obtain ⟨whole, e⟩ | ⟨part, e⟩ := CardPort.take_cases b (s.now + 1) s.crd
      · rw [portTick, e]
        exact (if_pos whole).symm
      · rw [portTick, e, if_neg (by rw [Option.toList_some, part]; decide)]
        rfl
    · obtain ⟨whole, e⟩ | ⟨part, e⟩ := CardPort.take_cases b (s.now + 1) s.crd
      · rw [portTick, e]
        simp [whole]
      · rw [portTick, e]
        simp [part]

/-! ### What each input brings -/

section

variable (s : State)

/-- R28: a filtered input counts, and its change is one event with the pin's level. -/
theorem changes_spec {level : Bool} {p : Pin} {c : Bool → Instr}
    (event : ∀ x, c x ∈ (microsecond s).pending ↔ p.passes level 50000 = true ∧ x = p.level) :
    p.tick level 50000 = { p with run := if p.level = level ∨ 50000 ≤ p.run + 1 then 0 else p.run + 1 } ∧
    (c p.level ∈ (microsecond s).pending ↔ p.level ≠ level ∧ 50000 ≤ p.run + 1) ∧ c (!p.level) ∉ (microsecond s).pending := by
  refine ⟨tick_counts .., ?_, fun mem => ?_⟩
  · rw [event, passes_iff]
    exact and_iff_left rfl
  · obtain ⟨-, other⟩ := (event _).mp mem
    cases level : p.level <;> rw [level] at other <;> cases other

/-- R28: a permissive's change. -/
theorem permissive_event (x : Bool) :
    (.permissiveChange .ground x ∈ (microsecond s).pending ↔
      s.pins.ground.passes s.ilm.ground 50000 = true ∧ x = s.pins.ground.level) ∧
    (.permissiveChange .overfill x ∈ (microsecond s).pending ↔
      s.pins.overfill.passes s.ilm.overfill 50000 = true ∧ x = s.pins.overfill.level) ∧
    (.permissiveChange .vapour x ∈ (microsecond s).pending ↔
      s.pins.vapour.passes s.ilm.vapour 50000 = true ∧ x = s.pins.vapour.level) ∧
    (.permissiveChange .estop x ∈ (microsecond s).pending ↔
      s.pins.estop.passes s.ilm.estop 50000 = true ∧ x = s.pins.estop.level) ∧
    (.rstopChange x ∈ (microsecond s).pending ↔ s.pins.rstop.passes s.ilm.rstop 50000 = true ∧ x = s.pins.rstop.level) := by
  refine ⟨?_, ?_, ?_, ?_, ?_⟩
  all_goals
    rw [mem_pending_inward, mem_inputEvents]
    · simp [eq_ite_iff]
    · exact id
    · exact id

/-- R28, R38: an ARM's and the ACK key's change. -/
theorem armKey_event (x : Bool) :
    (∀ i : LaneNo, (if x then Instr.armConnect i else .armDrop i) ∈ (microsecond s).pending ↔
      s.pins.arm[i].passes s.ilm.arm[i] 50000 = true ∧ x = s.pins.arm[i].level) ∧
    ((if x then Instr.ackPress else .ackRelease) ∈ (microsecond s).pending ↔
      s.pins.ackKey.passes s.ilm.ackKey 50000 = true ∧ x = s.pins.ackKey.level) := by
  cases x
  all_goals
    refine ⟨fun i => ?_, ?_⟩
    all_goals
      simp only [Bool.false_eq_true, if_false, if_true]
      rw [mem_pending_inward, mem_inputEvents]
      · simp [eq_ite_iff]
      · exact id
      · exact id

/-- R28, R38: a press of START or STOP, and BUSY's change. -/
theorem press_event :
    (.start ∈ (microsecond s).pending ↔ s.pins.startKey.level = true ∧ s.pins.startKey.passes s.ilm.startKey 50000 = true) ∧
    (.stop ∈ (microsecond s).pending ↔ s.pins.stopKey.level = true ∧ s.pins.stopKey.passes s.ilm.stopKey 50000 = true) ∧
    (.busyChange s.pins.busy.level ∈ (microsecond s).pending ↔ s.pins.busy.passes s.ntb.port.busy 10000 = true) := by
  refine ⟨?_, ?_, ?_⟩
  all_goals
    rw [mem_pending_inward, mem_inputEvents]
    · simp [eq_ite_iff, and_comm]
    · exact id
    · exact id

/-- R76, R114: a meter channel's rise and a feedback pulse. -/
theorem pulse_event :
    (∀ i : LaneNo, .risingEdge i .a (BitVec.ofNat 32 (s.now + 1)) ∈ (microsecond s).pending ↔
      s.counts i = true ∧ s.pins.meterA[i] = true ∧ (s.lane i).piu.levelA = some false) ∧
    (∀ i : LaneNo, .risingEdge i .b (BitVec.ofNat 32 (s.now + 1)) ∈ (microsecond s).pending ↔
      s.counts i = true ∧ s.pins.meterB[i] = true ∧ (s.lane i).piu.levelB = some false) ∧
    (∀ j : InjNo, .feedbackPulse j ∈ (microsecond s).pending ↔
      s.reads j = true ∧ s.pins.feedback[j].level = true ∧ s.pins.feedback[j].passes (s.inj j).level 2000 = true) := by
  refine ⟨fun i => ?_, fun i => ?_, fun j => ?_⟩
  all_goals
    rw [mem_pending_inward, mem_inputEvents]
    · simp [eq_ite_iff, and_comm]
    · exact id
    · exact id

/-- R1: which events of the card reader's port join the queue. -/
theorem reader_event : ∀ c : Instr, ((∃ x, c = .card x) ∨ (∃ x, c = .readerMessageDiscarded x) ∨ c = .writeDone ∨ c = .writeFail) →
    (c ∈ (microsecond s).pending ↔
      (s.pins.cdrx ≠ none ∧ messageWhole (s.crd.bytes ++ s.pins.cdrx.toList) = true) ∧
        c = messageEvent (s.crd.bytes ++ s.pins.cdrx.toList)) := by
  obtain ⟨-, -, events⟩ := cardInput_spec s
  rintro c (⟨x, rfl⟩ | ⟨x, rfl⟩ | rfl | rfl)
  all_goals
    refine (mem_pending_reader ?_ ?_).trans (events _)
    · exact trivial
    · exact id

/-- R1: the card reader's port over a microsecond, and its events. -/
theorem readerPort_spec :
    (s.pins.cdrx = none → (microsecond s).crd = s.crd) ∧
    (let raw := s.crd.bytes ++ s.pins.cdrx.toList
     let whole : Prop := s.pins.cdrx ≠ none ∧ 2 ≤ raw.length ∧ fieldNat raw 1 1 + 4 ≤ raw.length
     (s.pins.cdrx ≠ none → (microsecond s).crd = if whole then ⟨[], none⟩ else ⟨raw, some ((microsecond s).now + 20000)⟩) ∧
     ∀ c : Instr, ((∃ x, c = .card x) ∨ (∃ x, c = .readerMessageDiscarded x) ∨ c = .writeDone ∨ c = .writeFail) →
       (c ∈ (microsecond s).pending ↔ whole ∧ c = messageEvent raw)) := by
  obtain ⟨quiet, byte, -⟩ := cardInput_spec s
  refine ⟨quiet, fun came => ?_, fun c reader => ?_⟩
  · have whole := messageWhole_iff (s.crd.bytes ++ s.pins.cdrx.toList)
    have e := byte came
    by_cases is : messageWhole (s.crd.bytes ++ s.pins.cdrx.toList) = true
    · rw [if_pos is] at e
      exact e.trans (if_pos ⟨came, whole.mp is⟩).symm
    · rw [if_neg is] at e
      rw [if_neg fun h => is (whole.mpr h.2), microsecond_now]
      exact e
  · exact (reader_event s c reader).trans (and_congr_left' (and_congr_right' (messageWhole_iff _)))

/-- R76: a lane's channels over a microsecond. -/
theorem channels_spec (i : LaneNo) :
    (microsecond s).lane i = { s.lane i with piu := { (s.lane i).piu with
      levelA := if s.counts i then
        (if (s.lane i).piu.levelA = some false then some false else some s.pins.meterA[i]) else (s.lane i).piu.levelA
      levelB := if s.counts i then
        (if (s.lane i).piu.levelB = some false then some false else some s.pins.meterB[i]) else (s.lane i).piu.levelB } } := by
  rw [microsecond_lane, Lane.followed_eq]

/-- R114: an injector's feedback input over a microsecond. -/
theorem feedback_spec (j : InjNo) :
    (tickPins s).feedback[j] = { s.pins.feedback[j] with
      run := if s.pins.feedback[j].level = (s.inj j).level ∨ 2000 ≤ s.pins.feedback[j].run + 1 then 0
        else s.pins.feedback[j].run + 1 } ∧
    (.feedbackPulse j ∈ (microsecond s).pending ↔ s.reads j = true ∧ s.pins.feedback[j].level = true ∧
      s.pins.feedback[j].level ≠ (s.inj j).level ∧ 2000 ≤ s.pins.feedback[j].run + 1) ∧
    (microsecond s).inj j = { s.inj j with level := (s.inj j).level && !(s.reads j && !s.pins.feedback[j].level &&
      decide (2000 ≤ s.pins.feedback[j].run + 1)) } := by
  obtain ⟨-, -, pulse⟩ := pulse_event s
  refine ⟨(Vector.getElem_ofFn _).trans (tick_counts ..), ?_, ?_⟩
  · rw [pulse, passes_iff]
  · rw [microsecond_inj, Injector.followed_eq]

theorem arm_tick (i : LaneNo) : (tickPins s).arm[i] = s.pins.arm[i].tick s.ilm.arm[i] 50000 := Vector.getElem_ofFn _

end

end Sys2Proof.Machine

open Sys2Proof Sys2Proof.Machine

/-- Settles O2, by the source of each event of a microsecond and the level of each input after it. -/
theorem inputFilters : Obligations.InputFilters := by
  unfold Obligations.InputFilters
  intro s empty still
  obtain ⟨quiet, port⟩ := readerPort_spec s
  have permissives := permissive_event s
  have arms := armKey_event s
  obtain ⟨start, stop, busy⟩ := press_event s
  obtain ⟨edgeA, edgeB, -⟩ := pulse_event s
  have ilm := microsecond_ilm s
  refine ⟨microsecond s, step_microsecond empty still, microsecond_now s, microsecond_pct s, microsecond_hsu s, microsecond_ntb s,
    microsecond_stp s, microsecond_sul s, microsecond_cfg s, microsecond_store s, microsecond_free s, microsecond_outbox s, rfl,
    quiet, port, ?_, fun i => ⟨channels_spec s i, edgeA i, edgeB i⟩⟩
  refine ⟨changes_spec s fun x => (permissives x).1, changes_spec s fun x => (permissives x).2.1,
    changes_spec s fun x => (permissives x).2.2.1, changes_spec s fun x => (permissives x).2.2.2.1,
    changes_spec s fun x => (permissives x).2.2.2.2, fun i => ?_, changes_spec s fun x => (arms x).2,
    tick_counts .., ?_, tick_counts .., ?_, ?_, ?_, ?_, tick_counts .., ?_, feedback_spec s⟩
  · have spec := changes_spec (c := fun x => if x then Instr.armConnect i else .armDrop i) s fun x => (arms x).1 i
    rwa [← arm_tick] at spec
  · rw [start, passes_iff]
  · rw [stop, passes_iff]
  · rw [ilm]
    exact keyAfter_eq_false ..
  · rw [ilm]
    exact keyAfter_eq_false ..
  · rw [ilm]
  · rw [busy, passes_iff]
end

section
/-! PROOFS. The line's receiver and what a microsecond of the line brings (O42). -/

namespace Sys2Proof.Machine

/-! ### Runs of the receiver (R146) -/

/-- A run of levels that ends no frame: the recessive time and the receiver before and after it. -/
def Runs (levels : List Bool) (q : Nat) (r : Receiver) (q' : Nat) (r' : Receiver) : Prop :=
  receiverRun levels q r = (r', q', [])

theorem receiverRun_then {a b : List Bool} {q q1 : Nat} {r r1 : Receiver} (first : Runs a q r q1 r1) :
    receiverRun (a ++ b) q r = receiverRun b q1 r1 := by
  induction a generalizing q r with
  | nil =>
    cases first
    rfl
  | cons d rest ih =>
    rw [Runs, receiverRun] at first
    dsimp only at first
    rw [List.cons_append, receiverRun]
    dsimp only
    obtain ⟨⟨rx, frame⟩, tick⟩ : ∃ x, receiverTick d (if d then 0 else q + 1) r = x := ⟨_, rfl⟩
    rw [tick] at first ⊢
    simp only [Prod.mk.injEq, List.append_eq_nil_iff] at first ⊢
    obtain ⟨e1, e2, none, e3⟩ := first
    rw [none, ih (q := if d then 0 else q + 1) (r := rx) (by rw [Runs, ← e1, ← e2, ← e3])]
    rfl

theorem Runs.append {a b : List Bool} {q q1 q2 : Nat} {r r1 r2 : Receiver} (first : Runs a q r q1 r1) (second : Runs b q1 r1 q2 r2) :
    Runs (a ++ b) q r q2 r2 := (receiverRun_then first).trans second

theorem receiverTick_noisy {d : Bool} {n : Nat} {r : Receiver} (short : n ≠ 80) : receiverTick d n r = (receive d r, none) :=
  if_neg short

theorem runs_one (d : Bool) {q : Nat} (r : Receiver) (short : d = false → q + 1 ≠ 80) :
    ∃ q', Runs [d] q r q' (receive d r) ∧ q' ≤ q + 1 ∧ (d = false → q' = q + 1) ∧ (d = true → q' = 0) := by
  refine ⟨if d then 0 else q + 1, ?_, ?_, ?_, ?_⟩
  · rw [Runs, receiverRun]
    dsimp only
    rw [receiverTick_noisy]
    · rfl
    · cases d with
      | false => exact short rfl
      | true => exact nofun
  all_goals cases d <;> simp

/-! ### A byte on the line (R146) -/

/-- The receiver in a byte at a place, with the data bits so far. -/
def Receiver.at (r : Receiver) (pos : Nat) (bits : List Bool) : Receiver := { r with phase := .inByte pos, bits := bits }

theorem receive_at (d : Bool) (pos : Nat) (bits : List Bool) (r : Receiver) :
    receive d (r.at pos bits) = if pos % 8 = 4 then sampleBit d pos (r.at pos bits) else r.at (pos + 1) bits := rfl

/-- R146: within a byte, away from the middle of a bit, only the place moves on. -/
theorem runs_plain (d : Bool) (bits : List Bool) (r : Receiver) : ∀ (m pos q : Nat), q + m < 80 →
    (∀ k < m, (pos + k) % 8 ≠ 4) → ∃ q', Runs (List.replicate m d) q (r.at pos bits) q' (r.at (pos + m) bits) ∧
      q' ≤ q + m ∧ (d = false → q' = q + m)
  | 0, _, q, _, _ => ⟨q, rfl, Nat.le_refl q, fun _ => rfl⟩
  | m + 1, pos, q, short, plain => by
    obtain ⟨q1, one, le, exact1, -⟩ := runs_one d (q := q) (r.at pos bits) fun _ => by omega
    rw [receive_at, if_neg (by simpa using plain 0 (by omega))] at one
    obtain ⟨q2, more, bound, exact2⟩ := runs_plain d bits r m (pos + 1) q1 (by omega) fun k lt => by
      have := plain (k + 1) (by omega)
      omega
    refine ⟨q2, ?_, by omega, fun no => by rw [exact2 no, exact1 no]; omega⟩
    have run := one.append more
    rwa [List.singleton_append, ← List.replicate_succ, Nat.add_assoc, Nat.add_comm 1] at run

theorem replicate_bit (d : Bool) : List.replicate 8 d = List.replicate 4 d ++ ([d] ++ List.replicate 3 d) := rfl

/-- R146: a bit of a byte, read at the middle of its time. -/
theorem runs_bit (d : Bool) {j q : Nat} {bits bits' : List Bool} {r r' : Receiver} (short : q + 8 < 80)
    (sampled : sampleBit d (8 * j + 4) (r.at (8 * j + 4) bits) = r'.at (8 * j + 5) bits') :
    ∃ q' ≤ q + 8, Runs (List.replicate 8 d) q (r.at (8 * j) bits) q' (r'.at (8 * (j + 1)) bits') := by
  obtain ⟨q1, first, le1, -⟩ := runs_plain d bits r 4 (8 * j) q (by omega) fun k lt => by omega
  obtain ⟨q2, middle, le2, -⟩ := runs_one d (q := q1) (r.at (8 * j + 4) bits) fun _ => by omega
  rw [receive_at, if_pos (by omega), sampled] at middle
  obtain ⟨q3, last, le3, -⟩ := runs_plain d bits' r' 3 (8 * j + 5) q2 (by omega) fun k lt => by omega
  refine ⟨q3, by omega, ?_⟩
  rw [replicate_bit]
  exact first.append (middle.append last)

/-- R146: a data bit. -/
theorem runs_data (d : Bool) (j q : Nat) (first : 1 ≤ j) (last : j ≤ 8) (short : q + 8 < 80) (bits : List Bool) (r : Receiver) :
    ∃ q' ≤ q + 8, Runs (List.replicate 8 d) q (r.at (8 * j) bits) q' (r.at (8 * (j + 1)) (bits ++ [!d])) := by
  refine runs_bit d short ?_
  rw [sampleBit, if_neg (by omega), if_pos (by omega)]
  rfl

/-- R146: the data bits of a byte, from the one at a place on. -/
theorem runs_dataBits (r : Receiver) : ∀ (ds bits : List Bool) (j q : Nat), 1 ≤ j → j + ds.length ≤ 9 → q + 8 * ds.length < 80 →
    ∃ q' ≤ q + 8 * ds.length, Runs (bitLevels (ds.map (!·))) q (r.at (8 * j) bits) q' (r.at (8 * (j + ds.length)) (bits ++ ds))
  | [], bits, _, q, _, _, _ => ⟨q, Nat.le_refl q, by rw [List.append_nil]; rfl⟩
  | d :: ds, bits, j, q, first, last, short => by
    rw [List.length_cons] at last short
    obtain ⟨q1, le1, one⟩ := runs_data (!d) j q first (by omega) (by omega) bits r
    obtain ⟨q2, le2, rest⟩ := runs_dataBits r ds (bits ++ [d]) (j + 1) q1 (by omega) (by omega) (by omega)
    rw [Bool.not_not] at one
    refine ⟨q2, by rw [List.length_cons]; omega, ?_⟩
    have place : j + 1 + ds.length = j + (d :: ds).length := by rw [List.length_cons]; omega
    rw [place, List.append_assoc, List.singleton_append] at rest
    exact one.append rest

/-- The receiver as a start bit finds it: at a quiet line a new frame begins. -/
def Receiver.begun (r : Receiver) : Receiver := if r.phase = .quiet then { phase := .quiet } else r

theorem receive_start {r : Receiver} (idle : r.phase = .quiet ∨ r.phase = .between) : receive true r = r.begun.at 1 [] := by
  unfold receive Receiver.begun
  obtain quiet | between := idle
  · rw [quiet]
    rfl
  · rw [between]
    rfl

/-- R146: the start bit. -/
theorem runs_start {r : Receiver} (idle : r.phase = .quiet ∨ r.phase = .between) (q : Nat) :
    ∃ q' ≤ 7, Runs (List.replicate 8 true) q r q' (r.begun.at 8 []) := by
  obtain ⟨q1, one, -, -, zero⟩ := runs_one true (q := q) r nofun
  rw [receive_start idle] at one
  obtain rfl := zero rfl
  obtain ⟨q2, plain, le2, -⟩ := runs_plain true [] r.begun 3 1 0 (by omega) fun k lt => by omega
  obtain ⟨q3, middle, le3, -⟩ := runs_one true (q := q2) (r.begun.at 4 []) nofun
  have sampled : receive true (r.begun.at 4 []) = r.begun.at 5 [] := rfl
  rw [sampled] at middle
  obtain ⟨q4, last, le4, -⟩ := runs_plain true [] r.begun 3 5 q3 (by omega) fun k lt => by omega
  exact ⟨q4, by omega, one.append (plain.append (middle.append last))⟩

/-- R146: the receiver after a byte of a frame. -/
def Receiver.gained (r : Receiver) (b : Byte) : Receiver :=
  { phase := .between, bits := [], bytes := r.bytes ++ [b], framing := r.framing }

theorem byteOfBits_byteBits (b : Byte) : byteOfBits (byteBits b) = b := by
  revert b
  decide

/-- R146: between two bytes a recessive level changes nothing. -/
theorem runs_between {r : Receiver} (between : r.phase = .between) : ∀ (m q : Nat), q + m < 80 →
    Runs (List.replicate m false) q r (q + m) r
  | 0, _, _ => rfl
  | m + 1, q, short => by
    obtain ⟨q1, one, -, exact1, -⟩ := runs_one false (q := q) r fun _ => by omega
    have stays : receive false r = r := by
      rw [receive, between]
      rfl
    rw [stays, exact1 rfl] at one
    have run := one.append (runs_between between m (q + 1) (by omega))
    rwa [Nat.add_right_comm] at run

/-- R146: the stop bit ends the byte. -/
theorem runs_stop (b : Byte) (r : Receiver) {q : Nat} (short : q + 8 < 80) :
    Runs (List.replicate 8 false) q (r.at 72 (byteBits b)) (q + 8) (r.gained b) := by
  obtain ⟨q1, first, le1, exact1⟩ := runs_plain false (byteBits b) r 4 72 q (by omega) fun k lt => by omega
  obtain ⟨q2, middle, -, exact2, -⟩ := runs_one false (q := q1) (r.at 76 (byteBits b)) fun _ => by omega
  have sampled : receive false (r.at 76 (byteBits b)) = r.gained b := by
    rw [receive_at, if_pos (by decide), sampleBit, if_neg (by decide), if_neg (by decide)]
    simp only [Receiver.at, byteOfBits_byteBits, Bool.or_false, Receiver.gained]
  rw [sampled, exact2 rfl, exact1 rfl] at middle
  exact first.append (exact1 rfl ▸ middle.append (runs_between rfl 3 (q + 5) (by omega)))

/-- R146: a byte of a frame. -/
theorem runs_byte (b : Byte) {r : Receiver} (idle : r.phase = .quiet ∨ r.phase = .between) (q : Nat) :
    ∃ q', 8 ≤ q' ∧ q' < 80 ∧ Runs (bitLevels (byteLevels b)) q r q' (r.begun.gained b) := by
  obtain ⟨q1, le1, start⟩ := runs_start idle q
  obtain ⟨q2, le2, bits⟩ := runs_dataBits r.begun (byteBits b) [] 1 q1 (Nat.le_refl 1) (Nat.le_refl 9)
    (show q1 + 64 < 80 by omega)
  have le2 : q2 ≤ q1 + 64 := le2
  have stop := runs_stop b r.begun (q := q2) (by omega)
  refine ⟨q2 + 8, by omega, by omega, ?_⟩
  have levels : bitLevels (byteLevels b) =
      List.replicate 8 true ++ (bitLevels ((byteBits b).map (!·)) ++ List.replicate 8 false) := by
    rw [byteLevels, bitLevels, List.flatMap_cons, List.flatMap_append]
    rfl
  rw [levels]
  exact start.append (bits.append stop)

/-- The receiver between two bytes of a frame. -/
def Receiver.gathered (framing : Bool) (bytes : List Byte) : Receiver := { phase := .between, bits := [], bytes := bytes, framing := framing }

theorem bitLevels_frameLevels (b : Byte) (rest : List Byte) :
    bitLevels (frameLevels (b :: rest)) = bitLevels (byteLevels b) ++ bitLevels (frameLevels rest) := by
  rw [frameLevels, List.flatMap_cons, bitLevels, List.flatMap_append]
  rfl

/-- R146: the bytes of a frame, back to back. -/
theorem runs_bytes (f : Bool) : ∀ (bytes pre : List Byte) (q : Nat), 8 ≤ q → q < 80 → ∃ q', 8 ≤ q' ∧ q' < 80 ∧
    Runs (bitLevels (frameLevels bytes)) q (.gathered f pre) q' (.gathered f (pre ++ bytes))
  | [], pre, q, low, high => ⟨q, low, high, by rw [List.append_nil]; rfl⟩
  | b :: rest, pre, q, _, _ => by
    obtain ⟨q1, low1, high1, one⟩ := runs_byte b (r := .gathered f pre) (.inr rfl) q
    obtain ⟨q2, low2, high2, more⟩ := runs_bytes f rest (pre ++ [b]) q1 low1 high1
    rw [List.append_assoc, List.singleton_append] at more
    rw [bitLevels_frameLevels]
    exact ⟨q2, low2, high2, one.append more⟩

/-! ### The quiet after a frame (R146) -/

/-- R146: after the quiet the receiver waits for a new frame. -/
theorem runs_quiet : ∀ (m q : Nat), 80 ≤ q → Runs (List.replicate m false) q { phase := .quiet } (q + m) { phase := .quiet }
  | 0, _, _ => rfl
  | m + 1, q, long => by
    obtain ⟨q1, one, -, exact1, -⟩ := runs_one false (q := q) { phase := .quiet } fun _ => by omega
    rw [exact1 rfl] at one
    have run := one.append (runs_quiet m (q + 1) (by omega))
    rwa [Nat.add_right_comm] at run

/-- R146: the recessive level ends a frame once it has lasted 10 bit times. -/
theorem receiverRun_ends {r : Receiver} (stays : receive false r = r) : ∀ (m q : Nat), q < 80 → 80 ≤ q + m →
    receiverRun (List.replicate m false) q r = ({ phase := .quiet }, q + m, r.frame.toList)
  | 0, _, short, long => by omega
  | m + 1, q, short, long => by
    rw [List.replicate_succ]
    by_cases last : q + 1 = 80
    · have tick : receiverTick false (q + 1) r = ({ phase := .quiet }, r.frame) := by
        rw [receiverTick, if_pos (by exact last), stays]
        rfl
      have rest := runs_quiet m (q + 1) (by omega)
      rw [receiverRun]
      simp only [Bool.false_eq_true, if_false, tick]
      rw [show receiverRun (List.replicate m false) (q + 1) { phase := .quiet } = _ from rest]
      simp only [List.append_nil, Nat.add_assoc, Nat.add_comm 1]
    · obtain ⟨q1, one, -, exact1, -⟩ := runs_one false (q := q) r fun _ => last
      rw [stays, exact1 rfl] at one
      have run := receiverRun_then (b := List.replicate m false) one
      rw [List.singleton_append] at run
      rw [run, receiverRun_ends stays m (q + 1) (by omega) (by omega)]
      simp only [Nat.add_assoc, Nat.add_comm 1]

/-- R146: the levels of a frame, and a quiet, give its bytes. -/
theorem receiverRun_frame {bytes : List Byte} {n : Nat} (q : Nat) {r : Receiver} (some_byte : bytes ≠ []) (quiet : r.phase = .quiet)
    (long : 72 ≤ n) : ∃ q', receiverRun (bitLevels (frameLevels bytes) ++ List.replicate n false) q r =
      ({ phase := .quiet }, q', [(false, bytes)]) := by
  obtain ⟨b, rest, rfl⟩ := List.exists_cons_of_ne_nil some_byte
  obtain ⟨q1, low1, high1, one⟩ := runs_byte b (.inl quiet) q
  have first : r.begun.gained b = .gathered false [b] := by
    rw [Receiver.begun, if_pos quiet]
    rfl
  rw [first] at one
  obtain ⟨q2, low2, high2, more⟩ := runs_bytes false rest [b] q1 low1 high1
  refine ⟨q2 + n, ?_⟩
  rw [bitLevels_frameLevels, receiverRun_then (one.append more), receiverRun_ends rfl n q2 high2 (by omega)]
  rfl

/-! ### A frame under way when sampling begins (R146) -/

/-- The recessive level never lasts 10 bit times within the levels, from a recessive time on. -/
def Busy : List Bool → Nat → Prop
  | [], _ => True
  | d :: rest, q => (if d then 0 else q + 1) < 80 ∧ Busy rest (if d then 0 else q + 1)

theorem Busy.mono : ∀ {levels : List Bool} {q q' : Nat}, Busy levels q → q' ≤ q → Busy levels q'
  | [], _, _, _, _ => trivial
  | true :: _, _, _, busy, _ => busy
  | false :: _, _, _, ⟨short, rest⟩, le =>
    ⟨Nat.lt_of_le_of_lt (Nat.succ_le_succ le) short, rest.mono (Nat.succ_le_succ le)⟩

theorem Busy.tail {d : Bool} {levels : List Bool} {q : Nat} (busy : Busy (d :: levels) q) : Busy levels 0 :=
  busy.2.mono (Nat.zero_le _)

theorem Busy.drop : ∀ {levels : List Bool} (k : Nat), Busy levels 0 → Busy (levels.drop k) 0
  | _, 0, busy => busy
  | [], _ + 1, _ => trivial
  | _ :: _, k + 1, busy => Busy.drop k busy.tail

/-- A run of one level before others. -/
theorem Busy.bit {d : Bool} {rest : List Bool} : ∀ {m q : Nat}, q + m < 80 → (∀ q' ≤ q + m, Busy rest q') →
    Busy (List.replicate m d ++ rest) q
  | 0, q, _, after => after q (Nat.le_refl q)
  | m + 1, q, short, after => by
    have le : (if d then 0 else q + 1) ≤ q + 1 := by cases d <;> simp
    rw [List.replicate_succ, List.cons_append]
    exact ⟨by omega, Busy.bit (by omega) fun q' le' => after q' (by omega)⟩

/-- The bits of a byte after its start bit. -/
theorem Busy.bits {rest : List Bool} : ∀ {ds : List Bool} {q : Nat}, q + 8 * ds.length < 80 →
    (∀ q' ≤ q + 8 * ds.length, Busy rest q') → Busy (bitLevels ds ++ rest) q
  | [], q, _, after => after q (Nat.le_refl q)
  | d :: ds, q, short, after => by
    rw [List.length_cons] at short after
    rw [bitLevels, List.flatMap_cons, List.append_assoc]
    exact Busy.bit (m := 8) (by omega) fun q' le => Busy.bits (by omega) fun q'' le' => after q'' (by omega)

theorem busy_frame : ∀ (bytes : List Byte) (q : Nat), Busy (bitLevels (frameLevels bytes)) q
  | [], _ => trivial
  | b :: rest, q => by
    have levels : bitLevels (byteLevels b) = true :: (List.replicate 7 true ++ bitLevels ((byteBits b).map (!·) ++ [false])) := by
      rw [byteLevels, bitLevels, List.flatMap_cons]
      rfl
    rw [bitLevels_frameLevels, levels, List.cons_append, List.append_assoc]
    have zero : (if true then 0 else q + 1) = 0 := rfl
    rw [Busy, zero]
    refine ⟨by decide, Busy.bit (m := 7) (by decide) fun q' le => Busy.bits ?_ fun _ _ => busy_frame rest _⟩
    have length : ((byteBits b).map (!·) ++ [false]).length = 9 := rfl
    omega

/-- R146: while the line is not quiet, a receiver that ignores the frame under way goes on so. -/
theorem runs_ignoring {r : Receiver} (ignoring : r.phase = .ignoring) : ∀ {levels : List Bool} {q : Nat}, q < 80 → Busy levels q →
    ∃ q' < 80, Runs levels q r q' r
  | [], q, short, _ => ⟨q, short, rfl⟩
  | d :: rest, q, _, ⟨short, busy⟩ => by
    have stays : receive d r = r := by rw [receive, ignoring]
    have one : Runs [d] q r (if d then 0 else q + 1) (receive d r) := by
      rw [Runs, receiverRun]
      dsimp only
      rw [receiverTick_noisy (Nat.ne_of_lt short)]
      rfl
    rw [stays] at one
    obtain ⟨q', lt, more⟩ := runs_ignoring ignoring short busy
    exact ⟨q', lt, one.append more⟩

theorem receiverRun_underWay (bytes : List Byte) (k : Nat) {n : Nat} {r : Receiver} (ignoring : r.phase = .ignoring) (long : 80 ≤ n) :
    ∃ q', receiverRun ((bitLevels (frameLevels bytes)).drop k ++ List.replicate n false) 0 r = ({ phase := .quiet }, q', []) := by
  obtain ⟨q, short, run⟩ := runs_ignoring ignoring (by decide) ((busy_frame bytes 0).drop k)
  have none : r.frame = none := by rw [Receiver.frame, ignoring]
  refine ⟨q + n, ?_⟩
  rw [receiverRun_then run, receiverRun_ends (by rw [receive, ignoring]) n q short (by omega), none]
  rfl

/-! ### The mark of a framing error (R146) -/

/-- The receiver is in a frame. -/
def Receiver.inFrame (r : Receiver) : Prop := r.phase = .between ∨ ∃ pos, r.phase = .inByte pos

theorem receive_stop {dominant : Bool} {r : Receiver} (phase : r.phase = .inByte 76) :
    (receive dominant r).framing = (r.framing || dominant) := by
  unfold receive
  rw [phase]
  rfl

theorem receive_framing {dominant : Bool} {r : Receiver} (marked : r.framing = true) (in_frame : r.inFrame) :
    (receive dominant r).framing = true ∧ (receive dominant r).inFrame := by
  obtain between | ⟨pos, phase⟩ := in_frame
  · unfold receive
    rw [between]
    cases dominant with
    | false => exact ⟨marked, .inl between⟩
    | true => exact ⟨marked, .inr ⟨1, rfl⟩⟩
  · unfold receive
    rw [phase]
    dsimp only
    unfold sampleBit
    split
    · split
      · exact ⟨marked, .inr ⟨5, rfl⟩⟩
      · split
        · exact ⟨marked, .inr ⟨pos + 1, rfl⟩⟩
        · exact ⟨by simp [marked], .inl rfl⟩
    · exact ⟨marked, .inr ⟨pos + 1, rfl⟩⟩

theorem frame_framing {r : Receiver} {f : Bool × List Byte} (frame : r.frame = some f) : f.1 = r.framing := by
  unfold Receiver.frame at frame
  split at frame
  · cases frame; rfl
  · cases frame; rfl
  · cases frame

theorem frame_of_inFrame {r : Receiver} (in_frame : r.inFrame) : r.frame ≠ none := by
  obtain between | ⟨pos, phase⟩ := in_frame
  · rw [Receiver.frame, between]
    exact nofun
  · rw [Receiver.frame, phase]
    exact nofun

/-- R146: the mark of a framing error stays with its frame. -/
theorem receiverTick_framing {dominant : Bool} {q : Nat} {r : Receiver} (marked : r.framing = true) (in_frame : r.inFrame) :
    (∀ f, (receiverTick dominant q r).2 = some f → f.1 = true) ∧
    ((receiverTick dominant q r).2 = none → (receiverTick dominant q r).1.framing = true ∧ (receiverTick dominant q r).1.inFrame) := by
  have after := receive_framing (dominant := dominant) marked in_frame
  unfold receiverTick
  split
  · exact ⟨fun f frame => (frame_framing frame).trans after.1, fun frame => absurd frame (frame_of_inFrame after.2)⟩
  · exact ⟨nofun, fun _ => after⟩

/-! ### The line over a microsecond (R146 to R149, R160) -/

theorem mem_ite_singleton {p : Prop} [Decidable p] {c x : Instr} : (c ∈ if p then [x] else []) ↔ p ∧ c = x := by
  split <;> simp [*]

/-- Which event of the line each of its commands is. -/
theorem mem_lineEvents {dominant : Bool} {l : Lif} {c : Instr} : c ∈ lineEvents dominant l ↔
    (l.mismatch dominant = true ∧ c = .collision) ∨
    (∃ f, (receiverTick dominant (lineTick dominant l).recessive l.rx).2 = some f ∧ c = frameEvent l f.1 f.2) ∨
    ((lineTick dominant l).mayBegin = true ∧ c = .accessAttempt ((lineTick dominant l).recessive / 8)) ∨
    ((l.link.watchesLine = true ∧ 5000 ≤ (lineTick dominant l).dominant) ∧ c = .heldLineDetected) ∨
    ((l.link = .heldLine ∧ 20000 ≤ (lineTick dominant l).recessive) ∧ c = .heldLineEnd) := by
  unfold lineEvents
  simp only [List.mem_append, mem_ite_singleton, List.mem_map, Option.mem_toList, Prod.exists, eq_comm (b := c), or_assoc]
  exact Iff.rfl

theorem mem_lineInput {s : State} {c : Instr} : c ∈ lineInput s ↔ s.samples = true ∧ c ∈ lineEvents s.pins.line s.lif := by
  unfold lineInput
  split <;> simp [*]

theorem pending_line {s : State} {c : Instr} (line : FromLine c) (reader : ¬FromReader c) :
    c ∈ (microsecond s).pending ↔ s.samples = true ∧ c ∈ lineEvents s.pins.line s.lif :=
  (mem_pending_line line reader).trans mem_lineInput

theorem frameCommand_ne (sender : Nat) (p : Payload) (q : Nat) : frameCommand sender p ≠ .collision ∧
    frameCommand sender p ≠ .accessAttempt q ∧ frameCommand sender p ≠ .heldLineDetected ∧ frameCommand sender p ≠ .heldLineEnd := by
  cases p <;> exact ⟨nofun, nofun, nofun, nofun⟩

/-- R147, R154, R161: the end of a frame is one of four kinds of event. -/
def IsFrame (c : Instr) : Prop :=
  (∃ sender p, c = frameCommand sender p) ∨ (∃ framing raw, c = .frameDropped framing raw) ∨ c = .ownEcho ∨ c = .conflict

theorem frameEvent_isFrame (l : Lif) (framing : Bool) (raw : List Byte) : IsFrame (frameEvent l framing raw) := by
  unfold frameEvent
  split
  · exact .inr (.inl ⟨_, _, rfl⟩)
  · split
    · exact .inr (.inr (.inl rfl))
    · split
      · exact .inr (.inr (.inr rfl))
      · exact .inl ⟨_, _, rfl⟩

theorem IsFrame.apart {c : Instr} (frame : IsFrame c) : FromLine c ∧ ¬FromReader c ∧ c ≠ .collision ∧ (∀ q, c ≠ .accessAttempt q) ∧
    c ≠ .heldLineDetected ∧ c ≠ .heldLineEnd := by
  obtain ⟨sender, p, rfl⟩ | ⟨framing, raw, rfl⟩ | rfl | rfl := frame
  · refine ⟨frameCommand_fromLine .., ?_, (frameCommand_ne sender p 0).1, fun q => (frameCommand_ne sender p q).2.1,
      (frameCommand_ne sender p 0).2.2.1, (frameCommand_ne sender p 0).2.2.2⟩
    cases p <;> exact id
  all_goals exact ⟨trivial, id, nofun, nofun, nofun, nofun⟩

section

variable {s : State}

/-- The end of a frame is an event exactly when a quiet ends it in this microsecond. -/
theorem pending_frame {c : Instr} (frame : IsFrame c) : c ∈ (microsecond s).pending ↔ s.samples = true ∧
    ∃ f, (receiverTick s.pins.line (lineTick s.pins.line s.lif).recessive s.lif.rx).2 = some f ∧ c = frameEvent s.lif f.1 f.2 := by
  obtain ⟨line, reader, collision, access, held, ends⟩ := frame.apart
  rw [pending_line line reader, mem_lineEvents]
  simp only [collision, access, held, ends, and_false, or_false, false_or]

theorem pending_other {c : Instr} (line : FromLine c) (reader : ¬FromReader c) (apart : ¬IsFrame c) :
    c ∈ (microsecond s).pending ↔ s.samples = true ∧
      ((s.lif.mismatch s.pins.line = true ∧ c = .collision) ∨
      ((lineTick s.pins.line s.lif).mayBegin = true ∧ c = .accessAttempt ((lineTick s.pins.line s.lif).recessive / 8)) ∨
      ((s.lif.link.watchesLine = true ∧ 5000 ≤ (lineTick s.pins.line s.lif).dominant) ∧ c = .heldLineDetected) ∨
      ((s.lif.link = .heldLine ∧ 20000 ≤ (lineTick s.pins.line s.lif).recessive) ∧ c = .heldLineEnd)) := by
  rw [pending_line line reader, mem_lineEvents]
  have none : ¬∃ f, (receiverTick s.pins.line (lineTick s.pins.line s.lif).recessive s.lif.rx).2 = some f ∧
      c = frameEvent s.lif f.1 f.2 := fun ⟨f, _, e⟩ => apart (e ▸ frameEvent_isFrame ..)
  rw [or_iff_right none]

end

theorem not_isFrame {c : Instr} (line : ∀ sender p, c ≠ frameCommand sender p) (drop : ∀ framing raw, c ≠ .frameDropped framing raw)
    (echo : c ≠ .ownEcho) (conflict : c ≠ .conflict) : ¬IsFrame c := by
  rintro (⟨sender, p, e⟩ | ⟨framing, raw, e⟩ | e | e)
  · exact line sender p e
  · exact drop framing raw e
  · exact echo e
  · exact conflict e

/-- R149: the bit driven is read back at the middle of its time at another level. -/
theorem mismatch_iff (l : Lif) (dominant : Bool) : l.mismatch dominant = true ↔ ∃ p b, l.onLine = some p ∧
    (frameLevels (frameBytes l.station p))[l.sent / 8]? = some b ∧ l.sent % 8 = 4 ∧ b ≠ dominant := by
  unfold Lif.mismatch Lif.drive Lif.driven
  cases l.onLine with
  | none => simp
  | some p =>
    dsimp only
    rw [show Config.bitTime = 8 from rfl]
    cases level : (frameLevels (frameBytes l.station p))[l.sent / 8]? with
    | none =>
      have outside := List.getElem?_eq_none_iff.mp level
      simp [Nat.not_lt_of_le outside]
    | some b =>
      obtain ⟨inside, -⟩ := List.getElem?_eq_some_iff.mp level
      simp only [Bool.and_eq_true, decide_eq_true_iff, bne_iff_ne, Option.getD_some, inside, true_and]
      refine ⟨fun ⟨middle, ne⟩ => ⟨p, b, rfl, level, middle, ne⟩, fun ⟨p', b', own, level', middle, ne⟩ => ?_⟩
      cases own
      rw [level] at level'
      cases level'
      exact ⟨middle, ne⟩

theorem watchesLine_iff (l : Link) : l.watchesLine = true ↔ l = .listen ∨ l = .join ∨ l = .run ∨ l = .alone := by
  cases l <;> simp [Link.watchesLine]

/-- R148, R150: a frame waits whose gap the quiet completes. -/
def Lif.waits (l : Lif) (bits : Nat) : Prop :=
  let gap := 10 + 2 * l.station + (if l.ownLast then 64 else 0)
  let urgent : Prop := l.due = .urgent ∨ l.current.any (·.urgent) = true
  (l.link = .join ∧ l.current ≠ none ∧ gap ≤ bits) ∨
  ((l.link = .run ∨ l.link = .alone) ∧
    ((urgent ∧ 10 ≤ bits) ∨ ((l.current ≠ none ∨ l.due = .normal ∨ l.fifo ≠ []) ∧ ¬urgent ∧ gap ≤ bits)))

/-- The current frame's gap (R148). -/
theorem neededGap_some {l : Lif} {c : Current} (current : l.current = some c) :
    neededGap l = if c.urgent = true ∧ l.link ≠ .join then 10 else accessGap l := by
  rw [neededGap, current]
  simp

theorem chooses_iff (l : Lif) (bits : Nat) : (∃ x, chooseFrame l = some x ∧ neededGap x ≤ bits) ↔ l.waits bits := by
  unfold Lif.waits chooseFrame
  cases link : l.link with
  | join =>
    cases current : l.current with
    | none => simp
    | some c => simp [neededGap_some current, link, accessGap]
  | run | alone =>
    dsimp only
    cases due : l.due with
    | urgent =>
      cases current : l.current with
      | none => simp [neededGap]
      | some c =>
        by_cases status : c.frame = .status
        · simp [neededGap, makeUrgent, status]
        · simp [neededGap, status]
    | normal =>
      cases current : l.current with
      | none => simp [neededGap, accessGap]
      | some c =>
        rw [Option.some_inj.mpr rfl]
        cases urgent : c.urgent <;> simp [neededGap_some current, link, accessGap, urgent]
    | none =>
      cases current : l.current with
      | none => cases fifo : l.fifo <;> simp [neededGap, accessGap]
      | some c => cases urgent : c.urgent <;> simp [neededGap_some current, link, accessGap, urgent]
  | down | listen | heldLine | mute => simp

theorem mayBegin_iff (l : Lif) : l.mayBegin = true ↔ l.onLine = none ∧ l.waits (l.recessive / 8) := by
  rw [← chooses_iff, Lif.mayBegin]
  cases chooseFrame l with
  | none => simp
  | some x => simp [show Config.bitTime = 8 from rfl]

/-- The commands of the line that are no frame's end. -/
theorem lineEvent_apart (quiet : Nat) :
    ¬IsFrame .collision ∧ ¬IsFrame (.accessAttempt quiet) ∧ ¬IsFrame .heldLineDetected ∧ ¬IsFrame .heldLineEnd :=
  ⟨not_isFrame (fun sender p => (frameCommand_ne sender p 0).1.symm) nofun nofun nofun,
    not_isFrame (fun sender p => (frameCommand_ne sender p quiet).2.1.symm) nofun nofun nofun,
    not_isFrame (fun sender p => (frameCommand_ne sender p 0).2.2.1.symm) nofun nofun nofun,
    not_isFrame (fun sender p => (frameCommand_ne sender p 0).2.2.2.symm) nofun nofun nofun⟩

/-- R148 to R150, R160: when an attempt may begin, a bit is read back wrong, the line is held, and its hold ends. -/
theorem lineEvents_spec (s : State) :
    (.collision ∈ (microsecond s).pending ↔ s.samples = true ∧ s.lif.mismatch s.pins.line = true) ∧
    (.heldLineDetected ∈ (microsecond s).pending ↔ s.samples = true ∧ s.lif.link.watchesLine = true ∧
      5000 ≤ (lineTick s.pins.line s.lif).dominant) ∧
    (.heldLineEnd ∈ (microsecond s).pending ↔ s.samples = true ∧ s.lif.link = .heldLine ∧
      20000 ≤ (lineTick s.pins.line s.lif).recessive) ∧
    ∀ quiet, .accessAttempt quiet ∈ (microsecond s).pending ↔ s.samples = true ∧ (lineTick s.pins.line s.lif).mayBegin = true ∧
      quiet = (lineTick s.pins.line s.lif).recessive / 8 := by
  refine ⟨?_, ?_, ?_, fun quiet => ?_⟩
  · rw [pending_other ?_ id (lineEvent_apart 0).1]
    · simp
    · exact trivial
  · rw [pending_other ?_ id (lineEvent_apart 0).2.2.1]
    · simp
    · exact trivial
  · rw [pending_other ?_ id (lineEvent_apart 0).2.2.2]
    · simp
    · exact trivial
  · rw [pending_other ?_ id (lineEvent_apart quiet).2.1]
    · simp
    · exact trivial

/-- R147, R154, R161: which event a frame's end is. -/
theorem eq_frameEvent_iff (l : Lif) (framing : Bool) (raw : List Byte) (c : Instr) : c = frameEvent l framing raw ↔
    match acceptFrame framing raw with
    | none => c = .frameDropped framing raw
    | some (sender, p) =>
      if l.onLine.isSome = true then c = .ownEcho
      else if sender = l.station then c = .conflict else c = frameCommand sender p := by
  unfold frameEvent
  cases acceptFrame framing raw with
  | none => exact Iff.rfl
  | some x =>
    obtain ⟨sender, p⟩ := x
    dsimp only
    split
    · exact Iff.rfl
    · split <;> exact Iff.rfl

end Sys2Proof.Machine

open Sys2Proof Sys2Proof.Machine

/-- Settles O42, by runs of the receiver bit by bit, and by the source of each event of the line in a microsecond. -/
theorem lineReceiver : Obligations.LineReceiver := by
  unfold Obligations.LineReceiver
  refine ⟨fun bytes n q r some_byte quiet long => receiverRun_frame q some_byte quiet long,
    fun bytes k n r ignoring long => receiverRun_underWay bytes k ignoring long,
    fun dominant q r => ⟨receive_stop, fun marked in_frame => receiverTick_framing marked in_frame⟩, fun s empty still => ?_⟩
  obtain ⟨collision, held, ends, access⟩ := lineEvents_spec s
  have lif := microsecond_lif s
  refine ⟨microsecond s, step_microsecond empty still, fun on => ?_, fun off => ?_, ?_, ?_, ?_, ?_, ?_, fun quiet => ?_⟩
  · rw [lif, if_pos on]
    rfl
  · rw [lif, off]
    rfl
  · rintro c ⟨on, framing, raw, frame, e⟩
    have e := (eq_frameEvent_iff s.lif framing raw c).mpr e
    exact (pending_frame (e ▸ frameEvent_isFrame ..)).mpr ⟨on, (framing, raw), frame, e⟩
  · intro c mem frame
    obtain ⟨on, ⟨framing, raw⟩, ended, e⟩ := (pending_frame frame).mp mem
    exact ⟨on, framing, raw, ended, (eq_frameEvent_iff s.lif framing raw c).mp e⟩
  · rw [collision, mismatch_iff]
  · rw [held, watchesLine_iff, and_comm (b := 5000 ≤ _)]
    exact Iff.rfl
  · rw [ends, and_comm (b := 20000 ≤ _)]
    exact Iff.rfl
  · rw [access, mayBegin_iff, and_assoc, and_comm (b := quiet = _)]
    refine and_congr_right' (and_congr_right' (and_congr_right fun e => ?_))
    rw [← e]
    exact Iff.rfl
end

section
/-! PROOFS. Byte strings of the formats: the fields of a concatenation, the check, the reader port's messages and the rack line's
frames (O43). -/

namespace Sys2Proof.Machine

/-! ### Numbers as bytes (R212) -/

@[simp] theorem beBytes_length (w n : Nat) : (beBytes w n).length = w := by
  induction w with
  | zero => rfl
  | succ w ih => rw [beBytes, List.length_cons, ih]

theorem beNat_acc (bytes : List Byte) : ∀ acc : Nat, bytes.foldl (fun acc b => acc * 256 + b.toNat) acc =
    acc * 256 ^ bytes.length + beNat bytes := by
  induction bytes with
  | nil => intro acc; simp [beNat]
  | cons b rest ih =>
    intro acc
    rw [beNat, List.foldl_cons, List.foldl_cons, ih, ih, List.length_cons, pow_succ]
    ring

theorem beNat_cons (b : Byte) (rest : List Byte) : beNat (b :: rest) = b.toNat * 256 ^ rest.length + beNat rest := by
  rw [beNat, List.foldl_cons, beNat_acc, Nat.zero_mul, Nat.zero_add]

theorem beNat_lt (bytes : List Byte) : beNat bytes < 256 ^ bytes.length := by
  induction bytes with
  | nil => exact Nat.one_pos
  | cons b rest ih =>
    have byte : b.toNat + 1 ≤ 256 := b.isLt
    calc beNat (b :: rest) = b.toNat * 256 ^ rest.length + beNat rest := beNat_cons ..
      _ < b.toNat * 256 ^ rest.length + 256 ^ rest.length := Nat.add_lt_add_left ih _
      _ = (b.toNat + 1) * 256 ^ rest.length := (Nat.succ_mul ..).symm
      _ ≤ 256 * 256 ^ rest.length := Nat.mul_le_mul_right _ byte
      _ = 256 ^ (b :: rest).length := by rw [List.length_cons, pow_succ, Nat.mul_comm]

/-- R212: a number read back from its bytes. -/
theorem beNat_beBytes (w n : Nat) : beNat (beBytes w n) = n % 256 ^ w := by
  induction w with
  | zero => simp [beBytes, beNat, Nat.mod_one]
  | succ w ih =>
    rw [beBytes, beNat_cons, ih, beBytes_length, BitVec.toNat_ofNat, pow_succ 256 w,
      show n % (256 ^ w * 256) = _ from Nat.mod_mul, Nat.add_comm, Nat.mul_comm]

/-- R212: bytes written back from their number. -/
theorem beBytes_beNat (bytes : List Byte) : beBytes bytes.length (beNat bytes) = bytes := by
  induction bytes with
  | nil => rfl
  | cons b rest ih =>
    have rest_lt := beNat_lt rest
    have pos : 0 < 256 ^ rest.length := Nat.pow_pos (by decide)
    have low : ∀ (w n k : Nat), beBytes w (k * 256 ^ w + n) = beBytes w n := by
      intro w
      induction w with
      | zero => exact fun _ _ => rfl
      | succ w low =>
        intro n k
        have split : k * 256 ^ (w + 1) + n = (k * 256) * 256 ^ w + n := by rw [pow_succ]; ring
        rw [beBytes, beBytes, split, low, Nat.add_comm, Nat.add_mul_div_right _ _ (Nat.pow_pos (by decide))]
        congr 1
        apply BitVec.eq_of_toNat_eq
        simp
    rw [List.length_cons, beBytes, beNat_cons, low, ih, Nat.add_comm, Nat.add_mul_div_right _ _ pos, Nat.div_eq_of_lt rest_lt,
      Nat.zero_add, BitVec.ofNat_toNat, BitVec.setWidth_eq]

/-! ### The fields of a byte string -/

section

variable {a b : List Byte} {off size w n : Nat}

theorem field_append_right (inside : a.length ≤ off) : field (a ++ b) off size = field b (off - a.length) size := by
  rw [field, List.drop_append, List.drop_eq_nil_of_le inside, List.nil_append, field]

theorem field_append_left (inside : off + size ≤ a.length) : field (a ++ b) off size = field a off size := by
  rw [field, field, List.drop_append_of_le_length (by omega), List.take_append_of_le_length (by rw [List.length_drop]; omega)]

theorem field_whole (length : a.length = size) : field a 0 size = a := by
  rw [field, List.drop_zero, ← length, List.take_length]

theorem field_prefix (length : a.length = size) : field (a ++ b) 0 size = a := by
  rw [field_append_left (by omega), field_whole length]

theorem fieldNat_append_right (inside : a.length ≤ off) : fieldNat (a ++ b) off size = fieldNat b (off - a.length) size := by
  rw [fieldNat, field_append_right inside, fieldNat]

theorem fieldNat_append_left (inside : off + size ≤ a.length) : fieldNat (a ++ b) off size = fieldNat a off size := by
  rw [fieldNat, field_append_left inside, fieldNat]

theorem fieldWord_append_right (inside : a.length ≤ off) : fieldWord (a ++ b) off = fieldWord b (off - a.length) := by
  rw [fieldWord, fieldNat_append_right inside, fieldWord]

theorem fieldNat_here : fieldNat (beBytes w n ++ b) 0 w = n % 256 ^ w := by
  rw [fieldNat, field_prefix (beBytes_length w n), beNat_beBytes]

theorem fieldNat_last : fieldNat (beBytes w n) 0 w = n % 256 ^ w := by
  rw [fieldNat, field_whole (beBytes_length w n), beNat_beBytes]

theorem fieldWord_here (x : Word32) : fieldWord (beBytes 4 x.toNat ++ b) 0 = x := by
  rw [fieldWord, fieldNat_here, Nat.mod_eq_of_lt (b := 256 ^ 4) x.isLt, BitVec.ofNat_toNat, BitVec.setWidth_eq]

theorem fieldWord_last (x : Word32) : fieldWord (beBytes 4 x.toNat) 0 = x := by
  rw [fieldWord, fieldNat_last, Nat.mod_eq_of_lt (b := 256 ^ 4) x.isLt, BitVec.ofNat_toNat, BitVec.setWidth_eq]

theorem fieldNat_skip (inside : w ≤ off) : fieldNat (beBytes w n ++ b) off size = fieldNat b (off - w) size := by
  rw [fieldNat_append_right (by rwa [beBytes_length]), beBytes_length]

theorem fieldWord_skip (inside : w ≤ off) : fieldWord (beBytes w n ++ b) off = fieldWord b (off - w) := by
  rw [fieldWord, fieldNat_skip inside, fieldWord]

theorem fieldNat_head (x : Byte) : fieldNat (x :: b) 0 1 = x.toNat := by
  rw [fieldNat, field, List.drop_zero, List.take_succ_cons, List.take_zero, beNat_cons]
  simp [beNat]

theorem fieldNat_tail (x : Byte) : fieldNat (x :: b) (off + 1) size = fieldNat b off size := by
  rw [fieldNat, field, List.drop_succ_cons, ← field, ← fieldNat]

end

/-! ### The check (R212) -/

theorem crcBit_lt {r : Nat} (lt : r < 65536) : crcBit r < 65536 := by
  unfold crcBit
  split
  · omega
  · exact Nat.xor_lt_two_pow (n := 16) (by omega) (by decide)

theorem crcByte_lt {r : Nat} (lt : r < 65536) (b : Byte) : crcByte r b < 65536 := by
  have byte : b.toNat < 256 := b.isLt
  have start : Nat.xor r (b.toNat * 256) < 65536 := Nat.xor_lt_two_pow (n := 16) lt (by omega)
  unfold crcByte
  exact crcBit_lt (crcBit_lt (crcBit_lt (crcBit_lt (crcBit_lt (crcBit_lt (crcBit_lt (crcBit_lt start)))))))

theorem crcRun_lt : ∀ (bytes : List Byte) {r : Nat}, r < 65536 → crcRun bytes r < 65536
  | [], _, lt => lt
  | b :: rest, r, lt => by
    rw [crcRun, if_pos lt]
    exact crcRun_lt rest (crcByte_lt lt b)

theorem crc16_lt (bytes : List Byte) : crc16 bytes < 65536 := crcRun_lt bytes (by decide)

@[simp] theorem withCrc_length (body : List Byte) : (withCrc body).length = body.length + 2 := by
  rw [withCrc, List.length_append, beBytes_length]

/-- The check field of a record. -/
theorem fieldNat_check (body : List Byte) : fieldNat (withCrc body) body.length 2 = crc16 body := by
  rw [withCrc, fieldNat_append_right (Nat.le_refl _), Nat.sub_self, fieldNat_last, Nat.mod_eq_of_lt (b := 256 ^ 2) (crc16_lt body)]

theorem take_withCrc (body : List Byte) : (withCrc body).take body.length = body := List.take_left

theorem crcOk_withCrc {body : List Byte} {size : Nat} (length : size = body.length + 2) : crcOk (withCrc body) size = true := by
  obtain rfl := length
  rw [crcOk, Nat.add_sub_cancel, take_withCrc, fieldNat_check, beq_self_eq_true]

/-- The bytes that pass the check are the records with their check. -/
theorem crcOk_iff {raw : List Byte} (long : 2 ≤ raw.length) : crcOk raw raw.length = true ↔ raw = withCrc (raw.take (raw.length - 2)) := by
  constructor
  · intro ok
    have check : crc16 (raw.take (raw.length - 2)) = fieldNat raw (raw.length - 2) 2 := by simpa [crcOk] using ok
    have last : (raw.drop (raw.length - 2)).length = 2 := by rw [List.length_drop]; omega
    have field : fieldNat raw (raw.length - 2) 2 = beNat (raw.drop (raw.length - 2)) := by
      rw [fieldNat, Machine.field, List.take_of_length_le (Nat.le_of_eq last)]
    have bytes := beBytes_beNat (raw.drop (raw.length - 2))
    rw [last] at bytes
    rw [withCrc, check, field, bytes, List.take_append_drop]
  · intro e
    have body : (raw.take (raw.length - 2)).length + 2 = raw.length := by rw [List.length_take]; omega
    have ok := crcOk_withCrc (body := raw.take (raw.length - 2)) body.symm
    rwa [← e] at ok

/-! ### The reader port's messages (R1, Table 12-14) -/

theorem message_fields (kind : Byte) {contents : List Byte} (short : contents.length ≤ 255) :
    fieldNat (withCrc (kind :: BitVec.ofNat 8 contents.length :: contents)) 0 1 = kind.toNat ∧
    fieldNat (withCrc (kind :: BitVec.ofNat 8 contents.length :: contents)) 1 1 = contents.length := by
  rw [withCrc, List.cons_append, List.cons_append, fieldNat_head, fieldNat_tail, fieldNat_head, BitVec.toNat_ofNat,
    Nat.mod_eq_of_lt (by omega)]
  exact ⟨rfl, rfl⟩

/-- The kinds that the reader sends, with the contents length that each requires. -/
def kindTaken (kind n : Nat) : Bool :=
  match kind with
  | 1 => true
  | 2 => n == 0
  | 3 => n == 0
  | _ => false

theorem kindTaken_iff (kind n : Nat) : kindTaken kind n = true ↔ kind = 1 ∨ ((kind = 2 ∨ kind = 3) ∧ n = 0) := by
  unfold kindTaken
  split <;> simp_all

theorem readerMessageOk_iff (raw : List Byte) : readerMessageOk raw = true ↔
    4 ≤ raw.length ∧ raw.length = fieldNat raw 1 1 + 4 ∧ crcOk raw raw.length = true ∧
      kindTaken (fieldNat raw 0 1) (fieldNat raw 1 1) = true := by
  unfold readerMessageOk
  simp only [Bool.and_eq_true, decide_eq_true_iff, and_assoc]
  exact Iff.rfl

theorem readerMessage_iff (raw : List Byte) : readerMessageOk raw = true ↔ ∃ (kind : Byte) (contents : List Byte),
    contents.length ≤ 255 ∧ (kind = 1 ∨ ((kind = 2 ∨ kind = 3) ∧ contents = [])) ∧
    raw = withCrc (kind :: BitVec.ofNat 8 contents.length :: contents) := by
  rw [readerMessageOk_iff]
  constructor
  · rintro ⟨long, length, check, taken⟩
    obtain ⟨kind, n, rest, rfl⟩ : ∃ kind n rest, raw = kind :: n :: rest := by
      match raw, long with
      | kind :: n :: rest, _ => exact ⟨kind, n, rest, rfl⟩
    rw [fieldNat_tail, fieldNat_head] at length taken
    rw [fieldNat_head] at taken
    have size : n.toNat < 256 := n.isLt
    simp only [List.length_cons] at length
    have contents : (rest.take n.toNat).length = n.toNat := by rw [List.length_take]; omega
    have whole := (crcOk_iff (by simp)).mp check
    have body : (kind :: n :: rest).take ((kind :: n :: rest).length - 2) = kind :: n :: rest.take n.toNat := by
      rw [List.length_cons, List.length_cons, show rest.length + 1 + 1 - 2 = n.toNat + 1 + 1 by omega, List.take_succ_cons,
        List.take_succ_cons]
    refine ⟨kind, rest.take n.toNat, by omega, ?_, ?_⟩
    · rw [kindTaken_iff] at taken
      obtain one | ⟨two_or_three, none⟩ := taken
      · exact .inl (BitVec.eq_of_toNat_eq one)
      · refine .inr ⟨two_or_three.imp (fun e => BitVec.eq_of_toNat_eq e) fun e => BitVec.eq_of_toNat_eq e, ?_⟩
        rw [none, List.take_zero]
    · rw [contents, BitVec.ofNat_toNat, BitVec.setWidth_eq, ← body]
      exact whole
  · rintro ⟨kind, contents, short, taken, rfl⟩
    obtain ⟨kind_field, length_field⟩ := message_fields kind short
    rw [kind_field, length_field, withCrc_length, crcOk_withCrc rfl, kindTaken_iff]
    refine ⟨by simp, rfl, rfl, ?_⟩
    obtain rfl | ⟨rfl | rfl, rfl⟩ := taken
    · exact .inl rfl
    · exact .inr ⟨.inl rfl, rfl⟩
    · exact .inr ⟨.inr rfl, rfl⟩

/-- R1: before its last byte a message is not whole. -/
theorem messageWhole_prefix {pre rest : List Byte} (length : (pre ++ rest).length = fieldNat (pre ++ rest) 1 1 + 4)
    (part : rest ≠ []) : messageWhole pre = false := by
  rw [Bool.eq_false_iff]
  intro whole
  obtain ⟨two, enough⟩ := (messageWhole_iff pre).mp whole
  rw [fieldNat_append_left (by omega), List.length_append] at length
  have := List.length_pos_of_ne_nil part
  omega

/-- R1: the bytes of a message, the rest of it not yet come, give its event and leave the port empty. -/
theorem portRun_message (now : Nat) (after : List Byte) : ∀ (rest : List Byte) (p : CardPort), rest ≠ [] →
    2 ≤ (p.bytes ++ rest).length → (p.bytes ++ rest).length = fieldNat (p.bytes ++ rest) 1 1 + 4 →
    portRun now (rest ++ after) p = ((portRun now after {}).1, messageEvent (p.bytes ++ rest) :: (portRun now after {}).2)
  | [], _, part, _, _ => absurd rfl part
  | [b], p, _, two, length => by
    have whole : messageWhole (p.bytes ++ [b]) = true := (messageWhole_iff _).mpr ⟨two, Nat.le_of_eq length.symm⟩
    rw [List.singleton_append, portRun, CardPort.take, if_pos whole]
    rfl
  | b :: c :: rest, p, _, two, length => by
    have joined : p.bytes ++ b :: c :: rest = (p.bytes ++ [b]) ++ c :: rest := by simp
    rw [joined] at two length ⊢
    have part := messageWhole_prefix length (by simp)
    rw [List.cons_append, portRun, CardPort.take, if_neg (by rw [part]; decide)]
    dsimp only
    rw [portRun_message now after (c :: rest) _ (by simp) two length]
    rfl

theorem portRun_messages (now : Nat) : ∀ raws : List (List Byte),
    (∀ raw ∈ raws, 2 ≤ raw.length ∧ raw.length = fieldNat raw 1 1 + 4) → portRun now raws.flatten {} = ({}, raws.map messageEvent)
  | [], _ => rfl
  | raw :: raws, each => by
    obtain ⟨two, length⟩ := each raw (List.mem_cons_self ..)
    rw [List.flatten_cons, portRun_message now raws.flatten raw {} (by rintro rfl; cases two) two length,
      portRun_messages now raws fun r mem => each r (List.mem_cons_of_mem _ mem)]
    rfl

/-! ### Items of one size in a row -/

theorem length_flatMap_const {α : Type} {f : α → List Byte} {k : Nat} {l : List α} (each : ∀ x ∈ l, (f x).length = k) :
    (l.flatMap f).length = k * l.length := by
  rw [List.length_flatMap, List.map_congr_left each, List.map_const', List.sum_replicate, Nat.mul_comm, smul_eq_mul, Nat.mul_comm]

/-- A field of one of a row of items, all of one size. -/
theorem fieldNat_flatMap {α : Type} {f : α → List Byte} {k off size : Nat} (fits : off + size ≤ k) :
    ∀ {l : List α} {i : Nat} {x : α}, (∀ y ∈ l, (f y).length = k) → l[i]? = some x →
      fieldNat (l.flatMap f) (k * i + off) size = fieldNat (f x) off size
  | [], _, _, _, e => nomatch e
  | y :: rest, 0, x, each, e => by
    obtain rfl : y = x := by simpa using e
    rw [List.flatMap_cons, Nat.mul_zero, Nat.zero_add, fieldNat_append_left (by rw [each y (List.mem_cons_self ..)]; exact fits)]
  | y :: rest, i + 1, x, each, e => by
    have length := each y (List.mem_cons_self ..)
    rw [List.getElem?_cons_succ] at e
    rw [List.flatMap_cons, fieldNat_append_right (by rw [length, Nat.mul_succ]; omega), length,
      show k * (i + 1) + off - k = k * i + off by rw [Nat.mul_succ]; omega]
    exact fieldNat_flatMap fits (fun z mem => each z (List.mem_cons_of_mem _ mem)) e

/-! ### The rack line's frames (R147, Tables 12-3 and 12-4) -/

/-- A header entry of a STATUS. -/
def entryBytes (e : HeaderEntry) : List Byte := beBytes 1 e.header ++ beBytes 2 e.demand ++ beBytes 2 e.draw

theorem entryBytes_length (e : HeaderEntry) : (entryBytes e).length = 5 := by simp [entryBytes]

theorem entryBytes_fields (e : HeaderEntry) (header : e.header < 256) (demand : e.demand < 65536) (draw : e.draw < 65536) :
    fieldNat (entryBytes e) 0 1 = e.header ∧ fieldNat (entryBytes e) 1 2 = e.demand ∧ fieldNat (entryBytes e) 3 2 = e.draw := by
  rw [entryBytes, List.append_assoc]
  refine ⟨?_, ?_, ?_⟩
  · rw [fieldNat_here]
    exact Nat.mod_eq_of_lt header
  · rw [fieldNat_skip (by decide), fieldNat_here]
    exact Nat.mod_eq_of_lt demand
  · rw [fieldNat_skip (by decide), fieldNat_skip (by decide), fieldNat_last]
    exact Nat.mod_eq_of_lt draw

theorem entriesAt_append {a b : List Byte} {n off : Nat} (length : a.length = off) :
    entriesAt (a ++ b) n off = entriesAt b n 0 := by
  unfold entriesAt
  refine List.map_congr_left fun i _ => ?_
  rw [fieldNat_append_right (by omega), fieldNat_append_right (by omega), fieldNat_append_right (by omega), length]
  congr 2 <;> omega

theorem entriesAt_entries {entries : List HeaderEntry}
    (fit : ∀ e ∈ entries, e.header < 256 ∧ e.demand < 65536 ∧ e.draw < 65536) :
    entriesAt (entries.flatMap entryBytes) entries.length 0 = entries := by
  refine List.ext_getElem (by simp [entriesAt]) fun i _ lt => ?_
  have item : entries[i]? = some entries[i] := List.getElem?_eq_getElem lt
  have each : ∀ y ∈ entries, (entryBytes y).length = 5 := fun y _ => entryBytes_length y
  obtain ⟨header, demand, draw⟩ := fit entries[i] (List.getElem_mem lt)
  obtain ⟨first, second, third⟩ := entryBytes_fields entries[i] header demand draw
  have at0 := fieldNat_flatMap (f := entryBytes) (k := 5) (off := 0) (size := 1) (by decide) each item
  have at1 := fieldNat_flatMap (f := entryBytes) (k := 5) (off := 1) (size := 2) (by decide) each item
  have at3 := fieldNat_flatMap (f := entryBytes) (k := 5) (off := 3) (size := 2) (by decide) each item
  simp only [entriesAt, List.getElem_map, List.getElem_range, Nat.zero_add]
  rw [show fieldNat (entries.flatMap entryBytes) (5 * i) 1 = _ from at0, at1, at3, first, second, third]

theorem payload_status (link flags : Byte) (time : Word32) {entries : List HeaderEntry}
    (ok : payloadOk (.status link flags time entries) = true) (fits : payloadFits (.status link flags time entries) = true) :
    payloadOf 1 (payloadBytes (.status link flags time entries)) = some (.status link flags time entries) ∧
    (payloadBytes (.status link flags time entries)).length ≤ 64 := by
  simp only [payloadOk, payloadFits, Bool.and_eq_true, List.all_eq_true, decide_eq_true_iff] at ok fits
  obtain ⟨⟨few, -⟩, headers⟩ := ok
  have bytes : payloadBytes (.status link flags time entries) =
      link :: flags :: (beBytes 4 time.toNat ++ (beBytes 1 entries.length ++ entries.flatMap entryBytes)) := by
    change [link, flags] ++ beBytes 4 time.toNat ++ beBytes 1 entries.length ++ entries.flatMap entryBytes = _
    simp
  have size : (entries.flatMap entryBytes).length = 5 * entries.length := length_flatMap_const fun e _ => entryBytes_length e
  have length : (payloadBytes (.status link flags time entries)).length = 7 + 5 * entries.length := by
    rw [bytes]
    simp only [List.length_cons, List.length_append, beBytes_length, size]
    omega
  have count : fieldNat (payloadBytes (.status link flags time entries)) 6 1 = entries.length := by
    rw [bytes, fieldNat_tail, fieldNat_tail, fieldNat_skip (by decide), fieldNat_here]
    exact Nat.mod_eq_of_lt (by omega)
  have back : entriesAt (payloadBytes (.status link flags time entries)) entries.length 7 = entries := by
    have front : payloadBytes (.status link flags time entries) =
        (link :: flags :: (beBytes 4 time.toNat ++ beBytes 1 entries.length)) ++ entries.flatMap entryBytes := by
      rw [bytes]
      simp
    rw [front, entriesAt_append (by simp), entriesAt_entries]
    intro e mem
    obtain ⟨demand, draw⟩ := fits e mem
    have := (headers e mem).2
    exact ⟨by omega, demand, draw⟩
  have first : fieldNat (payloadBytes (.status link flags time entries)) 0 1 = link.toNat := by rw [bytes, fieldNat_head]
  have second : fieldNat (payloadBytes (.status link flags time entries)) 1 1 = flags.toNat := by
    rw [bytes, fieldNat_tail, fieldNat_head]
  have clock : fieldWord (payloadBytes (.status link flags time entries)) 2 = time := by
    rw [bytes, fieldWord, fieldNat_tail, fieldNat_tail, ← fieldWord, fieldWord_here]
  refine ⟨?_, by omega⟩
  simp only [payloadOf, count, back, first, second, clock, BitVec.ofNat_toNat, BitVec.setWidth_eq]
  exact if_pos ⟨by omega, length, few⟩

theorem stationOk_iff (n : Nat) : stationOk n = true ↔ 1 ≤ n ∧ n ≤ 24 := by
  rw [stationOk, Bool.and_eq_true, decide_eq_true_iff, decide_eq_true_iff]

theorem payload_notePart {requester : Nat} (note : Word32) {index count : Nat} (isPresent : Bool) {bytes : List Byte}
    (ok : payloadOk (.notePart requester note index count isPresent bytes) = true)
    (fits : payloadFits (.notePart requester note index count isPresent bytes) = true) :
    payloadOf 7 (payloadBytes (.notePart requester note index count isPresent bytes)) =
      some (.notePart requester note index count isPresent bytes) ∧
    (payloadBytes (.notePart requester note index count isPresent bytes)).length ≤ 64 := by
  simp only [payloadOk, payloadFits, Bool.and_eq_true, decide_eq_true_iff, stationOk_iff] at ok fits
  obtain ⟨⟨-, station⟩, -⟩ := ok
  obtain ⟨⟨index_fits, count_fits⟩, short⟩ := fits
  have layout : payloadBytes (.notePart requester note index count isPresent bytes) =
      beBytes 1 requester ++ (beBytes 4 note.toNat ++ (beBytes 1 index ++ (beBytes 1 count ++
        (beBytes 1 (if isPresent then 1 else 2) ++ bytes)))) := by
    simp only [payloadBytes, List.append_assoc]
  have mark : (if isPresent then 1 else 2) % 256 ^ 1 = if isPresent then 1 else 2 := by cases isPresent <;> rfl
  have length : (payloadBytes (.notePart requester note index count isPresent bytes)).length = 8 + bytes.length := by
    rw [layout]
    simp only [List.length_append, beBytes_length]
    omega
  refine ⟨?_, by omega⟩
  have rest : (payloadBytes (.notePart requester note index count isPresent bytes)).drop 8 = bytes := by
    have front : payloadBytes (.notePart requester note index count isPresent bytes) =
        (beBytes 1 requester ++ (beBytes 4 note.toNat ++ (beBytes 1 index ++ (beBytes 1 count ++
          beBytes 1 (if isPresent then 1 else 2))))) ++ bytes := by
      rw [layout]
      simp only [List.append_assoc]
    rw [front, List.drop_left' (by simp)]
  have fields : fieldNat (payloadBytes (.notePart requester note index count isPresent bytes)) 0 1 = requester ∧
      fieldWord (payloadBytes (.notePart requester note index count isPresent bytes)) 1 = note ∧
      fieldNat (payloadBytes (.notePart requester note index count isPresent bytes)) 5 1 = index ∧
      fieldNat (payloadBytes (.notePart requester note index count isPresent bytes)) 6 1 = count ∧
      fieldNat (payloadBytes (.notePart requester note index count isPresent bytes)) 7 1 = if isPresent then 1 else 2 := by
    rw [layout]
    refine ⟨?_, ?_, ?_, ?_, ?_⟩
    · rw [fieldNat_here]
      exact Nat.mod_eq_of_lt (by omega)
    · rw [fieldWord_skip (by decide), fieldWord_here]
    · rw [fieldNat_skip (by decide), fieldNat_skip (by decide), fieldNat_here]
      exact Nat.mod_eq_of_lt index_fits
    · rw [fieldNat_skip (by decide), fieldNat_skip (by decide), fieldNat_skip (by decide), fieldNat_here]
      exact Nat.mod_eq_of_lt count_fits
    · rw [fieldNat_skip (by decide), fieldNat_skip (by decide), fieldNat_skip (by decide), fieldNat_skip (by decide), fieldNat_here,
        mark]
  obtain ⟨f0, f1, f5, f6, f7⟩ := fields
  simp only [payloadOf, rest, f0, f1, f5, f6, f7]
  cases isPresent with
  | false => exact if_pos ⟨by omega, by omega, .inr rfl⟩
  | true => exact if_pos ⟨by omega, by omega, .inl rfl⟩

/-- R147, R212: a payload reads back from its bytes. -/
theorem payloadOf_payloadBytes (p : Payload) (ok : payloadOk p = true) (fits : payloadFits p = true) :
    payloadOf (kindCode p) (payloadBytes p) = some p ∧ (payloadBytes p).length ≤ 64 := by
  cases p with
  | status link flags time entries => exact payload_status link flags time ok fits
  | notePart requester note index count isPresent bytes => exact payload_notePart note isPresent ok fits
  | claim permit => simp [kindCode, payloadBytes, payloadOf, fieldWord_last]
  | release permit => simp [kindCode, payloadBytes, payloadOf, fieldWord_last]
  | noteReady note permit =>
    have skip : fieldWord (beBytes 4 note.toNat ++ beBytes 4 permit.toNat) 4 = permit := by
      rw [fieldWord_skip (by decide), fieldWord_last]
    simp [kindCode, payloadBytes, payloadOf, fieldWord_here, skip]
  | held permit claimant =>
    have station := (stationOk_iff claimant).mp ok
    have second : fieldNat (beBytes 4 permit.toNat ++ beBytes 1 claimant) 4 1 = claimant := by
      rw [fieldNat_skip (by decide), fieldNat_last]
      exact Nat.mod_eq_of_lt (by omega)
    simp [kindCode, payloadBytes, payloadOf, fieldWord_here, second]
  | noteAsk target note =>
    have station := (stationOk_iff target).mp ok
    have first : fieldNat (beBytes 1 target ++ beBytes 4 note.toNat) 0 1 = target := by
      rw [fieldNat_here]
      exact Nat.mod_eq_of_lt (by omega)
    have second : fieldWord (beBytes 1 target ++ beBytes 4 note.toNat) 1 = note := by
      rw [fieldWord_skip (by decide), fieldWord_last]
    simp [kindCode, payloadBytes, payloadOf, first, second]

theorem kindCode_lt (p : Payload) : kindCode p < 256 := by cases p <;> simp [kindCode]

/-- R147: the bytes of an acceptable frame pass acceptance. -/
theorem acceptFrame_frameBytes {sender : Nat} {p : Payload} (ok : frameOk sender p = true) :
    acceptFrame false (frameBytes sender p) = some (sender, p) := by
  simp only [frameOk, Bool.and_eq_true] at ok
  obtain ⟨⟨station, ranges⟩, fits⟩ := ok
  obtain ⟨back, short⟩ := payloadOf_payloadBytes p ranges fits
  have low := (stationOk_iff sender).mp station
  have layout : frameBytes sender p = beBytes 1 (kindCode p) ++ (beBytes 1 sender ++ (beBytes 1 (payloadBytes p).length ++
      (payloadBytes p ++ beBytes 2 (crc16 (beBytes 1 (kindCode p) ++ beBytes 1 sender ++ beBytes 1 (payloadBytes p).length ++
        payloadBytes p))))) := by
    simp only [frameBytes, withCrc, List.append_assoc]
  have size : (frameBytes sender p).length = (payloadBytes p).length + 5 := by
    rw [layout]
    simp only [List.length_append, beBytes_length]
    omega
  have check : crcOk (frameBytes sender p) ((payloadBytes p).length + 5) = true := by
    rw [frameBytes]
    refine crcOk_withCrc ?_
    simp only [List.length_append, beBytes_length]
    omega
  have kind : fieldNat (frameBytes sender p) 0 1 = kindCode p := by
    rw [layout, fieldNat_here]
    exact Nat.mod_eq_of_lt (kindCode_lt p)
  have from_ : fieldNat (frameBytes sender p) 1 1 = sender := by
    rw [layout, fieldNat_skip (by decide), fieldNat_here]
    exact Nat.mod_eq_of_lt (by omega)
  have length : fieldNat (frameBytes sender p) 2 1 = (payloadBytes p).length := by
    rw [layout, fieldNat_skip (by decide), fieldNat_skip (by decide), fieldNat_here]
    exact Nat.mod_eq_of_lt (by omega)
  have payload : field (frameBytes sender p) 3 (payloadBytes p).length = payloadBytes p := by
    rw [layout, field_append_right (by simp), field_append_right (by simp), field_append_right (by simp)]
    simp only [beBytes_length]
    exact field_prefix rfl
  rw [acceptFrame]
  simp only [length, from_, check, kind, payload, back, station, ranges, size]
  rw [if_neg (by simp [short])]
  rfl

end Sys2Proof.Machine

open Sys2Proof Sys2Proof.Machine

/-- Settles O43, by the fields of each format's bytes and its check. -/
theorem framesReadBack : Obligations.FramesReadBack := by
  unfold Obligations.FramesReadBack
  refine ⟨fun sender p ok => acceptFrame_frameBytes ok, readerMessage_iff, portRun_messages, fun stamp length => ?_, fun r => ?_⟩
  · have layout : beBytes 1 4 ++ beBytes 1 stamp.length ++ stamp = 4 :: 13 :: stamp := by rw [length]; rfl
    have body : (4 :: 13 :: stamp : List Byte).length = 15 := by simp [length]
    have check := fieldNat_check (4 :: 13 :: stamp)
    have front := take_withCrc (4 :: 13 :: stamp)
    rw [body] at check front
    dsimp only
    rw [writeMessage, layout, withCrc_length, body, check, front]
    refine ⟨rfl, fieldNat_head .., (fieldNat_tail ..).trans (fieldNat_head ..), ?_, rfl⟩
    have skip : field (withCrc (4 :: 13 :: stamp)) 2 13 = field (stamp ++ beBytes 2 (crc16 (4 :: 13 :: stamp))) 0 13 := rfl
    rw [skip, field_prefix length]
  · cases r <;> decide +kernel
end

section
/-! PROOFS. The codes and flag words of the formats, and the store's records read back from their bytes. -/

namespace Sys2Proof.Machine

/-! ### Flag words -/

/-- The number whose bits a list gives, lowest first. -/
def bitsWord : List Bool → Nat
  | [] => 0
  | b :: rest => b.toNat + 2 * bitsWord rest

theorem testBit_bitsWord : ∀ (l : List Bool) (n : Nat), (bitsWord l).testBit n = l.getD n false
  | [], n => Nat.zero_testBit n
  | b :: rest, 0 => by
    have toNat := Bool.toNat_lt b
    rw [bitsWord, Nat.testBit_zero]
    cases b <;> simp
  | b :: rest, n + 1 => by
    have toNat := Bool.toNat_lt b
    rw [bitsWord, Nat.testBit_succ, show (b.toNat + 2 * bitsWord rest) / 2 = bitsWord rest by omega, testBit_bitsWord rest n]
    simp

theorem bitsWord_lt : ∀ l : List Bool, bitsWord l < 2 ^ l.length
  | [] => Nat.one_pos
  | b :: rest => by
    have toNat := Bool.toNat_lt b
    have ih := bitsWord_lt rest
    rw [bitsWord, List.length_cons, pow_succ]
    omega

theorem hasBit_eq (v n : Nat) : hasBit v n = v.testBit n := by
  rw [hasBit, Nat.testBit_eq_decide_div_mod_eq]
  rfl

theorem hasBit_bitsWord (l : List Bool) (n : Nat) : hasBit (bitsWord l) n = l.getD n false := by
  rw [hasBit_eq, testBit_bitsWord]

theorem bit_eq (b : Bool) (n : Nat) : bit b n = b.toNat * 2 ^ n := by
  cases b <;> simp [bit]

/-- The compartment's flags, lowest first, with CLAMPED. -/
def flagBits (clamped : Bool) (f : CompFlags) : List Bool :=
  [clamped, f.overrun, f.valveLeak, f.tempHeld, f.tempDefault, f.tempClamped, f.overspeed, f.phaseReversed, f.lapseInClosing,
    f.injectorLeak]

theorem flagWord_eq (clamped : Bool) (f : CompFlags) : flagWord clamped f = bitsWord (flagBits clamped f) := by
  simp only [flagWord, bit_eq, flagBits, bitsWord]
  omega

theorem flagWord_lt (clamped : Bool) (f : CompFlags) : flagWord clamped f < 1024 := by
  have lt := bitsWord_lt (flagBits clamped f)
  rw [show (flagBits clamped f).length = 10 from rfl] at lt
  rw [flagWord_eq]
  norm_num at lt
  exact lt

theorem flagsOf_flagWord (clamped : Bool) (f : CompFlags) : flagsOf (flagWord clamped f) = f := by
  rw [flagWord_eq, flagsOf]
  simp only [hasBit_bitsWord]
  rfl

theorem tripFlagByte_eq (f : TripFlags) :
    tripFlagByte f = bitsWord [f.isolatedClaim, f.timeUnset, f.haltOverride, f.leak, f.recovered] := by
  simp only [tripFlagByte, bit_eq, bitsWord]
  omega

theorem tripFlagByte_lt (f : TripFlags) : tripFlagByte f < 32 := by
  rw [tripFlagByte_eq]
  exact bitsWord_lt [f.isolatedClaim, f.timeUnset, f.haltOverride, f.leak, f.recovered]

theorem tripFlagsOf_tripFlagByte (f : TripFlags) : tripFlagsOf (tripFlagByte f) = f := by
  rw [tripFlagByte_eq, tripFlagsOf]
  simp only [hasBit_bitsWord]
  rfl

/-! ### Codes -/

theorem endReasonOf_code {r : EndReason} (known : ∀ n, r ≠ .other n) : endReasonOf (endReasonCode r) = r ∧ endReasonCode r ≤ 10 := by
  cases r with
  | other n => exact absurd rfl (known n)
  | _ => exact ⟨rfl, by decide⟩

theorem lineRefusalOf_code {r : LineRefusal} (known : ∀ n, r ≠ .other n) :
    lineRefusalOf (lineRefusalCode r) = r ∧ 17 ≤ lineRefusalCode r ∧ lineRefusalCode r ≤ 23 := by
  cases r with
  | other n => exact absurd rfl (known n)
  | _ => exact ⟨rfl, by decide, by decide⟩

theorem pulseFaultOf_code {f : Option PulseFault} (known : ∀ x, f = some x → ∀ n, x.code ≠ .other n) :
    pulseFaultOf (pulseCode f) ((f.map (·.gross)).getD 0) = f ∧ pulseCode f ≤ 4 := by
  cases f with
  | none => exact ⟨rfl, by decide⟩
  | some x =>
    obtain ⟨code, gross⟩ := x
    cases code with
    | other n => exact absurd rfl (known _ rfl n)
    | _ => exact ⟨rfl, by simp [pulseCode]⟩

theorem doseStatusOf_code (x : DoseStatus) : doseStatusOf (doseStatusCode x) = x ∧ doseStatusCode x < 4 := by
  cases x <;> exact ⟨rfl, by decide⟩

theorem saturate_of_lt {bits n : Nat} (lt : n < 2 ^ bits) : saturate bits n = n := Nat.min_eq_left (by omega)

theorem saturate_lt (bits n : Nat) : saturate bits n < 2 ^ bits := by
  have := Nat.two_pow_pos bits
  rw [saturate]
  omega

theorem unsigned16_lt (t : Int) : unsigned16 t < 65536 := by rw [unsigned16]; omega

theorem signed16_unsigned16 {t : Int} (low : -32768 ≤ t) (high : t < 32768) : signed16 (unsigned16 t) = t := by
  rw [signed16, unsigned16]
  split <;> omega

/-! ### A totals copy (R194, R212) -/

theorem totalsBytes_length (lane : LaneNo) (count : Nat) (g x : Word48) : (totalsBytes lane count g x).length = 20 := by
  simp [totalsBytes]

/-- R194, R212: a totals copy reads back. -/
theorem totalsOf_totalsBytes (lane : LaneNo) {count : Nat} (g x : Word48) (head rest : List Byte) (fits : count < 4294967296) :
    totalsOf lane (head ++ totalsBytes lane count g x ++ rest) head.length = some (count, g, x) := by
  have copy : field (head ++ totalsBytes lane count g x ++ rest) head.length 20 = totalsBytes lane count g x := by
    rw [List.append_assoc, field_append_right (Nat.le_refl _), Nat.sub_self, field_prefix (totalsBytes_length ..)]
  obtain ⟨c, layout⟩ : ∃ c, totalsBytes lane count g x = beBytes 1 0x54 ++ (beBytes 1 (lane.val + 1) ++ (beBytes 4 count ++
      (beBytes 6 g.toNat ++ (beBytes 6 x.toNat ++ beBytes 2 c)))) := by
    rw [totalsBytes, saturate_of_lt (bits := 32) fits, withCrc]
    generalize crc16 _ = c
    exact ⟨c, by simp only [List.append_assoc]⟩
  have tag : fieldNat (totalsBytes lane count g x) 0 1 = 0x54 := by rw [layout, fieldNat_here]; rfl
  have number : fieldNat (totalsBytes lane count g x) 1 1 = lane.val + 1 := by
    rw [layout, fieldNat_skip (by decide), fieldNat_here]
    exact Nat.mod_eq_of_lt (by omega)
  have writes : fieldNat (totalsBytes lane count g x) 2 4 = count := by
    rw [layout, fieldNat_skip (by decide), fieldNat_skip (by decide), fieldNat_here]
    exact Nat.mod_eq_of_lt fits
  have gross : fieldNat (totalsBytes lane count g x) 6 6 = g.toNat := by
    rw [layout, fieldNat_skip (by decide), fieldNat_skip (by decide), fieldNat_skip (by decide), fieldNat_here]
    exact Nat.mod_eq_of_lt g.isLt
  have std : fieldNat (totalsBytes lane count g x) 12 6 = x.toNat := by
    rw [layout, fieldNat_skip (by decide), fieldNat_skip (by decide), fieldNat_skip (by decide), fieldNat_skip (by decide),
      fieldNat_here]
    exact Nat.mod_eq_of_lt x.isLt
  have check : crcOk (totalsBytes lane count g x) 20 = true := by
    rw [totalsBytes]
    exact crcOk_withCrc (by simp)
  rw [totalsOf, copy]
  simp [tag, number, check, writes, gross, std]

/-! ### A checkpoint's additive lines (Table 12-8) -/

theorem checkAdditive_length (e : Bool) (a : AdditiveLine) : (checkAdditive e a).length = 26 := by
  simp [checkAdditive]

theorem additiveWord_parts (a : AdditiveLine) {status : Nat} (known : status < 4) :
    additiveWord a status < 65536 ∧ additiveWord a status % 8192 = a.ratio % 8192 ∧ additiveWord a status / 8192 % 4 = status ∧
    hasBit (additiveWord a status) 15 = a.mandatory := by
  unfold additiveWord hasBit
  rw [bit_eq]
  cases a.mandatory
  · simp only [Bool.toNat_false, Nat.zero_mul, Nat.zero_add]
    refine ⟨by omega, by omega, by omega, ?_⟩
    simp only [beq_eq_false_iff_ne]
    omega
  · simp only [Bool.toNat_true, Nat.one_mul]
    refine ⟨by omega, by omega, by omega, ?_⟩
    simp only [beq_iff_eq]
    omega

/-- A field of the 26 bytes of an additive line. -/
theorem checkAdditive_fields (e : Bool) {a : AdditiveLine} (due : a.totalDue < 281474976710656)
    (commanded : a.commanded < 4294967296) (confirmed : a.confirmed < 4294967296) :
    fieldNat (checkAdditive e a) 0 1 = a.injector.val + 1 ∧
    fieldNat (checkAdditive e a) 1 2 = additiveWord a (if e then doseStatusCode (a.result.getD ⟨0, 0, .ok⟩).status else 0) ∧
    fieldNat (checkAdditive e a) 3 1 = a.faultMark.toNat ∧ fieldNat (checkAdditive e a) 4 6 = a.totalDue ∧
    fieldNat (checkAdditive e a) 10 4 = a.commanded ∧ fieldNat (checkAdditive e a) 14 4 = a.confirmed ∧
    fieldNat (checkAdditive e a) 18 4 = (if e then saturate 27 (a.result.getD ⟨0, 0, .ok⟩).target else 0) ∧
    fieldNat (checkAdditive e a) 22 4 = (if e then saturate 27 (a.result.getD ⟨0, 0, .ok⟩).delivered else 0) := by
  have status : (if e then doseStatusCode (a.result.getD ⟨0, 0, .ok⟩).status else 0) < 4 := by
    split
    · exact (doseStatusOf_code _).2
    · decide
  have word := (additiveWord_parts a status).1
  have target := saturate_lt 27 (a.result.getD ⟨0, 0, .ok⟩).target
  have delivered := saturate_lt 27 (a.result.getD ⟨0, 0, .ok⟩).delivered
  have mark : bit a.faultMark 0 = a.faultMark.toNat := by rw [bit_eq, Nat.pow_zero, Nat.mul_one]
  have layout : checkAdditive e a = beBytes 1 (a.injector.val + 1) ++ (beBytes 2 (additiveWord a
      (if e then doseStatusCode (a.result.getD ⟨0, 0, .ok⟩).status else 0)) ++ (beBytes 1 a.faultMark.toNat ++
      (beBytes 6 a.totalDue ++ (beBytes 4 a.commanded ++ (beBytes 4 a.confirmed ++
      (beBytes 4 (if e then saturate 27 (a.result.getD ⟨0, 0, .ok⟩).target else 0) ++
        beBytes 4 (if e then saturate 27 (a.result.getD ⟨0, 0, .ok⟩).delivered else 0))))))) := by
    simp only [checkAdditive, mark, saturate_of_lt (bits := 48) due, saturate_of_lt (bits := 32) commanded,
      saturate_of_lt (bits := 32) confirmed, List.append_assoc]
  have small := Bool.toNat_lt a.faultMark
  have target : (if e then saturate 27 (a.result.getD ⟨0, 0, .ok⟩).target else 0) < 134217728 := by split <;> omega
  have delivered : (if e then saturate 27 (a.result.getD ⟨0, 0, .ok⟩).delivered else 0) < 134217728 := by split <;> omega
  rw [layout]
  refine ⟨?_, ?_, ?_, ?_, ?_, ?_, ?_, ?_⟩
  all_goals
    simp (disch := decide) only [fieldNat_skip, fieldNat_here, fieldNat_last, Nat.reduceSub, Nat.reducePow]
    exact Nat.mod_eq_of_lt (by omega)

/-- An additive line as a checkpoint gives it back. -/
def AdditiveLine.checked (e : Bool) (a : AdditiveLine) : AdditiveLine :=
  { injector := a.injector, ratio := a.ratio, mandatory := a.mandatory, totalDue := a.totalDue, commanded := a.commanded
    confirmed := a.confirmed, faultMark := a.faultMark, live := false
    result := if e then some (a.result.getD ⟨0, 0, .ok⟩) else none }

/-- The values of an additive line fit their fields. -/
def AdditiveLine.Fits (a : AdditiveLine) : Prop :=
  a.ratio < 8192 ∧ a.totalDue < 281474976710656 ∧ a.commanded < 4294967296 ∧ a.confirmed < 4294967296 ∧
    ∀ x, a.result = some x → x.target < 134217728 ∧ x.delivered < 134217728

theorem AdditiveLine.Fits.result {a : AdditiveLine} (fits : a.Fits) :
    (a.result.getD ⟨0, 0, .ok⟩).target < 134217728 ∧ (a.result.getD ⟨0, 0, .ok⟩).delivered < 134217728 := by
  obtain ⟨-, -, -, -, results⟩ := fits
  cases result : a.result with
  | none => exact ⟨by decide, by decide⟩
  | some x => exact results x result

/-- Table 12-8: an additive line reads back from its place in the record. -/
theorem checkAdditiveOf_fields {e : Bool} {a : AdditiveLine} {b : List Byte} {off : Nat} (fits : a.Fits)
    (each : ∀ o size, o + size ≤ 26 → fieldNat b (off + o) size = fieldNat (checkAdditive e a) o size) :
    checkAdditiveOf e b off = a.checked e := by
  obtain ⟨target, delivered⟩ := fits.result
  obtain ⟨ratio, due, commanded, confirmed, -⟩ := fits
  obtain ⟨f0, f1, f3, f4, f10, f14, f18, f22⟩ := checkAdditive_fields e due commanded confirmed
  have status : (if e then doseStatusCode (a.result.getD ⟨0, 0, .ok⟩).status else 0) < 4 := by
    split
    · exact (doseStatusOf_code _).2
    · decide
  obtain ⟨-, word_ratio, word_status, word_mandatory⟩ := additiveWord_parts a status
  have r0 := (each 0 1 (by decide)).trans f0
  rw [Nat.add_zero] at r0
  have injector : Fin.ofNat 8 (a.injector.val + 1 + 7) = a.injector := by
    apply Fin.ext
    rw [Fin.val_ofNat]
    omega
  have mark : (a.faultMark.toNat != 0) = a.faultMark := by cases a.faultMark <;> rfl
  simp only [checkAdditiveOf, AdditiveLine.checked, r0, (each 1 2 (by decide)).trans f1, (each 3 1 (by decide)).trans f3,
    (each 4 6 (by decide)).trans f4, (each 10 4 (by decide)).trans f10, (each 14 4 (by decide)).trans f14,
    (each 18 4 (by decide)).trans f18, (each 22 4 (by decide)).trans f22, injector, word_ratio, word_status, word_mandatory, mark,
    Nat.mod_eq_of_lt ratio]
  cases e with
  | false => rfl
  | true =>
    simp only [if_true, saturate_of_lt (bits := 27) target, saturate_of_lt (bits := 27) delivered, (doseStatusOf_code _).1]

/-! ### A checkpoint (R192, R198, Table 12-8) -/

/-- The pulse fault that a checkpoint of a stage carries. -/
def faultAt (stage : Nat) (r : CompRecord) : Option PulseFault := if stage = 7 then r.pulseFault else none

/-- The bytes of a checkpoint up to its additive lines. -/
def checkpointFront (number line stage suspend reason : Nat) (clamped : Bool) (r : CompRecord) (temp : Int) : List Byte :=
  beBytes 1 0x43 ++ (beBytes 4 number ++ (beBytes 1 line ++ (beBytes 1 stage ++ (beBytes 1 suspend ++
    (beBytes 1 reason ++ (beBytes 4 r.gross.toNat ++ (beBytes 4 r.std.toNat ++ (beBytes 2 (unsigned16 temp) ++
    (beBytes 2 (flagWord clamped r.flags) ++ (beBytes 2 r.corrected ++ (beBytes 1 (pulseCode (faultAt stage r)) ++
    (beBytes 4 (((faultAt stage r).map (·.gross)).getD 0) ++ beBytes 1 r.additives.length))))))))))))

theorem checkpointFront_length (number line stage suspend reason : Nat) (clamped : Bool) (r : CompRecord) (temp : Int) :
    (checkpointFront number line stage suspend reason clamped r temp).length = 29 := by simp [checkpointFront]

section

variable {number line stage suspend reason : Nat} {clamped : Bool} {r : CompRecord} {temp : Int} {gross std : Word48}

/-- The parts of a checkpoint. -/
theorem checkpointBytes_eq (small_gross : r.gross.toNat < 4294967296) (small_std : r.std.toNat < 4294967296)
    (fault : ∀ f, faultAt stage r = some f → f.gross < 4294967296) : ∃ c,
    checkpointBytes number line stage suspend reason clamped r temp gross std =
      checkpointFront number line stage suspend reason clamped r temp ++
        (r.additives.flatMap (checkAdditive (stage == 7)) ++ (List.replicate (78 - 26 * r.additives.length) 0 ++
        (beBytes 6 (if stage = 7 then gross.toNat else 0) ++ (beBytes 6 (if stage = 7 then std.toNat else 0) ++ beBytes 2 c)))) := by
  have at_fault : (if (stage == 7) = true then r.pulseFault else none) = faultAt stage r := by simp [faultAt]
  have fault_gross : ((faultAt stage r).map (·.gross)).getD 0 < 4294967296 := by
    cases e : faultAt stage r with
    | none => decide
    | some f => exact fault f e
  rw [checkpointBytes]
  rw [at_fault, saturate_of_lt (bits := 32) small_gross, saturate_of_lt (bits := 32) small_std, saturate_of_lt (bits := 32) fault_gross,
    withCrc]
  generalize crc16 _ = c
  exact ⟨c, by simp only [checkpointFront, List.append_assoc, beq_iff_eq]⟩

theorem additives_length (few : r.additives.length ≤ 3) (e : Bool) :
    (r.additives.flatMap (checkAdditive e) ++ List.replicate (78 - 26 * r.additives.length) (0 : Byte)).length = 78 := by
  rw [List.length_append, length_flatMap_const fun a _ => checkAdditive_length e a, List.length_replicate]
  omega

theorem checkpointBytes_length (few : r.additives.length ≤ 3) :
    (checkpointBytes number line stage suspend reason clamped r temp gross std).length = 121 := by
  have adds := additives_length few (stage == 7)
  rw [List.length_append] at adds
  rw [checkpointBytes]
  simp only [withCrc_length, List.length_append, beBytes_length]
  omega

theorem checkpointBytes_check (few : r.additives.length ≤ 3) :
    crcOk ((checkpointBytes number line stage suspend reason clamped r temp gross std).take 121) 121 = true := by
  have length := checkpointBytes_length (number := number) (line := line) (stage := stage) (suspend := suspend) (reason := reason)
    (clamped := clamped) (temp := temp) (gross := gross) (std := std) few
  rw [List.take_of_length_le (Nat.le_of_eq length)]
  rw [checkpointBytes] at length ⊢
  exact crcOk_withCrc (by rw [withCrc_length] at length; exact length.symm)

/-- The fields of a checkpoint up to its additive lines. -/
theorem checkpointFront_fields (number_fits : number < 4294967296) (stage_fits : stage < 256) (reason_fits : reason < 256)
    (small_gross : r.gross.toNat < 4294967296) (small_std : r.std.toNat < 4294967296) (corrected : r.corrected < 65536)
    (code : pulseCode (faultAt stage r) < 256) (fault : ((faultAt stage r).map (·.gross)).getD 0 < 4294967296)
    (few : r.additives.length ≤ 3) (rest : List Byte) :
    let b := checkpointFront number line stage suspend reason clamped r temp ++ rest
    fieldNat b 0 1 = 0x43 ∧ fieldNat b 1 4 = number ∧ fieldNat b 6 1 = stage ∧ fieldNat b 8 1 = reason ∧
    fieldNat b 9 4 = r.gross.toNat ∧ fieldNat b 13 4 = r.std.toNat ∧ fieldNat b 17 2 = unsigned16 temp ∧
    fieldNat b 19 2 = flagWord clamped r.flags ∧ fieldNat b 21 2 = r.corrected ∧ fieldNat b 23 1 = pulseCode (faultAt stage r) ∧
    fieldNat b 24 4 = ((faultAt stage r).map (·.gross)).getD 0 ∧ fieldNat b 28 1 = r.additives.length := by
  have temp_fits := unsigned16_lt temp
  have flags_fit := flagWord_lt clamped r.flags
  dsimp only
  simp only [checkpointFront, List.append_assoc]
  refine ⟨fieldNat_here.trans rfl, ?_, ?_, ?_, ?_, ?_, ?_, ?_, ?_, ?_, ?_, ?_⟩
  all_goals
    simp (disch := decide) only [fieldNat_skip, fieldNat_here, Nat.reduceSub, Nat.reducePow]
    exact Nat.mod_eq_of_lt (by omega)

/-- R192, R198: a checkpoint whose values fit their fields reads back. -/
theorem checkpointOf_checkpointBytes {reason : EndReason} (number_fits : number < 4294967296) (low : 2 ≤ stage) (high : stage ≤ 7)
    (known : ∀ n, reason ≠ .other n) (small_gross : r.gross.toNat < 4294967296) (small_std : r.std.toNat < 4294967296)
    (corrected : r.corrected < 65536) (temp_low : -32768 ≤ temp) (temp_high : temp < 32768) (few : r.additives.length ≤ 3)
    (fits : ∀ a ∈ r.additives, a.Fits)
    (faults : ∀ f, r.pulseFault = some f → (∀ n, f.code ≠ .other n) ∧ f.gross < 4294967296) :
    checkpointOf number (checkpointBytes number line stage suspend (endReasonCode reason) clamped r temp gross std) = some {
      stage := stage, reason := reason
      record := { gross := r.gross, std := r.std, corrected := r.corrected, flags := r.flags, weighted := some temp
                  pulseFault := if stage = 7 then r.pulseFault else none
                  additives := r.additives.map (AdditiveLine.checked (stage == 7)) }
      totGross := if stage = 7 then gross else 0, totStd := if stage = 7 then std else 0 } := by
  obtain ⟨reason_back, reason_fits⟩ := endReasonOf_code known
  have known_fault : ∀ f, faultAt stage r = some f → (∀ n, f.code ≠ .other n) ∧ f.gross < 4294967296 := by
    intro f e
    unfold faultAt at e
    split at e
    · exact faults f e
    · cases e
  obtain ⟨fault_back, code_fits⟩ := pulseFaultOf_code fun f e => (known_fault f e).1
  have fault_fits : ((faultAt stage r).map (·.gross)).getD 0 < 4294967296 := by
    cases e : faultAt stage r with
    | none => decide
    | some f => exact (known_fault f e).2
  obtain ⟨c, parts⟩ := checkpointBytes_eq (number := number) (line := line) (stage := stage) (suspend := suspend)
    (reason := endReasonCode reason) (clamped := clamped) (temp := temp) (gross := gross) (std := std) small_gross small_std
    fun f e => (known_fault f e).2
  have check := checkpointBytes_check (number := number) (line := line) (stage := stage) (suspend := suspend)
    (reason := endReasonCode reason) (clamped := clamped) (temp := temp) (gross := gross) (std := std) few
  generalize checkpointBytes number line stage suspend (endReasonCode reason) clamped r temp gross std = b at parts check ⊢
  have front := checkpointFront_fields (number := number) (line := line) (stage := stage) (suspend := suspend)
    (reason := endReasonCode reason) (clamped := clamped) (temp := temp) number_fits (by omega) (by omega) small_gross small_std
    corrected (by omega) fault_fits few
    (r.additives.flatMap (checkAdditive (stage == 7)) ++ (List.replicate (78 - 26 * r.additives.length) 0 ++
        (beBytes 6 (if stage = 7 then gross.toNat else 0) ++ (beBytes 6 (if stage = 7 then std.toNat else 0) ++ beBytes 2 c))))
  have length := checkpointFront_length number line stage suspend (endReasonCode reason) clamped r temp
  have items := length_flatMap_const (f := checkAdditive (stage == 7)) (l := r.additives) fun a _ => checkAdditive_length _ a
  have totGross : fieldNat b 107 6 = if stage = 7 then gross.toNat else 0 := by
    rw [parts, fieldNat_append_right (by omega), fieldNat_append_right (by omega), fieldNat_append_right (by
      rw [List.length_replicate]; omega), length, items, List.length_replicate,
      show 107 - 29 - 26 * r.additives.length - (78 - 26 * r.additives.length) = 0 by omega, fieldNat_here]
    refine Nat.mod_eq_of_lt ?_
    have := gross.isLt
    split <;> omega
  have totStd : fieldNat b 113 6 = if stage = 7 then std.toNat else 0 := by
    rw [parts, fieldNat_append_right (by omega), fieldNat_append_right (by omega), fieldNat_append_right (by
      rw [List.length_replicate]; omega), length, items, List.length_replicate,
      show 113 - 29 - 26 * r.additives.length - (78 - 26 * r.additives.length) = 6 by omega, fieldNat_skip (by decide), fieldNat_here]
    refine Nat.mod_eq_of_lt ?_
    have := std.isLt
    split <;> omega
  have lines : (List.range r.additives.length).map (fun k => checkAdditiveOf (stage == 7) b (29 + 26 * k)) =
      r.additives.map (AdditiveLine.checked (stage == 7)) := by
    refine List.ext_getElem (by simp) fun k _ lt => ?_
    have lt : k < r.additives.length := by simpa using lt
    rw [List.getElem_map, List.getElem_map, List.getElem_range]
    refine checkAdditiveOf_fields (fits _ (List.getElem_mem lt)) fun o size inside => ?_
    have item := fieldNat_flatMap (f := checkAdditive (stage == 7)) (k := 26) inside (fun a _ => checkAdditive_length _ a)
      (List.getElem?_eq_getElem lt)
    rw [parts, fieldNat_append_right (by omega), fieldNat_append_left (by rw [items, length]; omega), length, ← item]
    congr 1
    omega
  rw [← parts] at front
  obtain ⟨tag, f1, f6, f8, f9, f13, f17, f19, f21, f23, f24, f28⟩ := front
  unfold checkpointOf
  simp only [tag, f1, f6, f8, f9, f13, f17, f19, f21, f23, f24, f28, check, totGross, totStd, reason_back, flagsOf_flagWord,
    signed16_unsigned16 temp_low temp_high, fault_back, Nat.min_eq_right few, lines]
  rw [if_pos ⟨trivial, trivial, trivial, low, high⟩]
  have word (x : Word48) : BitVec.ofNat 48 x.toNat = x := by rw [BitVec.ofNat_toNat, BitVec.setWidth_eq]
  by_cases ended : stage = 7
  · simp [ended, faultAt, word]
  · simp [ended, word]

end

end Sys2Proof.Machine
end

section
/-! PROOFS. The trip marker's two pages read back from their bytes (R193, Tables 12-10 and 12-11). -/

namespace Sys2Proof.Machine

/-! ### The marker's head (Table 12-10) -/

section

variable {t : Trip}

/-- The bytes of the marker's head after its state code. -/
def markTail (t : Trip) : List Byte :=
  beBytes 4 t.number ++ (beBytes 4 t.permit.toNat ++ (beBytes 4 t.driver.toNat ++ (beBytes 4 t.tanker.toNat ++
  (beBytes 2 t.issueDay ++ (beBytes 2 t.expiryDay ++ (beBytes 2 t.classSet.toNat ++
  (beBytes 1 t.capacities.length ++ (beBytes 1 t.lines.length ++
  ((t.capacities.flatMap (beBytes 2) ++ List.replicate (16 - 2 * t.capacities.length) 0) ++
  (beBytes 1 (tripFlagByte t.flags) ++ beBytes 4 t.startTime.toNat))))))))))

theorem markHeadBody_eq (isOpen : Bool) (t : Trip) :
    markHeadBody isOpen t = 0x4D :: BitVec.ofNat 8 (if isOpen then 1 else 2) :: markTail t := by
  simp only [markHeadBody, markTail, List.append_assoc]
  cases isOpen <;> rfl

theorem capacities_length (few : t.capacities.length ≤ 8) :
    (t.capacities.flatMap (beBytes 2) ++ List.replicate (16 - 2 * t.capacities.length) (0 : Byte)).length = 16 := by
  rw [List.length_append, length_flatMap_const fun n _ => beBytes_length 2 n, List.length_replicate]
  omega

theorem markTail_length (few : t.capacities.length ≤ 8) : (markTail t).length = 45 := by
  have capacities := capacities_length few
  simp only [markTail, List.length_append (as := beBytes _ _), beBytes_length, capacities,
    List.length_append (as := t.capacities.flatMap (beBytes 2) ++ List.replicate (16 - 2 * t.capacities.length) 0)]

theorem markTail_fields (number : t.number < 4294967296) (few : t.capacities.length ≤ 8) (lines : t.lines.length ≤ 8)
    (rest : List Byte) :
    fieldNat (markTail t ++ rest) 0 4 = t.number ∧ fieldWord (markTail t ++ rest) 4 = t.permit ∧
    fieldWord (markTail t ++ rest) 8 = t.driver ∧ fieldWord (markTail t ++ rest) 12 = t.tanker ∧
    fieldNat (markTail t ++ rest) 23 1 = t.lines.length ∧ fieldNat (markTail t ++ rest) 40 1 = tripFlagByte t.flags ∧
    fieldWord (markTail t ++ rest) 41 = t.startTime := by
  have capacities := capacities_length few
  have flags := tripFlagByte_lt t.flags
  generalize e : t.capacities.flatMap (beBytes 2) ++ List.replicate (16 - 2 * t.capacities.length) (0 : Byte) = block at capacities
  have skip (b : List Byte) (off size : Nat) (inside : 16 ≤ off) : fieldNat (block ++ b) off size = fieldNat b (off - 16) size := by
    rw [fieldNat_append_right (by omega), capacities]
  have skipWord (b : List Byte) (off : Nat) (inside : 16 ≤ off) : fieldWord (block ++ b) off = fieldWord b (off - 16) := by
    rw [fieldWord_append_right (by omega), capacities]
  simp only [markTail, e, List.append_assoc]
  refine ⟨?_, ?_, ?_, ?_, ?_, ?_, ?_⟩
  · rw [fieldNat_here]
    exact Nat.mod_eq_of_lt number
  · simp (disch := decide) only [fieldWord_skip, fieldWord_here, Nat.reduceSub]
  · simp (disch := decide) only [fieldWord_skip, fieldWord_here, Nat.reduceSub]
  · simp (disch := decide) only [fieldWord_skip, fieldWord_here, Nat.reduceSub]
  · simp (disch := decide) only [fieldNat_skip, fieldNat_here, Nat.reduceSub, Nat.reducePow]
    exact Nat.mod_eq_of_lt (by omega)
  · simp (disch := decide) only [fieldNat_skip, skip, fieldNat_here, Nat.reduceSub, Nat.reducePow]
    exact Nat.mod_eq_of_lt (by omega)
  · simp (disch := decide) only [fieldWord_skip, skipWord, fieldWord_here, Nat.reduceSub]

theorem markHead_length (few : t.capacities.length ≤ 8) : (markHead t).length = 49 := by
  rw [markHead, withCrc_length, markHeadBody_eq, List.length_cons, List.length_cons, markTail_length few]

theorem fieldNat_second {x y : Byte} {b : List Byte} {off size : Nat} : fieldNat (x :: y :: b) (off + 2) size = fieldNat b off size := by
  rw [fieldNat_tail, fieldNat_tail]

theorem fieldWord_second {x y : Byte} {b : List Byte} {off : Nat} : fieldWord (x :: y :: b) (off + 2) = fieldWord b off := by
  rw [fieldWord, fieldNat_second, fieldWord]

/-- R193: the marker's head reads back while OPEN. -/
theorem markerOf_markHead (number : t.number < 4294967296) (few : t.capacities.length ≤ 8) (lines : t.lines.length ≤ 8)
    (rest : List Byte) : markerOf (markHead t ++ rest) = some
      { head := markHead t, number := t.number, permit := t.permit, driver := t.driver, tanker := t.tanker, flags := t.flags
        startTime := t.startTime, count := t.lines.length } := by
  have head : (markHead t ++ rest).take 49 = markHead t := List.take_left' (markHead_length few)
  have check : crcOk (markHead t) 49 = true := by
    have length := markHead_length few
    rw [markHead, withCrc_length] at length
    exact crcOk_withCrc length.symm
  obtain ⟨c, layout⟩ : ∃ c, markHead t ++ rest = 0x4D :: 1 :: (markTail t ++ (beBytes 2 c ++ rest)) := by
    rw [markHead, withCrc]
    generalize crc16 _ = c
    exact ⟨c, by rw [markHeadBody_eq, List.cons_append, List.cons_append, List.cons_append, List.cons_append, List.append_assoc]; rfl⟩
  obtain ⟨f2, f6, f10, f14, f25, f42, f43⟩ := markTail_fields number few lines (beBytes 2 c ++ rest)
  have tag : fieldNat (markHead t ++ rest) 0 1 = 0x4D := by rw [layout, fieldNat_head]; rfl
  have state : fieldNat (markHead t ++ rest) 1 1 = 1 := by rw [layout, fieldNat_tail, fieldNat_head]; rfl
  unfold markerOf
  rw [head, if_pos ⟨tag, check, state⟩, layout]
  rw [fieldNat_second (off := 0), fieldWord_second (off := 4), fieldWord_second (off := 8), fieldWord_second (off := 12),
    fieldNat_second (off := 23), fieldNat_second (off := 40), fieldWord_second (off := 41), f2, f6, f10, f14, f25, f42, f43,
    tripFlagsOf_tripFlagByte, Nat.min_eq_right lines]

/-- R193: the head with state CLOSED has the same content otherwise. -/
theorem closeHead_markHead (few : t.capacities.length ≤ 8) : closeHead (markHead t) = withCrc (markHeadBody false t) := by
  have length := markTail_length few
  have body : (markHead t).take 47 = 0x4D :: 1 :: markTail t := by
    rw [markHead, withCrc, markHeadBody_eq]
    exact List.take_left' (by rw [List.length_cons, List.length_cons, length])
  have first : (markHead t).take 1 = [0x4D] := by
    rw [markHead, withCrc, markHeadBody_eq]
    rfl
  rw [closeHead, body, first, markHeadBody_eq]
  rfl

theorem markerOf_closeHead (few : t.capacities.length ≤ 8) (rest : List Byte) : markerOf (closeHead (markHead t) ++ rest) = none := by
  have state : fieldNat (closeHead (markHead t) ++ rest) 1 1 = 2 := by
    rw [closeHead_markHead few, withCrc, markHeadBody_eq, List.cons_append, List.cons_append, List.cons_append, List.cons_append,
      fieldNat_tail, fieldNat_head]
    rfl
  unfold markerOf
  rw [if_neg fun h => ?_]
  obtain ⟨-, -, is⟩ := h
  rw [state] at is
  cases is

theorem closeHead_getElem? (few : t.capacities.length ≤ 8) {k : Nat} (ne : k ≠ 1) (inside : k < 47) :
    (closeHead (markHead t))[k]? = (markHead t)[k]? := by
  have length := markTail_length few
  have long (x : Byte) (c : Nat) : ((0x4D :: x :: markTail t) ++ beBytes 2 c)[k]? = (0x4D :: x :: markTail t)[k]? :=
    List.getElem?_append_left (by rw [List.length_cons, List.length_cons, length]; exact inside)
  rw [closeHead_markHead few, markHead, withCrc, withCrc, markHeadBody_eq, markHeadBody_eq, long, long]
  match k, ne with
  | 0, _ => rfl
  | k + 2, _ => rfl

end

/-! ### The marker's order lines (Table 12-11) -/

/-- The mandatory flags of a line's dose entries, as their bits. -/
theorem mandatory_sum (doses : List DoseEntry) : (doses.zipIdx.map fun (d, k) => bit d.mandatory k).sum =
    bitsWord (doses.map (·.mandatory)) := by
  have from_ : ∀ (l : List DoseEntry) (start : Nat), ((l.zipIdx start).map fun (d, k) => bit d.mandatory k).sum =
      2 ^ start * bitsWord (l.map (·.mandatory)) := by
    intro l
    induction l with
    | nil => exact fun _ => rfl
    | cons d rest ih =>
      intro start
      rw [List.zipIdx_cons, List.map_cons, List.sum_cons, ih, List.map_cons, bitsWord]
      dsimp only
      rw [bit_eq, pow_succ]
      ring
  rw [from_, Nat.pow_zero, Nat.one_mul]

theorem markLine_length {l : OrderLine} (few : l.doses.length ≤ 3) : (markLine l).length = 13 := by
  have doses := length_flatMap_const (f := fun d => beBytes 2 (doseWord d)) (l := l.doses) fun d _ => beBytes_length 2 _
  simp only [markLine, List.length_append, beBytes_length, doses, List.length_replicate]
  omega

/-- The values of an order line fit their fields. -/
def OrderLine.Fits (l : OrderLine) : Prop :=
  l.compartment < 256 ∧ l.product < 256 ∧ l.preset < 65536 ∧ l.recipe < 256 ∧ l.doses.length ≤ 3 ∧ ∀ d ∈ l.doses, d.ratio < 8192

/-- The number of a line's lane, 0 for none. -/
def OrderLine.laneCode (l : OrderLine) : Nat :=
  match l.lane with
  | none => 0
  | some i => i.val + 1

theorem laneCode_le (l : OrderLine) : l.laneCode ≤ 4 := by
  unfold OrderLine.laneCode
  split <;> omega

theorem lane_of_code (l : OrderLine) : (match l.laneCode with
    | 1 => some 0
    | 2 => some 1
    | 3 => some 2
    | 4 => some 3
    | _ => (none : Option LaneNo)) = l.lane := by
  unfold OrderLine.laneCode
  cases l.lane with
  | none => rfl
  | some i =>
    match i with
    | 0 | 1 | 2 | 3 => rfl

/-- The code of a line's lane, its number of dose entries and their mandatory flags in one byte. -/
def OrderLine.doseByte (l : OrderLine) : Nat := l.laneCode * 32 + l.doses.length * 8 + bitsWord (l.doses.map (·.mandatory))

theorem doseByte_parts {l : OrderLine} (few : l.doses.length ≤ 3) : l.doseByte < 256 ∧ l.doseByte / 32 = l.laneCode ∧
    l.doseByte / 8 % 4 = l.doses.length ∧ ∀ k < l.doses.length, hasBit l.doseByte k = (l.doses.map (·.mandatory)).getD k false := by
  have lane := laneCode_le l
  have bits : bitsWord (l.doses.map (·.mandatory)) < 8 := by
    have lt := bitsWord_lt (l.doses.map (·.mandatory))
    rw [List.length_map] at lt
    exact Nat.lt_of_lt_of_le lt (Nat.pow_le_pow_right (by decide) few)
  refine ⟨by unfold OrderLine.doseByte; omega, by unfold OrderLine.doseByte; omega, by unfold OrderLine.doseByte; omega, fun k lt => ?_⟩
  rw [← hasBit_bitsWord, hasBit, hasBit]
  have three : k < 3 := Nat.lt_of_lt_of_le lt few
  unfold OrderLine.doseByte
  match k, three with
  | 0, _ | 1, _ | 2, _ =>
    simp only [Nat.reducePow]
    congr 1
    omega

/-- The parts of an order line's bytes. -/
theorem markLine_eq (l : OrderLine) : markLine l = beBytes 1 l.compartment ++ (beBytes 1 l.product ++ (beBytes 2 l.preset ++
    (beBytes 1 l.recipe ++ (beBytes 1 l.doseByte ++ (beBytes 1 (bit l.clamped 7 + markStatus l.status % 128) ++
    (l.doses.flatMap (fun d => beBytes 2 (doseWord d)) ++ List.replicate (6 - 2 * l.doses.length) 0)))))) := by
  simp only [markLine, mandatory_sum, OrderLine.doseByte, OrderLine.laneCode, List.append_assoc] <;> rfl

theorem doseWord_parts {d : DoseEntry} (ratio : d.ratio < 8192) :
    doseWord d < 65536 ∧ doseWord d % 8192 = d.ratio ∧ Fin.ofNat 8 (doseWord d / 8192) = d.injector := by
  have injector := d.injector.isLt
  unfold doseWord
  refine ⟨by omega, by omega, Fin.ext ?_⟩
  rw [Fin.val_ofNat]
  omega

theorem markLine_fields {l : OrderLine} (fits : l.Fits) :
    fieldNat (markLine l) 0 1 = l.compartment ∧ fieldNat (markLine l) 1 1 = l.product ∧ fieldNat (markLine l) 2 2 = l.preset ∧
    fieldNat (markLine l) 4 1 = l.recipe ∧ fieldNat (markLine l) 5 1 = l.doseByte ∧
    fieldNat (markLine l) 6 1 = bit l.clamped 7 + markStatus l.status % 128 ∧
    ∀ (k : Nat) (d : DoseEntry), l.doses[k]? = some d → fieldNat (markLine l) (7 + 2 * k) 2 = doseWord d := by
  obtain ⟨compartment, product, preset, recipe, few, ratios⟩ := fits
  have dose_byte := (doseByte_parts few).1
  have status : bit l.clamped 7 + markStatus l.status % 128 < 256 := by
    rw [bit_eq]
    have := Bool.toNat_lt l.clamped
    omega
  rw [markLine_eq]
  refine ⟨?_, ?_, ?_, ?_, ?_, ?_, fun k d e => ?_⟩
  case refine_7 =>
    have inside : k < l.doses.length := (List.getElem?_eq_some_iff.mp e).1
    have item := fieldNat_flatMap (f := fun d => beBytes 2 (doseWord d)) (k := 2) (off := 0) (size := 2) (by decide)
      (fun d _ => beBytes_length 2 _) e
    have items := length_flatMap_const (f := fun d => beBytes 2 (doseWord d)) (l := l.doses) fun d _ => beBytes_length 2 _
    rw [fieldNat_last] at item
    rw [fieldNat_skip (by omega), fieldNat_skip (by omega), fieldNat_skip (by omega), fieldNat_skip (by omega),
      fieldNat_skip (by omega), fieldNat_skip (by omega), show 7 + 2 * k - 1 - 1 - 2 - 1 - 1 - 1 = 2 * k + 0 by omega,
      fieldNat_append_left (by rw [items]; omega), item]
    exact Nat.mod_eq_of_lt (doseWord_parts (ratios d (List.mem_of_getElem? e))).1
  all_goals
    simp (disch := decide) only [fieldNat_skip, fieldNat_here, Nat.reduceSub, Nat.reducePow]
    exact Nat.mod_eq_of_lt (by assumption)

/-- The status byte of an order line. -/
theorem statusByte_parts (l : OrderLine) : (bit l.clamped 7 + markStatus l.status % 128) % 128 = markStatus l.status % 128 ∧
    hasBit (bit l.clamped 7 + markStatus l.status % 128) 7 = l.clamped := by
  rw [bit_eq, hasBit]
  cases l.clamped
  · simp only [Bool.toNat_false, Nat.zero_mul, Nat.zero_add]
    refine ⟨by omega, ?_⟩
    simp only [beq_eq_false_iff_ne]
    omega
  · simp only [Bool.toNat_true, Nat.one_mul]
    refine ⟨by omega, ?_⟩
    simp only [beq_iff_eq]
    omega

/-- Table 12-11: an order line reads back from its place on the page. -/
theorem markLineOf_fields {l : OrderLine} {page : List Byte} {k : Nat} (fits : l.Fits)
    (each : ∀ o size, o + size ≤ 13 → fieldNat page (5 + 13 * k + o) size = fieldNat (markLine l) o size)
    (status : (if markStatus l.status % 128 = 0 then LineStatus.waiting else .refused (lineRefusalOf (markStatus l.status % 128))) =
      l.status) : markLineOf page k = { l with record := none } := by
  obtain ⟨f0, f1, f2, f4, f5, f6, doses⟩ := markLine_fields fits
  obtain ⟨-, -, -, -, few, ratios⟩ := fits
  obtain ⟨-, lane, count, mandatory⟩ := doseByte_parts few
  obtain ⟨code, clamped⟩ := statusByte_parts l
  have r0 := (each 0 1 (by decide)).trans f0
  rw [Nat.add_zero] at r0
  have entries : ((List.range l.doses.length).map fun j =>
      ({ injector := Fin.ofNat 8 (fieldNat page (5 + 13 * k + 7 + 2 * j) 2 / 8192)
         ratio := fieldNat page (5 + 13 * k + 7 + 2 * j) 2 % 8192
         mandatory := hasBit l.doseByte j } : DoseEntry)) = l.doses := by
    refine List.ext_getElem (by simp) fun j _ lt => ?_
    have item := doses j l.doses[j] (List.getElem?_eq_getElem lt)
    have word : fieldNat page (5 + 13 * k + 7 + 2 * j) 2 = doseWord l.doses[j] := by
      rw [Nat.add_assoc (5 + 13 * k), each (7 + 2 * j) 2 (by omega), item]
    obtain ⟨-, ratio, injector⟩ := doseWord_parts (ratios l.doses[j] (List.getElem_mem lt))
    have mark := mandatory j lt
    rw [List.getD_eq_getElem _ _ (by rwa [List.length_map]), List.getElem_map] at mark
    rw [List.getElem_map, List.getElem_range, word, ratio, injector, mark]
  unfold markLineOf
  simp only [r0, (each 1 1 (by decide)).trans f1, (each 2 2 (by decide)).trans f2, (each 4 1 (by decide)).trans f4,
    (each 5 1 (by decide)).trans f5, (each 6 1 (by decide)).trans f6, lane, count, entries, code, clamped, status]
  have back := lane_of_code l
  cases l
  simp only [OrderLine.mk.injEq, true_and, and_true] at back ⊢
  exact back

section

variable {t : Trip}

/-- The parts of the marker's page of order lines. -/
theorem markLines_eq (t : Trip) : ∃ c, markLines t = beBytes 1 0x4C ++ (beBytes 4 t.number ++ (t.lines.flatMap markLine ++
    (List.replicate (104 - 13 * t.lines.length) 0 ++ beBytes 2 c))) := by
  rw [markLines, withCrc]
  generalize crc16 _ = c
  exact ⟨c, by simp only [List.append_assoc]⟩

theorem markLines_length (few : t.lines.length ≤ 8) (fits : ∀ l ∈ t.lines, l.Fits) : (markLines t).length = 111 := by
  have items := length_flatMap_const (f := markLine) (l := t.lines) fun l mem => by
    obtain ⟨-, -, -, -, doses, -⟩ := fits l mem
    exact markLine_length doses
  obtain ⟨c, layout⟩ := markLines_eq t
  rw [layout]
  simp only [List.length_append, beBytes_length, items, List.length_replicate]
  omega

/-- R193: the page of order lines is valid and of its trip. -/
theorem markLinesOk_markLines (number : t.number < 4294967296) (few : t.lines.length ≤ 8) (fits : ∀ l ∈ t.lines, l.Fits)
    (rest : List Byte) : markLinesOk t.number (markLines t ++ rest) = true := by
  have length := markLines_length few fits
  have check : crcOk ((markLines t ++ rest).take 111) 111 = true := by
    rw [List.take_left' length]
    rw [markLines] at length ⊢
    rw [withCrc_length] at length
    exact crcOk_withCrc length.symm
  obtain ⟨c, layout⟩ := markLines_eq t
  have tag : fieldNat (markLines t ++ rest) 0 1 = 0x4C := by
    rw [layout, List.append_assoc, fieldNat_here]
    rfl
  have own : fieldNat (markLines t ++ rest) 1 4 = t.number := by
    rw [layout, List.append_assoc, List.append_assoc, fieldNat_skip (by decide), fieldNat_here]
    exact Nat.mod_eq_of_lt number
  rw [markLinesOk, tag, own, check, beq_self_eq_true, beq_self_eq_true]
  rfl

/-- R193: an order line of the marker reads back. -/
theorem markLineOf_markLines (fits : ∀ l ∈ t.lines, l.Fits) (rest : List Byte) {k : Nat} {l : OrderLine} (at_k : t.lines[k]? = some l)
    (status : (if markStatus l.status % 128 = 0 then LineStatus.waiting else .refused (lineRefusalOf (markStatus l.status % 128))) =
      l.status) : markLineOf (markLines t ++ rest) k = { l with record := none } := by
  have each : ∀ m ∈ t.lines, (markLine m).length = 13 := fun m mem => by
    obtain ⟨-, -, -, -, doses, -⟩ := fits m mem
    exact markLine_length doses
  have items := length_flatMap_const (f := markLine) (l := t.lines) each
  have inside : k < t.lines.length := (List.getElem?_eq_some_iff.mp at_k).1
  obtain ⟨c, layout⟩ := markLines_eq t
  refine markLineOf_fields (fits l (List.mem_of_getElem? at_k)) (fun o size le => ?_) status
  rw [layout, List.append_assoc, List.append_assoc, List.append_assoc, fieldNat_skip (by omega), fieldNat_skip (by omega),
    fieldNat_append_left (by rw [items]; omega), show 5 + 13 * k + o - 1 - 4 = 13 * k + o by omega,
    fieldNat_flatMap le each at_k]

theorem status_waiting {l : OrderLine} (waiting : l.status = .waiting) :
    (if markStatus l.status % 128 = 0 then LineStatus.waiting else .refused (lineRefusalOf (markStatus l.status % 128))) = l.status := by
  rw [waiting]
  rfl

theorem status_refused {l : OrderLine} {r : LineRefusal} (refused : l.status = .refused r) (known : ∀ n, r ≠ .other n) :
    (if markStatus l.status % 128 = 0 then LineStatus.waiting else .refused (lineRefusalOf (markStatus l.status % 128))) = l.status := by
  obtain ⟨back, low, high⟩ := lineRefusalOf_code known
  rw [refused]
  change (if lineRefusalCode r % 128 = 0 then LineStatus.waiting else .refused (lineRefusalOf (lineRefusalCode r % 128))) = _
  rw [Nat.mod_eq_of_lt (by omega), if_neg (by omega), back]

end

end Sys2Proof.Machine
end

section
/-! PROOFS. The store port while a request is in flight, and the first page write of the next request (O55). -/

namespace Sys2Proof.Machine

/-! ### A request in flight stays through the reports at the end of an event -/

/-- The store port without what offers change while a request is in flight. -/
def Stp.unoffered (p : Stp) : Stp := { p with queue := [], departed := false }

/-- A request is in flight, and the store port is as given but for the queue and the report of a free slot. -/
def Flies (p : Stp) (s : State) : Prop := s.stp.flight.isSome = true ∧ s.stp.unoffered = p

theorem flies_of_stp {p : Stp} {s t : State} (same : t.stp = s.stp) (flies : Flies p s) : Flies p t := by
  rwa [Flies, same]

theorem enqueue_flies {p : Stp} {q : QItem} {s t : State} {b : Bool} (offer : enqueue q s = (b, t)) (flies : Flies p s) :
    Flies p t := by
  unfold enqueue at offer
  repeat' split at offer
  all_goals obtain ⟨-, rfl⟩ := Prod.mk.inj offer
  · exact flies
  · rw [startNext_busy _ (by exact flies.1)]
    exact flies
  · exact flies

theorem primingCheck_stp (i : LaneNo) (s : State) : (primingCheck i s).stp = s.stp := by rw [primingCheck_eq]; rfl

theorem offerTotal_flies {p : Stp} {s : State} (i : LaneNo) (gross std : Word48) (flies : Flies p s) :
    Flies p (offerTotal i gross std s) := by
  unfold offerTotal
  split
  · rename_i t offer
    have flown := enqueue_flies offer flies
    exact flies_of_stp (primingCheck_stp ..) flown
  · rename_i t offer
    have flown := enqueue_flies offer flies
    exact flown

theorem offerAfter_flies {p : Stp} {s : State} (i : LaneNo) (flies : Flies p s) : Flies p (offerAfter i s) := by
  unfold offerAfter offerWaiting
  split
  · split
    · split
      · rename_i offer
        exact offerTotal_flies _ _ _ (enqueue_flies offer flies)
      · rename_i offer
        exact enqueue_flies offer flies
    · exact offerTotal_flies _ _ _ flies
    · exact flies
  · exact flies

theorem foldl_offerAfter_flies {p : Stp} : ∀ (l : List LaneNo) {s : State}, Flies p s →
    Flies p (l.foldl (fun t i => offerAfter i t) s)
  | [], _, flies => flies
  | i :: rest, _, flies => foldl_offerAfter_flies rest (offerAfter_flies i flies)

theorem pctFreeSlot_flies {p : Stp} : ∀ (n : Nat) {s : State}, Flies p s → Flies p (pctFreeSlot n s)
  | 0, _, flies => flies
  | n + 1, _, flies => by
    unfold pctFreeSlot
    split
    · exact flies
    · split
      · rename_i offer
        have flown := enqueue_flies offer flies
        exact pctFreeSlot_flies n flown
      · rename_i offer
        exact enqueue_flies offer flies

theorem offerPages_flies {p : Stp} : ∀ (n : Nat) {s : State}, Flies p s → Flies p (offerPages n s)
  | 0, _, flies => flies
  | n + 1, _, flies => by
    unfold offerPages
    split
    · exact flies
    · split
      · split
        · rename_i offer
          have flown := enqueue_flies offer flies
          exact offerPages_flies n flown
        · rename_i offer
          exact enqueue_flies offer flies
      · exact flies

theorem offerStatuses_flies {p : Stp} : ∀ (n : Nat) {s : State}, Flies p s → Flies p (offerStatuses n s)
  | 0, _, flies => flies
  | n + 1, _, flies => by
    unfold offerStatuses
    split
    · exact flies
    · split
      · rename_i offer
        have flown := enqueue_flies offer flies
        exact offerStatuses_flies n flown
      · rename_i offer
        exact enqueue_flies offer flies

theorem sulFreeSlot_flies {p : Stp} : ∀ (n : Nat) {s : State}, Flies p s → Flies p (sulFreeSlot n s)
  | 0, _, flies => flies
  | n + 1, _, flies => by
    unfold sulFreeSlot
    split
    · exact flies
    · split
      · rename_i offer
        have flown := enqueue_flies offer flies
        exact sulFreeSlot_flies n flown
      · rename_i offer
        exact enqueue_flies offer flies

theorem reportFreeSlot_flies {p : Stp} {s : State} (flies : Flies p s) : Flies p (reportFreeSlot s) := by
  unfold reportFreeSlot
  split
  · exact sulFreeSlot_flies _ (offerStatuses_flies _ (offerPages_flies _ (pctFreeSlot_flies _
      (foldl_offerAfter_flies allLanes (s := s.modStp fun p => { p with departed := false }) flies))))
  · exact flies

theorem recoveryNote_flies {p : Stp} {s : State} (flies : Flies p s) : Flies p (recoveryNote s) := by
  unfold recoveryNote
  split
  · exact flies
  · split
    · refine offerPages_flies (p := p) _ ?_
      exact flies
    · exact flies

theorem lif_of_unstored' {s t : State} (same : t.unstored = s.unstored) : t.lif = s.lif := by
  have part := congrArg State.lif same
  exact part

/-- The reports at the end of an event, with no report of room due, leave the request in flight. -/
theorem reports_flies {u : State} (room : u.lif.roomFreed = false) (flies : u.stp.flight.isSome = true) :
    Flies u.stp.unoffered (reports u) := by
  have first := recoveryNote_flies (reportFreeSlot_flies (p := u.stp.unoffered) ⟨flies, rfl⟩)
  have second := reportFreeSlot_flies first
  have lif : (reportFreeSlot (recoveryNote (reportFreeSlot u))).lif.roomFreed = false := by
    rw [lif_of_unstored' ((reportFreeSlot_unstored _).trans ((recoveryNote_unstored _).trans (reportFreeSlot_unstored u))), room]
  have none : reportRoom (reportFreeSlot (recoveryNote (reportFreeSlot u))) = reportFreeSlot (recoveryNote (reportFreeSlot u)) := by
    rw [reportRoom, if_neg (by rw [lif]; decide)]
  rw [reports, none]
  exact second

theorem settle_stp_kick (u : State) : (settle u).stp = (portKick (refreshLamps (idleTimer (reports u)))).stp := rfl

theorem kicked_now (u : State) : (refreshLamps (idleTimer (reports u))).now = u.now := by
  have same := settle_now u
  rw [settle_eq] at same
  have kick (s : State) : (portKick s).now = s.now := by
    unfold portKick
    repeat' split
    all_goals rfl
  rwa [kick] at same

section

variable {u : State} (room : u.lif.roomFreed = false) (idle : u.stp.port = .idle)

include room idle

/-- R188: with no read waiting, the first page write of the request in flight begins. -/
theorem settle_begins {f : Flight} {w : PageWrite} (flight : u.stp.flight = some f) (first : f.steps.head? = some w)
    (reads : u.stp.reads = []) : (settle u).stp.port = .writing w (u.now + 5000) ∧ (settle u).stp.flight = some f := by
  obtain ⟨-, same⟩ := reports_flies room (by rw [flight]; rfl)
  have stp : (refreshLamps (idleTimer (reports u))).stp.unoffered = u.stp.unoffered := by
    rw [refreshLamps_stp, idleTimer_stp, same]
  have now := kicked_now u
  rw [settle_stp_kick]
  generalize refreshLamps (idleTimer (reports u)) = v at stp now
  have port : v.stp.port = .idle := (congrArg Stp.port stp).trans idle
  have none : v.stp.reads = [] := (congrArg Stp.reads stp).trans reads
  have own : v.stp.flight = some f := (congrArg Stp.flight stp).trans flight
  have kick : portKick v = v.modStp fun p => { p with port := .writing w (v.now + Config.writeTime) } := by
    rw [portKick, port, none, own]
    simp only [Option.bind_some, first]
  rw [kick, ← now]
  exact ⟨rfl, own⟩

/-- R188, R196: a request in flight with no page write yet has its read begun. -/
theorem settle_begins_read {f : Flight} {r : ReadReq} (flight : u.stp.flight = some f) (no_step : f.steps = [])
    (reads : u.stp.reads = [r]) : (settle u).stp.port = .reading r := by
  obtain ⟨-, same⟩ := reports_flies room (by rw [flight]; rfl)
  have stp : (refreshLamps (idleTimer (reports u))).stp.unoffered = u.stp.unoffered := by
    rw [refreshLamps_stp, idleTimer_stp, same]
  rw [settle_stp_kick]
  generalize refreshLamps (idleTimer (reports u)) = v at stp
  have port : v.stp.port = .idle := (congrArg Stp.port stp).trans idle
  have alone : v.stp.reads = [r] := (congrArg Stp.reads stp).trans reads
  have own : v.stp.flight = some f := (congrArg Stp.flight stp).trans flight
  have kick : portKick v = v.modStp fun p => { p with reads := [], port := .reading r } := by
    rw [portKick, port, alone, own]
    simp only [Option.bind_some, no_step, List.head?_nil]
  rw [kick]
  rfl

end

/-! ### The next request after one is done (R189) -/

/-- The state in which the next request has left the queue. -/
def State.nextRequest (s : State) (q : QItem) (rest : List QItem) : State :=
  s.modStp fun p => { p with queue := rest, flight := some (flightOf p.copies q), departed := true }

theorem reportDone_plain {q : QItem} (s : State) (plain : ∀ n p b, q.req ≠ .notePage n p b) :
    ∃ r, reportDone q s = s.modSul fun u => { u with recovery := r } := by
  cases e : q.req with
  | notePage n p b => exact absurd e (plain n p b)
  | markClosed head =>
    unfold reportDone
    rw [e]
    dsimp only
    split
    · exact ⟨.complete, rfl⟩
    · exact ⟨s.sul.recovery, rfl⟩
  | _ =>
    unfold reportDone
    rw [e]
    exact ⟨s.sul.recovery, rfl⟩

theorem recordCopy_plain {req : WriteReq} (s : State) (plain : ∀ l g x, req ≠ .total l g x) : recordCopy req s = s := by
  cases req with
  | total l g x => exact absurd rfl (plain l g x)
  | _ => rfl

theorem stepDone_next {s : State} {f : Flight} {q : QItem} {rest : List QItem} (flight : s.stp.flight = some f)
    (last : f.steps.tail = []) (no_page : ∀ n p b, f.item.req ≠ .notePage n p b) (no_total : ∀ l g x, f.item.req ≠ .total l g x)
    (queue : s.stp.queue = q :: rest) :
    ∃ r, stepDone s = askStatusRead q ((s.modSul fun u => { u with recovery := r }).nextRequest q rest) := by
  obtain ⟨r, e⟩ := reportDone_plain (q := f.item) s no_page
  refine ⟨r, ?_⟩
  rw [stepDone, flight]
  dsimp only
  rw [if_pos last, recordCopy_plain s no_total, e, flightDone, startNext]
  have next : ((s.modSul fun u => { u with recovery := r }).modStp fun p => { p with flight := none }).stp.queue = q :: rest := queue
  rw [next]
  rfl

/-- R187, R194, R196: what the store port begins when the next request leaves the queue. -/
theorem nextRequest_begins {s : State} {q : QItem} {rest : List QItem} (room : s.lif.roomFreed = false) (idle : s.stp.port = .idle)
    (reads : s.stp.reads = []) {t : State} (answer : t = settle (askStatusRead q (s.nextRequest q rest))) :
    let begins (page offset : Nat) (bytes : List Byte) : Prop := t.stp.port = .writing ⟨page, offset, bytes⟩ (s.now + 5000)
    match q.req with
    | .checkpoint line record => begins (69 + line) 0 record
    | .total lane g x =>
      begins (64 + lane.val) (if s.stp.copies[lane].isB then 0 else 64) (totalsBytes lane (s.stp.copies[lane].count + 1) g x)
    | .markOpen lines head => begins 69 0 lines ∧ ∃ f', t.stp.flight = some f' ∧ f'.steps = [⟨69, 0, lines⟩, ⟨68, 0, head⟩]
    | .markClosed head => begins 68 0 head
    | .notePage note page bytes => begins (128 + 4 * (note % 240) + (page - 1)) 0 bytes
    | .noteStatus note _ _ => t.stp.port = .reading ⟨.noteStatus, 128 + 4 * (note % 240)⟩ := by
  subst answer
  obtain ⟨req, bySul⟩ := q
  have write {w : PageWrite} (no_read : askStatusRead ⟨req, bySul⟩ (s.nextRequest ⟨req, bySul⟩ rest) = s.nextRequest ⟨req, bySul⟩ rest)
      (first : (flightOf s.stp.copies ⟨req, bySul⟩).steps.head? = some w) :
      (settle (askStatusRead ⟨req, bySul⟩ (s.nextRequest ⟨req, bySul⟩ rest))).stp.port = .writing w (s.now + 5000) ∧
      (settle (askStatusRead ⟨req, bySul⟩ (s.nextRequest ⟨req, bySul⟩ rest))).stp.flight =
        some (flightOf s.stp.copies ⟨req, bySul⟩) := by
    rw [no_read]
    exact settle_begins (u := s.nextRequest ⟨req, bySul⟩ rest) room idle rfl first reads
  cases req with
  | checkpoint line record => exact (write rfl rfl).1
  | total lane g x => exact (write rfl rfl).1
  | markOpen lines head =>
    obtain ⟨port, flight⟩ := write rfl rfl
    exact ⟨port, _, flight, rfl⟩
  | markClosed head => exact (write rfl rfl).1
  | notePage note page bytes => exact (write rfl rfl).1
  | noteStatus note fld code =>
    have asked : (askStatusRead ⟨.noteStatus note fld code, bySul⟩ (s.nextRequest ⟨.noteStatus note fld code, bySul⟩ rest)).stp.reads =
        [⟨.noteStatus, slotPage (note % Config.noteSlots) 1⟩] := by
      change s.stp.reads ++ _ = _
      rw [reads]
      rfl
    exact settle_begins_read (u := askStatusRead ⟨.noteStatus note fld code, bySul⟩ (s.nextRequest _ rest)) room idle rfl rfl asked

/-- Table 12-8: an additive line as a checkpoint of a stage gives it back. -/
theorem checked_eq (stage : Nat) : AdditiveLine.checked (stage == 7) = fun a =>
    { injector := a.injector, ratio := a.ratio, mandatory := a.mandatory, totalDue := a.totalDue
      commanded := a.commanded, confirmed := a.confirmed, faultMark := a.faultMark, live := false
      result := if stage = 7 then some (a.result.getD ⟨0, 0, .ok⟩) else none } := by
  funext a
  simp only [AdditiveLine.checked, beq_iff_eq]

end Sys2Proof.Machine

open Sys2Proof Sys2Proof.Machine

/-- Settles O55, by the fields of each record and by the flight that the next request makes. -/
theorem recordBytes : Obligations.RecordBytes := by
  unfold Obligations.RecordBytes
  refine ⟨?_, ?_, fun lane count gross std head rest fits => totalsOf_totalsBytes lane gross std head rest fits, ?_⟩
  · intro number line stage suspend reason clamped r temp gross std number_fits low high known small_gross small_std corrected
      temp_low temp_high few fits faults
    rw [checkpointOf_checkpointBytes number_fits low high known small_gross small_std corrected temp_low temp_high few fits faults]
    rw [checked_eq]
  · intro t rest number capacities few fits
    refine ⟨markerOf_markHead number capacities few rest, markerOf_closeHead capacities rest,
      fun k ne inside => closeHead_getElem? capacities ne inside, markLinesOk_markLines number few fits rest,
      fun k l at_k => ⟨fun waiting => markLineOf_markLines fits rest at_k (status_waiting waiting),
        fun r refused known => markLineOf_markLines fits rest at_k (status_refused refused known)⟩⟩
  · intro s w due f q rest calm port inside flight last no_page no_total queue reads
    obtain ⟨r, e⟩ := stepDone_next (s := written w due s) flight last no_page no_total queue
    obtain ⟨⟨-, room⟩, -⟩ := calm
    refine ⟨_, exec_pageWriteComplete_inside port inside, ?_⟩
    exact nextRequest_begins (s := (written w due s).modSul fun u => { u with recovery := r }) room rfl reads (congrArg settle e)
end

section
/-! PROOFS. The note that a trip's entry to CLOSING begins (R23, R24, R170, R174). -/

namespace Sys2Proof.Machine

/-! ### The entry to CLOSING, away from the lanes, the lines' records and the Store Port -/

/-- What the ending of order lines leaves: the clock, the other blocks, and the trip but for its lines. -/
def State.afar (s : State) : Nat × Ilm × Lif × Ntb × Sul × Slot × Option Trip :=
  (s.now, s.ilm, s.lif, s.ntb, s.sul, s.pct.slot, s.pct.trip.map fun t => { t with lines := [] })

theorem afar_of_beyond {i : LaneNo} {s t : State} (same : t.beyond i = s.beyond i) : t.afar = s.afar := by
  have trip : t.pct.trip.map (fun x => { x with lines := [] }) = s.pct.trip.map fun x => { x with lines := [] } :=
    congrArg (·.pct.trip) same
  rw [State.afar, State.afar, now_of_beyond same, ilm_of_beyond same, lif_of_beyond same, ntb_of_beyond same,
    sul_of_beyond same, slot_of_beyond same, trip]

theorem closeLineOf_afar (k : Nat) (s : State) : (closeLineOf k s).afar = s.afar := by
  have ended : (s.modLine k fun x => { x with status := .ended .notLoaded }).afar = s.afar :=
    afar_of_beyond (modLine_beyond 0 s k _)
  unfold closeLineOf
  split
  · rfl
  · split
    · dsimp only
      split
      · exact ended
      · split
        · exact (afar_of_beyond (toIdle_beyond _ _)).trans ended
        · exact ended
    · exact afar_of_beyond (endSuspended_beyond _ _)
    · rfl

theorem foldl_closeLineOf_afar (l : List Nat) (s : State) : (l.foldl (fun t k => closeLineOf k t) s).afar = s.afar := by
  induction l generalizing s with
  | nil => rfl
  | cons k rest ih => rw [List.foldl_cons, ih, closeLineOf_afar]

/-- R24: the lines of a trip that has entered CLOSING are ended in card order. -/
def linesClosed (s : State) : State := (List.range s.lines.length).foldl (fun t k => closeLineOf k t) (closedTrip s)

theorem enterClosing_eq (s : State) : enterClosing s = tryBuild (linesClosed s) := rfl

theorem linesClosed_afar (s : State) : (linesClosed s).afar = (closedTrip s).afar := foldl_closeLineOf_afar _ _

section
variable {s t : State} (same : t.afar = s.afar)
include same

theorem ntb_of_afar : t.ntb = s.ntb := congrArg (·.2.2.2.1) same

theorem lif_of_afar : t.lif = s.lif := congrArg (·.2.2.1) same

theorem sul_of_afar : t.sul = s.sul := congrArg (·.2.2.2.2.1) same

theorem slot_of_afar : t.pct.slot = s.pct.slot := congrArg (·.2.2.2.2.2.1) same

theorem trip_of_afar : t.pct.trip.map (fun x => { x with lines := [] }) = s.pct.trip.map fun x => { x with lines := [] } :=
  congrArg (·.2.2.2.2.2.2) same

end

/-- R24: the trip after its entry to CLOSING is the trip before it with its end time, perhaps TIME-UNSET, and other lines. -/
theorem linesClosed_trip {s : State} {tr : Trip} (trip : s.pct.trip = some tr) :
    ∃ lines, (linesClosed s).pct.trip = some { tr with
      endTime := s.takeTime, flags := { tr.flags with timeUnset := tr.flags.timeUnset || !s.lif.timeSet }, lines := lines } := by
  have same := trip_of_afar (linesClosed_afar s)
  have closed : (closedTrip s).pct.trip = some { tr with
      endTime := s.takeTime, flags := { tr.flags with timeUnset := tr.flags.timeUnset || !s.lif.timeSet } } := by
    change (s.pct.trip).map _ = _
    rw [trip]
    rfl
  rw [closed] at same
  obtain ⟨t, isTrip, eq⟩ := Option.map_eq_some_iff.1 same
  exact ⟨t.lines, isTrip.trans (congrArg (fun x : Trip => some { x with lines := t.lines }) eq)⟩

/-! ### The event, and the note it begins -/

/-- R23, R24, R40: a STOP with no lane flowing or closing and the expiry of the trip idle timer, in RELEASED, enter CLOSING. -/
theorem exec_closes {c : Instr} {s : State} {now : Nat} (done : s.sul.done = true) (slot : s.pct.slot = .released)
    (ends : c = .stop ∧ s.ilm.stopKey = false ∧ now = s.now ∧ s.anyFlowing = false ∧ s.anyClosing = false ∨
      ∃ d, c = .tripIdleTimerExpiry ∧ s.pct.idleTimer = some d ∧ now = max s.now d) :
    ∃ key, exec c s = finish (enterClosing { s with now := now, ilm := { s.ilm with stopKey := key } }) := by
  obtain ⟨rfl, key, rfl, still, unclosing⟩ | ⟨d, rfl, running, rfl⟩ := ends
  · exact ⟨true, by rw [exec_stop done key, stopEffect_of_still (s := pressStop s) slot still unclosing]; rfl⟩
  · refine ⟨s.ilm.stopKey, ?_⟩
    have answer : exec .tripIdleTimerExpiry s = finish (idleEnd (s.reach d)) := onExpiry_some running _ s
    rw [answer, idleEnd, if_pos (by exact slot)]
    rfl

/-- R170, R174: the note of a trip. -/
def tripNote (t : Trip) (number station : Nat) (totals : LaneNo → Word48 × Word48) : Build where
  image := noteImage (tripHead t number station) t.lines totals stampPending printQueued
  number := number
  pages := pagesOf (noteLength t.lines)
  recovered := false
  permit := t.permit
  endTime := t.endTime
  loaded := (t.lines.filter (·.record.isSome)).length

theorem tryBuild_begins {s : State} {t : Trip} (trip : s.pct.trip = some t) (idle : s.ntb.build = none)
    (closing : s.pct.slot = .closing) (finished : s.allFinished = true) :
    (tryBuild s).noted = (some (tripNote t s.ntb.next s.lif.station s.totals), s.sul.recovery) := by
  unfold tryBuild
  rw [trip, idle]
  dsimp only
  rw [if_pos ⟨closing, finished⟩]
  unfold beginNote
  rw [offerPages_noted]
  rfl

theorem totals_of_steady {s t : State} (same : t.steady = s.steady) : t.totals = s.totals := by
  funext i
  have lane : (t.lane i).steady = (s.lane i).steady := by
    have lanes : (t.lanes.map Lane.steady)[i] = (s.lanes.map Lane.steady)[i] := congrArg (fun u : State => u.lanes[i]) same
    rw [Fin.getElem_fin, Fin.getElem_fin, Vector.getElem_map, Vector.getElem_map] at lanes
    exact lanes
  have ven : (t.lane i).steady.ven = (s.lane i).steady.ven := by rw [lane]
  exact congrArg (fun v : Ven => (v.totGross, v.totStd)) ven

/-- R23, R24, R174: at the end of the event the note is being built just when every line is ENDED or REFUSED. -/
theorem settle_enterClosing_note {s : State} {tr : Trip} (trip : s.pct.trip = some tr) (calm : s.sul.recovery ≠ .offering)
    (idle : s.ntb.build = none) :
    ∃ tr', (settle (enterClosing s)).pct.trip = some tr' ∧
      tr' = { tr with endTime := tr'.endTime, flags := tr'.flags, lines := tr'.lines } ∧
      ((settle (enterClosing s)).allFinished = false → (settle (enterClosing s)).ntb.build = none) ∧
      ((settle (enterClosing s)).allFinished = true → ∃ n, (settle (enterClosing s)).ntb.build =
        some { tripNote tr' s.ntb.next s.lif.station (settle (enterClosing s)).totals with accepted := n }) := by
  obtain ⟨lines, isTrip⟩ := linesClosed_trip trip
  have far := linesClosed_afar s
  rw [enterClosing_eq]
  have ntb := ntb_of_afar far
  have lif := lif_of_afar far
  have sul := sul_of_afar far
  have slot := slot_of_afar far
  generalize linesClosed s = w at isTrip far ntb lif sul slot
  have steady : (settle (tryBuild w)).steady = w.steady := (settle_steady _).trans (tryBuild_steady w)
  have recovery : w.sul.recovery ≠ .offering := by rw [sul]; exact calm
  refine ⟨_, (trip_eq_of_steady steady).trans isTrip, rfl, fun not => ?_, fun finished => ?_⟩
  · rw [allFinished_of_steady steady] at not
    rw [tryBuild_of_unfinished not]
    exact noted_none (settle_noted recovery) (by rw [ntb]; exact idle)
  · rw [allFinished_of_steady steady] at finished
    have begun := tryBuild_begins isTrip (by rw [ntb]; exact idle) slot finished
    have kept := settle_noted (s := tryBuild w) (by rw [(noted_some begun).2]; exact recovery)
    obtain ⟨b, isBuild, same⟩ := (noted_some (kept.trans begun)).1
    rw [totals_of_steady steady]
    refine ⟨b.accepted, isBuild.trans (congrArg some ?_)⟩
    rw [ntb, lif] at same
    exact congrArg (fun x : Build => { x with accepted := b.accepted }) same

/-! ### The pages (R175) -/

theorem pageBytes_length (image : List Byte) (page : Nat) : (pageBytes image page).length = 128 := by
  simp only [pageBytes, field, List.length_append, List.length_replicate, List.length_take, List.length_drop]
  omega

theorem pageBytes_getElem? (image : List Byte) (page : Nat) {k : Nat} (lt : k < 128) :
    (pageBytes image page)[k]? = some ((image[128 * (page - 1) + k]?).getD 0) := by
  have field : (field image (128 * (page - 1)) 128)[k]? = image[128 * (page - 1) + k]? := by
    rw [field, List.getElem?_take_of_lt lt, List.getElem?_drop]
  have long := pageBytes_length image page
  rw [pageBytes, List.length_append, List.length_replicate] at long
  rw [pageBytes, List.getElem?_append]
  split
  · next here =>
    simp only [Machine.field, List.length_take, List.length_drop] at here
    rw [field, List.getElem?_eq_getElem (by omega)]
    rfl
  · next past =>
    have none : image[128 * (page - 1) + k]? = none := by rw [← field]; exact List.getElem?_eq_none (by omega)
    rw [none, List.getElem?_replicate, if_pos (by omega)]
    rfl

end Sys2Proof.Machine
end

section
/-! PROOFS. The bytes of a delivery note (Tables 12-5 to 12-7, R171 to R173, R212, R213). -/

namespace Sys2Proof.Machine

/-! ### An additive line (Table 12-7) -/

theorem noteAdditive_length (a : AdditiveLine) : (noteAdditive a).length = 10 := by simp [noteAdditive]

theorem noteAdditive_fields (a : AdditiveLine) {x : DoseResult} (result : a.result = some x) (ratio : a.ratio < 8192) :
    fieldNat (noteAdditive a) 0 2 = (if a.mandatory then 32768 else 0) + 8192 * doseStatusCode x.status + a.ratio ∧
    fieldNat (noteAdditive a) 2 4 = a.injector.val * 536870912 + min x.target 134217727 ∧
    fieldNat (noteAdditive a) 6 4 = min x.delivered 134217727 := by
  obtain ⟨-, code⟩ := doseStatusOf_code x.status
  have word : additiveWord a (doseStatusCode x.status) =
      (if a.mandatory then 32768 else 0) + 8192 * doseStatusCode x.status + a.ratio := by
    rw [additiveWord, bit_eq]
    cases a.mandatory <;> simp <;> omega
  obtain ⟨small, -⟩ := additiveWord_parts a code
  have injector := a.injector.isLt
  have fields : noteAdditive a = beBytes 2 (additiveWord a (doseStatusCode x.status)) ++
      (beBytes 4 (a.injector.val * 536870912 + min x.target 134217727) ++ beBytes 4 (min x.delivered 134217727)) := by
    rw [noteAdditive, result, List.append_assoc]
    rfl
  rw [fields, ← word]
  refine ⟨?_, ?_, ?_⟩
  · rw [fieldNat_here]
    exact Nat.mod_eq_of_lt (by omega)
  · simp (disch := decide) only [fieldNat_skip, fieldNat_here, Nat.reduceSub, Nat.reducePow]
    exact Nat.mod_eq_of_lt (by omega)
  · simp (disch := decide) only [fieldNat_skip, fieldNat_last, Nat.reduceSub, Nat.reducePow]
    exact Nat.mod_eq_of_lt (by omega)

/-! ### A compartment line (Table 12-6) -/

/-- The lane's number in a line's bytes, 0 for none. -/
def OrderLine.noteLane (l : OrderLine) : Nat := (l.lane.map fun i => i.val + 1).getD 0

/-- The weighted temperature in a line's bytes. -/
def OrderLine.noteTemp (l : OrderLine) : Nat := ((l.record.getD {}).weighted.map unsigned16).getD 0x8000

/-- The litres at the pulse fault in a line's bytes. -/
def OrderLine.faultLitres (l : OrderLine) : Nat :=
  ((l.record.getD {}).pulseFault.map fun f => saturate 16 (f.gross / 1000)).getD 0

/-- A line's bytes before its additive lines. -/
def noteLineHead (l : OrderLine) : List Byte :=
  let r := l.record.getD {}
  beBytes 1 l.compartment ++ (beBytes 1 l.product ++ (beBytes 1 (l.noteLane * 16 + saturate 4 (pulseCode r.pulseFault)) ++
  (beBytes 1 (saturate 6 (lineReasonCode l.status) * 4 + (additivesOf l).length) ++ (beBytes 2 l.preset ++
  (beBytes 4 (saturate 32 r.gross.toNat) ++ (beBytes 4 (saturate 32 r.std.toNat) ++ (beBytes 2 l.noteTemp ++
  (beBytes 2 (flagWord l.clamped r.flags) ++ (beBytes 2 r.corrected ++ beBytes 2 l.faultLitres)))))))))

theorem noteLine_eq (l : OrderLine) : noteLine l = noteLineHead l ++ (additivesOf l).flatMap noteAdditive := by
  have lane : (match l.lane with | none => 0 | some i => i.val + 1) = l.noteLane := by
    rw [OrderLine.noteLane]
    cases l.lane <;> rfl
  have temp : (match l.record with
      | none => 0x8000
      | some c => match c.weighted with | none => 0x8000 | some t => unsigned16 t) = l.noteTemp := by
    rw [OrderLine.noteTemp]
    cases l.record with
    | none => rfl
    | some c =>
      change (match c.weighted with | none => 0x8000 | some t => unsigned16 t) = (c.weighted.map unsigned16).getD 0x8000
      cases c.weighted <;> rfl
  have litres : (match (l.record.getD {}).pulseFault with | none => 0 | some f => saturate 16 (f.gross / 1000)) = l.faultLitres := by
    rw [OrderLine.faultLitres]
    cases (l.record.getD {}).pulseFault <;> rfl
  rw [← List.append_nil (noteLineHead l), noteLineHead, ← lane, ← temp, ← litres]
  simp only [noteLine, List.append_assoc, List.nil_append] <;> rfl

theorem noteLineHead_length (l : OrderLine) : (noteLineHead l).length = 22 := by simp [noteLineHead]

theorem noteLine_length (l : OrderLine) : (noteLine l).length = 22 + 10 * (additivesOf l).length := by
  rw [noteLine_eq, List.length_append, noteLineHead_length, length_flatMap_const fun a _ => noteAdditive_length a, Nat.mul_comm]

section

variable (l : OrderLine) (rest : List Byte)

theorem noteLine_additives (few : (additivesOf l).length ≤ 3) :
    fieldNat (noteLine l ++ rest) 3 1 = saturate 6 (lineReasonCode l.status) * 4 + (additivesOf l).length := by
  have code := saturate_lt 6 (lineReasonCode l.status)
  rw [noteLine_eq, noteLineHead]
  simp (disch := decide) only [List.append_assoc, fieldNat_skip, fieldNat_here, Nat.reduceSub, Nat.reducePow]
  exact Nat.mod_eq_of_lt (by omega)

theorem noteLane_le : l.noteLane ≤ 4 := by
  unfold OrderLine.noteLane
  cases l.lane with
  | none => exact Nat.zero_le _
  | some i => exact i.isLt

theorem noteTemp_lt : l.noteTemp < 65536 := by
  unfold OrderLine.noteTemp
  cases (l.record.getD {}).weighted with
  | none => exact (by decide : 0x8000 < 65536)
  | some t => exact unsigned16_lt t

theorem faultLitres_lt : l.faultLitres < 65536 := by
  unfold OrderLine.faultLitres
  cases (l.record.getD {}).pulseFault with
  | none => exact (by decide : 0 < 65536)
  | some f => exact saturate_lt 16 _

/-- The fields of a compartment line but for the one with its additive count. -/
theorem noteLine_fields (compartment : l.compartment < 256) (product : l.product < 256) (preset : l.preset < 65536)
    (corrected : (l.record.getD {}).corrected < 65536) :
    let r := l.record.getD {}
    let b := noteLine l ++ rest
    fieldNat b 0 1 = l.compartment ∧ fieldNat b 1 1 = l.product ∧
    fieldNat b 2 1 = 16 * l.noteLane + saturate 4 (pulseCode r.pulseFault) ∧ fieldNat b 4 2 = l.preset ∧
    fieldNat b 6 4 = min r.gross.toNat 4294967295 ∧ fieldNat b 10 4 = min r.std.toNat 4294967295 ∧
    fieldNat b 14 2 = l.noteTemp ∧ fieldNat b 16 2 = flagWord l.clamped r.flags ∧ fieldNat b 18 2 = r.corrected ∧
    fieldNat b 20 2 = l.faultLitres := by
  dsimp only
  have lane := noteLane_le l
  have temp := noteTemp_lt l
  have litres := faultLitres_lt l
  have code := saturate_lt 4 (pulseCode (l.record.getD {}).pulseFault)
  have gross := saturate_lt 32 (l.record.getD {}).gross.toNat
  have std := saturate_lt 32 (l.record.getD {}).std.toNat
  have flags := flagWord_lt l.clamped (l.record.getD {}).flags
  rw [noteLine_eq, noteLineHead]
  generalize l.record.getD {} = r at *
  simp (disch := decide) only [List.append_assoc, fieldNat_skip, fieldNat_here, Nat.reduceSub, Nat.reducePow]
  refine ⟨Nat.mod_eq_of_lt compartment, Nat.mod_eq_of_lt product, ?_, Nat.mod_eq_of_lt preset, Nat.mod_eq_of_lt gross,
    Nat.mod_eq_of_lt std, Nat.mod_eq_of_lt temp, Nat.mod_eq_of_lt (by omega), Nat.mod_eq_of_lt corrected, Nat.mod_eq_of_lt litres⟩
  rw [Nat.mul_comm 16]
  exact Nat.mod_eq_of_lt (by omega)

/-- The fields of a line's additive line lie behind the line's own. -/
theorem noteLine_additive {j off size : Nat} {a : AdditiveLine} (isLine : (additivesOf l)[j]? = some a) (inside : off + size ≤ 10) :
    fieldNat (noteLine l ++ rest) (22 + 10 * j + off) size = fieldNat (noteAdditive a) off size := by
  rw [noteLine_eq, List.append_assoc, fieldNat_append_right (by rw [noteLineHead_length]; omega), noteLineHead_length,
    show 22 + 10 * j + off - 22 = 10 * j + off by omega]
  obtain ⟨lt, -⟩ := List.getElem?_eq_some_iff.1 isLine
  have behind : ((additivesOf l).flatMap noteAdditive).length = 10 * (additivesOf l).length :=
    length_flatMap_const fun a _ => noteAdditive_length a
  rw [fieldNat_append_left (by rw [behind]; omega)]
  exact fieldNat_flatMap inside (fun a _ => noteAdditive_length a) isLine

end

end Sys2Proof.Machine
end

section
/-! PROOFS. A whole delivery note: its header, its lines in order, its totals, its statuses and its check (R171 to R173, R185, R213). -/

namespace Sys2Proof.Machine

/-! ### The parts of a note (12.3) -/

/-- The bytes of a line with those of its additive lines. -/
def OrderLine.noteSize (l : OrderLine) : Nat := 22 + 10 * (additivesOf l).length

/-- A note's first 30 bytes (Table 12-5). -/
def noteFront (h : NoteHead) (lines : List OrderLine) : List Byte :=
  beBytes 1 0x4E ++ (beBytes 4 h.number ++ (beBytes 2 (noteLength lines) ++ (beBytes 1 h.station ++
  (beBytes 4 h.permit.toNat ++ (beBytes 4 h.driver.toNat ++ (beBytes 4 h.tanker.toNat ++
  (beBytes 4 h.startTime.toNat ++ (beBytes 4 h.endTime.toNat ++ (beBytes 1 (tripFlagByte h.flags) ++
  beBytes 1 (lines.length * 16 + ((lanesUsed lines).map fun i => 2 ^ i.val).sum))))))))))

/-- A lane's totals in a note. -/
def laneTotals (totals : LaneNo → Word48 × Word48) (i : LaneNo) : List Byte :=
  beBytes 6 (totals i).1.toNat ++ beBytes 6 (totals i).2.toNat

/-- A note's last four bytes. -/
def noteTail (h : NoteHead) (lines : List OrderLine) (totals : LaneNo → Word48 × Word48) (stamp print : Nat) : List Byte :=
  beBytes 1 stamp ++ (beBytes 1 print ++ beBytes 2 (crc16 (noteBody h lines totals)))

theorem noteFront_length (h : NoteHead) (lines : List OrderLine) : (noteFront h lines).length = 30 := by simp [noteFront]

theorem noteBody_eq (h : NoteHead) (lines : List OrderLine) (totals : LaneNo → Word48 × Word48) :
    noteBody h lines totals = noteFront h lines ++ (lines.flatMap noteLine ++ (lanesUsed lines).flatMap (laneTotals totals)) := by
  rw [noteBody, noteFront]
  simp only [List.append_assoc]
  rfl

theorem noteImage_eq (h : NoteHead) (lines : List OrderLine) (totals : LaneNo → Word48 × Word48) (stamp print : Nat) :
    noteImage h lines totals stamp print = noteBody h lines totals ++ noteTail h lines totals stamp print := by
  rw [noteImage, noteTail]
  simp only [List.append_assoc]

theorem laneTotals_length (totals : LaneNo → Word48 × Word48) (i : LaneNo) : (laneTotals totals i).length = 12 := by
  simp [laneTotals]

theorem lines_length (lines : List OrderLine) : (lines.flatMap noteLine).length = (lines.map OrderLine.noteSize).sum := by
  rw [List.length_flatMap, List.map_congr_left fun l _ => noteLine_length l]
  rfl

theorem noteLength_eq (lines : List OrderLine) :
    noteLength lines = 34 + (lines.map OrderLine.noteSize).sum + 12 * (lanesUsed lines).length := rfl

theorem noteBody_length (h : NoteHead) (lines : List OrderLine) (totals : LaneNo → Word48 × Word48) :
    (noteBody h lines totals).length + 4 = noteLength lines := by
  rw [noteBody_eq, List.length_append, List.length_append, noteFront_length, lines_length,
    length_flatMap_const fun i _ => laneTotals_length totals i, noteLength_eq]
  omega

theorem noteImage_length (h : NoteHead) (lines : List OrderLine) (totals : LaneNo → Word48 × Word48) (stamp print : Nat) :
    (noteImage h lines totals stamp print).length = noteLength lines := by
  have body := noteBody_length h lines totals
  rw [noteImage_eq, List.length_append, noteTail]
  simp only [List.length_append, beBytes_length]
  omega

/-! ### The lanes used, and the note's length (R173, R213) -/

/-- Whether a trip used a lane. -/
def usesLane (lines : List OrderLine) (i : LaneNo) : Bool := lines.any fun l => l.record.isSome && decide (l.lane = some i)

theorem laneBits (uses : LaneNo → Bool) :
    (([0, 1, 2, 3].filter uses : List LaneNo).map fun i : LaneNo => 2 ^ i.val).sum = bitsWord [uses 0, uses 1, uses 2, uses 3] := by
  have first (i : LaneNo) (l : List LaneNo) : (((i :: l).filter uses).map fun i : LaneNo => 2 ^ i.val).sum =
      (uses i).toNat * 2 ^ i.val + ((l.filter uses).map fun i : LaneNo => 2 ^ i.val).sum := by
    rw [List.filter_cons]
    cases uses i <;> simp
  rw [first, first, first, first, List.filter_nil, List.map_nil, List.sum_nil]
  change (uses 0).toNat * 1 + ((uses 1).toNat * 2 + ((uses 2).toNat * 4 + ((uses 3).toNat * 8 + 0))) = _
  simp only [bitsWord]
  omega

/-- The lane bits of a note's header. -/
def usedBits (lines : List OrderLine) : Nat :=
  bitsWord [usesLane lines 0, usesLane lines 1, usesLane lines 2, usesLane lines 3]

theorem lanesUsed_bits (lines : List OrderLine) : ((lanesUsed lines).map fun i => 2 ^ i.val).sum = usedBits lines :=
  laneBits (usesLane lines)

theorem usedBits_lt (lines : List OrderLine) : usedBits lines < 16 := bitsWord_lt _

theorem hasBit_usedBits (lines : List OrderLine) (i : LaneNo) :
    hasBit (lines.length * 16 + usedBits lines) i.val = usesLane lines i := by
  have low : hasBit (lines.length * 16 + usedBits lines) i.val = hasBit (usedBits lines) i.val := by
    have lt := usedBits_lt lines
    fin_cases i <;> simp only [hasBit] <;> congr 1 <;> omega
  rw [low, usedBits, hasBit_bitsWord]
  fin_cases i <;> rfl

theorem noteLength_le {lines : List OrderLine} (count : lines.length ≤ 8) (few : ∀ l ∈ lines, (additivesOf l).length ≤ 3) :
    noteLength lines ≤ 498 := by
  have sizes : (lines.map OrderLine.noteSize).sum ≤ (lines.map OrderLine.noteSize).length • 52 :=
    List.sum_le_card_nsmul _ 52 fun n mem => by
      obtain ⟨l, isLine, rfl⟩ := List.mem_map.1 mem
      have := few l isLine
      rw [OrderLine.noteSize]
      omega
  rw [List.length_map, smul_eq_mul] at sizes
  have lanes : (lanesUsed lines).length ≤ 4 := List.length_filter_le _ [0, 1, 2, 3]
  rw [noteLength_eq]
  omega

/-! ### The header (Table 12-5) -/

theorem noteFront_fields {h : NoteHead} {lines : List OrderLine} (number : h.number < 4294967296) (station : h.station < 256)
    (count : lines.length ≤ 8) (size : noteLength lines ≤ 498) (rest : List Byte) :
    let b := noteFront h lines ++ rest
    fieldNat b 0 1 = 0x4E ∧ fieldNat b 1 4 = h.number ∧ fieldNat b 5 2 = noteLength lines ∧ fieldNat b 7 1 = h.station ∧
    fieldWord b 8 = h.permit ∧ fieldWord b 12 = h.driver ∧ fieldWord b 16 = h.tanker ∧ fieldWord b 20 = h.startTime ∧
    fieldWord b 24 = h.endTime ∧ fieldNat b 28 1 = tripFlagByte h.flags ∧
    fieldNat b 29 1 = lines.length * 16 + usedBits lines := by
  have flags := tripFlagByte_lt h.flags
  have lanes := usedBits_lt lines
  dsimp only
  rw [noteFront, lanesUsed_bits]
  simp (disch := decide) only [List.append_assoc, fieldNat_skip, fieldNat_here, fieldWord_skip, fieldWord_here, Nat.reduceSub,
    Nat.reducePow, true_and]
  exact ⟨Nat.mod_eq_of_lt number, Nat.mod_eq_of_lt (by omega), Nat.mod_eq_of_lt station,
    Nat.mod_eq_of_lt (by omega), Nat.mod_eq_of_lt (by omega)⟩

/-! ### The lines, one after the other -/

theorem pastLines_lines {lines : List OrderLine} (rest : List Byte) (few : ∀ l ∈ lines, (additivesOf l).length ≤ 3) :
    ∀ front : List Byte, pastLines (front ++ (lines.flatMap noteLine ++ rest)) lines.length front.length =
      front.length + (lines.map OrderLine.noteSize).sum := by
  induction lines with
  | nil => exact fun _ => rfl
  | cons l lines ih =>
    intro front
    have adds := few l (List.mem_cons_self ..)
    have here : fieldNat (front ++ ((l :: lines).flatMap noteLine ++ rest)) (front.length + 3) 1 % 4 = (additivesOf l).length := by
      rw [fieldNat_append_right (by omega), Nat.add_sub_cancel_left, List.flatMap_cons, List.append_assoc, noteLine_additives _ _ adds]
      omega
    have next := ih (fun x mem => few x (List.mem_cons_of_mem _ mem)) (front ++ noteLine l)
    rw [List.length_append, noteLine_length, List.append_assoc, ← List.append_assoc (noteLine l), ← List.flatMap_cons] at next
    rw [List.length_cons, pastLines, here, Nat.add_assoc, next, List.map_cons, List.sum_cons, OrderLine.noteSize]
    omega

/-- A line's bytes lie behind those of the lines before it. -/
theorem lines_split {lines : List OrderLine} {k : Nat} {l : OrderLine} (isLine : lines[k]? = some l) :
    lines.flatMap noteLine = (lines.take k).flatMap noteLine ++ (noteLine l ++ (lines.drop (k + 1)).flatMap noteLine) := by
  obtain ⟨lt, rfl⟩ := List.getElem?_eq_some_iff.1 isLine
  rw [← List.flatMap_cons, ← List.flatMap_append, List.getElem_cons_drop, List.take_append_drop]

section

variable {h : NoteHead} {lines : List OrderLine} {totals : LaneNo → Word48 × Word48} {stamp print : Nat}

/-- A field of a line of a note. -/
theorem fieldNat_noteLine {k : Nat} {l : OrderLine} (isLine : lines[k]? = some l) :
    ∃ rest, ∀ off size, fieldNat (noteImage h lines totals stamp print)
      (30 + ((lines.take k).map OrderLine.noteSize).sum + off) size = fieldNat (noteLine l ++ rest) off size := by
  refine ⟨(lines.drop (k + 1)).flatMap noteLine ++
    ((lanesUsed lines).flatMap (laneTotals totals) ++ noteTail h lines totals stamp print), fun off size => ?_⟩
  rw [noteImage_eq, noteBody_eq, lines_split isLine]
  simp only [List.append_assoc]
  rw [fieldNat_append_right (by rw [noteFront_length]; omega), fieldNat_append_right (by rw [noteFront_length, lines_length]; omega),
    noteFront_length, lines_length]
  congr 1
  omega

/-! ### The test of a present note, and the totals that it gives -/

theorem noteImage_shape : noteImage h lines totals stamp print = noteFront h lines ++ (lines.flatMap noteLine ++
    ((lanesUsed lines).flatMap (laneTotals totals) ++ noteTail h lines totals stamp print)) := by
  rw [noteImage_eq, noteBody_eq]
  simp only [List.append_assoc]

variable (number : h.number < 4294967296) (station : h.station < 256) (count : lines.length ≤ 8)
  (few : ∀ l ∈ lines, (additivesOf l).length ≤ 3)
include number station count few

theorem totalsOffset_noteImage : totalsOffset (noteImage h lines totals stamp print) + 12 * (lanesUsed lines).length + 4 = noteLength lines := by
  obtain ⟨-, -, -, -, -, -, -, -, -, -, counts⟩ := noteFront_fields number station count (noteLength_le count few)
    (lines.flatMap noteLine ++ ((lanesUsed lines).flatMap (laneTotals totals) ++ noteTail h lines totals stamp print))
  have lt := usedBits_lt lines
  have front := noteFront_length h lines
  rw [← noteImage_shape] at counts
  have past := pastLines_lines ((lanesUsed lines).flatMap (laneTotals totals) ++ noteTail h lines totals stamp print) few (noteFront h lines)
  rw [← noteImage_shape, front] at past
  rw [totalsOffset, counts, show (lines.length * 16 + usedBits lines) / 16 = lines.length by omega, past, noteLength_eq]
  omega

theorem noteLanes_noteImage : noteLanes (noteImage h lines totals stamp print) = lanesUsed lines := by
  obtain ⟨-, -, -, -, -, -, -, -, -, -, counts⟩ := noteFront_fields number station count (noteLength_le count few)
    (lines.flatMap noteLine ++ ((lanesUsed lines).flatMap (laneTotals totals) ++ noteTail h lines totals stamp print))
  rw [← noteImage_shape] at counts
  simp only [noteLanes, counts, hasBit_usedBits]
  rfl

end

end Sys2Proof.Machine
end

section
/-! PROOFS. The test of a present note, its totals, and what a note's bytes hold (O54). -/

namespace Sys2Proof.Machine

section

variable {h : NoteHead} {lines : List OrderLine} {totals : LaneNo → Word48 × Word48} {stamp print : Nat}

theorem noteTotals_noteImage (number : h.number < 4294967296) (station : h.station < 256) (count : lines.length ≤ 8)
    (few : ∀ l ∈ lines, (additivesOf l).length ≤ 3) :
    noteTotals (noteImage h lines totals stamp print) = (lanesUsed lines).map fun i => (i, totals i) := by
  have offset := totalsOffset_noteImage (totals := totals) (stamp := stamp) (print := print) number station count few
  have body := noteBody_length h lines totals
  have whole : (lines.flatMap noteLine).length = (lines.map OrderLine.noteSize).sum := lines_length lines
  have at_ (off size : Nat) (inside : off + size ≤ 12 * (lanesUsed lines).length) :
      fieldNat (noteImage h lines totals stamp print) (totalsOffset (noteImage h lines totals stamp print) + off) size =
        fieldNat ((lanesUsed lines).flatMap (laneTotals totals)) off size := by
    have rows : ((lanesUsed lines).flatMap (laneTotals totals)).length = 12 * (lanesUsed lines).length :=
      length_flatMap_const fun i _ => laneTotals_length totals i
    rw [noteLength_eq] at offset
    generalize totalsOffset (noteImage h lines totals stamp print) = o at offset
    rw [noteImage_shape, fieldNat_append_right (by rw [noteFront_length]; omega), noteFront_length,
      fieldNat_append_right (by rw [whole]; omega), whole,
      fieldNat_append_left (by omega)]
    congr 1
    omega
  rw [noteTotals, noteLanes_noteImage number station count few]
  generalize totalsOffset (noteImage h lines totals stamp print) = o at at_
  refine List.ext_getElem? fun k => ?_
  rw [List.getElem?_map, List.getElem?_map, List.getElem?_zipIdx]
  cases used : (lanesUsed lines)[k]? with
  | none => rfl
  | some i =>
    obtain ⟨lt, -⟩ := List.getElem?_eq_some_iff.1 used
    have gross := fieldNat_flatMap (off := 0) (size := 6) (by decide) (fun j _ => laneTotals_length totals j) used
    have std := fieldNat_flatMap (off := 6) (size := 6) (by decide) (fun j _ => laneTotals_length totals j) used
    have grossLt : (totals i).1.toNat < 256 ^ 6 := (totals i).1.isLt
    have stdLt : (totals i).2.toNat < 256 ^ 6 := (totals i).2.isLt
    rw [laneTotals, fieldNat_here, Nat.mod_eq_of_lt grossLt, Nat.add_zero] at gross
    rw [laneTotals, fieldNat_skip (Nat.le_refl 6), fieldNat_last, Nat.mod_eq_of_lt stdLt] at std
    simp only [Option.map_some, Nat.zero_add]
    rw [at_ _ _ (by omega), Nat.add_assoc, at_ _ _ (by omega), gross, std, BitVec.ofNat_toNat, BitVec.ofNat_toNat,
      BitVec.setWidth_eq, BitVec.setWidth_eq]

/-- R213: a note's statuses and its check are its last four bytes. -/
theorem noteTail_fields (stampFits : stamp < 256) (printFits : print < 256) :
    fieldNat (noteImage h lines totals stamp print) (noteLength lines - 4) 1 = stamp ∧
    fieldNat (noteImage h lines totals stamp print) (noteLength lines - 3) 1 = print ∧
    fieldNat (noteImage h lines totals stamp print) (noteLength lines - 2) 2 =
      crc16 ((noteImage h lines totals stamp print).take (noteLength lines - 4)) := by
  have body := noteBody_length h lines totals
  have take : (noteImage h lines totals stamp print).take (noteLength lines - 4) = noteBody h lines totals := by
    rw [noteImage_eq, ← body, Nat.add_sub_cancel, List.take_left]
  have check := crc16_lt (noteBody h lines totals)
  rw [take, noteImage_eq, noteTail]
  generalize crc16 (noteBody h lines totals) = c at check
  generalize noteBody h lines totals = front at body
  rw [← body]
  refine ⟨?_, ?_, ?_⟩
  · rw [fieldNat_append_right (by omega), show front.length + 4 - 4 - front.length = 0 by omega, fieldNat_here]
    exact Nat.mod_eq_of_lt stampFits
  · rw [fieldNat_append_right (by omega), show front.length + 4 - 3 - front.length = 1 by omega, fieldNat_skip (by decide), fieldNat_here]
    exact Nat.mod_eq_of_lt printFits
  · rw [fieldNat_append_right (by omega), show front.length + 4 - 2 - front.length = 2 by omega, fieldNat_skip (by decide),
      fieldNat_skip (by decide), fieldNat_last]
    exact Nat.mod_eq_of_lt check

theorem notePresent_noteImage (number : h.number < 4294967296) (station : h.station < 256) (count : lines.length ≤ 8)
    (few : ∀ l ∈ lines, (additivesOf l).length ≤ 3) (stampFits : stamp < 256) (printFits : print < 256) :
    notePresent h.number (noteImage h lines totals stamp print) = true := by
  have most := noteLength_le count few
  have least : 34 ≤ noteLength lines := by rw [noteLength_eq]; omega
  have offset := totalsOffset_noteImage (totals := totals) (stamp := stamp) (print := print) number station count few
  have lanes := noteLanes_noteImage (totals := totals) (stamp := stamp) (print := print) number station count few
  obtain ⟨-, -, check⟩ := noteTail_fields (h := h) (lines := lines) (totals := totals) stampFits printFits
  obtain ⟨tag, isNumber, size, -⟩ := noteFront_fields number station count most
    (lines.flatMap noteLine ++ ((lanesUsed lines).flatMap (laneTotals totals) ++ noteTail h lines totals stamp print))
  rw [← noteImage_shape] at tag isNumber size
  have limits : noteLimits (noteImage h lines totals stamp print) = true := by
    simp only [noteLimits, noteLengthField, size, lanes, offset, least, most, decide_true, Bool.and_self]
  simp only [notePresent, limits, noteLengthField, tag, isNumber, size, check, beq_self_eq_true, Bool.and_self]

/-! ### The codes of a line (Tables 12-2, 12-6 and 12-7) -/

theorem pulseCode_field {f : Option PulseFault} (known : ∀ x, f = some x → ∀ n, x.code ≠ .other n) :
    saturate 4 (pulseCode f) = (match f.map (·.code) with
      | some .aMissing => 1 | some .bMissing => 2 | some .phaseReversed => 3 | some .difference => 4 | _ => 0) := by
  cases f with
  | none => rfl
  | some x =>
    have named := known x rfl
    obtain ⟨code, gross⟩ := x
    cases code with
    | other n => exact absurd rfl (named n)
    | _ => rfl

end

theorem reasonCode_field {st : LineStatus} {reason : Nat} (code : (match st with
    | .ended .preset => some 1 | .ended .driver => some 2 | .ended .lapse => some 3 | .ended .arm => some 4
    | .ended .halt => some 5 | .ended .noFlow => some 6 | .ended .pulseFault => some 7 | .ended .additiveFault => some 8
    | .ended .powerLost => some 9 | .ended .notLoaded => some 10
    | .refused .compartmentInvalid => some 17 | .refused .duplicateCompartment => some 18
    | .refused .productNotAtBay => some 19 | .refused .classNotPermitted => some 20 | .refused .presetTooSmall => some 21
    | .refused .recipeWithdrawn => some 22 | .refused .recipeNotServable => some 23
    | _ => none) = some reason) : saturate 6 (lineReasonCode st) = reason := by
  cases st with
  | ended r => cases r with
    | other n => cases code
    | _ => exact Option.some.inj code
  | refused r => cases r with
    | other n => cases code
    | _ => exact Option.some.inj code
  | _ => cases code

theorem noteTemp_none {l : OrderLine} (absent : (l.record.getD {}).weighted = none) : l.noteTemp = 0x8000 := by
  rw [OrderLine.noteTemp, absent]
  rfl

theorem noteTemp_some {l : OrderLine} {x : Int} (weighted : (l.record.getD {}).weighted = some x) (low : -32768 ≤ x) (high : x < 32768) :
    (l.noteTemp : Int) = if x < 0 then 65536 + x else x := by
  rw [OrderLine.noteTemp, weighted, Option.map_some, Option.getD_some, unsigned16]
  split <;> omega

theorem doseStatus_field (x : DoseStatus) : doseStatusCode x = (match x with
    | .ok => 0 | .under => 1 | .over => 2 | .fault => 3) := by cases x <;> rfl

/-! ### The event that begins a note -/

/-- R23, R24, R174: the trip's entry to CLOSING begins its note just when its lines are all ENDED or REFUSED. -/
theorem closing_begins_note {c : Instr} {s : State} {tr : Trip} (done : s.sul.done = true) (slot : s.pct.slot = .released)
    (trip : s.pct.trip = some tr) (calm : s.Calm) (idle : s.ntb.build = none)
    (ends : c = .stop ∧ s.ilm.stopKey = false ∧ s.anyFlowing = false ∧ s.anyClosing = false ∨
      ∃ d, c = .tripIdleTimerExpiry ∧ s.pct.idleTimer = some d) :
    ∃ t tr', exec c s = .next t ∧ t.pct.trip = some tr' ∧
      tr' = { tr with endTime := tr'.endTime, flags := tr'.flags, lines := tr'.lines } ∧
      (t.allFinished = false → t.ntb.build = none) ∧
      (t.allFinished = true → ∃ n, t.ntb.build =
        some { tripNote tr' s.ntb.next s.lif.station t.totals with accepted := n }) := by
  obtain ⟨now, key, answer⟩ : ∃ now key, exec c s = finish (enterClosing { s with now := now, ilm := { s.ilm with stopKey := key } }) := by
    obtain ⟨stop, key, still, unclosing⟩ | ⟨d, expiry, running⟩ := ends
    · exact ⟨_, exec_closes done slot (.inl ⟨stop, key, rfl, still, unclosing⟩)⟩
    · exact ⟨_, exec_closes done slot (.inr ⟨d, expiry, running, rfl⟩)⟩
  obtain ⟨tr', isTrip, same, unfinished, finished⟩ :=
    settle_enterClosing_note (s := { s with now := now, ilm := { s.ilm with stopKey := key } }) trip calm.2 idle
  exact ⟨_, tr', answer, isTrip, same, unfinished, finished⟩

end Sys2Proof.Machine

open Sys2Proof Sys2Proof.Machine

/-- Settles O54, by the note that the trip's entry to CLOSING begins, and by the fields of a note's parts, of its front, its lines one
after the other, and its last bytes. -/
theorem noteBytes : Obligations.NoteBytes := by
  refine ⟨fun c s tr done slot trip calm idle ends => ?_, fun image page _ => ⟨pageBytes_length image page, fun k lt => pageBytes_getElem? image page lt⟩,
    fun h lines totals stamp print number station stampFits printFits count few => ?_⟩
  · obtain ⟨t, tr', answer, isTrip, same, unfinished, finished⟩ := closing_begins_note done slot trip calm idle ends
    refine ⟨t, tr', answer, isTrip, unfinished, fun all => ?_⟩
    obtain ⟨n, isBuild⟩ := finished all
    refine ⟨_, isBuild, rfl, rfl, congrArg (·.permit) same, rfl, pagesOf_eq _, rfl, ?_⟩
    rw [same]
    rfl
  · have most := noteLength_le count few
    have least : 34 ≤ noteLength lines := by rw [noteLength_eq]; omega
    obtain ⟨tag, isNumber, size, isStation, permit, driver, tanker, start, ending, flags, counts⟩ :=
      noteFront_fields number station count most
        (lines.flatMap noteLine ++ ((lanesUsed lines).flatMap (laneTotals totals) ++ noteTail h lines totals stamp print))
    rw [← noteImage_shape] at tag isNumber size isStation permit driver tanker start ending flags counts
    obtain ⟨isStamp, isPrint, check⟩ := noteTail_fields (h := h) (lines := lines) (totals := totals) stampFits printFits
    have bits := usedBits_lt lines
    refine ⟨least, most, noteImage_length .., tag, isNumber, size, isStation, permit, driver, tanker, start, ending,
      by rw [flags, tripFlagsOf_tripFlagByte], by rw [counts]; omega, isStamp, isPrint, check,
      notePresent_noteImage number station count few stampFits printFits, noteTotals_noteImage number station count few, ?_⟩
    intro k l reason isLine code r compartment product preset corrected known temps o
    obtain ⟨rest, at_⟩ := fieldNat_noteLine (h := h) (totals := totals) (stamp := stamp) (print := print) isLine
    have here (off size : Nat) : fieldNat (noteImage h lines totals stamp print) (o + off) size = fieldNat (noteLine l ++ rest) off size :=
      at_ off size
    have adds := few l (List.mem_of_getElem? isLine)
    obtain ⟨f0, f1, f2, f4, f6, f10, f14, f16, f18, f20⟩ := noteLine_fields l rest compartment product preset corrected
    refine ⟨(here 0 1).trans f0, (here 1 1).trans f1, ?_, ?_, (here 4 2).trans f4, (here 6 4).trans f6, (here 10 4).trans f10,
      fun absent => (here 14 2).trans (f14.trans (noteTemp_none absent)), fun x weighted => ?_, fun n _ => ?_, (here 18 2).trans f18, ?_, ?_⟩
    · rw [here, f2, pulseCode_field known]
      rfl
    · rw [here, noteLine_additives l rest adds, reasonCode_field code, Nat.mul_comm]
    · rw [here, f14]
      exact noteTemp_some weighted (temps x weighted).1 (temps x weighted).2
    · rw [here, f16, flagWord_eq, testBit_bitsWord]
      rfl
    · rw [here, f20]
      rfl
    · intro j a x isAdditive result ratio p
      have dose (off size : Nat) (inside : off + size ≤ 10) :
          fieldNat (noteImage h lines totals stamp print) (p + off) size = fieldNat (noteAdditive a) off size := by
        rw [show p + off = o + (22 + 10 * j + off) by omega, here, noteLine_additive l rest isAdditive inside]
      obtain ⟨d0, d2, d6⟩ := noteAdditive_fields a result ratio
      rw [doseStatus_field] at d0
      exact ⟨(dose 0 2 (by decide)).trans d0, (dose 2 4 (by decide)).trans d2, (dose 6 4 (by decide)).trans d6⟩
end

section
/-! PROOFS. The Note Builder's answer to an ask whose note has been read, page by page (R185, R186). -/

namespace Sys2Proof.Machine

/-! ### Segments (R186) -/

theorem segmentCount_eq (n : Nat) : segmentCount n = (n + 47) / 48 := by
  rw [segmentCount]
  split <;> omega

/-- R186: the segments of an answer, in order. -/
def segments (a : Ask) (image : Option (List Byte)) : List TxFrame := (List.range (answerCount image)).map (segmentFrame a image)

/-- NTB in the middle of an answer: the FIFO, and the next segment. -/
def State.answering (image : Option (List Byte)) (fifo : List TxFrame) (k : Nat) (s : State) : State :=
  { s with lif := { s.lif with fifo := fifo }, ntb := { s.ntb with serving := .sending image k } }

/-- NTB after an answer. -/
def State.answered (fifo : List TxFrame) (rest : List Ask) (s : State) : State :=
  { s with lif := { s.lif with fifo := fifo }, ntb := { s.ntb with asks := rest, serving := .idle } }

theorem serve_sending {s t : State} {a : Ask} {rest : List Ask} {image : Option (List Byte)} {k : Nat} {taken : Bool}
    (sending : s.ntb.serving = .sending image k) (asks : s.ntb.asks = a :: rest)
    (offer : offerFrame (segmentFrame a image k) s = (taken, t)) (n : Nat) :
    serve (n + 1) s = if taken then
        if k + 1 < answerCount image then serve n (t.modNtb fun x => { x with serving := .sending image (k + 1) })
        else serve n (t.modNtb fun x => { x with asks := rest, serving := .idle })
      else t := by
  rw [serve, sending, asks]
  dsimp only
  rw [offer]
  cases taken <;> rfl

section

variable {s : State} {a : Ask} {rest : List Ask} {image : Option (List Byte)} {m : Nat} {fifo : Nat → List TxFrame}
  (sending : s.ntb.serving = .sending image 0) (asks : s.ntb.asks = a :: rest) (start : fifo 0 = s.lif.fifo)
  (takes : ∀ j < m, offerFrame (segmentFrame a image j) (s.answering image (fifo j) j) =
    (true, s.answering image (fifo (j + 1)) j))
include sending asks start takes

/-- R186: the segments that are taken leave the next one to be sent. -/
theorem serve_segments : ∀ j ≤ m, j < answerCount image → ∀ n, serve (n + j) s = serve n (s.answering image (fifo j) j) := by
  intro j
  induction j with
  | zero =>
    intro _ _ n
    rw [State.answering, start, ← sending]
    rfl
  | succ j ih =>
    intro le lt n
    rw [← Nat.add_assoc, Nat.add_right_comm, ih (by omega) (by omega),
      serve_sending (s := s.answering image (fifo j) j) rfl asks (takes j (by omega)), if_pos rfl, if_pos lt]
    rfl

/-- R186: an ask whose segments are all taken is answered whole and leaves the queue. -/
theorem serve_answered (count : answerCount image = m) (one : 1 ≤ m) (n : Nat) :
    serve (n + m) s = serve n (s.answered (fifo m) rest) := by
  obtain ⟨j, rfl⟩ : ∃ j, m = j + 1 := ⟨m - 1, by omega⟩
  rw [← Nat.add_assoc, Nat.add_right_comm, serve_segments sending asks start takes j (by omega) (by omega),
    serve_sending (s := s.answering image (fifo j) j) rfl asks (takes j (by omega)), if_pos rfl, if_neg (by omega)]
  rfl

end

section

variable {s : State} {a : Ask} {rest : List Ask} {image : Option (List Byte)}
/-- R151, R186: the FIFO takes each segment while it has room. -/
theorem offerFrame_segment (isOpen : s.lif.link.Open) (m : Nat) (room : s.lif.fifo.length + m ≤ 6) :
    ∀ j < m, offerFrame (segmentFrame a image j)
        (s.answering image (s.lif.fifo ++ (List.range j).map (segmentFrame a image)) j) =
      (true, s.answering image (s.lif.fifo ++ (List.range (j + 1)).map (segmentFrame a image)) j) := by
  intro j lt
  rw [offerFrame_open (by exact isOpen), if_pos (by
    change (s.lif.fifo ++ (List.range j).map (segmentFrame a image)).length < 6
    rw [List.length_append, List.length_map, List.length_range]
    omega)]
  rw [List.range_succ, List.map_append, ← List.append_assoc]
  rfl

variable (sending : s.ntb.serving = .sending image 0) (asks : s.ntb.asks = a :: rest) (one : 1 ≤ answerCount image)
  (few : answerCount image ≤ 11)
include sending asks few

theorem serve_full (isOpen : s.lif.link.Open) (full : 6 - s.lif.fifo.length < answerCount image) :
    serve serveSteps s = s.answering image (s.lif.fifo ++ (segments a image).take (6 - s.lif.fifo.length)) (6 - s.lif.fifo.length) := by
  have steps : serveSteps = 63 - (6 - s.lif.fifo.length) + 1 + (6 - s.lif.fifo.length) := by rw [serveSteps]; omega
  have sent : (segments a image).take (6 - s.lif.fifo.length) =
      (List.range (6 - s.lif.fifo.length)).map (segmentFrame a image) := by
    rw [segments, ← List.map_take, List.take_range, Nat.min_eq_left (by omega)]
  rw [sent, steps]
  generalize e : 6 - s.lif.fifo.length = m at full
  have mid : serve (63 - m + 1 + m) s = serve (63 - m + 1)
      (s.answering image (s.lif.fifo ++ (List.range m).map (segmentFrame a image)) m) := by
    by_cases over_full : m = 0
    · subst over_full
      rw [State.answering, List.range_zero, List.map_nil, List.append_nil, ← sending]
    · exact serve_segments (m := m) (fifo := fun j => s.lif.fifo ++ (List.range j).map (segmentFrame a image)) sending asks
        (List.append_nil _) (offerFrame_segment isOpen m (by omega)) m (Nat.le_refl _) full _
  have refused : offerFrame (segmentFrame a image m) (s.answering image (s.lif.fifo ++ (List.range m).map (segmentFrame a image)) m) =
      (false, s.answering image (s.lif.fifo ++ (List.range m).map (segmentFrame a image)) m) := by
    rw [offerFrame_open (by exact isOpen)]
    refine if_neg ?_
    change ¬(s.lif.fifo ++ (List.range m).map (segmentFrame a image)).length < 6
    rw [List.length_append, List.length_map, List.length_range]
    omega
  rw [mid]
  exact (serve_sending (s := s.answering image _ m) rfl asks refused _).trans (if_neg Bool.false_ne_true)

include one

theorem serve_fits (isOpen : s.lif.link.Open) (room : s.lif.fifo.length + answerCount image ≤ 6) :
    ∃ n, serve serveSteps s = serve (n + 1) (s.answered (s.lif.fifo ++ segments a image) rest) := by
  refine ⟨63 - answerCount image, ?_⟩
  have whole := serve_answered (fifo := fun j => s.lif.fifo ++ (List.range j).map (segmentFrame a image)) sending asks
    (List.append_nil _) (offerFrame_segment isOpen _ room) rfl one (63 - answerCount image + 1)
  rwa [show 63 - answerCount image + 1 + answerCount image = serveSteps by rw [serveSteps]; omega] at whole

/-- R151, R178: in MUTE every segment is taken and discarded. -/
theorem serve_discarded (mute : s.lif.link = .mute) : ∃ n, serve serveSteps s = serve (n + 1) (s.answered s.lif.fifo rest) := by
  refine ⟨63 - answerCount image, ?_⟩
  have whole := serve_answered (fifo := fun _ => s.lif.fifo) (a := a) (image := image) sending asks rfl (fun j _ => by
    have link : (s.answering image s.lif.fifo j).lif.link = .mute := mute
    rw [offerFrame, link]) rfl one (63 - answerCount image + 1)
  rwa [show 63 - answerCount image + 1 + answerCount image = serveSteps by rw [serveSteps]; omega] at whole

end

theorem serve_done (n : Nat) (fifo : List TxFrame) (s : State) : serve n (s.answered fifo []) = s.answered fifo [] := by
  cases n <;> rfl

/-! ### The image of a note read (R185) -/

theorem answerCount_readNote (number : Nat) (bytes : List Byte) :
    1 ≤ answerCount (readNote number bytes) ∧ answerCount (readNote number bytes) ≤ 11 := by
  unfold readNote
  split
  · next present =>
    simp only [notePresent, noteLimits, Bool.and_eq_true, decide_eq_true_iff] at present
    obtain ⟨⟨⟨-, -⟩, ⟨low, high⟩, -⟩, -⟩ := present
    have some_byte : bytes ≠ [] := by
      rintro rfl
      exact absurd low (by decide)
    have long := List.length_pos_iff.2 some_byte
    rw [answerCount, segmentCount_eq, List.length_take]
    omega
  · exact ⟨Nat.le_refl 1, by decide⟩

/-- R186: the segments of a note read, in the statement's words. -/
theorem segments_eq (a : Ask) (image : Option (List Byte)) : segments a image = (match image with
    | none => [.notePart a.requester a.note 0 1 false []]
    | some b => (List.range ((b.length + 47) / 48)).map fun k =>
      .notePart a.requester a.note k ((b.length + 47) / 48) true (field b (48 * k) 48)) := by
  cases image with
  | none => rfl
  | some b =>
    have count := segmentCount_eq b.length
    dsimp only
    rw [← count]
    rfl

end Sys2Proof.Machine
end

section
/-! PROOFS. A page of a note's slot read for an ask, for a reprint and for a NOTE-STATUS (O48). -/

namespace Sys2Proof.Machine

/-! ### What a page read leaves (R188) -/

theorem yields_of_apart {c : Instr} {s u v : State} (answer : exec c s = finish v) (calm : v.Calm) (same : v.apart = u.apart) :
    Yields c s u := by
  obtain ⟨t, next, apart⟩ := yields_of_finish answer calm
  exact ⟨t, next, apart.trans same⟩

/-- R188, R203: page reads asked for in order; with nothing else to do the first begins at once. -/
theorem begins_askPages {s w : State} {owner : Reader} {page count : Nat} (some_page : 1 ≤ count)
    (answer : exec .pageReadComplete s = finish (askPages owner page count w)) (calm : w.Calm) (stp : w.stp = s.pageRead.stp)
    (reads : s.stp.reads = []) (free : s.stp.flight.bind (·.steps.head?) = none) :
    ∀ t, exec .pageReadComplete s = .next t → t.stp.port = .reading ⟨owner, page⟩ ∧
      t.stp.reads = (List.range (count - 1)).map fun k => ⟨owner, page + 1 + k⟩ := by
  obtain ⟨n, rfl⟩ : ∃ n, count = n + 1 := ⟨count - 1, by omega⟩
  have none : w.stp.reads = [] := (congrArg Stp.reads stp).trans reads
  have pages : w.stp.reads ++ ((List.range (n + 1)).map fun k => (⟨owner, page + k⟩ : ReadReq)) =
      ⟨owner, page⟩ :: (List.range n).map fun k => ⟨owner, page + 1 + k⟩ := by
    rw [none, List.nil_append, List.range_succ_eq_map, List.map_cons, List.map_map]
    exact congrArg₂ _ rfl (List.map_congr_left fun k _ => congrArg (ReadReq.mk owner) (Nat.add_right_comm page k 1))
  rw [askPages_eq] at answer
  refine begins_of_answer answer calm ?_ pages ?_
  · exact congrArg Stp.port stp
  · exact (congrArg (fun p : Stp => p.flight.bind (·.steps.head?)) stp).trans free

theorem askPages_apart (owner : Reader) (page count : Nat) (w : State) : (askPages owner page count w).apart = w.apart := by
  rw [askPages_eq]
  rfl

theorem askPages_calm {owner : Reader} {page count : Nat} {w : State} (calm : w.Calm) : (askPages owner page count w).Calm := by
  rw [askPages_eq]
  exact calm

/-- The further pages of a note that its first page calls for. -/
theorem furtherPages_def (page : List Byte) : furtherPages page =
    if 34 ≤ fieldNat page 5 2 ∧ fieldNat page 5 2 ≤ 498 then (fieldNat page 5 2 + 127) / 128 - 1 else 0 := by
  split
  · next fits => exact furtherPages_eq fits.1 fits.2
  · next not => exact if_neg fun ok => not ((lengthFieldOk_iff page).1 ok)

/-! ### For an ask (R185, R186) -/

section

variable {s : State} {a : Ask} {rest : List Ask} {bytes page : List Byte} {left more : Nat}
  (serving : s.ntb.serving = .reading bytes left) (asks : s.ntb.asks = a :: rest)
  (isMore : (if bytes = [] then furtherPages page else left - 1) = more)
include serving asks isMore

theorem askPage_last (last : more = 0) : askPage page s =
    serve serveSteps (s.modNtb fun x => { x with serving := .sending (readNote a.note.toNat (bytes ++ page)) 0 }) := by
  rw [askPage, serving, asks]
  exact if_pos (isMore.trans last)

theorem askPage_first (goes_on : more ≠ 0) (first : bytes = []) : askPage page s =
    askPages .ask (128 + 4 * (a.note.toNat % 240) + 1) more (s.modNtb fun x => { x with serving := .reading page more }) := by
  subst first
  rw [askPage, serving, asks]
  dsimp only
  rw [isMore, if_neg goes_on, if_pos rfl]
  rfl

theorem askPage_next (goes_on : more ≠ 0) (later : bytes ≠ []) : askPage page s =
    s.modNtb fun x => { x with serving := .reading (bytes ++ page) more } := by
  rw [askPage, serving, asks]
  dsimp only
  rw [isMore, if_neg goes_on, if_neg later]

end

/-! ### For a reprint (R183) -/

section

variable {s : State} {r : ReprintRead} {page : List Byte} {more : Nat} (reprint : s.ntb.reprint = some r)
  (isMore : (if r.bytes = [] then furtherPages page else r.left - 1) = more)
include reprint isMore

theorem reprintPage_first (goes_on : more ≠ 0) (first : r.bytes = []) : reprintPage page s =
    askPages .reprint (128 + 4 * (r.number % 240) + 1) more
      (s.modNtb fun x => { x with reprint := some { r with bytes := r.bytes ++ page, left := more } }) := by
  rw [reprintPage, reprint]
  dsimp only
  rw [isMore, if_neg goes_on, if_pos first]
  rfl

theorem reprintPage_next (goes_on : more ≠ 0) (later : r.bytes ≠ []) : reprintPage page s =
    s.modNtb fun x => { x with reprint := some { r with bytes := r.bytes ++ page, left := more } } := by
  rw [reprintPage, reprint]
  dsimp only
  rw [isMore, if_neg goes_on, if_neg later]

theorem reprintPage_absent (last : more = 0) (absent : readNote r.number (r.bytes ++ page) = none) :
    reprintPage page s = s.modNtb fun x => { x with reprint := none } := by
  rw [reprintPage, reprint]
  dsimp only
  rw [isMore, if_pos last, absent]

theorem reprintPage_present (last : more = 0) {image : List Byte} (present : readNote r.number (r.bytes ++ page) = some image) :
    reprintPage page s = joinPrints ⟨image, r.number, true⟩ (s.modNtb fun x => { x with reprint := none }) := by
  rw [reprintPage, reprint]
  dsimp only
  rw [isMore, if_pos last, present]

end

/-! ### A note that joins the print queue (R180, R181) -/

/-- R181: with nothing on the wire the next character goes out, or waits for BUSY; none is lost. -/
theorem sendNext_port {s : State} (free : s.ntb.port.wire = none) : ∃ port, sendNext s = s.modNtb (fun x => { x with port := port }) ∧
    port.wire.toList ++ port.chars = s.ntb.port.chars ∧ port.timer = s.ntb.port.timer ∧ port.busy = s.ntb.port.busy := by
  have same : s = s.modNtb fun x => { x with port := s.ntb.port } := rfl
  have stays : s.ntb.port.wire.toList ++ s.ntb.port.chars = s.ntb.port.chars := by rw [free]; rfl
  cases chars : s.ntb.port.chars with
  | nil =>
    rw [chars] at stays
    exact ⟨s.ntb.port, by rw [sendNext, free, chars]; exact same, by rw [chars]; exact stays, rfl, rfl⟩
  | cons y rest =>
    rw [chars] at stays
    cases busy : s.ntb.port.busy with
    | true => exact ⟨s.ntb.port, by rw [sendNext_busy free chars busy]; exact same, by rw [chars]; exact stays, rfl, busy⟩
    | false => exact ⟨_, sendNext_free free chars busy, rfl, rfl, busy⟩

/-- R180, R181: a note that joins an empty print queue begins to print at once. -/
theorem joinPrints_empty {e : PrintEntry} {s : State} (alone : s.ntb.prints = []) (done : s.sul.done = true)
    (free : s.ntb.port.wire = none) :
    ∃ port, joinPrints e s = s.modNtb (fun x => { x with prints := [e], port := port }) ∧
      port.wire.toList ++ port.chars = noteText e.image e.reprint ∧
      port.timer = (if s.ntb.port.busy then some (s.now + 30000000) else none) ∧ port.busy = s.ntb.port.busy := by
  obtain ⟨port, sends, text, timer, busy⟩ := sendNext_port (s := s.modNtb fun x => { x with
    prints := [e], port := { x.port with
      chars := noteText e.image e.reprint, timer := if x.port.busy then some (s.now + 30000000) else none } }) free
  refine ⟨port, ?_, text, timer, busy⟩
  rw [joinPrints, alone]
  dsimp only
  rw [if_pos (by exact done)]
  exact sends

theorem joinPrints_one {e h : PrintEntry} {s : State} (one : s.ntb.prints = [h]) :
    joinPrints e s = s.modNtb fun x => { x with prints := [h, e] } := by
  rw [joinPrints, one]

theorem joinPrints_two {e h w : PrintEntry} {rest : List PrintEntry} {s : State} (two : s.ntb.prints = h :: w :: rest) : joinPrints e s =
    if w.reprint then s.modNtb fun x => { x with prints := [h, e] }
    else requestStatus w.number .print 3 (s.modNtb fun x => { x with prints := [h, e] }) := by
  rw [joinPrints, two]
  rfl

/-! ### For a NOTE-STATUS (R196) -/

/-- R196: whether the first page of a NOTE-STATUS's slot is that of its note. -/
def statusFound (page : List Byte) (note : Nat) : Prop :=
  fieldNat page 0 1 = 0x4E ∧ fieldNat page 1 4 = note ∧ 34 ≤ fieldNat page 5 2 ∧ fieldNat page 5 2 ≤ 498

/-- R196: the one byte that a NOTE-STATUS writes. -/
def statusByte (page : List Byte) (note : Nat) (fld : StatusField) (code : Nat) : PageWrite :=
  ⟨128 + 4 * (note % 240) + statusOffset (fieldNat page 5 2) fld / 128, statusOffset (fieldNat page 5 2) fld % 128, [BitVec.ofNat 8 code]⟩

theorem statusWrite_found {page : List Byte} {note : Nat} (found : statusFound page note) (fld : StatusField) (code : Nat) :
    statusWrite note fld code page = [statusByte page note fld code] := by
  obtain ⟨tag, number, low, high⟩ := found
  rw [statusWrite, if_pos ⟨tag, number, (lengthFieldOk_iff page).2 ⟨low, high⟩⟩]
  have bytes : beBytes 1 code = [BitVec.ofNat 8 code] := by simp [beBytes]
  rw [bytes]
  rfl

theorem statusWrite_missing {page : List Byte} {note : Nat} (missing : ¬statusFound page note) (fld : StatusField) (code : Nat) :
    statusWrite note fld code page = [] := by
  refine if_neg fun ok => missing ⟨ok.1, ok.2.1, ?_⟩
  exact (lengthFieldOk_iff page).1 ok.2.2

section

variable {s : State} {f : Flight} {note code : Nat} {fld : StatusField} {page : List Byte}
  (flight : s.stp.flight = some f) (req : f.item.req = .noteStatus note fld code)
include flight req

theorem statusPage_found (found : statusFound page note) : statusPage page s =
    s.modStp fun p => { p with flight := some { f with steps := [statusByte page note fld code], reading := false } } := by
  rw [statusPage, flight]
  dsimp only
  rw [req]
  dsimp only
  rw [statusWrite_found found]

theorem statusPage_missing (missing : ¬statusFound page note) : statusPage page s = flightDone s := by
  rw [statusPage, flight]
  dsimp only
  rw [req]
  dsimp only
  rw [statusWrite_missing missing]

end

end Sys2Proof.Machine
end

section
/-! PROOFS. The event of a page read for the Note Builder or for a NOTE-STATUS (O48). -/

namespace Sys2Proof.Machine

/-- The store port with a page read behind it. -/
def State.readDone (s : State) : Stp := { s.stp with lastRead := true }

/-- R188: a page read leaves `u` but for what an event brings up to date, with `count` pages asked for in order. -/
def Asks (s : State) (owner : Reader) (u : State) (page count : Nat) : Prop :=
  Yields .pageReadComplete s u ∧
  (s.stp.reads = [] → s.stp.flight.bind (·.steps.head?) = none → ∀ t, exec .pageReadComplete s = .next t →
    t.stp.port = .reading ⟨owner, page⟩ ∧ t.stp.reads = (List.range (count - 1)).map fun k => ⟨owner, page + 1 + k⟩)

theorem asks_of_answer {s w u : State} {owner : Reader} {page count : Nat} (some_page : 1 ≤ count)
    (answer : exec .pageReadComplete s = finish (askPages owner page count w)) (calm : w.Calm) (stp : w.stp = s.pageRead.stp)
    (same : w.apart = u.apart) : Asks s owner u page count :=
  ⟨yields_of_apart answer (askPages_calm calm) ((askPages_apart ..).trans same), begins_askPages some_page answer calm stp⟩

/-! ### For an ask (R185, R186) -/

section

variable {s : State} {a : Ask} {rest : List Ask} {bytes page : List Byte} {left more : Nat} (calm : s.Calm)
  (answer : exec .pageReadComplete s = finish (askPage page s.pageRead))
  (serving : s.ntb.serving = .reading bytes left) (asks : s.ntb.asks = a :: rest)
  (isMore : (if bytes = [] then furtherPages page else left - 1) = more)
include calm answer serving asks isMore

theorem ask_goes_on (goes_on : more ≠ 0) :
    (bytes = [] → Asks s .ask { s with stp := s.readDone, ntb := { s.ntb with serving := .reading page more } }
      (128 + 4 * (a.note.toNat % 240) + 1) more) ∧
    (bytes ≠ [] → Yields .pageReadComplete s { s with
      stp := s.readDone, ntb := { s.ntb with serving := .reading (bytes ++ page) more } }) := by
  refine ⟨fun first => ?_, fun later => ?_⟩
  · rw [askPage_first (s := s.pageRead) serving asks isMore goes_on first] at answer
    exact asks_of_answer (by omega) answer calm rfl rfl
  · rw [askPage_next (s := s.pageRead) serving asks isMore goes_on later] at answer
    exact yields_of_apart answer calm rfl

omit calm in
/-- R186: the answer with which serving begins. -/
theorem ask_serves (last : more = 0) : exec .pageReadComplete s = finish (serve serveSteps
    (s.pageRead.modNtb fun x => { x with serving := .sending (readNote a.note.toNat (bytes ++ page)) 0 })) := by
  rwa [askPage_last (s := s.pageRead) serving asks isMore last] at answer

theorem ask_sends (last : more = 0) (isOpen : s.lif.link.Open) :
    let image := readNote a.note.toNat (bytes ++ page)
    let frames := segments a image
    let room := 6 - s.lif.fifo.length
    (room < frames.length → Yields .pageReadComplete s { s with
      stp := s.readDone, lif := { s.lif with fifo := s.lif.fifo ++ frames.take room }
      ntb := { s.ntb with serving := .sending image room } }) ∧
    (frames.length ≤ room → rest = [] → Yields .pageReadComplete s { s with
      stp := s.readDone, lif := { s.lif with fifo := s.lif.fifo ++ frames }
      ntb := { s.ntb with asks := [], serving := .idle } }) ∧
    (frames.length ≤ room → ∀ b : Ask, rest.head? = some b → b.note.toNat ≠ 0 → b.note.toNat < s.ntb.next →
      Asks s .ask { s with
        stp := s.readDone, lif := { s.lif with fifo := s.lif.fifo ++ frames }
        ntb := { s.ntb with asks := rest, serving := .reading [] 0 } } (128 + 4 * (b.note.toNat % 240)) 1) := by
  intro image frames room
  have answer := ask_serves answer serving asks isMore last
  obtain ⟨one, few⟩ : 1 ≤ answerCount image ∧ answerCount image ≤ 11 := answerCount_readNote a.note.toNat (bytes ++ page)
  have count : frames.length = answerCount image := by rw [show frames = segments a image from rfl, segments, List.length_map, List.length_range]
  rw [count]
  refine ⟨fun full => ?_, fun fits alone => ?_, fun fits b next nonzero sealed_ => ?_⟩
  · rw [serve_full (s := s.pageRead.modNtb fun x => { x with serving := .sending image 0 }) rfl asks few isOpen full] at answer
    exact yields_of_apart answer calm rfl
  · obtain ⟨n, serves⟩ := serve_fits (s := s.pageRead.modNtb fun x => { x with serving := .sending image 0 }) rfl asks one few isOpen
      (by change s.lif.fifo.length + answerCount image ≤ 6; omega)
    rw [serves, alone, serve_done] at answer
    exact yields_of_apart answer calm rfl
  · obtain ⟨n, serves⟩ := serve_fits (s := s.pageRead.modNtb fun x => { x with serving := .sending image 0 }) rfl asks one few isOpen
      (by change s.lif.fifo.length + answerCount image ≤ 6; omega)
    obtain ⟨more_asks, isRest⟩ : ∃ l, rest = b :: l := by
      cases rest with
      | nil => cases next
      | cons c l => exact ⟨l, by rw [Option.some.inj next]⟩
    have reads := serve_sealed (n := n) (s := (s.pageRead.modNtb fun x => { x with serving := .sending image 0 }).answered
      (s.lif.fifo ++ frames) rest) (a := b) (rest := more_asks) rfl isRest ⟨nonzero, sealed_⟩
    have answer := answer.trans (congrArg finish (serves.trans reads))
    exact asks_of_answer (count := 1) (w := ((s.pageRead.modNtb fun x => { x with serving := .sending image 0 }).answered
      (s.lif.fifo ++ frames) rest).modNtb fun x => { x with serving := .reading [] 0 }) (Nat.le_refl 1) answer calm rfl rfl

theorem ask_discards (last : more = 0) (mute : s.lif.link = .mute) (alone : rest = []) : Yields .pageReadComplete s { s with
    stp := s.readDone, ntb := { s.ntb with asks := [], serving := .idle } } := by
  have answer := ask_serves answer serving asks isMore last
  obtain ⟨one, few⟩ := answerCount_readNote a.note.toNat (bytes ++ page)
  obtain ⟨n, serves⟩ := serve_discarded (s := s.pageRead.modNtb fun x => { x with
    serving := .sending (readNote a.note.toNat (bytes ++ page)) 0 }) rfl asks one few mute
  rw [serves, alone, serve_done] at answer
  exact yields_of_apart answer calm rfl

end

/-! ### For a reprint (R180, R181, R183) -/

section

variable {s : State} {r : ReprintRead} {page : List Byte} {more : Nat} (calm : s.Calm)
  (answer : exec .pageReadComplete s = finish (reprintPage page s.pageRead)) (reprint : s.ntb.reprint = some r)
  (isMore : (if r.bytes = [] then furtherPages page else r.left - 1) = more)
include calm answer reprint isMore

theorem reprint_goes_on (goes_on : more ≠ 0) :
    (r.bytes = [] → Asks s .reprint { s with
      stp := s.readDone, ntb := { s.ntb with reprint := some { r with bytes := r.bytes ++ page, left := more } } }
      (128 + 4 * (r.number % 240) + 1) more) ∧
    (r.bytes ≠ [] → Yields .pageReadComplete s { s with
      stp := s.readDone, ntb := { s.ntb with reprint := some { r with bytes := r.bytes ++ page, left := more } } }) := by
  refine ⟨fun first => ?_, fun later => ?_⟩
  · rw [reprintPage_first (s := s.pageRead) reprint isMore goes_on first] at answer
    exact asks_of_answer (by omega) answer calm rfl rfl
  · rw [reprintPage_next (s := s.pageRead) reprint isMore goes_on later] at answer
    exact yields_of_apart answer calm rfl

theorem reprint_absent (last : more = 0) (absent : readNote r.number (r.bytes ++ page) = none) :
    Yields .pageReadComplete s { s with stp := s.readDone, ntb := { s.ntb with reprint := none } } := by
  rw [reprintPage_absent (s := s.pageRead) reprint isMore last absent] at answer
  exact yields_of_apart answer calm rfl

theorem reprint_present (last : more = 0) {image : List Byte} (present : readNote r.number (r.bytes ++ page) = some image) :
    let e : PrintEntry := ⟨image, r.number, true⟩
    (s.ntb.prints = [] → s.sul.done = true → s.ntb.port.wire = none →
      ∃ t, exec .pageReadComplete s = .next t ∧ t.ntb.prints = [e] ∧ t.ntb.reprint = none ∧
        t.ntb.port.wire.toList ++ t.ntb.port.chars = noteText image true ∧
        t.ntb.port.timer = (if s.ntb.port.busy then some (s.now + 30000000) else none)) ∧
    (∀ h : PrintEntry, s.ntb.prints = [h] → Yields .pageReadComplete s { s with
      stp := s.readDone, ntb := { s.ntb with reprint := none, prints := [h, e] } }) ∧
    (∀ h w : PrintEntry, s.ntb.prints = [h, w] →
      (w.reprint = true → Yields .pageReadComplete s { s with
        stp := s.readDone, ntb := { s.ntb with reprint := none, prints := [h, e] } }) ∧
      (w.reprint = false →
        ∃ t, exec .pageReadComplete s = .next t ∧ t.ntb.prints = [h, e] ∧ t.ntb.reprint = none ∧
          (s.ntb.statusList = [] → s.stp.queue.length < 12 → s.stp.flight.isSome = true →
            t.stp.queue = s.stp.queue ++ [⟨.noteStatus w.number .print 3, false⟩]))) := by
  intro e
  rw [reprintPage_present (s := s.pageRead) reprint isMore last present] at answer
  refine ⟨fun alone done free => ?_, fun h one => ?_, fun h w two => ?_⟩
  · obtain ⟨port, joins, text, timer, -⟩ := joinPrints_empty (e := e) (s := s.pageRead.modNtb fun x => { x with reprint := none })
      alone done free
    rw [joins] at answer
    refine ⟨_, answer, ?_⟩
    rw [settle_ntb (by exact calm)]
    exact ⟨rfl, rfl, text, timer⟩
  · rw [joinPrints_one (s := s.pageRead.modNtb fun x => { x with reprint := none }) one] at answer
    exact yields_of_apart answer calm rfl
  · rw [joinPrints_two (s := s.pageRead.modNtb fun x => { x with reprint := none }) two] at answer
    refine ⟨fun again => ?_, fun first => ?_⟩
    · rw [if_pos again] at answer
      exact yields_of_apart answer calm rfl
    · rw [if_neg (by rw [first]; decide)] at answer
      have steady := (settle_steady _).trans (requestStatus_steady w.number .print 3
        ((s.pageRead.modNtb fun x => { x with reprint := none }).modNtb fun x => { x with prints := [h, e] }))
      refine ⟨_, answer, ?_, ?_, fun empty room flight => ?_⟩
      · exact congrArg (·.ntb.prints) steady
      · exact congrArg (·.ntb.reprint) steady
      · exact settle_requestStatus_queue (s := (s.pageRead.modNtb fun x => { x with reprint := none }).modNtb fun x =>
          { x with prints := [h, e] }) calm empty room flight w.number .print 3

end

/-! ### For a NOTE-STATUS (R188, R196) -/

/-- R188: after a read the port goes on with the write that waits. -/
theorem settle_stp_writes {s : State} {w : PageWrite} (calm : s.Calm) (idle : s.stp.port = .idle) (last : s.stp.lastRead = true)
    (step : s.stp.flight.bind (·.steps.head?) = some w) :
    (settle s).stp = { s.stp with port := .writing w (s.now + 5000) } := by
  have stp : (refreshLamps (idleTimer s)).stp = s.stp := by rw [refreshLamps_stp, idleTimer_stp]
  have now : (refreshLamps (idleTimer s)).now = s.now := by
    have same := settle_now s
    rw [settle_calm calm] at same
    rwa [portKick_now] at same
  rw [settle_stp calm]
  generalize refreshLamps (idleTimer s) = v at stp now
  have kick : portKick v = v.modStp fun p => { p with port := .writing w (v.now + Config.writeTime) } := by
    rw [portKick, stp, idle, step, last]
    cases s.stp.reads <;> rfl
  rw [kick, ← stp, ← now]
  rfl

theorem store_of_apart {s t : State} (same : t.apart = s.apart) : t.store = s.store := by
  have store : t.apart.store = s.apart.store := by rw [same]
  exact store

theorem flight_of_apart {s t : State} (same : t.apart = s.apart) : t.stp.flight = s.stp.flight := by
  have flight : t.apart.stp.flight = s.apart.stp.flight := by rw [same]
  exact flight

theorem startNext_none {s : State} (empty : s.stp.queue = []) : startNext s = s := by
  rw [startNext, empty]
  split
  · next eq => cases eq
  · rfl

theorem startNext_some {s : State} {q : QItem} {rest : List QItem} (free : s.stp.flight = none) (queue : s.stp.queue = q :: rest) :
    startNext s = askStatusRead q (s.nextRequest q rest) := by
  rw [startNext, free, queue]
  rfl

theorem askStatusRead_flight (q : QItem) (s : State) : (askStatusRead q s).stp.flight = s.stp.flight := by
  unfold askStatusRead
  split <;> rfl

/-- R189: a request in flight stays there through the reports at the end of an event. -/
theorem settle_flight {u : State} (room : u.lif.roomFreed = false) (flies : u.stp.flight.isSome = true) :
    (settle u).stp.flight = u.stp.flight := by
  obtain ⟨-, same⟩ := reports_flies room flies
  rw [settle_stp_kick, (portKick_queue_flight _).2, refreshLamps_stp, idleTimer_stp]
  have flight : (reports u).stp.unoffered.flight = u.stp.unoffered.flight := by rw [same]
  exact flight

/-- R189: the next request leaves the queue and stays in flight. -/
theorem settle_startNext {s : State} {q : QItem} {rest : List QItem} (room : s.lif.roomFreed = false) (free : s.stp.flight = none)
    (queue : s.stp.queue = q :: rest) :
    (settle (startNext s)).stp.flight = some (flightOf s.stp.copies q) ∧ (settle (startNext s)).store = s.store := by
  have flies := askStatusRead_flight q (s.nextRequest q rest)
  have freed : (askStatusRead q (s.nextRequest q rest)).lif.roomFreed = false := by
    rw [lif_of_unstored' (askStatusRead_unstored _ _)]
    exact room
  rw [startNext_some free queue]
  refine ⟨?_, congrArg (·.2.1) ((settle_kept _).trans (askStatusRead_kept _ _))⟩
  rw [settle_flight freed (by rw [flies]; rfl), flies]
  rfl

section

variable {s : State} {f : Flight} {note code : Nat} {fld : StatusField} {page : List Byte} (calm : s.Calm)
  (answer : exec .pageReadComplete s = finish (statusPage page s.pageRead))
  (flight : s.stp.flight = some f) (req : f.item.req = .noteStatus note fld code)
include calm answer flight req

theorem status_writes (found : statusFound page note) :
    Yields .pageReadComplete s { s with
      stp := { s.readDone with flight := some { f with steps := [statusByte page note fld code], reading := false } } } ∧
    ∀ t, exec .pageReadComplete s = .next t →
      t.stp.port = .writing (statusByte page note fld code) (s.now + 5000) ∧ t.stp.reads = s.stp.reads := by
  rw [statusPage_found (s := s.pageRead) flight req found] at answer
  refine ⟨yields_of_apart answer calm rfl, fun t next => ?_⟩
  obtain rfl := Host.Outcome.next.inj (answer.symm.trans next)
  have write : (settle (s.pageRead.modStp fun p => { p with
      flight := some { f with steps := [statusByte page note fld code], reading := false } })).stp = _ :=
    settle_stp_writes (w := statusByte page note fld code) calm rfl rfl rfl
  rw [write]
  exact ⟨rfl, rfl⟩

theorem status_missing (missing : ¬statusFound page note) :
    (s.stp.queue = [] → Yields .pageReadComplete s { s with stp := { s.readDone with flight := none } }) ∧
    ∃ t, exec .pageReadComplete s = .next t ∧ t.store = s.store ∧
      t.stp.flight = s.stp.queue.head?.map (flightOf s.stp.copies) := by
  rw [statusPage_missing (s := s.pageRead) flight req missing, flightDone] at answer
  cases queue : s.stp.queue with
  | nil =>
    rw [startNext_none (s := s.pageRead.modStp fun p => { p with flight := none }) queue] at answer
    have yields : Yields .pageReadComplete s { s with stp := { s.readDone with flight := none } } :=
      yields_of_apart answer calm rfl
    obtain ⟨t, next, apart⟩ := yields
    refine ⟨fun _ => ⟨t, next, apart⟩, t, next, ?_, ?_⟩
    · exact store_of_apart (s := { s with stp := { s.readDone with flight := none } }) apart
    · exact flight_of_apart apart
  | cons q rest =>
    obtain ⟨flight, store⟩ := settle_startNext (s := s.pageRead.modStp fun p => { p with flight := none }) calm.1.2 rfl queue
    exact ⟨nofun, _, answer, store, flight⟩

end

end Sys2Proof.Machine

open Sys2Proof Sys2Proof.Machine

/-- Settles O48, by the reader for whom the page was read and by what is still to be read. -/
theorem pagesRead : Obligations.PagesRead := by
  intro s owner n calm port low page len further read whole asks
  have answer := exec_pageRead port low
  refine ⟨?_, ?_, ?_⟩
  · rintro a rest bytes left rfl isAsks serving base more image frames room
    have answer : exec .pageReadComplete s = finish (askPage page s.pageRead) := answer
    have isMore : (if bytes = [] then furtherPages page else left - 1) = more := by rw [furtherPages_def]
    have isFrames : frames = segments a image := (segments_eq a image).symm
    refine ⟨fun goes_on => (ask_goes_on calm answer serving isAsks isMore goes_on).1,
      fun goes_on => (ask_goes_on calm answer serving isAsks isMore goes_on).2, fun last down mute => ?_,
      fun last mute alone => ask_discards calm answer serving isAsks isMore last mute alone⟩
    rw [isFrames]
    exact ask_sends calm answer serving isAsks isMore last ⟨down, mute⟩
  · rintro r rfl reprint more done reads
    have answer : exec .pageReadComplete s = finish (reprintPage page s.pageRead) := answer
    have isMore : (if r.bytes = [] then furtherPages page else r.left - 1) = more := by rw [furtherPages_def]
    exact ⟨fun goes_on => (reprint_goes_on calm answer reprint isMore goes_on).1,
      fun goes_on => (reprint_goes_on calm answer reprint isMore goes_on).2,
      fun last absent => reprint_absent calm answer reprint isMore last absent,
      fun image last present => reprint_present calm answer reprint isMore last present⟩
  · rintro f note fld code rfl flight req off w found
    have answer : exec .pageReadComplete s = finish (statusPage page s.pageRead) := answer
    have isByte : statusByte page note fld code = w := by
      cases fld <;> rfl
    rw [← isByte]
    exact ⟨fun found => status_writes calm answer flight req found, fun missing => status_missing calm answer flight req missing⟩
end

section
/-! PROOFS. What the completion of a request leaves at the end of its event, and what the offers of a seal change while the request
that completes is still in flight (R24 to R27, R176, R177, R180, R189). -/

namespace Sys2Proof.Machine

/-! ### The end of the event in which a request is done (R189) -/

theorem flightDone_modStp (s : State) : ∃ stp, flightDone s = { s with stp := stp } :=
  ⟨_, startNext_modStp _⟩

section

variable (s : State)

theorem settle_flightDone_steady : (settle (flightDone s)).steady = s.steady := by
  obtain ⟨stp, e⟩ := flightDone_modStp s
  rw [settle_steady, e]
  rfl

theorem settle_flightDone_noted (not : s.sul.recovery ≠ .offering) : (settle (flightDone s)).noted = s.noted := by
  obtain ⟨stp, e⟩ := flightDone_modStp s
  rw [settle_noted (by rw [e]; exact not), e]
  rfl

end

theorem reports_unstored {u : State} (room : u.lif.roomFreed = false) : (reports u).unstored = u.unstored := by
  have same : (reportFreeSlot (recoveryNote (reportFreeSlot u))).unstored = u.unstored := by
    rw [reportFreeSlot_unstored, recoveryNote_unstored, reportFreeSlot_unstored]
  have freed : (reportFreeSlot (recoveryNote (reportFreeSlot u))).lif.roomFreed = false := by rw [lif_of_unstored' same, room]
  rw [reports, reportRoom, if_neg (by rw [freed]; decide), same]

/-- R151: with no room reported the frames that wait stay as they are. -/
theorem settle_frames {u : State} (room : u.lif.roomFreed = false) : (settle u).lif = u.lif ∧
    (settle u).ntb.heldReady = u.ntb.heldReady ∧ (settle u).pct.held = u.pct.held := by
  have same := reports_unstored room
  refine ⟨?_, ?_, ?_⟩
  · rw [settle_lif_reports, lif_of_unstored' same]
  · rw [settle_ntb_reports]
    exact congrArg (·.ntb.heldReady) same
  · rw [(settle_pct_reports u).2.2.1]
    exact congrArg (·.pct.held) same

theorem settle_flightDone_frames {s : State} (room : s.lif.roomFreed = false) : (settle (flightDone s)).lif = s.lif ∧
    (settle (flightDone s)).ntb.heldReady = s.ntb.heldReady ∧ (settle (flightDone s)).pct.held = s.pct.held := by
  obtain ⟨stp, e⟩ := flightDone_modStp s
  rw [e]
  exact settle_frames (u := { s with stp := stp }) room

/-! ### With nothing held, the free slot is taken by none -/

/-- Nothing waits to be offered to the store. -/
structure State.Unheld (s : State) : Prop where
  lanes : ∀ i : LaneNo, s.stage i ≠ .ended
  marks : s.pct.heldMarks = []
  build : ∀ b, s.ntb.build = some b → b.pages ≤ b.accepted
  list : s.ntb.statusList = []
  held : s.sul.held = []

theorem reportFreeSlot_unheld {s : State} (unheld : s.Unheld) : reportFreeSlot s = s.modStp fun p => { p with departed := false } := by
  have none : s.eachLane offerAfter = s :=
    foldl_fixed (fun i => if_neg (unheld.lanes i)) allLanes
  by_cases due : s.stp.departed = true
  · have lanes : (s.modStp fun p => { p with departed := false }).eachLane offerAfter = s.modStp fun p => { p with departed := false } :=
      foldl_fixed (fun i => if_neg (unheld.lanes i)) allLanes
    rw [reportFreeSlot, if_pos due]
    dsimp only
    rw [lanes]
    have marks : pctFreeSlot Config.heldMarks (s.modStp fun p => { p with departed := false }) =
        s.modStp fun p => { p with departed := false } := by
      rw [pctFreeSlot.eq_def]
      split
      · rfl
      · rw [show (s.modStp fun p => { p with departed := false }).pct.heldMarks = [] from unheld.marks]
    have pages : offerPages maxPages (s.modStp fun p => { p with departed := false }) =
        s.modStp fun p => { p with departed := false } := by
      rw [maxPages, offerPages]
      split
      · rfl
      · next b build => rw [if_neg (Nat.not_lt.2 (unheld.build b build))]
    have list : offerStatuses Config.statusListSize (s.modStp fun p => { p with departed := false }) =
        s.modStp fun p => { p with departed := false } := by
      rw [offerStatuses.eq_def]
      split
      · rfl
      · rw [show (s.modStp fun p => { p with departed := false }).ntb.statusList = [] from unheld.list]
    have held : sulFreeSlot Config.queueSize (s.modStp fun p => { p with departed := false }) =
        s.modStp fun p => { p with departed := false } := by
      rw [sulFreeSlot.eq_def]
      split
      · rfl
      · rw [show (s.modStp fun p => { p with departed := false }).sul.held = [] from unheld.held]
    rw [marks, ntbFreeSlot, pages, list, held]
  · rw [reportFreeSlot, if_neg due]
    have off : s.stp.departed = false := by simpa using due
    rw [State.modStp, ← off]

theorem settle_unheld {s : State} (unheld : s.Unheld) (room : s.lif.roomFreed = false) (not : s.sul.recovery ≠ .offering) :
    (settle s).stp.queue = s.stp.queue ∧ (settle s).stp.flight = s.stp.flight := by
  have first := reportFreeSlot_unheld unheld
  have calm : (s.modStp fun p => { p with departed := false }).Calm := ⟨⟨rfl, room⟩, not⟩
  have same : settle s = settle (s.modStp fun p => { p with departed := false }) := by
    rw [settle, first, settle, reportFreeSlot_unheld (s := s.modStp fun p => { p with departed := false })
      ⟨unheld.lanes, unheld.marks, unheld.build, unheld.list, unheld.held⟩]
    rfl
  rw [same]
  exact settle_queue_flight calm

/-- R189: the request that is done gives way to the first that waits; the others keep their order. -/
theorem settle_flightDone_queue {s : State} (unheld : s.Unheld) (room : s.lif.roomFreed = false) (not : s.sul.recovery ≠ .offering) :
    (settle (flightDone s)).stp.flight.toList.map (·.item) ++ (settle (flightDone s)).stp.queue = s.stp.queue := by
  obtain ⟨stp, e⟩ := flightDone_modStp s
  have kept := settle_unheld (s := { s with stp := stp }) ⟨unheld.lanes, unheld.marks, unheld.build, unheld.list, unheld.held⟩ room not
  rw [← e] at kept
  rw [kept.1, kept.2, flightDone]
  cases queue : s.stp.queue with
  | nil =>
    rw [startNext_none (s := s.modStp fun p => { p with flight := none }) queue]
    exact queue
  | cons q rest =>
    rw [startNext_some (s := s.modStp fun p => { p with flight := none }) rfl queue]
    have item : (flightOf s.stp.copies q).item = q := by
      unfold flightOf
      split <;> rfl
    unfold askStatusRead
    split
    · exact congrArg (· :: rest) item
    · exact congrArg (· :: rest) item

/-! ### Offers while a request is in flight -/

section

variable {s : State} (flight : s.stp.flight.isSome = true)
include flight

theorem enqueue_flying {q : QItem} {t : State} {b : Bool} (offer : enqueue q s = (b, t)) :
    ∃ queue, t = s.modStp fun p => { p with queue := queue } := by
  unfold enqueue at offer
  split at offer
  · exact ⟨_, (Prod.mk.inj offer).2.symm⟩
  · split at offer
    · rw [startNext_busy _ (by exact flight)] at offer
      exact ⟨_, (Prod.mk.inj offer).2.symm⟩
    · exact ⟨s.stp.queue, (Prod.mk.inj offer).2.symm⟩

/-- R179: a request of a note's status joins the queue or the list. -/
theorem requestStatus_flying (note : Nat) (f : StatusField) (code : Nat) : ∃ queue list,
    requestStatus note f code s = { s with stp := { s.stp with queue := queue }, ntb := { s.ntb with statusList := list } } ∧
    (s.ntb.statusList = [] → s.stp.queue.length < 12 →
      queue = s.stp.queue ++ [⟨.noteStatus note f code, false⟩] ∧ list = []) := by
  by_cases fits : s.ntb.statusList = [] ∧ s.stp.queue.length < 12
  · refine ⟨_, s.ntb.statusList, requestStatus_tail fits.1 fits.2 flight note f code, fun _ _ => ⟨rfl, fits.1⟩⟩
  · have joined (t : State) (queue : List QItem) (e : t = s.modStp fun p => { p with queue := queue }) : ∃ list,
        joinStatus ⟨note, f, code⟩ t = { s with stp := { s.stp with queue := queue }, ntb := { s.ntb with statusList := list } } := by
      subst e
      unfold joinStatus
      split
      · exact ⟨_, rfl⟩
      · exact ⟨s.ntb.statusList, rfl⟩
    unfold requestStatus
    split
    · split
      · rename_i t offer
        obtain ⟨queue, rfl⟩ := enqueue_flying flight offer
        exact ⟨queue, s.ntb.statusList, rfl, fun none room => absurd ⟨none, room⟩ fits⟩
      · rename_i t offer
        obtain ⟨queue, e⟩ := enqueue_flying flight offer
        obtain ⟨list, joins⟩ := joined t queue e
        exact ⟨queue, list, joins, fun none room => absurd ⟨none, room⟩ fits⟩
    · obtain ⟨list, joins⟩ := joined s s.stp.queue rfl
      exact ⟨_, list, joins, fun none room => absurd ⟨none, room⟩ fits⟩

/-- R21: a marker request joins the queue, or those held. -/
theorem pctMark_flying {r : WriteReq} (plain : checkLine r = none) : ∃ queue marks,
    pctMark r s = { s with stp := { s.stp with queue := queue }, pct := { s.pct with heldMarks := marks } } ∧
    (s.pct.heldMarks = [] → s.stp.queue.length < 12 → queue = s.stp.queue ++ [⟨r, false⟩] ∧ marks = []) := by
  by_cases fits : s.pct.heldMarks = [] ∧ s.stp.queue.length < 12
  · exact ⟨_, s.pct.heldMarks, pctMark_tail plain fits.1 fits.2 flight, fun _ _ => ⟨rfl, fits.1⟩⟩
  · unfold pctMark
    split
    · split
      · rename_i t offer
        obtain ⟨queue, rfl⟩ := enqueue_flying flight offer
        exact ⟨queue, s.pct.heldMarks, rfl, fun none room => absurd ⟨none, room⟩ fits⟩
      · rename_i t offer
        obtain ⟨queue, rfl⟩ := enqueue_flying flight offer
        dsimp only
        split
        · exact ⟨queue, _, rfl, fun none room => absurd ⟨none, room⟩ fits⟩
        · exact ⟨queue, s.pct.heldMarks, rfl, fun none room => absurd ⟨none, room⟩ fits⟩
    · dsimp only
      split
      · exact ⟨s.stp.queue, _, rfl, fun none room => absurd ⟨none, room⟩ fits⟩
      · exact ⟨s.stp.queue, s.pct.heldMarks, rfl, fun none room => absurd ⟨none, room⟩ fits⟩

/-- R189: an offer of the Start-up Loader joins the queue, or those held. -/
theorem sulOffer_flying {r : WriteReq} (plain : checkLine r = none) : ∃ queue held,
    sulOffer r s = { s with stp := { s.stp with queue := queue }, sul := { s.sul with held := held } } ∧
    (s.sul.held = [] → s.stp.queue.length < 12 → queue = s.stp.queue ++ [⟨r, true⟩] ∧ held = []) := by
  by_cases fits : s.sul.held = [] ∧ s.stp.queue.length < 12
  · refine ⟨_, s.sul.held, ?_, fun _ _ => ⟨rfl, fits.1⟩⟩
    rw [sulOffer, if_pos fits.1, enqueue_tail (q := ⟨r, true⟩) plain fits.2 flight]
    rfl
  · unfold sulOffer
    split
    · split
      · rename_i t offer
        obtain ⟨queue, rfl⟩ := enqueue_flying flight offer
        exact ⟨queue, s.sul.held, rfl, fun none room => absurd ⟨none, room⟩ fits⟩
      · rename_i t offer
        obtain ⟨queue, rfl⟩ := enqueue_flying flight offer
        exact ⟨queue, _, rfl, fun none room => absurd ⟨none, room⟩ fits⟩
    · exact ⟨s.stp.queue, _, rfl, fun none room => absurd ⟨none, room⟩ fits⟩

end

end Sys2Proof.Machine
end

section
/-! PROOFS. The seal of a note: what it makes of Permit Control, of the frames and the requests offered, and of the print queue
(R24, R25, R27, R176, R177, R180, R200). -/

namespace Sys2Proof.Machine

/-! ### The pending stamp displaced, and the slot at the seal (R24, R25, R27) -/

/-- R27: Permit Control without a pending stamp; an outstanding WRITE of it stays for its note. -/
def displacedPct (p : Pct) : Pct :=
  match p.pendingStamp with
  | none => p
  | some st => { p with
    write := if p.write = some .pendingStamp then some (.displaced st.note) else p.write
    pendingStamp := none, lifetime := none, lifetimeHeld := false }

/-- R24, R25: Permit Control with the trip's note sealed. -/
def sealedPct (b : Build) (station now : Nat) (p : Pct) : Pct := { displacedPct p with
  slot := .awaitStamp
  stampWindow := some (now + 120000000)
  stamp := some ⟨stampBytes b.number station b.endTime b.loaded, b.number, b.permit⟩ }

theorem displacedPct_none {p : Pct} (none : p.pendingStamp = none) : displacedPct p = p := by rw [displacedPct, none]

theorem displacedPct_some {p : Pct} {st : Stamp} (pending : p.pendingStamp = some st) : displacedPct p = { p with
    write := if p.write = some .pendingStamp then some (.displaced st.note) else p.write
    pendingStamp := none, lifetime := none, lifetimeHeld := false } := by rw [displacedPct, pending]

theorem displacedPct_parts (p : Pct) : (displacedPct p).pendingStamp = none ∧ (displacedPct p).trip = p.trip ∧
    (displacedPct p).held = p.held ∧ (displacedPct p).heldMarks = p.heldMarks := by
  cases pending : p.pendingStamp with
  | none => rw [displacedPct_none pending]; exact ⟨pending, rfl, rfl, rfl⟩
  | some st => rw [displacedPct_some pending]; exact ⟨rfl, rfl, rfl, rfl⟩

/-- R27, R179: the stamp status that a displaced stamp has requested. -/
def lapseRequests (p : Pct) : List QItem := p.pendingStamp.toList.map fun st => ⟨.noteStatus st.note .stamp 3, false⟩

theorem displacePending_flying {s : State} (flight : s.stp.flight.isSome = true) : ∃ queue list,
    displacePending s = { s with
      stp := { s.stp with queue := queue }, ntb := { s.ntb with statusList := list }, pct := displacedPct s.pct } ∧
    (s.ntb.statusList = [] → s.stp.queue.length + (lapseRequests s.pct).length ≤ 12 →
      queue = s.stp.queue ++ lapseRequests s.pct ∧ list = []) := by
  cases pending : s.pct.pendingStamp with
  | none =>
    refine ⟨s.stp.queue, s.ntb.statusList, ?_, fun none _ => ⟨?_, none⟩⟩
    · rw [displacePending, pending, displacedPct_none pending]
    · rw [lapseRequests, pending]
      exact (List.append_nil _).symm
  | some st =>
    obtain ⟨queue, list, requests, waits⟩ := requestStatus_flying (s := { s with pct := displacedPct s.pct }) flight st.note .stamp 3
    refine ⟨queue, list, ?_, fun none room => ?_⟩
    · rw [displacedPct_some pending] at requests ⊢
      refine Eq.trans ?_ requests
      rw [displacePending, pending]
      dsimp only
      rw [lapsePending]
      have still : (s.modPct fun p => { p with
          write := if p.write = some .pendingStamp then some (.displaced st.note) else p.write }).pct.pendingStamp = some st := pending
      rw [still]
      rfl
    · rw [lapseRequests, pending] at room ⊢
      exact waits none (Nat.lt_of_succ_le room)

/-! ### Frames offered (R14, R151, R177) -/

theorem offerFrame_refused {s : State} (taken : s.lif.link ≠ .mute) (refused : s.lif.link = .down ∨ 6 ≤ s.lif.fifo.length)
    (f : TxFrame) : offerFrame f s = (false, s) := by
  by_cases down : s.lif.link = .down
  · rw [offerFrame, down]
  · rw [offerFrame_open ⟨down, taken⟩, if_neg (Nat.not_lt.2 (refused.resolve_left down))]

/-- R151: whether the FIFO takes a frame. -/
theorem offered_cases (s : State) : s.lif.link = .mute ∨ s.lif.link.Open ∧ s.lif.fifo.length < 6 ∨
    s.lif.link ≠ .mute ∧ (s.lif.link = .down ∨ 6 ≤ s.lif.fifo.length) := by
  by_cases mute : s.lif.link = .mute
  · exact .inl mute
  · by_cases down : s.lif.link = .down
    · exact .inr (.inr ⟨mute, .inl down⟩)
    · by_cases room : s.lif.fifo.length < 6
      · exact .inr (.inl ⟨⟨down, mute⟩, room⟩)
      · exact .inr (.inr ⟨mute, .inr (Nat.not_lt.1 room)⟩)

theorem pctSend_shape {f : TxFrame} (plain : f.isHeld = false) (s : State) : ∃ fifo held,
    pctSend f s = { s with lif := { s.lif with fifo := fifo }, pct := { s.pct with held := held } } ∧
    (s.lif.link.Open → (s.lif.fifo.length < 6 → fifo = s.lif.fifo ++ [f] ∧ held = s.pct.held) ∧
      (6 ≤ s.lif.fifo.length → fifo = s.lif.fifo ∧ (s.pct.held.length < 24 → held = s.pct.held ++ [f]))) ∧
    (s.lif.link = .mute → fifo = s.lif.fifo ∧ held = s.pct.held) := by
  have unmet : ¬(f.isHeld ∧ f ∈ s.pct.held) := by rw [plain]; exact fun h => Bool.noConfusion h.1
  obtain mute | ⟨isOpen, room⟩ | ⟨mute, refused⟩ := offered_cases s
  · refine ⟨s.lif.fifo, s.pct.held, ?_, fun isOpen => absurd mute isOpen.2, fun _ => ⟨rfl, rfl⟩⟩
    rw [pctSend, if_neg unmet, offerFrame_mute f mute]
  · exact ⟨_, s.pct.held, pctSend_taken plain isOpen room,
      fun _ => ⟨fun _ => ⟨rfl, rfl⟩, fun full => absurd room (Nat.not_lt.2 full)⟩, fun mute => absurd mute isOpen.2⟩
  · have full (isOpen : s.lif.link.Open) (lt : s.lif.fifo.length < 6) : False :=
      refused.elim (fun down => isOpen.1 down) (fun le => Nat.not_lt.2 le lt)
    by_cases few : s.pct.held.length < 24
    · exact ⟨s.lif.fifo, _, pctSend_waits plain mute refused few,
        fun isOpen => ⟨fun lt => (full isOpen lt).elim, fun _ => ⟨rfl, fun _ => rfl⟩⟩, fun h => absurd h mute⟩
    · refine ⟨s.lif.fifo, s.pct.held, ?_, fun isOpen => ⟨fun lt => (full isOpen lt).elim, fun _ => ⟨rfl, fun lt => absurd lt few⟩⟩,
        fun h => absurd h mute⟩
      rw [pctSend, if_neg unmet, offerFrame_refused mute refused]
      exact if_neg few

theorem noteReady_shape (number permit : Word32) (s : State) : ∃ fifo ready,
    noteReady number permit s = { s with lif := { s.lif with fifo := fifo }, ntb := { s.ntb with heldReady := ready } } ∧
    (s.lif.link.Open → (s.lif.fifo.length < 6 → fifo = s.lif.fifo ++ [.noteReady number permit] ∧ ready = s.ntb.heldReady) ∧
      (6 ≤ s.lif.fifo.length → fifo = s.lif.fifo ∧ ready = some (number, permit))) ∧
    (s.lif.link = .mute → fifo = s.lif.fifo ∧ ready = s.ntb.heldReady) ∧
    (s.lif.link = .down → fifo = s.lif.fifo ∧ ready = some (number, permit)) := by
  obtain mute | ⟨isOpen, room⟩ | ⟨mute, refused⟩ := offered_cases s
  · refine ⟨s.lif.fifo, s.ntb.heldReady, ?_, fun isOpen => absurd mute isOpen.2, fun _ => ⟨rfl, rfl⟩,
      fun down => Link.noConfusion (mute.symm.trans down)⟩
    rw [noteReady, offerFrame_mute _ mute]
  · refine ⟨s.lif.fifo ++ [.noteReady number permit], s.ntb.heldReady, ?_,
      fun _ => ⟨fun _ => ⟨rfl, rfl⟩, fun full => absurd room (Nat.not_lt.2 full)⟩, fun mute => absurd mute isOpen.2,
      fun down => absurd down isOpen.1⟩
    rw [noteReady, offerFrame_open isOpen, if_pos room]
    rfl
  · refine ⟨s.lif.fifo, some (number, permit), ?_, fun isOpen => ⟨fun lt => ?_, fun _ => ⟨rfl, rfl⟩⟩, fun h => absurd h mute, fun _ => ⟨rfl, rfl⟩⟩
    · rw [noteReady, offerFrame_refused mute refused]
      rfl
    · exact (refused.elim (fun down => isOpen.1 down) (fun le => Nat.not_lt.2 le lt)).elim

/-! ### The copy that joins the print queue (R176, R180) -/

/-- R180: the print queue with one more entry. -/
def joined (e : PrintEntry) : List PrintEntry → List PrintEntry
  | [] => [e]
  | h :: _ => [h, e]

/-- R180: the print status that a replaced entry has requested. -/
def skipRequests : List PrintEntry → List QItem
  | _ :: x :: _ => if x.reprint then [] else [⟨.noteStatus x.number .print 3, false⟩]
  | _ => []

theorem sendNext_shape (s : State) : ∃ port, sendNext s = s.modNtb fun x => { x with port := port } := by
  unfold sendNext
  split
  · split
    · exact ⟨s.ntb.port, rfl⟩
    · exact ⟨_, rfl⟩
  · exact ⟨s.ntb.port, rfl⟩

theorem joinPrints_flying (e : PrintEntry) {s : State} (flight : s.stp.flight.isSome = true) : ∃ queue list port,
    joinPrints e s = { s with
      stp := { s.stp with queue := queue }
      ntb := { s.ntb with prints := joined e s.ntb.prints, statusList := list, port := port } } ∧
    (s.ntb.statusList = [] → s.stp.queue.length + (skipRequests s.ntb.prints).length ≤ 12 →
      queue = s.stp.queue ++ skipRequests s.ntb.prints ∧ list = []) ∧
    (s.ntb.prints = [] → s.sul.done = true → s.ntb.port.wire = none →
      port.wire.toList ++ port.chars = noteText e.image e.reprint ∧ port.busy = s.ntb.port.busy ∧
      port.timer = (if s.ntb.port.busy then some (s.now + 30000000) else none)) ∧
    (s.ntb.prints ≠ [] ∨ s.sul.done = false → port = s.ntb.port) := by
  match prints : s.ntb.prints with
  | [] =>
    have stays (port : Port) (shape : joinPrints e s = s.modNtb fun x => { x with prints := [e], port := port }) :
        joinPrints e s = { s with
          stp := { s.stp with queue := s.stp.queue }
          ntb := { s.ntb with prints := joined e [], statusList := s.ntb.statusList, port := port } } := shape
    have unasked : s.stp.queue = s.stp.queue ++ skipRequests [] := (List.append_nil _).symm
    by_cases done : s.sul.done = true
    · by_cases free : s.ntb.port.wire = none
      · obtain ⟨port, shape, text, timer, busy⟩ := joinPrints_empty (e := e) prints done free
        exact ⟨_, _, port, stays port shape, fun none _ => ⟨unasked, none⟩, fun _ _ _ => ⟨text, busy, timer⟩,
          fun idle => idle.elim (fun h => absurd rfl h) fun h => Bool.noConfusion (done.symm.trans h)⟩
      · obtain ⟨port, sends⟩ := sendNext_shape (s.modNtb fun x => { x with
          prints := [e], port := { x.port with
            chars := noteText e.image e.reprint, timer := if x.port.busy then some (s.now + 30000000) else none } })
        refine ⟨_, _, port, stays port ?_, fun none _ => ⟨unasked, none⟩, fun _ _ h => absurd h free,
          fun idle => idle.elim (fun h => absurd rfl h) fun h => Bool.noConfusion (done.symm.trans h)⟩
        rw [joinPrints, prints]
        dsimp only
        rw [if_pos (by exact done)]
        exact sends
    · refine ⟨_, _, s.ntb.port, stays s.ntb.port ?_, fun none _ => ⟨unasked, none⟩, fun _ h => absurd h done, fun _ => rfl⟩
      rw [joinPrints, prints]
      dsimp only
      rw [if_neg (by exact done)]
      rfl
  | [h] =>
    exact ⟨s.stp.queue, s.ntb.statusList, s.ntb.port, joinPrints_one prints, fun none _ => ⟨(List.append_nil _).symm, none⟩,
      nofun, fun _ => rfl⟩
  | h :: w :: rest =>
    have joins := joinPrints_two (e := e) prints
    cases again : w.reprint with
    | true =>
      rw [again, if_pos rfl] at joins
      refine ⟨s.stp.queue, s.ntb.statusList, s.ntb.port, joins, fun none _ => ⟨?_, none⟩, nofun, fun _ => rfl⟩
      rw [skipRequests, again]
      exact (List.append_nil _).symm
    | false =>
      rw [again, if_neg Bool.false_ne_true] at joins
      obtain ⟨queue, list, requests, waits⟩ := requestStatus_flying (s := s.modNtb fun x => { x with prints := [h, e] }) flight
        w.number .print 3
      refine ⟨queue, list, s.ntb.port, joins.trans requests, fun none room => ?_, nofun, fun _ => rfl⟩
      rw [skipRequests, again] at room ⊢
      exact waits none (Nat.lt_of_succ_le room)

end Sys2Proof.Machine
end

section
/-! PROOFS. The seal of a trip's note and of a recovered one, and the event of their last page (O9). -/

namespace Sys2Proof.Machine

/-! ### The trip's note (R24, R25) -/

theorem noteSealed_flying (b : Build) {s : State} {tr : Trip} (trip : s.pct.trip = some tr) (flight : s.stp.flight.isSome = true) :
    ∃ queue list fifo held marks,
      noteSealed b s = { s with
        stp := { s.stp with queue := queue }
        lif := { s.lif with fifo := fifo }
        ntb := { s.ntb with statusList := list }
        pct := { sealedPct b s.lif.station s.now s.pct with held := held, heldMarks := marks } } ∧
      (s.ntb.statusList = [] → s.pct.heldMarks = [] → s.stp.queue.length + (lapseRequests s.pct).length + 1 ≤ 12 →
        queue = s.stp.queue ++ (lapseRequests s.pct ++ [⟨.markClosed (closeHead tr.marker), false⟩]) ∧ list = [] ∧ marks = []) ∧
      (s.lif.link.Open → (s.lif.fifo.length < 6 → fifo = s.lif.fifo ++ [.release tr.permit] ∧ held = s.pct.held) ∧
        (6 ≤ s.lif.fifo.length → fifo = s.lif.fifo ∧ (s.pct.held.length < 24 → held = s.pct.held ++ [.release tr.permit]))) ∧
      (s.lif.link = .mute → fifo = s.lif.fifo ∧ held = s.pct.held) := by
  obtain ⟨-, -, sameHeld, sameMarks⟩ := displacedPct_parts s.pct
  obtain ⟨queue, list, displaced, lapses⟩ := displacePending_flying flight
  obtain ⟨fifo, held, sends, opens, mutes⟩ := pctSend_shape (f := .release tr.permit) rfl (displacePending s)
  rw [displaced] at sends opens mutes
  dsimp only at opens mutes
  rw [sameHeld] at opens mutes
  obtain ⟨queue', marks, marked, waits⟩ := pctMark_flying (s := { s with
    stp := { s.stp with queue := queue }, ntb := { s.ntb with statusList := list }
    lif := { s.lif with fifo := fifo }, pct := { displacedPct s.pct with held := held } }) flight
    (r := .markClosed (closeHead tr.marker)) rfl
  dsimp only at waits
  rw [sameMarks] at waits
  refine ⟨queue', list, fifo, held, marks, ?_, fun none unheld room => ?_, opens, mutes⟩
  · rw [noteSealed, trip]
    dsimp only
    rw [displaced, sends, marked]
    rfl
  · obtain ⟨rfl, empty⟩ := lapses none (by omega)
    obtain ⟨rfl, unmarked⟩ := waits unheld (by rw [List.length_append]; omega)
    exact ⟨List.append_assoc .., empty, unmarked⟩

/-- What a seal makes of the print queue's port: the copy's text, or what was there. -/
def PrintsCopy (image : List Byte) (s : State) (port : Port) : Prop :=
  (s.ntb.prints = [] → s.sul.done = true → s.ntb.port.wire = none →
    port.wire.toList ++ port.chars = noteText image false ∧ port.busy = s.ntb.port.busy ∧
    port.timer = (if s.ntb.port.busy then some (s.now + 30000000) else none)) ∧
  (s.ntb.prints ≠ [] ∨ s.sul.done = false → port = s.ntb.port)

/-- What a seal leaves of the Note Builder. -/
def sealedNtb (b : Build) (ready : Option (Word32 × Word32)) (list : List StatusReq) (port : Port) (x : Ntb) : Ntb := { x with
  next := x.next + 1, build := none, heldReady := ready, statusList := list
  prints := joined ⟨b.image, b.number, false⟩ x.prints, port := port }

/-- The state in which the trip's note is sealed, with what is offered and what waits. -/
def State.tripSealed (b : Build) (queue : List QItem) (list : List StatusReq) (fifo held : List TxFrame) (marks : List WriteReq)
    (ready : Option (Word32 × Word32)) (port : Port) (s : State) : State :=
  { s with
    stp := { s.stp with queue := queue }
    lif := { s.lif with fifo := fifo }
    ntb := sealedNtb b ready list port s.ntb
    pct := { sealedPct b s.lif.station s.now s.pct with held := held, heldMarks := marks } }

/-- The state in which a recovered note is sealed, with what is offered and what waits. -/
def State.recoverySeals (b : Build) (queue : List QItem) (list : List StatusReq) (fifo : List TxFrame) (held : List WriteReq)
    (ready : Option (Word32 × Word32)) (port : Port) (s : State) : State :=
  { s with
    stp := { s.stp with queue := queue }
    lif := { s.lif with fifo := fifo }
    ntb := sealedNtb b ready list port s.ntb
    sul := { s.sul with recovery := .closing, held := held } }

/-- R177, R180: NOTE-READY and the copy for the print queue, after the report of the seal. -/
theorem announced {b : Build} {s : State} (flight : s.stp.flight.isSome = true) : ∃ queue list fifo ready port,
    (joinPrints ⟨b.image, b.number, false⟩ (noteReady (BitVec.ofNat 32 b.number) b.permit s)) = { s with
      stp := { s.stp with queue := queue }, lif := { s.lif with fifo := fifo }
      ntb := { s.ntb with heldReady := ready, statusList := list, prints := joined ⟨b.image, b.number, false⟩ s.ntb.prints, port := port } } ∧
    (s.ntb.statusList = [] → s.stp.queue.length + (skipRequests s.ntb.prints).length ≤ 12 →
      queue = s.stp.queue ++ skipRequests s.ntb.prints ∧ list = []) ∧
    PrintsCopy b.image s port ∧
    (s.lif.link.Open →
      (s.lif.fifo.length < 6 → fifo = s.lif.fifo ++ [.noteReady (BitVec.ofNat 32 b.number) b.permit] ∧ ready = s.ntb.heldReady) ∧
      (6 ≤ s.lif.fifo.length → fifo = s.lif.fifo ∧ ready = some (BitVec.ofNat 32 b.number, b.permit))) ∧
    (s.lif.link = .mute → fifo = s.lif.fifo ∧ ready = s.ntb.heldReady) ∧
    (s.lif.link = .down → fifo = s.lif.fifo ∧ ready = some (BitVec.ofNat 32 b.number, b.permit)) := by
  obtain ⟨fifo, ready, announces, clauses⟩ := noteReady_shape (BitVec.ofNat 32 b.number) b.permit s
  rw [announces]
  obtain ⟨queue, list, port, joins, waits, text, idle⟩ := joinPrints_flying ⟨b.image, b.number, false⟩ (s := { s with
    lif := { s.lif with fifo := fifo }, ntb := { s.ntb with heldReady := ready } }) flight
  exact ⟨queue, list, fifo, ready, port, joins, waits, ⟨text, idle⟩, clauses⟩

theorem sealNote_trip {b : Build} {s : State} {tr : Trip} (ofTrip : b.recovered = false) (trip : s.pct.trip = some tr)
    (flight : s.stp.flight.isSome = true) : ∃ queue list fifo held marks ready port,
    sealNote b s = s.tripSealed b queue list fifo held marks ready port ∧
    (s.ntb.statusList = [] → s.pct.heldMarks = [] →
      s.stp.queue.length + (lapseRequests s.pct ++ [(⟨.markClosed (closeHead tr.marker), false⟩ : QItem)] ++
        skipRequests s.ntb.prints).length ≤ 12 →
      queue = s.stp.queue ++ (lapseRequests s.pct ++ [⟨.markClosed (closeHead tr.marker), false⟩] ++ skipRequests s.ntb.prints) ∧
      list = [] ∧ marks = []) ∧
    PrintsCopy b.image s port ∧
    (s.lif.link.Open →
      fifo = s.lif.fifo ++ [.release tr.permit, .noteReady (BitVec.ofNat 32 b.number) b.permit].take (6 - s.lif.fifo.length) ∧
      ready = (if s.lif.fifo.length ≤ 4 then s.ntb.heldReady else some (BitVec.ofNat 32 b.number, b.permit)) ∧
      (s.lif.fifo.length ≤ 5 → held = s.pct.held) ∧
      (6 ≤ s.lif.fifo.length → s.pct.held.length < 24 → held = s.pct.held ++ [.release tr.permit])) ∧
    (s.lif.link = .mute → fifo = s.lif.fifo ∧ ready = s.ntb.heldReady ∧ held = s.pct.held) := by
  obtain ⟨queue, list, fifo, held, marks, isSealed, waits, opens, mutes⟩ :=
    noteSealed_flying b (s := s.modNtb fun x => { x with next := x.next + 1 }) trip flight
  obtain ⟨queue', list', fifo', ready, port, announces, waits', copy, opens', mutes', -⟩ :=
    announced (b := b) (s := noteSealed b (s.modNtb fun x => { x with next := x.next + 1 })) (by rw [isSealed]; exact flight)
  have sealNote_is : sealNote b s = (joinPrints ⟨b.image, b.number, false⟩ (noteReady (BitVec.ofNat 32 b.number) b.permit
      (noteSealed b (s.modNtb fun x => { x with next := x.next + 1 })))).modNtb fun x => { x with build := none } := by
    rw [sealNote, ofTrip]
    rfl
  rw [isSealed] at announces waits' opens' mutes' copy sealNote_is
  refine ⟨queue', list', fifo', held, marks, ready, port, ?_, fun none unheld room => ?_, copy, fun isOpen => ?_, fun mute => ?_⟩
  · rw [sealNote_is, announces]
    rfl
  · rw [List.length_append, List.length_append, List.length_singleton] at room
    obtain ⟨rfl, empty, unmarked⟩ := waits none unheld (by
      change s.stp.queue.length + (lapseRequests s.pct).length + 1 ≤ 12
      omega)
    obtain ⟨rfl, empty'⟩ := waits' empty (by
      change (s.stp.queue ++ (lapseRequests s.pct ++ [_])).length + (skipRequests s.ntb.prints).length ≤ 12
      rw [List.length_append, List.length_append, List.length_singleton]
      omega)
    exact ⟨List.append_assoc .., empty', unmarked⟩
  · obtain ⟨room, full⟩ := opens isOpen
    obtain ⟨room', full'⟩ := opens' isOpen
    dsimp only [State.modNtb] at room full room' full'
    by_cases lt : s.lif.fifo.length < 6
    · obtain ⟨rfl, rfl⟩ := room lt
      by_cases both : s.lif.fifo.length ≤ 4
      · obtain ⟨rfl, rfl⟩ := room' (by rw [List.length_append, List.length_singleton]; omega)
        refine ⟨?_, (if_pos both).symm, fun _ => rfl, fun le => absurd lt (Nat.not_lt.2 le)⟩
        rw [List.take_of_length_le (by simp only [List.length_cons, List.length_nil]; omega), List.append_assoc]
        rfl
      · obtain ⟨rfl, rfl⟩ := full' (by rw [List.length_append, List.length_singleton]; omega)
        refine ⟨?_, (if_neg both).symm, fun _ => rfl, fun le => absurd lt (Nat.not_lt.2 le)⟩
        rw [show 6 - s.lif.fifo.length = 1 by omega]
        rfl
    · have le := Nat.not_lt.1 lt
      obtain ⟨rfl, kept⟩ := full le
      obtain ⟨rfl, rfl⟩ := full' le
      refine ⟨?_, (if_neg (by omega)).symm, fun few => absurd le (by omega), fun _ few => kept few⟩
      rw [show 6 - s.lif.fifo.length = 0 by omega, List.take_zero, List.append_nil]
  · obtain ⟨rfl, rfl⟩ := mutes mute
    obtain ⟨rfl, rfl⟩ := mutes' mute
    exact ⟨rfl, rfl, rfl⟩

/-! ### A recovered note (R178, R200) -/

theorem sealNote_recovered {b : Build} {s : State} {m : Marker} (recovered : b.recovered = true) (marker : s.sul.marker = some m)
    (flight : s.stp.flight.isSome = true) : ∃ queue list fifo held ready port,
    sealNote b s = s.recoverySeals b queue list fifo held ready port ∧
    (s.ntb.statusList = [] → s.sul.held = [] →
      s.stp.queue.length + ([(⟨.markClosed (closeHead m.head), true⟩ : QItem)] ++ skipRequests s.ntb.prints).length ≤ 12 →
      queue = s.stp.queue ++ ([⟨.markClosed (closeHead m.head), true⟩] ++ skipRequests s.ntb.prints) ∧ list = [] ∧ held = []) ∧
    PrintsCopy b.image s port ∧
    (s.lif.link = .down → fifo = s.lif.fifo ∧ ready = some (BitVec.ofNat 32 b.number, b.permit)) := by
  obtain ⟨queue, held, offered, waits⟩ := sulOffer_flying (r := .markClosed (closeHead m.head))
    (s := { s with ntb := { s.ntb with next := s.ntb.next + 1 }, sul := { s.sul with recovery := .closing } }) flight rfl
  have isSealed : recoverySealed (s.modNtb fun x => { x with next := x.next + 1 }) = { s with
      ntb := { s.ntb with next := s.ntb.next + 1 }
      stp := { s.stp with queue := queue }
      sul := { s.sul with recovery := .closing, held := held } } := by
    rw [recoverySealed]
    have same : (s.modNtb fun x => { x with next := x.next + 1 }).sul.marker = some m := marker
    rw [same]
    exact offered
  obtain ⟨queue', list', fifo', ready, port, announces, waits', copy, -, -, downs⟩ :=
    announced (b := b) (s := recoverySealed (s.modNtb fun x => { x with next := x.next + 1 })) (by rw [isSealed]; exact flight)
  have sealNote_is : sealNote b s = (joinPrints ⟨b.image, b.number, false⟩ (noteReady (BitVec.ofNat 32 b.number) b.permit
      (recoverySealed (s.modNtb fun x => { x with next := x.next + 1 })))).modNtb fun x => { x with build := none } := by
    rw [sealNote, recovered]
    rfl
  rw [isSealed] at announces waits' downs copy sealNote_is
  refine ⟨queue', list', fifo', held, ready, port, ?_, fun none unheld room => ?_, copy, downs⟩
  · rw [sealNote_is, announces]
    rfl
  · rw [List.length_append, List.length_singleton] at room
    obtain ⟨rfl, held'⟩ := waits unheld (by
      change s.stp.queue.length < 12
      omega)
    obtain ⟨rfl, empty⟩ := waits' none (by
      change (s.stp.queue ++ [_]).length + (skipRequests s.ntb.prints).length ≤ 12
      rw [List.length_append, List.length_singleton]
      omega)
    exact ⟨List.append_assoc .., empty, held'⟩

theorem joined_eq (e : PrintEntry) (l : List PrintEntry) : joined e l = (match l with
    | [] => [e]
    | h :: _ => [h, e]) := by cases l <;> rfl

/-! ### The event of a note's last page (R176, R189) -/

section

variable {s : State} {w : PageWrite} {due : Nat} {f : Flight} (port : s.stp.port = .writing w due) (inside : w.inRange = true)
  (flight : s.stp.flight = some f) (last : f.steps.tail = [])
include port inside flight last

theorem exec_lastPage {b : Build} {page : Nat} {bytes : List Byte} (req : f.item.req = .notePage b.number page bytes)
    (build : s.ntb.build = some b) (pages : b.pages = page) :
    exec .pageWriteComplete s = finish (flightDone (sealNote b (written w due s))) := by
  have isFlight : (written w due s).stp.flight = some f := flight
  have isBuild : (written w due s).ntb.build = some b := build
  rw [exec_pageWriteComplete_inside port inside, stepDone, isFlight]
  dsimp only
  rw [if_pos last, recordCopy_plain _ (by rw [req]; exact nofun), reportDone, req]
  dsimp only
  rw [isBuild]
  dsimp only
  rw [if_pos ⟨rfl, pages⟩]

/-- R200: the marker's write completes the recovery. -/
theorem exec_markerClosed {head : List Byte} (item : f.item = ⟨.markClosed head, true⟩) (closing : s.sul.recovery = .closing) :
    exec .pageWriteComplete s = finish (flightDone ((written w due s).modSul fun u => { u with recovery := .complete })) := by
  have isFlight : (written w due s).stp.flight = some f := flight
  rw [exec_pageWriteComplete_inside port inside, stepDone, isFlight]
  dsimp only
  rw [if_pos last, item, recordCopy_plain _ (by exact nofun), reportDone]
  dsimp only
  rw [if_pos ⟨rfl, closing⟩]

end

end Sys2Proof.Machine

open Sys2Proof Sys2Proof.Machine

/-- Settles O9, by what the seal of a note leaves while its request is in flight and by what the completion of a request leaves. -/
theorem lastPageSealsNote : Obligations.LastPageSealsNote := by
  refine ⟨fun s w due page bytes b f recovery port inside flight req last build pages => ?_,
    fun s w due f head closing port inside flight item last => ?_⟩
  · intro number skipped offers copied
    have answer := exec_lastPage port inside flight last req build pages
    have flying : (written w due s).stp.flight.isSome = true := by
      rw [show (written w due s).stp.flight = some f from flight]
      rfl
    have isSkipped : skipRequests s.ntb.prints = skipped := rfl
    refine ⟨fun tr ofTrip trip => ?_, fun m recovered marker => ?_⟩
    · obtain ⟨queue, list, fifo, held, marks, ready, prints, isSealed, waits, ⟨text, idle⟩, opens, mutes⟩ :=
        sealNote_trip (s := written w due s) ofTrip trip flying
      have steady := settle_flightDone_steady ((written w due s).tripSealed b queue list fifo held marks ready prints)
      have noted := settle_flightDone_noted ((written w due s).tripSealed b queue list fifo held marks ready prints) recovery
      have frames := settle_flightDone_frames (s := (written w due s).tripSealed b queue list fifo held marks ready prints)
      have requests := settle_flightDone_queue (s := (written w due s).tripSealed b queue list fifo held marks ready prints)
      rw [isSealed, finish] at answer
      generalize settle (flightDone ((written w due s).tripSealed b queue list fifo held marks ready prints)) = t at *
      have isPort : t.ntb.port = prints := congrArg (·.ntb.port) steady
      obtain ⟨pending, trips, -, -⟩ := displacedPct_parts s.pct
      have writes : t.pct.write = (displacedPct s.pct).write := congrArg (·.pct.write) steady
      refine ⟨t, answer, congrArg (·.ntb.next) steady, Option.map_eq_none_iff.1 (congrArg Prod.fst noted),
        congrArg (·.pct.slot) steady, (congrArg (·.pct.trip) steady).trans (trips.trans trip),
        (congrArg (·.pct.pendingStamp) steady).trans pending, congrArg (·.pct.stampWindow) steady, congrArg (·.pct.stamp) steady,
        congrArg (·.lanes) steady, ⟨(congrArg (·.ntb.prints) steady).trans ?_, fun alone done free => ?_, fun idles => ?_⟩,
        fun none => ?_, fun st some => ?_, fun calm held none unheld room still => ?_, fun calm => ⟨fun down mute => ?_, fun mute => ?_⟩⟩
      · exact joined_eq _ _
      · rw [isPort]
        exact text alone done free
      · rw [isPort]
        exact idle idles
      · rw [writes, displacedPct_none none]
      · rw [writes, displacedPct_some some]
      · obtain ⟨isQueue, empty, unmarked⟩ := waits none unheld room
        rw [requests ⟨still, unmarked, nofun, empty, held⟩ calm.1.2 recovery]
        exact isQueue
      · obtain ⟨lif, heldReady, isHeld⟩ := frames calm.1.2
        obtain ⟨fifos, readies, taken, kept⟩ := opens ⟨down, mute⟩
        exact ⟨(congrArg Lif.fifo lif).trans fifos, heldReady.trans readies, fun few => isHeld.trans (taken few),
          fun full few => isHeld.trans (kept full few)⟩
      · obtain ⟨lif, heldReady, isHeld⟩ := frames calm.1.2
        obtain ⟨fifos, readies, helds⟩ := mutes mute
        exact ⟨(congrArg Lif.fifo lif).trans fifos, heldReady.trans readies, isHeld.trans helds⟩
    · obtain ⟨queue, list, fifo, held, ready, prints, isSealed, waits, ⟨text, idle⟩, downs⟩ :=
        sealNote_recovered (s := written w due s) recovered marker flying
      have closing : ((written w due s).recoverySeals b queue list fifo held ready prints).sul.recovery ≠ .offering := Recovery.noConfusion
      have steady := settle_flightDone_steady ((written w due s).recoverySeals b queue list fifo held ready prints)
      have noted := settle_flightDone_noted ((written w due s).recoverySeals b queue list fifo held ready prints) closing
      have frames := settle_flightDone_frames (s := (written w due s).recoverySeals b queue list fifo held ready prints)
      have requests := settle_flightDone_queue (s := (written w due s).recoverySeals b queue list fifo held ready prints)
      rw [isSealed, finish] at answer
      generalize settle (flightDone ((written w due s).recoverySeals b queue list fifo held ready prints)) = t at *
      have isPort : t.ntb.port = prints := congrArg (·.ntb.port) steady
      refine ⟨t, answer, congrArg (·.ntb.next) steady, Option.map_eq_none_iff.1 (congrArg Prod.fst noted), congrArg Prod.snd noted,
        congrArg (·.sul.phase) steady, congrArg (·.sul.done) steady, congrArg (·.pct.slot) steady, congrArg (·.pct.trip) steady,
        congrArg (·.pct.stamp) steady, congrArg (·.pct.stampWindow) steady, congrArg (·.pct.pendingStamp) steady,
        congrArg (·.pct.write) steady, congrArg (·.lanes) steady,
        ⟨(congrArg (·.ntb.prints) steady).trans ?_, fun alone done free => ?_, fun idles => ?_⟩,
        fun calm unheld none unmarked room still => ?_, fun calm down => ?_⟩
      · exact joined_eq _ _
      · rw [isPort]
        exact text alone done free
      · rw [isPort]
        exact idle idles
      · obtain ⟨isQueue, empty, unoffered⟩ := waits none unheld room
        rw [requests ⟨still, unmarked, nofun, empty, unoffered⟩ calm.1.2 closing]
        exact isQueue
      · obtain ⟨lif, heldReady, -⟩ := frames calm.1.2
        obtain ⟨fifos, readies⟩ := downs down
        exact ⟨(congrArg Lif.fifo lif).trans fifos, heldReady.trans readies⟩
  · have answer := exec_markerClosed port inside flight last item closing
    generalize e : written w due s = v at answer
    have steady := settle_flightDone_steady (v.modSul fun u => { u with recovery := .complete })
    have noted := settle_flightDone_noted (v.modSul fun u => { u with recovery := .complete }) Recovery.noConfusion
    refine ⟨_, answer, congrArg Prod.snd noted, ?_⟩
    subst e
    exact ⟨congrArg (·.sul.phase) steady, congrArg (·.ntb.next) steady, congrArg (·.pct.slot) steady, congrArg (·.pct.trip) steady⟩
end

section
/-! PROOFS. The end of a SUSPENDED line at the trip's entry to CLOSING: what it leaves of the other lines, of its lane, of the
injectors and of the store write queue (R24, R62, R69 to R71, R127). -/

namespace Sys2Proof.Machine

/-! ### Order lines other than one -/

/-- Only the line of this index, if any, differs. -/
def OnlyLine (line : Option Nat) (s t : State) : Prop :=
  t.lines.length = s.lines.length ∧ ∀ m, line ≠ some m → t.lines[m]? = s.lines[m]?

theorem OnlyLine.of_lines {line : Option Nat} {s t : State} (same : t.lines = s.lines) : OnlyLine line s t :=
  ⟨by rw [same], fun _ _ => by rw [same]⟩

theorem OnlyLine.trans {line : Option Nat} {s t u : State} (first : OnlyLine line s t) (second : OnlyLine line t u) : OnlyLine line s u :=
  ⟨second.1.trans first.1, fun m ne => (second.2 m ne).trans (first.2 m ne)⟩

theorem modLine_onlyLine (k : Nat) (f : OrderLine → OrderLine) (s : State) : OnlyLine (some k) s (s.modLine k f) := by
  refine ⟨by simp, fun m ne => ?_⟩
  have other : k ≠ m := fun e => ne (congrArg some e)
  simp [other]

theorem modHeld_onlyLine {i : LaneNo} {line : Option Nat} {s : State} (held : (s.lane i).line = line) (f : OrderLine → OrderLine) :
    OnlyLine line s (s.modHeld i f) := by
  unfold State.modHeld
  rw [held]
  cases line with
  | none => exact .of_lines rfl
  | some k => exact modLine_onlyLine k f s

theorem lines_of_steady {s t : State} (same : t.steady = s.steady) : t.lines = s.lines := by
  rw [State.lines, trip_eq_of_steady same, State.lines]

theorem offerAfter_lines (i : LaneNo) (s : State) : (offerAfter i s).lines = s.lines := lines_of_steady (offerAfter_steady i s)

/-! ### The compartment of a lane that a trip's end closes (R71, R127) -/

/-- R71, R127: the suspended lane in ENDED, its record final, its additive lines closed at once. -/
def cutShort (i : LaneNo) (s : State) : State :=
  closeAllLines i ((s.modLane i fun l => { l with stage := .ended }).modRecord i (finalRecord s i))

/-- R71, R127: a record whose LIVE additive lines are closed as their counts stand. -/
def closedLines (s : State) (r : CompRecord) : CompRecord :=
  { r with additives := r.additives.map fun a => if a.live then closedLine (s.stroke a.injector) s.tolerance a else a }

theorem closedLines_of_cfg {s t : State} (cfg : t.cfg = s.cfg) : closedLines t = closedLines s := by
  funext r
  have tolerance : t.tolerance = s.tolerance := by rw [State.tolerance, State.tolerance, cfg]
  simp only [closedLines, stroke_of_cfg cfg, tolerance]

theorem closeAllLines_eq (i : LaneNo) (s : State) : closeAllLines i s =
    { s.modRecord i (closedLines s) with injs := Vector.ofFn fun j => detach i (s.inj j) } := by
  have injs : (s.modRecord i (closedLines s)).injs = s.injs := modRecord_injs ..
  have inj (j : InjNo) : (s.modRecord i (closedLines s)).inj j = s.inj j := congrArg (fun v : Vector Injector 8 => v[j]) injs
  have eq : closeAllLines i s = allInjs.foldl (fun u j => u.modInj j (detach i)) (s.modRecord i (closedLines s)) := rfl
  rw [eq, foldl_modInj fun _ => detach i]
  simp only [inj]

theorem cutShort_lane (i : LaneNo) (s : State) : (cutShort i s).lane i = { s.lane i with stage := .ended } := by
  rw [cutShort, closeAllLines_eq]
  refine (modRecord_lane i i _ _).trans ((modRecord_lane i i _ _).trans ?_)
  rw [modLane_lane_self]

theorem cutShort_onlyLine (i : LaneNo) (s : State) : OnlyLine (s.lane i).line s (cutShort i s) := by
  have lane : ((s.modLane i fun l => { l with stage := .ended }).lane i).line = (s.lane i).line := by rw [modLane_lane_self]
  have first : OnlyLine (s.lane i).line s (s.modLane i fun l => { l with stage := .ended }) := .of_lines rfl
  have second := modHeld_onlyLine lane fun l => { l with record := l.record.map (finalRecord s i) }
  rw [cutShort, closeAllLines_eq]
  refine (first.trans second).trans (modHeld_onlyLine (i := i) ?_ _)
  rw [modRecord_lane, lane]

theorem cutShort_stp (i : LaneNo) (s : State) : (cutShort i s).stp = s.stp := by
  rw [cutShort, closeAllLines_eq]
  exact (modRecord_stp _ _ _).trans (modRecord_stp _ _ _)

theorem cutShort_injs (i : LaneNo) (s : State) : (cutShort i s).injs = Vector.ofFn fun j => detach i (s.inj j) := by
  have injs : ((s.modLane i fun l => { l with stage := .ended }).modRecord i (finalRecord s i)).injs = s.injs := modRecord_injs ..
  rw [cutShort, closeAllLines_eq]
  change (Vector.ofFn fun j => detach i (((s.modLane i fun l => { l with stage := .ended }).modRecord i (finalRecord s i)).injs[j])) = _
  rw [injs]
  rfl

theorem cutShort_record (i : LaneNo) (s : State) : (cutShort i s).record i = (s.record i).map fun r =>
    closedLines s (finalRecord s i r) := by
  have first : ((s.modLane i fun l => { l with stage := .ended }).modRecord i (finalRecord s i)).record i =
      (s.record i).map (finalRecord s i) := by
    rw [modRecord_record]
    congr 1
    rw [State.record, modLane_heldLine (fun l => by exact rfl), State.record]
  rw [cutShort, closeAllLines_eq]
  refine (modRecord_record i (closedLines (((s.modLane i fun l => { l with stage := .ended }).modRecord i (finalRecord s i)))) _).trans ?_
  rw [first, Option.map_map]
  rw [closedLines_of_cfg (modRecord_cfg ..)]
  rfl

theorem cutShort_heldBare (i : LaneNo) (s : State) : (cutShort i s).heldBare i = s.heldBare i := by
  rw [cutShort, closeAllLines_eq]
  refine (modRecord_heldBare i _ _).trans ((modRecord_heldBare i _ _).trans ?_)
  rw [State.heldBare, modLane_heldLine (fun l => by exact rfl), State.heldBare]

/-- R71: the end of a suspended line by what its lane has done before. -/
theorem endSuspended_primed {i : LaneNo} {s : State} {cause : Cause} (stage : s.stage i = .suspended cause .primed) :
    endSuspended i s = toIdle i (setStatus i (.ended (causeReason cause)) s) := by rw [endSuspended, stage]

theorem endSuspended_open {i : LaneNo} {s : State} {cause : Cause} {left : LeftStage} (stage : s.stage i = .suspended cause left)
    (isOpen : left ≠ .primed) : endSuspended i s = handOver i (causeReason cause) (cutShort i s) := by
  rw [endSuspended, stage]
  cases left with
  | primed => exact absurd rfl isOpen
  | _ => rfl

theorem endSuspended_other {i : LaneNo} {s : State} (not : ∀ cause left, s.stage i ≠ .suspended cause left) : endSuspended i s = s := by
  unfold endSuspended
  split
  · next stage => exact absurd stage (not _ _)
  · next stage => exact absurd stage (not _ _)
  · rfl

/-- R69: without a line a lane hands none over. -/
theorem handOver_none {i : LaneNo} {s : State} (none : (s.lane i).line = none) (reason : EndReason) : handOver i reason s = s := by
  rw [handOver, none]

theorem handedOver_onlyLine {i : LaneNo} {k : Nat} {s : State} (line : (s.lane i).line = some k) (reason : EndReason) :
    OnlyLine (some k) s (handedOver i reason k s) := by
  have held := modHeld_onlyLine line (handRecord reason (s.lane i).piu.fault)
  rw [handedOver, recordHanded]
  exact held.trans (.of_lines rfl)

theorem handOver_onlyLine (i : LaneNo) (reason : EndReason) (s : State) : OnlyLine (s.lane i).line s (handOver i reason s) := by
  cases line : (s.lane i).line with
  | none =>
    rw [handOver_none line]
    exact .of_lines rfl
  | some k =>
    rw [handOver_eq line]
    exact (handedOver_onlyLine line reason).trans
      (.of_lines ((offerAfter_lines i _).trans (lines_of_pct (giveLimit_pct _ _))))

/-- R24: the end of a suspended line touches no other line. -/
theorem endSuspended_onlyLine (i : LaneNo) (s : State) : OnlyLine (s.lane i).line s (endSuspended i s) := by
  by_cases suspended : ∃ cause left, s.stage i = .suspended cause left
  · obtain ⟨cause, left, stage⟩ := suspended
    by_cases primed : left = .primed
    · subst primed
      rw [endSuspended_primed stage, toIdle_eq]
      exact (modHeld_onlyLine rfl _).trans (.of_lines rfl)
    · rw [endSuspended_open stage primed]
      have cut := cutShort_onlyLine i s
      have next := handOver_onlyLine i (causeReason cause) (cutShort i s)
      rw [cutShort_lane] at next
      exact cut.trans next
  · rw [endSuspended_other fun cause left stage => suspended ⟨cause, left, stage⟩]
    exact .of_lines rfl

end Sys2Proof.Machine
end

section
/-! PROOFS. The lane of a SUSPENDED line that a trip's end closes: its stage, its injectors, its record and totals, and its two offers
(R62, R69 to R72, R105, R108, R109, R127). -/

namespace Sys2Proof.Machine

/-! ### The lane after its offers, with no trip to prime it for (R70) -/

/-- R48: the slot is in no state in which a lane is primed. -/
def State.Unprimed (s : State) : Prop := s.pct.slot ≠ .authorized ∧ s.pct.slot ≠ .released

/-- A lane without a line, in IDLE or waiting in ENDED. -/
def Lane.Spent (l : Lane) : Prop := (l.stage = .idle ∨ l.stage = .ended) ∧ l.line = none

theorem toIdle_idle (i : LaneNo) (s : State) : ((toIdle i s).lane i).stage = .idle ∧ ((toIdle i s).lane i).line = none := by
  rw [toIdle_eq, modLane_lane_self]
  exact ⟨rfl, rfl⟩

theorem primingCheck_unprimed {s : State} (unprimed : s.Unprimed) (i : LaneNo) : primingCheck i s = s :=
  primingCheck_stays (.inr (.inr (.inl unprimed)))

theorem toIdle_unprimed {s : State} (unprimed : s.Unprimed) (i : LaneNo) : (toIdle i s).Unprimed := by
  rw [toIdle_eq]
  exact unprimed

theorem enqueue_unprimed {q : QItem} {s t : State} {b : Bool} (offer : enqueue q s = (b, t)) (unprimed : s.Unprimed) : t.Unprimed := by
  have same := enqueue_modStp q s
  rw [offer] at same
  have pct : (b, t).2.pct = s.pct := by
    rw [same]
    rfl
  change t.pct = s.pct at pct
  rw [State.Unprimed, pct]
  exact unprimed

theorem offerTotal_spent {i : LaneNo} {s : State} (unprimed : s.Unprimed) (none : (s.lane i).line = none) (ended : s.stage i = .ended)
    (gross std : Word48) : ((offerTotal i gross std s).lane i).Spent := by
  unfold offerTotal
  split
  · next t offer =>
    have was := enqueue_unprimed offer unprimed
    have stays := toIdle_unprimed (s := t.modLane i fun l => { l with after := .nothing }) was i
    rw [primingCheck_unprimed stays]
    obtain ⟨idle, line⟩ := toIdle_idle i (t.modLane i fun l => { l with after := .nothing })
    exact ⟨.inl idle, line⟩
  · next t offer =>
    rw [modLane_lane_self, enqueue_lane_of offer]
    exact ⟨.inr ended, none⟩

theorem offerAfter_spent {i : LaneNo} {s : State} (unprimed : s.Unprimed) (none : (s.lane i).line = none) (ended : s.stage i = .ended) :
    ((offerAfter i s).lane i).Spent := by
  rw [offerAfter, if_pos ended]
  unfold offerWaiting
  split
  · split
    · next t offer =>
      have same := enqueue_lane_of offer i
      exact offerTotal_spent (enqueue_unprimed offer unprimed) (by rw [same]; exact none) (by rw [State.stage, same]; exact ended) _ _
    · next t offer =>
      rw [enqueue_lane_of offer]
      exact ⟨.inr ended, none⟩
  · exact offerTotal_spent unprimed none ended _ _
  · exact ⟨.inr ended, none⟩

theorem handedOver_spent {i : LaneNo} {s : State} (ended : s.stage i = .ended) (reason : EndReason) (k : Nat) :
    ((giveLimit i (handedOver i reason k s)).lane i).line = none ∧ (giveLimit i (handedOver i reason k s)).stage i = .ended := by
  obtain ⟨_, _, _, -, -, lane⟩ := giveLimit_limited i (handedOver i reason k s)
  have line : ((handedOver i reason k s).lane i).line = none := by rw [handedOver, modLane_lane_self]
  have stage : ((handedOver i reason k s).lane i).stage = .ended := by
    rw [handedOver, modLane_lane_self, recordHanded, modLane_lane_self, State.modVen, modLane_lane_self]
    exact (congrArg Lane.stage (lane_of_lanes (modHeld_lanes _ _ _) i)).trans ended
  rw [State.stage, lane]
  exact ⟨line, stage⟩

theorem beyond_unprimed {i : LaneNo} {s t : State} (same : t.beyond i = s.beyond i) (unprimed : s.Unprimed) : t.Unprimed := by
  rw [State.Unprimed, slot_of_beyond same]
  exact unprimed

theorem handOver_spent {i : LaneNo} {s : State} (unprimed : s.Unprimed) (ended : s.stage i = .ended) (reason : EndReason) :
    ((handOver i reason s).lane i).Spent := by
  cases line : (s.lane i).line with
  | none =>
    rw [handOver_none line]
    exact ⟨.inr ended, line⟩
  | some k =>
    obtain ⟨none, stage⟩ := handedOver_spent ended reason k
    rw [handOver_eq line]
    exact offerAfter_spent (beyond_unprimed (i := i) (by simp [handedOver, recordHanded]) unprimed) none stage

/-- R71: after the end of its line a suspended lane has none. -/
theorem endSuspended_spent {i : LaneNo} {s : State} {cause : Cause} {left : LeftStage} (unprimed : s.Unprimed)
    (stage : s.stage i = .suspended cause left) : ((endSuspended i s).lane i).Spent := by
  by_cases primed : left = .primed
  · subst primed
    rw [endSuspended_primed stage]
    exact ⟨.inl (toIdle_idle i _).1, (toIdle_idle i _).2⟩
  · rw [endSuspended_open stage primed]
    exact handOver_spent (beyond_unprimed (i := i) (by simp [cutShort]) unprimed) (by rw [State.stage, cutShort_lane]) _

/-! ### The injectors (R127) -/

theorem handOver_injs (i : LaneNo) (reason : EndReason) (s : State) : (handOver i reason s).injs = s.injs := by
  cases line : (s.lane i).line with
  | none => rw [handOver_none line]
  | some k =>
    have after : (offerAfter i (giveLimit i (handedOver i reason k s))).injs = (giveLimit i (handedOver i reason k s)).injs :=
      congrArg (·.injs) (offerAfter_steady i _)
    rw [handOver_eq line, after, giveLimit_injs]
    exact modHeld_injs ..

/-- The injector serves no line of the lane. -/
def Injector.Off (i : LaneNo) (x : Injector) : Prop := x.serving.map (·.lane) ≠ some i

theorem detach_off (i : LaneNo) (x : Injector) : (detach i x).Off i := by
  unfold detach Injector.Off
  cases x.serving with
  | none => exact nofun
  | some sv =>
    dsimp only
    split
    · exact nofun
    · next other => exact fun same => other (Option.some.inj same)

theorem detach_keeps {i : LaneNo} (j : LaneNo) {x : Injector} (off : x.Off i) : (detach j x).Off i := by
  unfold detach Injector.Off at *
  cases serving : x.serving with
  | none => exact nofun
  | some sv =>
    rw [serving] at off
    dsimp only
    split
    · exact nofun
    · exact off

theorem endSuspended_injs (i : LaneNo) (s : State) : (endSuspended i s).injs = s.injs ∨
    (endSuspended i s).injs = Vector.ofFn fun j => detach i (s.inj j) := by
  by_cases suspended : ∃ cause left, s.stage i = .suspended cause left
  · obtain ⟨cause, left, stage⟩ := suspended
    by_cases primed : left = .primed
    · subst primed
      rw [endSuspended_primed stage, toIdle_eq]
      exact .inl (modHeld_injs ..)
    · rw [endSuspended_open stage primed, handOver_injs, cutShort_injs]
      exact .inr rfl
  · rw [endSuspended_other fun cause left stage => suspended ⟨cause, left, stage⟩]
    exact .inl rfl

theorem inj_ofFn {s : State} {g : InjNo → Injector} (injs : s.injs = Vector.ofFn g) (x : InjNo) : s.inj x = g x := by
  rw [State.inj, injs]
  simp

/-- R127: no end of a line brings an injector to a lane. -/
theorem endSuspended_keeps_off {i : LaneNo} (j : LaneNo) {s : State} (off : ∀ x, (s.inj x).Off i) (x : InjNo) :
    ((endSuspended j s).inj x).Off i := by
  obtain same | detached := endSuspended_injs j s
  · rw [State.inj, same]
    exact off x
  · rw [inj_ofFn detached]
    exact detach_keeps j (off x)

theorem endSuspended_off {i : LaneNo} {s : State} {cause : Cause} {left : LeftStage} (stage : s.stage i = .suspended cause left)
    (isOpen : left ≠ .primed) (x : InjNo) : ((endSuspended i s).inj x).Off i := by
  have injs : (endSuspended i s).injs = Vector.ofFn fun j => detach i (s.inj j) := by
    rw [endSuspended_open stage isOpen, handOver_injs, cutShort_injs]
  rw [inj_ofFn injs]
  exact detach_off i _

/-! ### The store write queue (R70, R72, R190) -/

theorem endSuspended_primed_stp {i : LaneNo} {s : State} {cause : Cause} (stage : s.stage i = .suspended cause .primed) :
    (endSuspended i s).stp = s.stp := by
  rw [endSuspended_primed stage, toIdle_eq, modLane_stp]
  exact modHeld_stp ..

theorem enqueue_full {q : QItem} {s : State} (alone : ∀ x ∈ s.stp.queue, checkLine q.req ≠ none → checkLine x.req ≠ checkLine q.req)
    (full : 12 ≤ s.stp.queue.length) : enqueue q s = (false, s) := by
  have apart : sameLineWaits q s.stp.queue = false := by
    rw [sameLineWaits, Bool.and_eq_false_iff]
    cases line : checkLine q.req with
    | none => exact .inl rfl
    | some k =>
      refine .inr (List.any_eq_false.2 fun x mem same => ?_)
      have ne := alone x mem (by rw [line]; exact nofun)
      rw [line] at ne
      exact ne (of_decide_eq_true same)
  rw [enqueue, apart, if_neg Bool.false_ne_true, if_neg (show ¬s.stp.queue.length < Config.queueSize from Nat.not_lt.2 full)]

section

variable {i : LaneNo} {k : Nat} {bytes : List Byte} {gross std : Word48} {s : State} (unprimed : s.Unprimed)
  (ended : s.stage i = .ended) (none : (s.lane i).line = none) (after : (s.lane i).after = .checkpoint k bytes gross std)
  (flight : s.stp.flight.isSome = true) (fresh : ∀ q ∈ s.stp.queue, checkLine q.req ≠ some k)
include unprimed ended none after flight fresh

/-- R70, R72, R190: the two offers of a lane that waits in ENDED, by the room of the store write queue. -/
theorem offerAfter_rooms :
    (s.stp.queue.length ≤ 10 → (offerAfter i s).stp =
        { s.stp with queue := s.stp.queue ++ [⟨.checkpoint k bytes, false⟩, ⟨.total i gross std, false⟩] } ∧
      (offerAfter i s).stage i = .idle ∧ ((offerAfter i s).lane i).line = Option.none) ∧
    (s.stp.queue.length = 11 → (offerAfter i s).stp =
        { s.stp with queue := s.stp.queue ++ [⟨.checkpoint k bytes, false⟩] } ∧ (offerAfter i s).stage i = .ended) ∧
    (12 ≤ s.stp.queue.length → (offerAfter i s).stp = s.stp ∧ (offerAfter i s).stage i = .ended) := by
  have other : ∀ q ∈ s.stp.queue, ∀ b, q.req ≠ .checkpoint k b := fun q mem b req => fresh q mem (by rw [req]; rfl)
  refine ⟨fun room => ?_, fun one => ?_, fun full => ?_⟩
  · obtain ⟨stp, -⟩ := offerAfter_both ended after (by omega) flight other
    have spent := offerAfter_spent unprimed none ended
    refine ⟨stp, ?_, spent.2⟩
    have first := enqueue_fresh (bytes := bytes) (by omega : s.stp.queue.length < 12) flight other
    have second := enqueue_tail (q := ⟨.total i gross std, false⟩) (s := s.modStp fun p => { p with
      queue := p.queue ++ [⟨.checkpoint k bytes, false⟩] }) rfl (by
        change (s.stp.queue ++ [_]).length < 12
        rw [List.length_append, List.length_singleton]
        omega) flight
    rw [offerAfter, if_pos ended, offerWaiting, after]
    dsimp only
    rw [first]
    dsimp only
    rw [offerTotal, second]
    dsimp only
    rw [primingCheck_unprimed (toIdle_unprimed (by exact unprimed) i)]
    exact (toIdle_idle i _).1
  · have first := enqueue_fresh (bytes := bytes) (by omega : s.stp.queue.length < 12) flight other
    have second := enqueue_full (q := ⟨.total i gross std, false⟩) (s := s.modStp fun p => { p with
      queue := p.queue ++ [⟨.checkpoint k bytes, false⟩] }) (fun _ _ h => absurd rfl h) (by
        change 12 ≤ (s.stp.queue ++ [_]).length
        rw [List.length_append, List.length_singleton]
        omega)
    rw [offerAfter, if_pos ended, offerWaiting, after]
    dsimp only
    rw [first]
    dsimp only
    rw [offerTotal, second]
    dsimp only
    refine ⟨modLane_stp .., ?_⟩
    rw [State.stage, modLane_lane_self]
    exact ended
  · have first := enqueue_full (q := ⟨.checkpoint k bytes, false⟩) (fun x mem _ => fresh x mem) full
    rw [offerAfter, if_pos ended, offerWaiting, after]
    dsimp only
    rw [first]
    exact ⟨rfl, ended⟩

end

end Sys2Proof.Machine
end

section
/-! PROOFS. The compartment of a SUSPENDED line at the trip's end: its line, the lane's totals, and its two requests (R62, R69 to R72,
R105, R108, R109). -/

namespace Sys2Proof.Machine

/-- A lane suspended with its compartment open: its line and its record. -/
structure Interrupted (s : State) (i : LaneNo) (k : Nat) (l : OrderLine) (r : CompRecord) (cause : Cause) (left : LeftStage) : Prop where
  line : (s.lane i).line = some k
  here : s.lines[k]? = some l
  recorded : l.record = some r
  stage : s.stage i = .suspended cause left
  isOpen : left ≠ .primed

/-- R62, R69, R71, R105: the record of a compartment that a trip's end closes. -/
def cutRecord (s : State) (i : LaneNo) (reason : EndReason) (r : CompRecord) : CompRecord :=
  { closedLines s (finalRecord s i r) with endReason := some reason, pulseFault := (s.lane i).piu.fault }

section

variable {s : State} {i : LaneNo} {k : Nat} {l : OrderLine} {r : CompRecord} {cause : Cause} {left : LeftStage}
  (h : Interrupted s i k l r cause left)
include h

theorem Interrupted.held : s.heldLine i = some l := by rw [State.heldLine, h.line]; exact h.here

theorem Interrupted.record : s.record i = some r := by rw [State.record, h.held]; exact h.recorded

theorem Interrupted.cut_line : ((cutShort i s).lane i).line = some k := by rw [cutShort_lane]; exact h.line

theorem Interrupted.cut_held :
    (cutShort i s).heldLine i = some { l with record := some (closedLines s (finalRecord s i r)) } := by
  have bare := cutShort_heldBare i s
  have record := cutShort_record i s
  rw [h.record, Option.map_some] at record
  obtain ⟨lw, held⟩ := heldBare_of_record record
  rw [State.heldBare, State.heldBare, held, h.held] at bare
  have bare : { lw with record := none } = { l with record := none } := Option.some.inj bare
  have isRecord : lw.record = some (closedLines s (finalRecord s i r)) := by rw [State.record, held] at record; exact record
  rw [held, ← isRecord]
  exact congrArg (fun x : OrderLine => some { x with record := lw.record }) bare

theorem Interrupted.cut_record : (cutShort i s).record i = some (closedLines s (finalRecord s i r)) := by
  rw [State.record, h.cut_held]
  rfl

theorem Interrupted.handed : endSuspended i s =
    offerAfter i (giveLimit i (handedOver i (causeReason cause) k (cutShort i s))) := by
  rw [endSuspended_open h.stage h.isOpen, handOver_eq h.cut_line]

/-- R62, R69, R71: the line after the end. -/
theorem Interrupted.line_after : (endSuspended i s).lines[k]? = some { l with
    status := .ended (causeReason cause), record := some (cutRecord s i (causeReason cause) r) } := by
  have held := recordHanded_heldLine i (causeReason cause) (cutShort i s)
  have line : ((recordHanded i (causeReason cause) (cutShort i s)).lane i).line = some k := by
    rw [recordHanded_lane i _ _ h.cut_record]
    exact h.cut_line
  rw [State.heldLine, line, Option.bind_some, h.cut_held, Option.map_some, cutShort_lane] at held
  have lines : (endSuspended i s).lines = (recordHanded i (causeReason cause) (cutShort i s)).lines := by
    rw [h.handed, offerAfter_lines, lines_of_pct (giveLimit_pct _ _)]
    rfl
  rw [lines, held]
  rfl

theorem Interrupted.lane_given : ∃ limit setpoint wanted,
    (giveLimit i (handedOver i (causeReason cause) k (cutShort i s))).lane i =
      { ({ s.lane i with stage := .ended } : Lane).handed (causeReason cause) r
          (.checkpoint (k + 1) (endedBytes i (causeReason cause) (cutShort i s))
            (advanceTotals r (s.lane i).ven).totGross (advanceTotals r (s.lane i).ven).totStd) with
        limit := limit, setpoint := setpoint, wanted := wanted } := by
  have lane := handedOver_lane i (causeReason cause) k (cutShort i s) h.cut_record
  obtain ⟨limit, setpoint, wanted, -, -, given⟩ := giveLimit_limited i (handedOver i (causeReason cause) k (cutShort i s))
  rw [lane, cutShort_lane] at given
  exact ⟨limit, setpoint, wanted, given⟩

/-- R62, R108, R109: the lane's totalizers and its learned overshoot after the end. -/
theorem Interrupted.lane_after : ((endSuspended i s).lane i).ven = advanceTotals r (s.lane i).ven ∧
    ((endSuspended i s).lane i).learned = (s.lane i).learned := by
  obtain ⟨limit, setpoint, wanted, given⟩ := h.lane_given
  have same := steady_lane_of_steady (offerAfter_steady i (giveLimit i (handedOver i (causeReason cause) k (cutShort i s)))) i
  rw [given] at same
  rw [h.handed]
  obtain ⟨ven, learned, -⟩ := Lane.handed_of_steady (m := { s.lane i with stage := .ended }) (limit := limit) same
  exact ⟨ven, learned⟩

/-- R72, R105: the record that is final has its weighted temperature. -/
theorem Interrupted.bytes {tr : Trip} (trip : s.pct.trip = some tr) : endedBytes i (causeReason cause) (cutShort i s) =
    checkpointBytes tr.number (k + 1) 7 0 (endReasonCode (causeReason cause)) l.clamped (cutRecord s i (causeReason cause) r)
      (weightedTemp (s.lane i).ven.sigma r.gross.toNat (s.lane i).ven.window)
      (advanceTotals r (s.lane i).ven).totGross (advanceTotals r (s.lane i).ven).totStd := by
  have far : (cutShort i s).beyond i = s.beyond i := by simp [cutShort]
  have trips : (cutShort i s).pct.trip.map (fun t => { t with lines := [] }) = s.pct.trip.map fun t => { t with lines := [] } :=
    congrArg (·.pct.trip) far
  rw [trip] at trips
  obtain ⟨t, isTrip, same⟩ := Option.map_eq_some_iff.1 trips
  have number : (cutShort i s).pct.trip.map (·.number) = some tr.number := by
    have number : ({ t with lines := [] } : Trip).number = ({ tr with lines := [] } : Trip).number := by rw [same]
    rw [isTrip]
    exact congrArg some number
  rw [endedBytes_eq (causeReason cause) number h.cut_line h.cut_held rfl (by rw [State.stage, cutShort_lane]) rfl, cutShort_lane]
  rfl

/-- R70, R72, R190: the requests of the end, by the room of the store write queue. -/
theorem Interrupted.rooms {tr : Trip} (trip : s.pct.trip = some tr) (unprimed : s.Unprimed) (flight : s.stp.flight.isSome = true)
    (fresh : ∀ q ∈ s.stp.queue, checkLine q.req ≠ some (k + 1)) :
    let v := advanceTotals r (s.lane i).ven
    let checkpoint : QItem := ⟨.checkpoint (k + 1) (checkpointBytes tr.number (k + 1) 7 0 (endReasonCode (causeReason cause)) l.clamped
      (cutRecord s i (causeReason cause) r) (weightedTemp (s.lane i).ven.sigma r.gross.toNat (s.lane i).ven.window)
      v.totGross v.totStd), false⟩
    (s.stp.queue.length ≤ 10 → (endSuspended i s).stp =
        { s.stp with queue := s.stp.queue ++ [checkpoint, ⟨.total i v.totGross v.totStd, false⟩] } ∧
      (endSuspended i s).stage i = .idle ∧ ((endSuspended i s).lane i).line = none) ∧
    (s.stp.queue.length = 11 → (endSuspended i s).stp = { s.stp with queue := s.stp.queue ++ [checkpoint] } ∧
      (endSuspended i s).stage i = .ended) ∧
    (12 ≤ s.stp.queue.length → (endSuspended i s).stp = s.stp ∧ (endSuspended i s).stage i = .ended) := by
  intro v checkpoint
  obtain ⟨none, ended⟩ := handedOver_spent (s := cutShort i s) (i := i) (by rw [State.stage, cutShort_lane]) (causeReason cause) k
  obtain ⟨limit, setpoint, wanted, given⟩ := h.lane_given
  have after := congrArg Lane.after given
  rw [h.bytes trip] at after
  have stp : (giveLimit i (handedOver i (causeReason cause) k (cutShort i s))).stp = s.stp := by
    rw [giveLimit_stp, handedOver_stp, cutShort_stp]
  have still : (giveLimit i (handedOver i (causeReason cause) k (cutShort i s))).Unprimed :=
    beyond_unprimed (i := i) (by simp [handedOver, recordHanded, cutShort]) unprimed
  rw [h.handed]
  generalize giveLimit i (handedOver i (causeReason cause) k (cutShort i s)) = u at none ended after stp still
  have rooms := offerAfter_rooms still ended none after (by rw [stp]; exact flight) (by rw [stp]; exact fresh)
  rw [stp] at rooms
  exact rooms

end

end Sys2Proof.Machine
end

section
/-! PROOFS. The order lines one after the other at the trip's entry to CLOSING (R24): what they leave of a lane, a line and the
store write queue. -/

namespace Sys2Proof.Machine

/-! ### The end of one line -/

/-- R24: a WAITING line is ended with NOT-LOADED. -/
def lineEnded (m : Nat) (s : State) : State := s.modLine m fun x => { x with status := .ended .notLoaded }

/-- R24: the three things that the end of a line may be. -/
theorem closeLineOf_cases (m : Nat) (s : State) :
    (∃ l, s.lines[m]? = some l ∧ l.status = .waiting ∧ (closeLineOf m s = lineEnded m s ∨
      ∃ j, (s.lane j).line = some m ∧ closeLineOf m s = toIdle j (lineEnded m s))) ∨
    (∃ j, closeLineOf m s = endSuspended j s) ∨ closeLineOf m s = s := by
  unfold closeLineOf
  split
  · exact .inr (.inr rfl)
  · next l here =>
    split
    · next waiting =>
      refine .inl ⟨l, here, waiting, ?_⟩
      dsimp only
      split
      · exact .inl rfl
      · next j _ =>
        split
        · next line => exact .inr ⟨j, line, rfl⟩
        · exact .inl rfl
    · next j _ _ => exact .inr (.inl ⟨j, rfl⟩)
    · exact .inr (.inr rfl)

theorem closeLineOf_waiting {m : Nat} {s : State} {l : OrderLine} (here : s.lines[m]? = some l) (waiting : l.status = .waiting) :
    (closeLineOf m s).lines[m]? = some { l with status := .ended .notLoaded } := by
  have ended : (lineEnded m s).lines[m]? = some { l with status := .ended .notLoaded } := by
    simp [lineEnded, here]
  have idle (j : LaneNo) : (toIdle j (lineEnded m s)).lines = (lineEnded m s).lines := by
    rw [toIdle_eq]
    rfl
  unfold closeLineOf
  rw [here]
  dsimp only
  rw [waiting]
  dsimp only
  split
  · exact ended
  · next j _ =>
    split
    · exact (congrArg (·[m]?) (idle j)).trans ended
    · exact ended

theorem closeLineOf_refused {m : Nat} {s : State} {l : OrderLine} {r : LineRefusal} (here : s.lines[m]? = some l)
    (refused : l.status = .refused r) : closeLineOf m s = s := by
  unfold closeLineOf
  rw [here]
  dsimp only
  rw [refused]

theorem closeLineOf_suspended {m : Nat} {s : State} {l : OrderLine} {cause : Cause} {i : LaneNo} (here : s.lines[m]? = some l)
    (suspended : l.status = .suspended cause) (lane : l.lane = some i) : closeLineOf m s = endSuspended i s := by
  unfold closeLineOf
  rw [here]
  dsimp only
  rw [suspended, lane]

/-! ### What every line's end keeps -/

/-- A state of the entry to CLOSING that began at `s`: every lane is as it was there or has ended its line. -/
structure Onward (s t : State) : Prop where
  cfg : t.cfg = s.cfg
  afar : t.afar = s.afar
  lanes : ∀ j, t.lane j = s.lane j ∨ (t.lane j).Spent
  length : t.lines.length = s.lines.length

theorem Onward.refl (s : State) : Onward s s := ⟨rfl, rfl, fun _ => .inl rfl, rfl⟩

theorem Lane.Spent.not_suspended {s : State} {j : LaneNo} (spent : (s.lane j).Spent) (cause : Cause) (left : LeftStage) :
    s.stage j ≠ .suspended cause left := by
  obtain idle | ended := spent.1
  · rw [State.stage, idle]
    exact nofun
  · rw [State.stage, ended]
    exact nofun

theorem Onward.suspended {s t : State} (on : Onward s t) {j : LaneNo} {cause : Cause} {left : LeftStage}
    (stage : t.stage j = .suspended cause left) : t.lane j = s.lane j :=
  (on.lanes j).resolve_right fun spent => spent.not_suspended cause left stage

theorem Onward.unprimed {s t : State} (on : Onward s t) (unprimed : s.Unprimed) : t.Unprimed := by
  rw [State.Unprimed, slot_of_afar on.afar]
  exact unprimed

/-- A step of one lane goes on if it leaves that lane spent or as it was. -/
theorem Onward.step {s t u : State} {i : LaneNo} (on : Onward s t) (far : u.beyond i = t.beyond i)
    (lane : u.lane i = t.lane i ∨ (u.lane i).Spent) (length : u.lines.length = t.lines.length) : Onward s u where
  cfg := (cfg_of_beyond far).trans on.cfg
  afar := (afar_of_beyond far).trans on.afar
  length := length.trans on.length
  lanes j := by
    by_cases same : i = j
    · subst same
      obtain kept | spent := lane
      · rw [kept]
        exact on.lanes i
      · exact .inr spent
    · rw [lane_of_beyond far same]
      exact on.lanes j

theorem Onward.endSuspended {s t : State} (on : Onward s t) (unprimed : s.Unprimed) (i : LaneNo) : Onward s (endSuspended i t) := by
  refine on.step (endSuspended_beyond i t) ?_ (endSuspended_onlyLine i t).1
  by_cases suspended : ∃ cause left, t.stage i = .suspended cause left
  · obtain ⟨cause, left, stage⟩ := suspended
    exact .inr (endSuspended_spent (on.unprimed unprimed) stage)
  · rw [endSuspended_other fun cause left stage => suspended ⟨cause, left, stage⟩]
    exact .inl rfl

theorem Onward.lineEnded {s t : State} (on : Onward s t) (m : Nat) : Onward s (lineEnded m t) :=
  on.step (modLine_beyond 0 t m _) (.inl rfl) (modLine_onlyLine m _ t).1

theorem Onward.closeLineOf {s t : State} (on : Onward s t) (unprimed : s.Unprimed) (m : Nat) : Onward s (closeLineOf m t) := by
  obtain ⟨l, -, -, same | ⟨j, -, same⟩⟩ | ⟨j, same⟩ | same := closeLineOf_cases m t
  · rw [same]
    exact on.lineEnded m
  · rw [same]
    refine (on.lineEnded m).step (toIdle_beyond j _) (.inr ?_) ?_
    · exact ⟨.inl (toIdle_idle j _).1, (toIdle_idle j _).2⟩
    · rw [toIdle_eq]
      rfl
  · rw [same]
    exact on.endSuspended unprimed j
  · rw [same]
    exact on

/-! ### Another line's end -/

/-- No suspended lane, other than these, holds the line. -/
def State.Alone (s : State) (k : Nat) (but : LaneNo → Prop) : Prop :=
  ∀ j cause left, ¬but j → s.stage j = .suspended cause left → (s.lane j).line ≠ some k

theorem Onward.alone {s t : State} (on : Onward s t) {k : Nat} {but : LaneNo → Prop} (alone : s.Alone k but) : t.Alone k but := by
  intro j cause left other stage
  have same := on.suspended stage
  rw [State.stage, same] at stage
  rw [same]
  exact alone j cause left other stage

theorem endSuspended_keeps_line {s : State} {k : Nat} {but : LaneNo → Prop} (alone : s.Alone k but) {j : LaneNo} (other : ¬but j) :
    (endSuspended j s).lines[k]? = s.lines[k]? := by
  by_cases suspended : ∃ cause left, s.stage j = .suspended cause left
  · obtain ⟨cause, left, stage⟩ := suspended
    exact (endSuspended_onlyLine j s).2 k (alone j cause left other stage)
  · rw [endSuspended_other fun cause left stage => suspended ⟨cause, left, stage⟩]

theorem lineEnded_keeps_line {s : State} {k m : Nat} (ne : m ≠ k) : (lineEnded m s).lines[k]? = s.lines[k]? :=
  (modLine_onlyLine m _ s).2 k fun e => ne (Option.some.inj e)

/-- R24: the end of a line leaves another that no suspended lane holds. -/
theorem closeLineOf_keeps_line {s : State} {k m : Nat} (alone : s.Alone k fun _ => False) (ne : m ≠ k) :
    (closeLineOf m s).lines[k]? = s.lines[k]? := by
  obtain ⟨l, -, -, same | ⟨j, -, same⟩⟩ | ⟨j, same⟩ | same := closeLineOf_cases m s
  · rw [same, lineEnded_keeps_line ne]
  · rw [same, toIdle_eq]
    exact lineEnded_keeps_line ne
  · rw [same, endSuspended_keeps_line alone (by exact id)]
  · rw [same]

/-! ### All lines -/

/-- A fold of steps that keep `P`, one of which brings it to `Q`, ends in `Q`. -/
theorem foldl_reaches {α : Type} {f : State → α → State} {P Q : State → Prop} (keep : ∀ t m, P t → P (f t m)) (stay : ∀ t m, Q t → Q (f t m)) {k : α} (reach : ∀ t, P t → Q (f t k)) {l : List α} (mem : k ∈ l)
    {s : State} (start : P s) : Q (l.foldl f s) := by
  have rest (l : List α) (s : State) (here : Q s) : Q (l.foldl f s) := by
    induction l generalizing s with
    | nil => exact here
    | cons m rest ih => exact ih _ (stay s m here)
  induction l generalizing s with
  | nil => exact absurd mem List.not_mem_nil
  | cons m tail ih =>
    rw [List.foldl_cons]
    obtain rfl | later := List.mem_cons.1 mem
    · exact rest tail _ (reach s start)
    · exact ih later (keep s m start)

theorem mem_range_of_getElem? {α : Type} {l : List α} {k : Nat} {x : α} (here : l[k]? = some x) : k ∈ List.range l.length :=
  List.mem_range.2 (List.getElem?_eq_some_iff.1 here).1

section
variable {s : State} {k : Nat} {l : OrderLine} (here : s.lines[k]? = some l) (unprimed : s.Unprimed)
include here unprimed

/-- R24: a WAITING line that no suspended lane holds ends with NOT-LOADED. -/
theorem foldl_closeLineOf_waiting (waiting : l.status = .waiting) (alone : s.Alone k fun _ => False) :
    ((List.range s.lines.length).foldl (fun t m => closeLineOf m t) s).lines[k]? = some { l with status := .ended .notLoaded } := by
  let goal : OrderLine := { l with status := .ended .notLoaded }
  have notWaiting (t : State) (now : t.lines[k]? = some goal) (m : Nat) (on : Onward s t) : (closeLineOf m t).lines[k]? = some goal := by
    by_cases same : m = k
    · subst same
      have done : closeLineOf m t = t := by
        unfold closeLineOf
        rw [now]
      rw [done, now]
    · rw [closeLineOf_keeps_line (on.alone alone) same, now]
  refine (foldl_reaches (P := fun t => Onward s t ∧ (t.lines[k]? = some l ∨ t.lines[k]? = some goal))
    (Q := fun t => Onward s t ∧ t.lines[k]? = some goal) ?_ ?_ ?_ (mem_range_of_getElem? here) ⟨.refl s, .inl here⟩).2
  · rintro t m ⟨on, now | now⟩
    · refine ⟨on.closeLineOf unprimed m, ?_⟩
      by_cases same : m = k
      · subst same
        exact .inr (closeLineOf_waiting now waiting)
      · exact .inl ((closeLineOf_keeps_line (on.alone alone) same).trans now)
    · exact ⟨on.closeLineOf unprimed m, .inr (notWaiting t now m on)⟩
  · rintro t m ⟨on, now⟩
    exact ⟨on.closeLineOf unprimed m, notWaiting t now m on⟩
  · rintro t ⟨on, now | now⟩
    · exact ⟨on.closeLineOf unprimed k, closeLineOf_waiting now waiting⟩
    · exact ⟨on.closeLineOf unprimed k, notWaiting t now k on⟩

/-- R24: a REFUSED line that no suspended lane holds stays as it is. -/
theorem foldl_closeLineOf_refused {r : LineRefusal} (refused : l.status = .refused r) (alone : s.Alone k fun _ => False) :
    ((List.range s.lines.length).foldl (fun t m => closeLineOf m t) s).lines[k]? = some l := by
  have step (t : State) (m : Nat) (h : Onward s t ∧ t.lines[k]? = some l) : Onward s (closeLineOf m t) ∧
      (closeLineOf m t).lines[k]? = some l := by
    obtain ⟨on, now⟩ := h
    refine ⟨on.closeLineOf unprimed m, ?_⟩
    by_cases same : m = k
    · subst same
      rw [closeLineOf_refused now refused, now]
    · rw [closeLineOf_keeps_line (on.alone alone) same, now]
  exact (foldl_reaches step step (fun t h => step t k h) (mem_range_of_getElem? here) ⟨.refl s, here⟩).2

end

end Sys2Proof.Machine
end

section
/-! PROOFS. A SUSPENDED line among the others at the trip's entry to CLOSING: its end is that of its own lane, and what the other
lines do neither comes before it nor after it (R24, R71). -/

namespace Sys2Proof.Machine

/-! ### A step that is not the lane's -/

/-- No other lane is suspended with its compartment open. -/
def State.LoneOpen (s : State) (i : LaneNo) : Prop := ∀ j cause left, j ≠ i → s.stage j = .suspended cause left → left = .primed

theorem Onward.loneOpen {s t : State} (on : Onward s t) {i : LaneNo} (quiet : s.LoneOpen i) : t.LoneOpen i := by
  intro j cause left other stage
  have same := on.suspended stage
  rw [State.stage, same] at stage
  exact quiet j cause left other stage

/-- What a step that is not lane `i`'s leaves of the lane, of line `k`, of the injectors and of the Store Port. -/
structure Aloof (i : LaneNo) (k : Nat) (s t : State) : Prop where
  lane : t.lane i = s.lane i
  line : t.lines[k]? = s.lines[k]?
  off : (∀ x, (s.inj x).Off i) → ∀ x, (t.inj x).Off i
  stp : s.LoneOpen i → t.stp = s.stp

theorem Aloof.refl (i : LaneNo) (k : Nat) (s : State) : Aloof i k s s := ⟨rfl, rfl, fun off => off, fun _ => rfl⟩

theorem lineEnded_aloof {i : LaneNo} {k m : Nat} {s : State} (ne : m ≠ k) : Aloof i k s (lineEnded m s) :=
  ⟨rfl, lineEnded_keeps_line ne, fun off => off, fun _ => rfl⟩

theorem toIdle_aloof {i j : LaneNo} {k m : Nat} {s : State} (ne : m ≠ k) (other : j ≠ i) : Aloof i k s (toIdle j (lineEnded m s)) where
  lane := lane_of_beyond (toIdle_beyond j _) other
  line := by rw [toIdle_eq]; exact lineEnded_keeps_line ne
  off off := by rw [toIdle_eq]; exact off
  stp _ := by rw [toIdle_eq]; rfl

theorem endSuspended_quiet {i j : LaneNo} {s : State} (quiet : s.LoneOpen i) (other : j ≠ i) : (endSuspended j s).stp = s.stp := by
  by_cases suspended : ∃ cause left, s.stage j = .suspended cause left
  · obtain ⟨cause, left, stage⟩ := suspended
    obtain rfl := quiet j cause left other stage
    exact endSuspended_primed_stp stage
  · rw [endSuspended_other fun cause left stage => suspended ⟨cause, left, stage⟩]

theorem endSuspended_aloof {i j : LaneNo} {k : Nat} {s : State} (alone : s.Alone k (· = i)) (other : j ≠ i) :
    Aloof i k s (endSuspended j s) where
  lane := lane_of_beyond (endSuspended_beyond j s) other
  line := endSuspended_keeps_line alone other
  off off := endSuspended_keeps_off j off
  stp quiet := endSuspended_quiet quiet other

/-- R24: the end of a line is the lane's own, or leaves the lane and its line alone. -/
theorem closeLineOf_aloof {i : LaneNo} {k : Nat} {s : State} (alone : s.Alone k (· = i))
    (line : ∀ m, (s.lane i).line = some m → m = k) (status : ∀ l, s.lines[k]? = some l → l.status ≠ .waiting) (m : Nat) :
    closeLineOf m s = endSuspended i s ∨ Aloof i k s (closeLineOf m s) := by
  obtain ⟨l, here, waiting, ended⟩ | ⟨j, same⟩ | same := closeLineOf_cases m s
  · have ne : m ≠ k := by
      rintro rfl
      exact status l here waiting
    obtain same | ⟨j, held, same⟩ := ended
    · rw [same]
      exact .inr (lineEnded_aloof ne)
    · rw [same]
      refine .inr (toIdle_aloof ne ?_)
      rintro rfl
      exact ne (line m held)
  · rw [same]
    by_cases other : j = i
    · exact .inl (by rw [other])
    · exact .inr (endSuspended_aloof alone other)
  · rw [same]
    exact .inr (.refl i k s)

/-! ### Before and after the lane's own step -/

/-- Before the end of a suspended line: its lane and it are as at the entry to CLOSING. -/
structure Still (s : State) (i : LaneNo) (k : Nat) (t : State) : Prop where
  onward : Onward s t
  lane : t.lane i = s.lane i
  line : t.lines[k]? = s.lines[k]?
  stp : s.LoneOpen i → t.stp = s.stp

/-- After it: the lane, the line, the injectors and the Store Port are as the lane's own step left them. -/
structure Ended (s : State) (i : LaneNo) (k : Nat) (isOpen : Prop) (u t : State) : Prop where
  onward : Onward s t
  lane : t.lane i = (endSuspended i u).lane i
  line : t.lines[k]? = (endSuspended i u).lines[k]?
  off : isOpen → ∀ x, (t.inj x).Off i
  stp : s.LoneOpen i → t.stp = (endSuspended i u).stp

section
variable {s : State} {i : LaneNo} {k : Nat} {cause : Cause} {left : LeftStage} (unprimed : s.Unprimed)
  (alone : s.Alone k (· = i)) (held : (s.lane i).line = some k) (stage : s.stage i = .suspended cause left)

include unprimed stage in
theorem Still.ends {t : State} (h : Still s i k t) : Ended s i k (left ≠ .primed) t (endSuspended i t) where
  onward := h.onward.endSuspended unprimed i
  lane := rfl
  line := rfl
  off isOpen := endSuspended_off (by rw [State.stage, h.lane]; exact stage) isOpen
  stp _ := rfl

include unprimed alone held stage in
theorem Still.step {t : State} (h : Still s i k t) (status : ∀ l, s.lines[k]? = some l → l.status ≠ .waiting) (m : Nat) :
    Still s i k (closeLineOf m t) ∨ Ended s i k (left ≠ .primed) t (closeLineOf m t) := by
  obtain own | aloof := closeLineOf_aloof (h.onward.alone alone)
    (fun m line => by rw [h.lane, held] at line; exact (Option.some.inj line).symm) (fun l here => status l (h.line.symm.trans here)) m
  · rw [own]
    exact .inr (h.ends unprimed stage)
  · exact .inl
      { onward := h.onward.closeLineOf unprimed m
        lane := aloof.lane.trans h.lane
        line := aloof.line.trans h.line
        stp := fun quiet => (aloof.stp (h.onward.loneOpen quiet)).trans (h.stp quiet) }

include unprimed stage in
theorem Still.spent {t : State} (h : Still s i k t) : ((endSuspended i t).lane i).Spent :=
  endSuspended_spent (h.onward.unprimed unprimed) (by rw [State.stage, h.lane]; exact stage)

include unprimed alone stage in
theorem Ended.step {u t : State} (h : Ended s i k (left ≠ .primed) u t) (before : Still s i k u)
    (status : ∀ l, (endSuspended i u).lines[k]? = some l → l.status ≠ .waiting) (m : Nat) :
    Ended s i k (left ≠ .primed) u (closeLineOf m t) := by
  have spent : (t.lane i).Spent := by rw [h.lane]; exact before.spent unprimed stage
  obtain own | aloof := closeLineOf_aloof (h.onward.alone alone)
    (fun m line => by rw [spent.2] at line; exact nomatch line) (fun l here => status l (h.line.symm.trans here)) m
  · rw [own, endSuspended_other spent.not_suspended]
    exact h
  · exact
      { onward := h.onward.closeLineOf unprimed m
        lane := aloof.lane.trans h.lane
        line := aloof.line.trans h.line
        off := fun isOpen => aloof.off (h.off isOpen)
        stp := fun quiet => (aloof.stp (h.onward.loneOpen quiet)).trans (h.stp quiet) }

include unprimed alone held stage in
/-- R24, R71: after all lines a suspended one has ended by its lane's own step, before which lane and line were as they had been. -/
theorem foldl_closeLineOf_suspended {l : OrderLine} (here : s.lines[k]? = some l) (status : l.status = .suspended cause)
    (lane : l.lane = some i)
    (ends : ∀ u, Still s i k u → ∀ x, (endSuspended i u).lines[k]? = some x → x.status ≠ .waiting) :
    ∃ u, Still s i k u ∧
      Ended s i k (left ≠ .primed) u ((List.range s.lines.length).foldl (fun t m => closeLineOf m t) s) := by
  have unwaiting (x : OrderLine) (at' : s.lines[k]? = some x) : x.status ≠ .waiting := by
    obtain rfl := Option.some.inj (here.symm.trans at')
    rw [status]
    exact nofun
  refine foldl_reaches (P := fun t => Still s i k t ∨ ∃ u, Still s i k u ∧ Ended s i k (left ≠ .primed) u t)
    (Q := fun t => ∃ u, Still s i k u ∧ Ended s i k (left ≠ .primed) u t) ?_ ?_ ?_ (mem_range_of_getElem? here)
    (.inl ⟨.refl s, rfl, rfl, fun _ => rfl⟩)
  · rintro t m (still | ⟨u, before, ended⟩)
    · obtain goes | ended := still.step unprimed alone held stage unwaiting m
      · exact .inl goes
      · exact .inr ⟨t, still, ended⟩
    · exact .inr ⟨u, before, ended.step unprimed alone stage before (ends u before) m⟩
  · rintro t m ⟨u, before, ended⟩
    exact ⟨u, before, ended.step unprimed alone stage before (ends u before) m⟩
  · rintro t (still | ⟨u, before, ended⟩)
    · have own : closeLineOf k t = endSuspended i t := closeLineOf_suspended (still.line.trans here) status lane
      refine ⟨t, still, ?_⟩
      rw [own]
      exact still.ends unprimed stage
    · exact ⟨u, before, ended.step unprimed alone stage before (ends u before) k⟩

end

end Sys2Proof.Machine
end

section
/-! PROOFS. The pages of a note that is begun while a request is in flight (R175, R189), and the line of any suspended lane after
its end (R24, R71). -/

namespace Sys2Proof.Machine

/-! ### Pages behind what waits in the store write queue -/

theorem offerPages_full {s : State} (full : 12 ≤ s.stp.queue.length) (n : Nat) : (offerPages n s).stp = s.stp := by
  cases n with
  | zero => rfl
  | succ n =>
    unfold offerPages
    split
    · rfl
    · split
      · rw [enqueue_full (fun _ _ line => absurd rfl line) full]
      · rfl

theorem tryBuild_full {s : State} (full : 12 ≤ s.stp.queue.length) : (tryBuild s).stp = s.stp := by
  unfold tryBuild
  split
  · split
    · rw [beginNote, offerPages_full (by exact full)]
      rfl
    · rfl
  · rfl

/-- R175: while a request is in flight, the pages that are offered change the queue and the note being built alone. -/
theorem offerPages_flying {s : State} (flight : s.stp.flight.isSome = true) (n : Nat) : ∃ queue build,
    offerPages n s = { s with stp := { s.stp with queue := queue }, ntb := { s.ntb with build := build } } := by
  induction n generalizing s with
  | zero => exact ⟨s.stp.queue, s.ntb.build, rfl⟩
  | succ n ih =>
    unfold offerPages
    split
    · exact ⟨s.stp.queue, s.ntb.build, rfl⟩
    · split
      · split
        · next t offer =>
          obtain ⟨queue, rfl⟩ := enqueue_flying flight offer
          obtain ⟨queue', build, same⟩ := ih (s := (s.modStp fun p => { p with queue := queue }).modNtb fun x => { x with
            build := some _ }) (by exact flight)
          exact ⟨queue', build, same⟩
        · next t offer =>
          obtain ⟨queue, rfl⟩ := enqueue_flying flight offer
          exact ⟨queue, s.ntb.build, rfl⟩
      · exact ⟨s.stp.queue, s.ntb.build, rfl⟩

theorem tryBuild_flying {s : State} (flight : s.stp.flight.isSome = true) : ∃ queue build,
    tryBuild s = { s with stp := { s.stp with queue := queue }, ntb := { s.ntb with build := build } } := by
  have here : ∃ queue build, s = { s with stp := { s.stp with queue := queue }, ntb := { s.ntb with build := build } } :=
    ⟨s.stp.queue, s.ntb.build, rfl⟩
  unfold tryBuild
  split
  · split
    · obtain ⟨queue, build, same⟩ := offerPages_flying (s := s.modNtb fun x => { x with build := some _ }) (by exact flight) maxPages
      exact ⟨queue, build, same⟩
    · exact here
  · exact here

theorem requests_drop (b : Build) {a : Nat} (lt : a < b.pages) : b.requests.drop a =
    ⟨.notePage b.number (a + 1) (pageBytes b.image (a + 1)), false⟩ :: b.requests.drop (a + 1) := by
  rw [List.drop_eq_getElem_cons (by rw [Build.requests, List.length_map, List.length_range]; exact lt)]
  simp [Build.requests]

theorem requests_drop_all (b : Build) {a : Nat} (le : b.pages ≤ a) : b.requests.drop a = [] :=
  List.drop_eq_nil_of_le (by rw [Build.requests, List.length_map, List.length_range]; exact le)

theorem append_take_cons {α : Type} {queue rest : List α} {x : α} {n : Nat} (room : queue.length < n) :
    queue ++ (x :: rest).take (n - queue.length) = (queue ++ [x]) ++ rest.take (n - (queue ++ [x]).length) := by
  obtain ⟨m, left⟩ : ∃ m, n - queue.length = m + 1 := ⟨n - queue.length - 1, by omega⟩
  have less : n - (queue ++ [x]).length = m := by
    rw [List.length_append, List.length_singleton]
    omega
  rw [left, less, List.take_succ_cons, List.append_assoc, List.singleton_append]

/-- R175, R189: the pages of a note join the store write queue in order, as far as it has room. -/
theorem offerPages_flight {n : Nat} {s : State} {b : Build} (build : s.ntb.build = some b) (flight : s.stp.flight.isSome = true)
    (enough : b.pages ≤ b.accepted + n) : (offerPages n s).stp =
      { s.stp with queue := s.stp.queue ++ (b.requests.drop b.accepted).take (12 - s.stp.queue.length) } := by
  induction n generalizing s b with
  | zero =>
    have all : b.pages ≤ b.accepted := enough
    rw [requests_drop_all b all, List.take_nil, List.append_nil]
    rfl
  | succ n ih =>
    by_cases more : b.accepted < b.pages
    · by_cases room : s.stp.queue.length < 12
      · have tail := enqueue_tail (q := ⟨.notePage b.number (b.accepted + 1) (pageBytes b.image (b.accepted + 1)), false⟩) rfl room flight
        rw [offerPages, build]
        dsimp only
        rw [if_pos more, tail]
        dsimp only
        refine (ih rfl (by exact flight) (by change b.pages ≤ b.accepted + 1 + n; omega)).trans ?_
        rw [requests_drop b more, append_take_cons room]
        rfl
      · rw [offerPages_full (by omega), Nat.sub_eq_zero_of_le (by omega), List.take_zero, List.append_nil]
    · have none := requests_drop_all b (by omega : b.pages ≤ b.accepted)
      rw [offerPages, build]
      dsimp only
      rw [if_neg more, none, List.take_nil, List.append_nil]

theorem offerPages_all {s : State} {b : Build} (build : s.ntb.build = some b) (begun : b.accepted = 0)
    (flight : s.stp.flight.isSome = true) (pages : b.pages ≤ 4) :
    (offerPages maxPages s).stp = { s.stp with queue := s.stp.queue ++ b.requests.take (12 - s.stp.queue.length) } := by
  rw [offerPages_flight build flight (by rw [begun]; exact pages.trans (Nat.le_of_eq (Nat.zero_add 4).symm)), begun, List.drop_zero]

theorem pagesOf_le_four {length : Nat} (le : length ≤ 512) : pagesOf length ≤ 4 := by
  unfold pagesOf
  split <;> omega

theorem requests_of_bare {b c : Build} (same : { c with accepted := 0 } = b) : c.requests = b.requests := by
  rw [← same]
  rfl

/-- R174, R175: the pages of the note that Permit Control's trip begins follow in the queue. -/
theorem tryBuild_flight {s : State} {t : Trip} (trip : s.pct.trip = some t) (idle : s.ntb.build = none)
    (flight : s.stp.flight.isSome = true) (short : noteLength t.lines ≤ 512) :
    (tryBuild s).stp = { s.stp with queue := s.stp.queue ++
      ((tryBuild s).ntb.build.toList.flatMap (·.requests)).take (12 - s.stp.queue.length) } := by
  by_cases begins : s.pct.slot = .closing ∧ s.allFinished = true
  · obtain ⟨b, build, same⟩ := (noted_some (tryBuild_begins trip idle begins.1 begins.2)).1
    have pages := offerPages_all (s := s.modNtb fun x => { x with
      build := some (tripNote t s.ntb.next s.lif.station s.totals) }) rfl rfl (by exact flight) (pagesOf_le_four short)
    rw [build]
    simp only [Option.toList_some, List.flatMap_cons, List.flatMap_nil, List.append_nil]
    rw [requests_of_bare same]
    unfold tryBuild
    rw [trip, idle]
    dsimp only
    rw [if_pos begins]
    exact pages
  · have none : tryBuild s = s := by
      unfold tryBuild
      rw [trip, idle]
      dsimp only
      rw [if_neg begins]
    rw [none, idle]
    simp

/-! ### The line of a suspended lane after its end -/

theorem heldBare_held {i : LaneNo} {s t : State} (bare : t.heldBare i = s.heldBare i) {l : OrderLine} (held : s.heldLine i = some l) :
    ∃ l', t.heldLine i = some l' := by
  rw [State.heldBare, State.heldBare, held] at bare
  cases now : t.heldLine i with
  | none =>
    rw [now] at bare
    exact nomatch bare
  | some l' => exact ⟨l', rfl⟩

theorem recordHanded_line (i : LaneNo) (reason : EndReason) (s : State) : ((recordHanded i reason s).lane i).line = (s.lane i).line := by
  have same := lane_of_lanes (modHeld_lanes s i (handRecord reason (s.lane i).piu.fault)) i
  rw [recordHanded, modLane_lane_self, State.modVen, modLane_lane_self, same]

section
variable {s : State} {i : LaneNo} {k : Nat} {l : OrderLine} {cause : Cause} (line : (s.lane i).line = some k)
  (here : s.lines[k]? = some l)
include line here

/-- R71: a line whose lane was PRIMED keeps its record, and the lane its totals. -/
theorem endSuspended_primed_line (stage : s.stage i = .suspended cause .primed) :
    (endSuspended i s).lines[k]? = some { l with status := .ended (causeReason cause) } ∧
      ((endSuspended i s).lane i).ven = (s.lane i).ven := by
  have held : (setStatus i (.ended (causeReason cause)) s).lines[k]? = some { l with status := .ended (causeReason cause) } := by
    rw [setStatus, State.modHeld, line]
    simp [here]
  rw [endSuspended_primed stage, toIdle_eq, modLane_lane_self]
  have same : (setStatus i (.ended (causeReason cause)) s).lane i = s.lane i := lane_of_lanes (modHeld_lanes _ _ _) i
  rw [same]
  exact ⟨held, rfl⟩

/-- R24: the line has the end reason of its cause. -/
theorem endSuspended_status {left : LeftStage} (stage : s.stage i = .suspended cause left) :
    ∃ l', (endSuspended i s).lines[k]? = some l' ∧ l'.status = .ended (causeReason cause) := by
  by_cases primed : left = .primed
  · subst primed
    exact ⟨_, (endSuspended_primed_line line here stage).1, rfl⟩
  · have held : s.heldLine i = some l := (heldLine_of_line line).trans here
    obtain ⟨cut, isCut⟩ := heldBare_held (cutShort_heldBare i s) held
    have lineCut : ((cutShort i s).lane i).line = some k := by
      rw [cutShort_lane]
      exact line
    have handed := recordHanded_heldLine i (causeReason cause) (cutShort i s)
    rw [heldLine_of_line ((recordHanded_line i _ _).trans lineCut), isCut] at handed
    have lines : (endSuspended i s).lines = (recordHanded i (causeReason cause) (cutShort i s)).lines := by
      rw [endSuspended_open stage primed, handOver_eq lineCut, offerAfter_lines, lines_of_pct (giveLimit_pct _ _)]
      rfl
    exact ⟨_, (congrArg (·[k]?) lines).trans handed, rfl⟩

end

end Sys2Proof.Machine
end

section
/-! PROOFS. The trip's entry to CLOSING, by STOP or the trip idle timer (R23, R24, R62, R69 to R72, R108, R109, R127). -/

namespace Sys2Proof.Machine

/-! ### The entry to CLOSING -/

theorem linesClosed_eq (s : State) : linesClosed s =
    (List.range (closedTrip s).lines.length).foldl (fun t m => closeLineOf m t) (closedTrip s) := by
  rw [closedTrip_lines]
  rfl

theorem closedTrip_unprimed (s : State) : (closedTrip s).Unprimed := ⟨Slot.noConfusion, Slot.noConfusion⟩

theorem closedTrip_trip {s : State} {tr : Trip} (trip : s.pct.trip = some tr) : (closedTrip s).pct.trip = some { tr with
    endTime := s.takeTime, flags := { tr.flags with timeUnset := tr.flags.timeUnset || !s.lif.timeSet } } := by
  change (s.pct.trip).map _ = _
  rw [trip]
  rfl

theorem linesClosed_onward (s : State) : Onward (closedTrip s) (linesClosed s) := by
  have keep (l : List Nat) (t : State) (on : Onward (closedTrip s) t) :
      Onward (closedTrip s) (l.foldl (fun t m => closeLineOf m t) t) := by
    induction l generalizing t with
    | nil => exact on
    | cons m rest ih => exact ih _ (on.closeLineOf (closedTrip_unprimed s) m)
  rw [linesClosed_eq]
  exact keep _ _ (.refl _)

theorem Onward.number {s t : State} (on : Onward s t) {tr : Trip} (trip : s.pct.trip = some tr) :
    ∃ x, t.pct.trip = some x ∧ x.number = tr.number := by
  have trips := trip_of_afar on.afar
  rw [trip] at trips
  obtain ⟨x, isTrip, same⟩ := Option.map_eq_some_iff.1 trips
  have number : ({ x with lines := [] } : Trip).number = ({ tr with lines := [] } : Trip).number := by rw [same]
  exact ⟨x, isTrip, number⟩

theorem enterClosing_steady (s : State) : (settle (enterClosing s)).steady = (linesClosed s).steady :=
  (settle_steady _).trans (tryBuild_steady _)

/-- R23, R24: the trip after the event. -/
theorem enterClosing_trip {s : State} {tr : Trip} (trip : s.pct.trip = some tr) :
    ∃ tr', (settle (enterClosing s)).pct.trip = some tr' ∧ tr'.endTime = s.takeTime ∧
      tr'.flags.timeUnset = (tr.flags.timeUnset || !s.lif.timeSet) ∧ tr'.lines = (linesClosed s).lines := by
  obtain ⟨lines, isTrip⟩ := linesClosed_trip trip
  refine ⟨_, (trip_eq_of_steady (enterClosing_steady s)).trans isTrip, rfl, rfl, ?_⟩
  rw [State.lines, isTrip]
  rfl

theorem enterClosing_now (s : State) : (settle (enterClosing s)).now = s.now :=
  (congrArg State.now (enterClosing_steady s)).trans (congrArg Prod.fst (linesClosed_afar s))

theorem inj_of_steady {s t : State} (same : t.steady = s.steady) (x : InjNo) : t.inj x = s.inj x := by
  have injs : t.injs = s.injs := injs_of_steady same
  rw [State.inj, injs, State.inj]

/-! ### A suspended line -/

section
variable {s : State} {i : LaneNo} {k : Nat} {l : OrderLine} {cause : Cause} {left : LeftStage} (here : s.lines[k]? = some l)
  (status : l.status = .suspended cause) (lane : l.lane = some i) (held : (s.lane i).line = some k)
  (stage : s.stage i = .suspended cause left) (alone : s.Alone k (· = i))
include here status lane held stage alone

/-- R24, R71: the line ends by its lane's own step. -/
theorem suspended_closes : ∃ u, Still (closedTrip s) i k u ∧ Ended (closedTrip s) i k (left ≠ .primed) u (linesClosed s) := by
  rw [linesClosed_eq]
  refine foldl_closeLineOf_suspended (closedTrip_unprimed s) (by exact alone) (by exact held) (by exact stage)
    (by rw [closedTrip_lines]; exact here) status lane fun u still x now => ?_
  obtain ⟨l', after, ended⟩ := endSuspended_status (s := u) (i := i) (cause := cause) (left := left) (l := l) (k := k)
    (by rw [still.lane]; exact held) (by rw [still.line, closedTrip_lines]; exact here) (by rw [State.stage, still.lane]; exact stage)
  obtain rfl := Option.some.inj (after.symm.trans now)
  rw [ended]
  exact nofun

/-- R71: the line's reason, and what a lane left from PRIMED keeps. -/
theorem suspended_reason : ∃ l', (linesClosed s).lines[k]? = some l' ∧ l'.status = .ended (causeReason cause) ∧
    (left = .primed → l'.record = l.record ∧ ((linesClosed s).lane i).ven = (s.lane i).ven) := by
  obtain ⟨u, still, ended⟩ := suspended_closes here status lane held stage alone
  have line : (u.lane i).line = some k := by rw [still.lane]; exact held
  have now : u.lines[k]? = some l := by rw [still.line, closedTrip_lines]; exact here
  have was : u.stage i = .suspended cause left := by rw [State.stage, still.lane]; exact stage
  obtain ⟨l', after, reason⟩ := endSuspended_status line now was
  refine ⟨l', ended.line.trans after, reason, fun primed => ?_⟩
  subst primed
  obtain ⟨own, ven⟩ := endSuspended_primed_line line now was
  obtain rfl := Option.some.inj (after.symm.trans own)
  rw [ended.lane, ven, still.lane]
  exact ⟨rfl, rfl⟩

/-- R62, R69, R71, R127: what the end of an open compartment leaves, from a state with its lane and line as they were. -/
theorem open_closes {r : CompRecord} (recorded : l.record = some r) (isOpen : left ≠ .primed) :
    ∃ u, Interrupted u i k l r cause left ∧ Still (closedTrip s) i k u ∧
      Ended (closedTrip s) i k (left ≠ .primed) u (linesClosed s) := by
  obtain ⟨u, still, ended⟩ := suspended_closes here status lane held stage alone
  exact ⟨u,
    { line := by rw [still.lane]; exact held
      here := by rw [still.line, closedTrip_lines]; exact here
      recorded := recorded
      stage := by rw [State.stage, still.lane]; exact stage
      isOpen := isOpen }, still, ended⟩

end

/-! ### Its record -/

/-- R62, R69, R71, R105, R127: the final record in full. -/
theorem Interrupted.cutRecord_eq {u : State} {i : LaneNo} {k : Nat} {l : OrderLine} {r : CompRecord} {cause : Cause}
    {left : LeftStage} (h : Interrupted u i k l r cause left) {c : LaneCfg} (cfg : u.laneCfg i = some c) (reason : EndReason) :
    cutRecord u i reason r = { r with
      weighted := some (weightedTemp (u.lane i).ven.sigma r.gross.toNat (u.lane i).ven.window)
      endReason := some reason
      pulseFault := (u.lane i).piu.fault
      flags := { r.flags with
        overrun := r.flags.overrun || decide (l.preset * 1000 + c.overrun * 1000 < r.gross.toNat) }
      additives := r.additives.map fun a => if a.live then { a with
        live := false, backlog := false
        result := some (doseResult a.totalDue a.confirmed a.faultMark (u.stroke a.injector) u.tolerance) } else a } := by
  have exceeds : overran u i = decide (l.preset * 1000 + c.overrun * 1000 < r.gross.toNat) := by
    rw [overran, cfg, State.preset, h.held, State.gross, h.record]
    rfl
  rw [cutRecord, closedLines, finalRecord, exceeds]
  rfl

/-! ### Its requests -/

theorem calm_of_queue {s w : State} {queue : List QItem} (lif : w.lif = s.lif) (sul : w.sul = s.sul)
    (stp : w.stp = { s.stp with queue := queue }) (calm : s.Calm) : w.Calm := by
  obtain ⟨⟨departed, room⟩, offering⟩ := calm
  exact ⟨⟨by rw [stp]; exact departed, by rw [lif]; exact room⟩, by rw [sul]; exact offering⟩

/-- R175: the end of the event after the lines, while a request is in flight. -/
theorem settle_tryBuild {w : State} (calm : w.Calm) (flight : w.stp.flight.isSome = true) :
    (∀ i, (settle (tryBuild w)).lane i = w.lane i) ∧
    (12 ≤ w.stp.queue.length → (settle (tryBuild w)).stp.queue = w.stp.queue) ∧
    (∀ tr, w.pct.trip = some tr → w.ntb.build = none → noteLength tr.lines ≤ 512 → (settle (tryBuild w)).stp.queue =
      w.stp.queue ++ ((settle (tryBuild w)).ntb.build.toList.flatMap (·.requests)).take (12 - w.stp.queue.length)) := by
  have still : (tryBuild w).Calm := by
    obtain ⟨queue, build, same⟩ := tryBuild_flying flight
    rw [same]
    exact calm
  have queue := (settle_queue_flight still).1
  refine ⟨fun i => ?_, fun full => ?_, fun tr trip idle short => ?_⟩
  · rw [lane_of_lanes (settle_lanes still), lane_of_lanes (tryBuild_lanes w)]
  · rw [queue, tryBuild_full full]
  · rw [queue, settle_ntb still, tryBuild_flight trip idle flight short]

section
variable {s : State} {i : LaneNo} {k : Nat} {l : OrderLine} {r : CompRecord} {cause : Cause} {left : LeftStage} {u : State} {tr : Trip}

/-- R70, R72, R190: the requests of the end, then the pages of the note, by the room of the store write queue. -/
theorem open_requests (h : Interrupted u i k l r cause left) (still : Still (closedTrip s) i k u)
    (ended : Ended (closedTrip s) i k (left ≠ .primed) u (linesClosed s)) (trip : s.pct.trip = some tr) (calm : s.Calm)
    (flight : s.stp.flight.isSome = true) (fresh : ∀ q ∈ s.stp.queue, checkLine q.req ≠ some (k + 1)) (lone : s.LoneOpen i) :
    let t := settle (enterClosing s)
    let v := advanceTotals r (s.lane i).ven
    let checkpoint : QItem := ⟨.checkpoint (k + 1) (checkpointBytes tr.number (k + 1) 7 0 (endReasonCode (causeReason cause)) l.clamped
      (cutRecord u i (causeReason cause) r) (weightedTemp (s.lane i).ven.sigma r.gross.toNat (s.lane i).ven.window)
      v.totGross v.totStd), false⟩
    let total : QItem := ⟨.total i v.totGross v.totStd, false⟩
    (s.stp.queue.length ≤ 10 → t.stage i = .idle ∧ (t.lane i).line = none ∧
      (s.ntb.build = none → noteLength (linesClosed s).lines ≤ 512 → t.stp.queue = s.stp.queue ++ [checkpoint, total] ++
        (t.ntb.build.toList.flatMap (·.requests)).take (10 - s.stp.queue.length))) ∧
    (s.stp.queue.length = 11 → t.stage i = .ended ∧ t.stp.queue = s.stp.queue ++ [checkpoint]) ∧
    (12 ≤ s.stp.queue.length → t.stage i = .ended ∧ t.stp.queue = s.stp.queue) := by
  intro t v checkpoint total
  have start : (closedTrip s).LoneOpen i := lone
  have stpU : u.stp = s.stp := still.stp start
  have unprimed : u.Unprimed := still.onward.unprimed (closedTrip_unprimed s)
  obtain ⟨x, tripU, number⟩ := still.onward.number (closedTrip_trip trip)
  obtain ⟨roomy, one, full⟩ := h.rooms tripU unprimed (by rw [stpU]; exact flight) (by rw [stpU]; exact fresh)
  have laneU : u.lane i = s.lane i := still.lane
  rw [stpU] at roomy one full
  rw [laneU, number] at roomy one
  have stpW : (linesClosed s).stp = (endSuspended i u).stp := ended.stp start
  have laneW : (linesClosed s).lane i = (endSuspended i u).lane i := ended.lane
  have far := linesClosed_afar s
  obtain ⟨lines, tripW⟩ := linesClosed_trip trip
  have isLines : (linesClosed s).lines = lines := by
    rw [State.lines, tripW]
    rfl
  have ntb : (linesClosed s).ntb = s.ntb := (ntb_of_afar far).trans rfl
  have lif : (linesClosed s).lif = s.lif := (lif_of_afar far).trans rfl
  have sul : (linesClosed s).sul = s.sul := (sul_of_afar far).trans rfl
  have settled (queue : List QItem) (stp : (linesClosed s).stp = { s.stp with queue := queue }) :=
    settle_tryBuild (calm_of_queue lif sul stp calm) (by rw [stp]; exact flight)
  refine ⟨fun room => ?_, fun eleven => ?_, fun twelve => ?_⟩
  · obtain ⟨stp, idle, none⟩ := roomy room
    obtain ⟨lanes, -, pages⟩ := settled _ (stpW.trans stp)
    have laneT : t.lane i = (endSuspended i u).lane i := (lanes i).trans laneW
    refine ⟨by rw [State.stage, laneT]; exact idle, by rw [laneT]; exact none, fun free short => ?_⟩
    have queue := pages _ tripW (by rw [ntb]; exact free) (by rw [← isLines]; exact short)
    have left : 12 - (s.stp.queue ++ [checkpoint, total]).length = 10 - s.stp.queue.length := by
      rw [List.length_append, List.length_cons, List.length_singleton]
      omega
    rw [stpW, stp] at queue
    rw [← left]
    exact queue
  · obtain ⟨stp, waits⟩ := one eleven
    obtain ⟨lanes, full, -⟩ := settled _ (stpW.trans stp)
    have laneT : t.lane i = (endSuspended i u).lane i := (lanes i).trans laneW
    refine ⟨by rw [State.stage, laneT]; exact waits, ?_⟩
    have queue := full (by
      rw [stpW, stp]
      change 12 ≤ (s.stp.queue ++ [_]).length
      rw [List.length_append, List.length_singleton, eleven])
    rw [stpW, stp] at queue
    exact queue
  · obtain ⟨stp, waits⟩ := full twelve
    obtain ⟨lanes, full, -⟩ := settled s.stp.queue (stpW.trans stp)
    have laneT : t.lane i = (endSuspended i u).lane i := (lanes i).trans laneW
    refine ⟨by rw [State.stage, laneT]; exact waits, ?_⟩
    have queue := full (by rw [stpW, stp]; exact twelve)
    rw [stpW, stp] at queue
    exact queue

end

end Sys2Proof.Machine
end

section
/-! PROOFS. A trip enters CLOSING (O18). -/

namespace Sys2Proof.Machine

/-- The end reason of a suspension's cause, as R24 gives it. -/
theorem causeReason_eq (cause : Cause) : causeReason cause = (match cause with
    | .lapse => EndReason.lapse | .arm => .arm | .halt => .halt | .driver => .driver) := by
  cases cause <;> rfl

section
variable {s : State} {i : LaneNo} {k : Nat} {l : OrderLine} {r : CompRecord} {cause : Cause} {left : LeftStage} {u : State}

/-- R62, R108, R109, R127: the lane, its faults and its injectors after the event. -/
theorem open_lane (h : Interrupted u i k l r cause left) (still : Still (closedTrip s) i k u)
    (ended : Ended (closedTrip s) i k (left ≠ .primed) u (linesClosed s)) :
    (settle (enterClosing s)).totals i = ((s.lane i).ven.totGross + r.gross, (s.lane i).ven.totStd + r.std) ∧
    ((settle (enterClosing s)).lane i).learned = (s.lane i).learned ∧ (settle (enterClosing s)).ilm.faultMark = s.ilm.faultMark ∧
    ∀ j : InjNo, ((settle (enterClosing s)).inj j).serving.map (·.lane) ≠ some i := by
  have steady := enterClosing_steady s
  have laneU : u.lane i = s.lane i := still.lane
  obtain ⟨ven, learned⟩ := h.lane_after
  rw [laneU, ← ended.lane] at ven learned
  have same := steady_lane_of_steady steady i
  have keeps : ((settle (enterClosing s)).lane i).steady.learned = ((linesClosed s).lane i).steady.learned := by rw [same]
  refine ⟨?_, keeps.trans learned, (faultMark_of_steady steady).trans ?_, fun j => ?_⟩
  · rw [congrFun (totals_of_steady steady) i, State.totals, ven]
    exact Prod.ext (advanceTotal_eq _ _) (advanceTotal_eq _ _)
  · exact congrArg (·.2.1.faultMark) (linesClosed_afar s)
  · rw [inj_of_steady steady]
    exact ended.off h.isOpen j

end

end Sys2Proof.Machine

open Sys2Proof Sys2Proof.Machine

/-- Settles O18, by the end of each line in card order: one that no suspended lane holds is ended at its place, a suspended one by its
own lane's step, before and after which the other lines leave its lane, its line and its requests alone. -/
theorem tripCloses : Obligations.TripCloses := by
  unfold Obligations.TripCloses
  intro c s now tr done slot trip ends
  obtain ⟨key, answer⟩ := exec_closes done slot ends
  rw [finish] at answer
  let p : State := { s with now := now, ilm := { s.ilm with stopKey := key } }
  have tripP : p.pct.trip = some tr := trip
  have lines : p.lines = tr.lines := by
    rw [State.lines, tripP]
    rfl
  obtain ⟨tr', isTrip, time, unset, linesW⟩ := enterClosing_trip tripP
  refine ⟨_, tr', answer, settle_enterClosing_slot _, isTrip, enterClosing_now p, time, unset, ?_, fun k l here => ⟨?_, ?_, ?_⟩⟩
  · rw [linesW, (linesClosed_onward p).length, closedTrip_lines, lines]
  all_goals rw [← lines] at here
  · intro waiting alone
    refine ⟨{ l with status := .ended .notLoaded }, ?_, rfl, rfl⟩
    rw [linesW, linesClosed_eq]
    exact foldl_closeLineOf_waiting (by rw [closedTrip_lines]; exact here) (closedTrip_unprimed p) waiting
      fun j cause left _ stage => alone j cause left stage
  · intro r refused alone
    rw [linesW, linesClosed_eq]
    exact foldl_closeLineOf_refused (by rw [closedTrip_lines]; exact here) (closedTrip_unprimed p) refused
      fun j cause left _ stage => alone j cause left stage
  · intro i cause left status lane held stage alone reason
    have only : p.Alone k (· = i) := fun j cause' left' other at' => alone j cause' left' other at'
    have isReason : causeReason cause = reason := causeReason_eq cause
    obtain ⟨l', after, ended, primed⟩ := suspended_reason here status lane held stage only
    refine ⟨l', by rw [linesW]; exact after, by rw [ended, isReason], fun was => ?_, fun isOpen r c recorded cfg => ?_⟩
    · obtain ⟨record, ven⟩ := primed was
      refine ⟨record, ?_⟩
      rw [congrFun (totals_of_steady (enterClosing_steady p)) i, State.totals, ven]
      rfl
    · intro v weighted r'
      obtain ⟨u, h, still, done'⟩ := open_closes here status lane held stage only recorded isOpen
      have laneU : u.lane i = s.lane i := still.lane
      have cfgU : u.cfg = s.cfg := still.onward.cfg
      have final := h.cutRecord_eq (by rw [laneCfg_of_cfg cfgU]; exact cfg) reason
      have tolerance : u.tolerance = s.tolerance := by rw [State.tolerance, State.tolerance, cfgU]
      have stroke : u.stroke = s.stroke := funext fun j => stroke_of_cfg cfgU j
      rw [laneU, weightedTemp_eq, stroke, tolerance] at final
      have isFinal : cutRecord u i reason r = r' := final
      have own := h.line_after
      rw [← done'.line, isReason, isFinal] at own
      obtain rfl := Option.some.inj (after.symm.trans own)
      obtain ⟨totals, learned, mark, off⟩ := open_lane h still done'
      refine ⟨rfl, totals, learned, mark, off, fun calm flight fresh lone => ?_⟩
      have requests := open_requests h still done' tripP calm flight fresh lone
      rw [isReason, isFinal, weightedTemp_eq] at requests
      have gross : (advanceTotals r (p.lane i).ven).totGross = v.totGross + r.gross := advanceTotal_eq _ _
      have std : (advanceTotals r (p.lane i).ven).totStd = v.totStd + r.std := advanceTotal_eq _ _
      intro offers
      dsimp only at requests
      rw [gross, std, ← linesW] at requests
      exact requests

end

section
/-! PROOFS. The offers of a recovery, one after the other: what they change, and what the two passes of R199 come to. -/

namespace Sys2Proof.Machine

/-! ### Offers of the Start-up Loader (R189) -/

/-- R189: requests that the Start-up Loader offers, in order. -/
def offerAll (rs : List WriteReq) (s : State) : State := rs.foldl (fun t r => sulOffer r t) s

theorem offerAll_cons (r : WriteReq) (rs : List WriteReq) (s : State) : offerAll (r :: rs) s = offerAll rs (sulOffer r s) := rfl

theorem offerAll_append (rs qs : List WriteReq) (s : State) : offerAll (rs ++ qs) s = offerAll qs (offerAll rs s) :=
  List.foldl_append

/-- The state with another Store Port and other held offers of the Start-up Loader. -/
def State.offered (p : Stp) (h : List WriteReq) (s : State) : State := { s with stp := p, sul := { s.sul with held := h } }

theorem enqueue_stp (q : QItem) (s : State) : ∃ p, (enqueue q s).2 = { s with stp := p } := ⟨_, enqueue_modStp q s⟩

theorem sulOffer_offered (r : WriteReq) (s : State) : ∃ p h, sulOffer r s = s.offered p h := by
  obtain ⟨p, same⟩ := enqueue_stp ⟨r, true⟩ s
  unfold sulOffer
  split
  · split
    · next t offer =>
      rw [offer] at same
      exact ⟨p, s.sul.held, same⟩
    · next t offer =>
      rw [offer] at same
      change t = _ at same
      rw [same]
      exact ⟨p, [r], rfl⟩
  · exact ⟨s.stp, _, rfl⟩

theorem offerAll_offered (rs : List WriteReq) (s : State) : ∃ p h, offerAll rs s = s.offered p h := by
  induction rs generalizing s with
  | nil => exact ⟨s.stp, s.sul.held, rfl⟩
  | cons r rest ih =>
    obtain ⟨p, h, first⟩ := sulOffer_offered r s
    obtain ⟨p', h', next⟩ := ih (s.offered p h)
    exact ⟨p', h', by rw [offerAll_cons, first, next]; rfl⟩

/-! ### An offer does not see the lanes -/

/-- The state with other lanes. -/
def State.withLanes (ls : Vector Lane 4) (s : State) : State := { s with lanes := ls }

theorem askStatusRead_withLanes (ls : Vector Lane 4) (q : QItem) (s : State) :
    askStatusRead q (s.withLanes ls) = (askStatusRead q s).withLanes ls := by
  unfold askStatusRead
  split <;> rfl

theorem startNext_withLanes (ls : Vector Lane 4) (s : State) : startNext (s.withLanes ls) = (startNext s).withLanes ls := by
  cases flight : s.stp.flight with
  | some f => rw [startNext_busy s (by rw [flight]; rfl), startNext_busy (s.withLanes ls) (by exact flight ▸ rfl)]
  | none =>
    cases queue : s.stp.queue with
    | nil => rw [startNext_none queue, startNext_none (s := s.withLanes ls) queue]
    | cons q rest =>
      rw [startNext_some flight queue, startNext_some (s := s.withLanes ls) flight queue, ← askStatusRead_withLanes]
      rfl

theorem enqueue_withLanes (ls : Vector Lane 4) (q : QItem) (s : State) :
    enqueue q (s.withLanes ls) = ((enqueue q s).1, (enqueue q s).2.withLanes ls) := by
  have next := startNext_withLanes ls (s.modStp fun p => { p with queue := p.queue ++ [q] })
  unfold enqueue
  by_cases same : sameLineWaits q s.stp.queue = true
  · rw [if_pos (by exact same), if_pos same]
    rfl
  · rw [if_neg (by exact same), if_neg same]
    by_cases room : s.stp.queue.length < Config.queueSize
    · rw [if_pos (by exact room), if_pos room]
      exact Prod.ext rfl next
    · rw [if_neg (by exact room), if_neg room]

theorem sulOffer_withLanes (ls : Vector Lane 4) (r : WriteReq) (s : State) : sulOffer r (s.withLanes ls) = (sulOffer r s).withLanes ls := by
  unfold sulOffer
  by_cases none : s.sul.held = []
  · rw [if_pos (by exact none), if_pos none, enqueue_withLanes]
    cases enqueue ⟨r, true⟩ s with
    | mk b t => cases b <;> rfl
  · rw [if_neg (by exact none), if_neg none]
    rfl

theorem offerAll_withLanes (ls : Vector Lane 4) (rs : List WriteReq) (s : State) :
    offerAll rs (s.withLanes ls) = (offerAll rs s).withLanes ls := by
  induction rs generalizing s with
  | nil => rfl
  | cons r rest ih => rw [offerAll_cons, sulOffer_withLanes, ih, offerAll_cons]

/-! ### The totals of lanes -/

/-- The totalizers of lanes. -/
def totalsIn (ls : Vector Lane 4) (i : LaneNo) : Word48 × Word48 := (ls[i].ven.totGross, ls[i].ven.totStd)

theorem totals_eq (s : State) : s.totals = totalsIn s.lanes := rfl

/-- R199: the TOTAL offers, for the lanes whose totals differ from those stored. -/
def totalReqs (stored totals : LaneNo → Word48 × Word48) : List WriteReq :=
  (allLanes.filter fun i => decide (totals i ≠ stored i)).map fun i => .total i (totals i).1 (totals i).2

theorem offerTotals_eq (s : State) : offerTotals s = offerAll (totalReqs s.storedTotals s.totals) s := by
  have each (l : List LaneNo) (t : State) (totals : t.totals = s.totals) (stored : t.storedTotals = s.storedTotals) :
      l.foldl (fun u i => if u.totals i = u.storedTotals i then u else sulOffer (.total i (u.totals i).1 (u.totals i).2) u) t =
        offerAll ((l.filter fun i => decide (s.totals i ≠ s.storedTotals i)).map fun i => .total i (s.totals i).1 (s.totals i).2) t := by
    induction l generalizing t with
    | nil => rfl
    | cons i rest ih =>
      rw [List.foldl_cons, totals, stored]
      by_cases same : s.totals i = s.storedTotals i
      · rw [if_pos same, List.filter_cons_of_neg (by simpa using same), ih t totals stored]
      · obtain ⟨p, h, offered⟩ := sulOffer_offered (.total i (s.totals i).1 (s.totals i).2) t
        rw [if_neg same, List.filter_cons_of_pos (by simpa using same), List.map_cons, offerAll_cons, offered]
        exact ih (t.offered p h) totals stored
  exact each allLanes s rfl rfl

theorem offerTotals_withLanes (ls : Vector Lane 4) (s : State) :
    offerTotals (s.withLanes ls) = (offerAll (totalReqs s.storedTotals (totalsIn ls)) s).withLanes ls := by
  rw [offerTotals_eq, offerAll_withLanes]
  rfl

theorem offered_storedTotals (p : Stp) (h : List WriteReq) (s : State) : (s.offered p h).storedTotals = s.storedTotals := rfl

/-! ### Pass 2 of R199 -/

/-- R199: a power-lost line advances its lane's totalizers. -/
def lineLost (l : OrderLine) (ls : Vector Lane 4) : Vector Lane 4 :=
  match l.lane with
  | none => ls
  | some i => ls.set i { ls[i] with ven := advanceTotals (l.record.getD {}) ls[i].ven }

/-- R199: the totals that stand in a power-lost line's ENDED checkpoint (log 21). -/
def lostTotals (totals : LaneNo → Word48 × Word48) : Option LaneNo → Word48 × Word48
  | none => (0, 0)
  | some i => totals i

/-- R199: the ENDED checkpoint of a power-lost line. -/
def lostReq (number k : Nat) (l : OrderLine) (totals : LaneNo → Word48 × Word48) : WriteReq :=
  .checkpoint (k + 1) (checkpointBytes number (k + 1) 7 0 (endReasonCode .powerLost) l.clamped (l.record.getD {})
    ((l.record.getD {}).weighted.getD 1500) (lostTotals totals l.lane).1 (lostTotals totals l.lane).2)

/-- R199: the lanes after the power-lost lines. -/
def lostLanes (lines : List OrderLine) : List Nat → Vector Lane 4 → Vector Lane 4
  | [], ls => ls
  | k :: rest, ls =>
    match lines[k]? with
    | none => lostLanes lines rest ls
    | some l => lostLanes lines rest (lineLost l ls)

/-- R199: the CHECKPOINT offers of the power-lost lines. -/
def lostReqs (number : Nat) (lines : List OrderLine) : List Nat → Vector Lane 4 → List WriteReq
  | [], _ => []
  | k :: rest, ls =>
    match lines[k]? with
    | none => lostReqs number lines rest ls
    | some l => lostReq number k l (totalsIn (lineLost l ls)) :: lostReqs number lines rest (lineLost l ls)

theorem passTwo_none {number k : Nat} {s : State} (none : s.sul.lines[k]? = none) : passTwo number k s = s := by
  rw [passTwo, none]

theorem passTwo_some {number k : Nat} {s : State} {l : OrderLine} (here : s.sul.lines[k]? = some l) :
    passTwo number k s = (sulOffer (lostReq number k l (totalsIn (lineLost l s.lanes))) s).withLanes (lineLost l s.lanes) := by
  rw [← sulOffer_withLanes, passTwo, here]
  dsimp only
  cases lane : l.lane with
  | none =>
    have same : lineLost l s.lanes = s.lanes := by rw [lineLost, lane]
    rw [same, lostReq, lane, lostTotals]
    generalize checkpointBytes _ _ _ _ _ _ _ _ _ _ = bytes
    rfl
  | some i =>
    have same : lineLost l s.lanes = (s.modVen i (advanceTotals (l.record.getD {}))).lanes := by rw [lineLost, lane]; rfl
    rw [same, lostReq, lane, lostTotals]
    change sulOffer _ _ = sulOffer (.checkpoint (k + 1) (checkpointBytes _ _ _ _ _ _ _ _
      ((s.modVen i (advanceTotals (l.record.getD {}))).totals i).1 ((s.modVen i (advanceTotals (l.record.getD {}))).totals i).2)) _
    generalize checkpointBytes _ _ _ _ _ _ _ _ _ _ = bytes
    rfl

theorem foldl_passTwo (number : Nat) (lost : List Nat) (s : State) : lost.foldl (fun u k => passTwo number k u) s =
    (offerAll (lostReqs number s.sul.lines lost s.lanes) s).withLanes (lostLanes s.sul.lines lost s.lanes) := by
  induction lost generalizing s with
  | nil => rfl
  | cons k rest ih =>
    rw [List.foldl_cons]
    cases here : s.sul.lines[k]? with
    | none =>
      rw [passTwo_none here, ih, lostReqs, lostLanes, here]
    | some l =>
      obtain ⟨p, h, offered⟩ := sulOffer_offered (lostReq number k l (totalsIn (lineLost l s.lanes))) s
      rw [passTwo_some here, ih, lostReqs, lostLanes, here]
      dsimp only
      rw [offerAll_cons, offerAll_withLanes, offered]
      rfl

/-- R199: what the recovery of the lines offers. -/
def recoveryReqs (number : Nat) (s : State) : List WriteReq :=
  lostReqs number s.sul.lines s.sul.lost s.lanes ++
    totalReqs s.storedTotals (totalsIn (lostLanes s.sul.lines s.sul.lost s.lanes))

/-- R199: the state after the rebuilding of the lines, but for its offers. -/
def recovered (s : State) : State :=
  { s with
    lanes := lostLanes s.sul.lines s.sul.lost s.lanes
    sul := { s.sul with phase := .settle, buf := [], recovery := .offering } }

/-- R199: the rebuilding of the lines is its offers, one after the other, on the advanced totals. -/
theorem rebuilt_eq (m : Marker) (s : State) : ∃ p h, offerAll (recoveryReqs m.number s) s = s.offered p h ∧
    rebuilt m s = (recovered s).offered p h := by
  obtain ⟨p, h, offered⟩ := offerAll_offered (recoveryReqs m.number s) s
  refine ⟨p, h, offered, ?_⟩
  have after := foldl_passTwo m.number s.sul.lost s
  obtain ⟨p1, h1, first⟩ := offerAll_offered (lostReqs m.number s.sul.lines s.sul.lost s.lanes) s
  rw [recoveryReqs, offerAll_append, first] at offered
  rw [first] at after
  rw [rebuilt, after, offerTotals_withLanes, offered_storedTotals, offered, recovered]
  generalize lostLanes s.sul.lines s.sul.lost s.lanes = ls
  rfl

end Sys2Proof.Machine
end

section
/-! PROOFS. Where the offers of a recovery, and the pages of its note, go: the store write queue, the request in flight and the offers
held (R175, R189, R190). -/

namespace Sys2Proof.Machine

/-! ### Offers that find a request in flight -/

/-- No two of the requests are checkpoints of one line. -/
def LinesApart (rs : List WriteReq) : Prop := rs.Pairwise fun a b => checkLine a ≠ none → checkLine b ≠ checkLine a

/-- The requests as the Start-up Loader offers them. -/
def sulItems (rs : List WriteReq) : List QItem := rs.map fun r => ⟨r, true⟩

theorem sameLineWaits_of_apart {q : QItem} {queue : List QItem}
    (alone : ∀ x ∈ queue, checkLine q.req ≠ none → checkLine x.req ≠ checkLine q.req) : sameLineWaits q queue = false := by
  rw [sameLineWaits, Bool.and_eq_false_iff]
  cases line : checkLine q.req with
  | none => exact .inl rfl
  | some k =>
    refine .inr (List.any_eq_false.2 fun x mem same => ?_)
    have ne := alone x mem (by rw [line]; exact nofun)
    rw [line] at ne
    exact ne (of_decide_eq_true same)

section
variable {s : State} {r : WriteReq}

theorem sulOffer_held (held : s.sul.held ≠ []) : sulOffer r s = s.offered s.stp (s.sul.held ++ [r]) := by
  rw [sulOffer, if_neg held]
  rfl

theorem offerAll_held (held : s.sul.held ≠ []) (rs : List WriteReq) : offerAll rs s = s.offered s.stp (s.sul.held ++ rs) := by
  induction rs generalizing s with
  | nil =>
    rw [List.append_nil]
    rfl
  | cons r rest ih =>
    rw [offerAll_cons, sulOffer_held held, ih (by
      change s.sul.held ++ [r] ≠ []
      exact List.append_ne_nil_of_left_ne_nil held _)]
    change (s.offered s.stp _).offered s.stp ((s.sul.held ++ [r]) ++ rest) = _
    rw [List.append_assoc]
    rfl

variable (none : s.sul.held = []) (alone : ∀ x ∈ s.stp.queue, checkLine r ≠ Option.none → checkLine x.req ≠ checkLine r)
include none alone

theorem sulOffer_fits (flight : s.stp.flight.isSome = true) (room : s.stp.queue.length < 12) :
    sulOffer r s = s.offered { s.stp with queue := s.stp.queue ++ [⟨r, true⟩] } [] := by
  rw [sulOffer, if_pos none, enqueue, sameLineWaits_of_apart (q := ⟨r, true⟩) alone, if_neg Bool.false_ne_true,
    if_pos (show s.stp.queue.length < Config.queueSize from room), startNext_busy _ (by exact flight), State.offered, ← none]
  rfl

theorem sulOffer_full (full : 12 ≤ s.stp.queue.length) : sulOffer r s = s.offered s.stp [r] := by
  rw [sulOffer, if_pos none, enqueue_full (q := ⟨r, true⟩) alone full]
  rfl

end

/-- R189: while a request is in flight, offers join the queue as far as it has room, and the rest is held. -/
theorem offerAll_flight {rs : List WriteReq} {s : State} (none : s.sul.held = []) (flight : s.stp.flight.isSome = true)
    (fits : s.stp.queue.length ≤ 12)
    (alone : ∀ r ∈ rs, ∀ x ∈ s.stp.queue, checkLine r ≠ Option.none → checkLine x.req ≠ checkLine r) (apart : LinesApart rs) :
    offerAll rs s = s.offered { s.stp with queue := s.stp.queue ++ (sulItems rs).take (12 - s.stp.queue.length) }
      (rs.drop (12 - s.stp.queue.length)) := by
  induction rs generalizing s with
  | nil =>
    have same : s = s.offered s.stp s.sul.held := rfl
    rw [sulItems, List.map_nil, List.take_nil, List.append_nil, List.drop_nil]
    rw [none] at same
    exact same
  | cons r rest ih =>
    obtain ⟨first, others⟩ := List.pairwise_cons.1 apart
    have own := alone r (List.mem_cons_self ..)
    by_cases room : s.stp.queue.length < 12
    · have length : (s.stp.queue ++ [(⟨r, true⟩ : QItem)]).length = s.stp.queue.length + 1 := by
        rw [List.length_append, List.length_singleton]
      have next := ih (s := s.offered { s.stp with queue := s.stp.queue ++ [⟨r, true⟩] } []) rfl (by exact flight)
        (by change (s.stp.queue ++ [_]).length ≤ 12; rw [length]; exact room) (fun q mem x at' line => by
          obtain old | new := List.mem_append.1 at'
          · exact alone q (List.mem_cons_of_mem _ mem) x old line
          · obtain rfl := List.mem_singleton.1 new
            exact fun same => first q mem (by rw [show checkLine r = _ from same]; exact line) same.symm) others
      obtain ⟨m, left⟩ : ∃ m, 12 - s.stp.queue.length = m + 1 := ⟨11 - s.stp.queue.length, by omega⟩
      have items := append_take_cons (rest := sulItems rest) (x := (⟨r, true⟩ : QItem)) room
      have less : 12 - (s.stp.queue ++ [(⟨r, true⟩ : QItem)]).length = m := by rw [length]; omega
      change offerAll rest _ = (s.offered _ []).offered { s.stp with
        queue := (s.stp.queue ++ [⟨r, true⟩]) ++ (sulItems rest).take (12 - (s.stp.queue ++ [(⟨r, true⟩ : QItem)]).length) }
        (rest.drop (12 - (s.stp.queue ++ [(⟨r, true⟩ : QItem)]).length)) at next
      rw [← items, less] at next
      rw [offerAll_cons, sulOffer_fits none own flight room, next, left, List.drop_succ_cons]
      rfl
    · have none' : 12 - s.stp.queue.length = 0 := by omega
      rw [offerAll_cons, sulOffer_full none own (by omega), offerAll_held (by exact List.cons_ne_nil _ _), none', List.take_zero,
        List.append_nil, List.drop_zero]
      rfl

/-! ### Offers that find nothing in flight and nothing waiting -/

/-- A request without a read of its own (R196). -/
def Written (r : WriteReq) : Prop := ∀ note field code, r ≠ .noteStatus note field code

theorem flightOf_item (copies : Vector CopyState 4) (q : QItem) : (flightOf copies q).item = q := by
  unfold flightOf
  split <;> rfl

theorem askStatusRead_written {q : QItem} (written : Written q.req) (s : State) : askStatusRead q s = s := by
  unfold askStatusRead
  split
  · next eq => exact absurd eq (written _ _ _)
  · rfl

/-- R189: the first request is in flight at once. -/
theorem enqueue_starts {q : QItem} {s : State} (free : s.stp.flight = none) (empty : s.stp.queue = []) (written : Written q.req) :
    enqueue q s = (true, s.modStp fun p => { p with flight := some (flightOf s.stp.copies q), departed := true }) := by
  have alone : sameLineWaits q s.stp.queue = false :=
    sameLineWaits_of_apart (by rw [empty]; exact fun x mem => absurd mem List.not_mem_nil)
  rw [enqueue, alone, if_neg Bool.false_ne_true, if_pos (by rw [empty]; decide)]
  rw [startNext_some (s := s.modStp fun p => { p with queue := p.queue ++ [q] }) (rest := []) free (by
    change s.stp.queue ++ [q] = _
    rw [empty]
    rfl), askStatusRead_written written]
  simp only [State.nextRequest, State.modStp, empty]

theorem sulOffer_starts {r : WriteReq} {s : State} (none : s.sul.held = []) (free : s.stp.flight = Option.none) (empty : s.stp.queue = [])
    (written : Written r) : sulOffer r s =
      s.offered { s.stp with flight := some (flightOf s.stp.copies ⟨r, true⟩), departed := true } [] := by
  rw [sulOffer, if_pos none, enqueue_starts free empty (q := ⟨r, true⟩) written, State.offered, ← none]
  rfl

/-- R189: with nothing in flight and nothing waiting the first offer is in flight at once, and the others wait. -/
theorem offerAll_starts {r : WriteReq} {rs : List WriteReq} {s : State} (none : s.sul.held = []) (free : s.stp.flight = Option.none)
    (empty : s.stp.queue = []) (written : Written r) (few : rs.length ≤ 12) (apart : LinesApart rs) :
    offerAll (r :: rs) s = s.offered { s.stp with
      flight := some (flightOf s.stp.copies ⟨r, true⟩), departed := true, queue := sulItems rs } [] := by
  have next := offerAll_flight (rs := rs) (s := s.offered { s.stp with
    flight := some (flightOf s.stp.copies ⟨r, true⟩), departed := true } []) rfl rfl (by
      change s.stp.queue.length ≤ 12
      rw [empty]
      decide) (fun q _ x mem => by
      change x ∈ s.stp.queue at mem
      rw [empty] at mem
      exact absurd mem List.not_mem_nil) apart
  have queue : (s.offered { s.stp with
    flight := some (flightOf s.stp.copies ⟨r, true⟩), departed := true } []).stp.queue = [] := empty
  rw [queue, List.length_nil, Nat.sub_zero, List.nil_append, List.take_of_length_le (by rw [sulItems, List.length_map]; exact few),
    List.drop_eq_nil_of_le few] at next
  rw [offerAll_cons, sulOffer_starts none free empty written, next]
  rfl

/-! ### The pages of a note for which there is room (R175) -/

theorem withAccepted {b : Build} {n : Nat} (same : b.accepted = n) : b = { b with accepted := n } := by
  subst same
  rfl

theorem withBuild {x : Ntb} {b : Build} (build : x.build = some b) : x = { x with build := some b } := by
  rw [← build]

theorem offerPages_fit {n : Nat} {s : State} {b : Build} (build : s.ntb.build = some b) (flight : s.stp.flight.isSome = true)
    (enough : b.pages ≤ b.accepted + n) (within : b.accepted ≤ b.pages) (room : s.stp.queue.length + (b.pages - b.accepted) ≤ 12) :
    offerPages n s = { s with
      stp := { s.stp with queue := s.stp.queue ++ b.requests.drop b.accepted }
      ntb := { s.ntb with build := some { b with accepted := b.pages } } } := by
  induction n generalizing s b with
  | zero =>
    have all : b.accepted = b.pages := by omega
    rw [← withAccepted all, requests_drop_all b (by omega), List.append_nil, ← withBuild build]
    rfl
  | succ n ih =>
    by_cases more : b.accepted < b.pages
    · have tail := enqueue_tail (q := ⟨.notePage b.number (b.accepted + 1) (pageBytes b.image (b.accepted + 1)), false⟩) rfl
        (by omega : s.stp.queue.length < 12) flight
      rw [offerPages, build]
      dsimp only
      rw [if_pos more, tail]
      dsimp only
      refine (ih rfl (by exact flight) (by change b.pages ≤ b.accepted + 1 + n; omega) (by exact more) (by
        change (s.stp.queue ++ [_]).length + (b.pages - (b.accepted + 1)) ≤ 12
        rw [List.length_append, List.length_singleton]
        omega)).trans ?_
      have queue : s.stp.queue ++ b.requests.drop b.accepted =
          (s.stp.queue ++ [⟨.notePage b.number (b.accepted + 1) (pageBytes b.image (b.accepted + 1)), false⟩]) ++
            b.requests.drop (b.accepted + 1) := by
        rw [requests_drop b more, List.append_assoc, List.singleton_append]
      rw [queue]
      rfl
    · have all : b.accepted = b.pages := by omega
      rw [← withAccepted all, requests_drop_all b (by omega), List.append_nil, ← withBuild build, offerPages, build]
      dsimp only
      rw [if_neg more]

/-- R175, R189: with nothing in flight and nothing waiting the first page is in flight at once, and the others wait. -/
theorem offerPages_starts {s : State} {b : Build} (build : s.ntb.build = some b) (begun : b.accepted = 0) (free : s.stp.flight = none)
    (empty : s.stp.queue = []) (some_page : 1 ≤ b.pages) (pages : b.pages ≤ 4) :
    ∃ f : Flight, some f.item = b.requests.head? ∧ offerPages maxPages s = { s with
      stp := { s.stp with flight := some f, departed := true, queue := b.requests.drop 1 }
      ntb := { s.ntb with build := some { b with accepted := b.pages } } } := by
  have head : b.requests.head? = some ⟨.notePage b.number 1 (pageBytes b.image 1), false⟩ := by
    have first := requests_drop b (a := 0) some_page
    rw [List.drop_zero] at first
    rw [first]
    rfl
  refine ⟨flightOf s.stp.copies ⟨.notePage b.number 1 (pageBytes b.image 1), false⟩, by rw [flightOf_item, head], ?_⟩
  have starts := enqueue_starts (q := ⟨.notePage b.number 1 (pageBytes b.image 1), false⟩) free empty (nofun)
  rw [maxPages, offerPages, build]
  dsimp only
  rw [begun, if_pos (show 0 < b.pages from some_page), starts]
  dsimp only
  refine (offerPages_fit (b := { b with accepted := 1 }) rfl rfl (by change b.pages ≤ 1 + 3; exact pages) (by exact some_page) (by
    change s.stp.queue.length + (b.pages - 1) ≤ 12
    rw [empty]
    change 0 + _ ≤ 12
    omega)).trans ?_
  change { s with
    stp := { s.stp with
      flight := some _, departed := true, queue := s.stp.queue ++ b.requests.drop 1 }
    ntb := { s.ntb with build := some { b with accepted := b.pages } } } = _
  rw [empty, List.nil_append]

end Sys2Proof.Machine
end

section
/-! PROOFS. The end of the event that has rebuilt the lines: the recovered note is begun just when no offer is held (R200), and its
pages follow the offers (R175, R189). -/

namespace Sys2Proof.Machine

/-! ### What a report of a free slot leaves of the Start-up Loader with nothing held -/

theorem enqueue_sul_of {q : QItem} {s t : State} {b : Bool} (offer : enqueue q s = (b, t)) : t.sul = s.sul := by
  have same := enqueue_modStp q s
  rw [offer] at same
  change t = _ at same
  rw [same]
  rfl

theorem pctFreeSlot_sul (n : Nat) (s : State) : (pctFreeSlot n s).sul = s.sul := by
  induction n generalizing s with
  | zero => rfl
  | succ n ih =>
    unfold pctFreeSlot
    split
    · rfl
    · split
      · next t offer =>
        have same := enqueue_sul_of offer
        exact (ih _).trans same
      · next t offer => exact enqueue_sul_of offer

theorem offerPages_sul (n : Nat) (s : State) : (offerPages n s).sul = s.sul := by
  induction n generalizing s with
  | zero => rfl
  | succ n ih =>
    unfold offerPages
    split
    · rfl
    · split
      · split
        · next t offer =>
          have same := enqueue_sul_of offer
          exact (ih _).trans same
        · next t offer => exact enqueue_sul_of offer
      · rfl

theorem offerStatuses_sul (n : Nat) (s : State) : (offerStatuses n s).sul = s.sul := by
  induction n generalizing s with
  | zero => rfl
  | succ n ih =>
    unfold offerStatuses
    split
    · rfl
    · split
      · next t offer =>
        have same := enqueue_sul_of offer
        exact (ih _).trans same
      · next t offer => exact enqueue_sul_of offer

theorem sulFreeSlot_none {n : Nat} {s : State} (none : s.sul.held = []) : sulFreeSlot n s = s := by
  cases n with
  | zero => rfl
  | succ n => rw [sulFreeSlot, none]

theorem eachLane_offerAfter_sul (s : State) : (s.eachLane offerAfter).sul = s.sul := by
  have each (l : List LaneNo) (t : State) : (l.foldl (fun u i => offerAfter i u) t).sul = t.sul := by
    induction l generalizing t with
    | nil => rfl
    | cons i rest ih => rw [List.foldl_cons, ih, sul_of_beyond (offerAfter_beyond (i := i) (s := t))]
  exact each _ s

theorem reportFreeSlot_held_none {s : State} (none : s.sul.held = []) : (reportFreeSlot s).sul.held = [] := by
  unfold reportFreeSlot
  split
  · have same : (ntbFreeSlot (pctFreeSlot Config.heldMarks
        ((s.modStp fun p => { p with departed := false }).eachLane offerAfter))).sul = s.sul := by
      rw [ntbFreeSlot, offerStatuses_sul, offerPages_sul, pctFreeSlot_sul, eachLane_offerAfter_sul]
      rfl
    rw [sulFreeSlot_none (by rw [same]; exact none), same]
    exact none
  · exact none

/-! ### No report remains due while a request is in flight (R189) -/

/-- A request is in flight, and no free slot is to be reported. -/
def Flying (p : Stp) : Prop := p.flight.isSome = true ∧ p.departed = false

theorem flying_law : StpLaw Flying where
  offers q s h := by
    unfold enqueue
    split
    · exact h
    · split
      · rw [startNext_busy _ (by exact h.1)]
        exact h
      · exact h
  reads _ _ h := h

/-- A free slot to be reported means that a request is in flight. -/
def Launched (p : Stp) : Prop := p.departed = true → p.flight.isSome = true

theorem askStatusRead_stp (q : QItem) (s : State) : ∃ reads, (askStatusRead q s).stp = { s.stp with reads := reads } := by
  unfold askStatusRead
  split
  · exact ⟨_, rfl⟩
  · exact ⟨s.stp.reads, rfl⟩

theorem startNext_launched {s : State} (h : Launched s.stp) : Launched (startNext s).stp := by
  unfold startNext
  split
  · next q rest _ _ =>
    obtain ⟨reads, same⟩ := askStatusRead_stp q (s.modStp fun p => { p with
      queue := rest, flight := some (flightOf p.copies q), departed := true })
    rw [same]
    exact fun _ => rfl
  · exact h

theorem launched_law : StpLaw Launched where
  offers q s h := by
    unfold enqueue
    split
    · exact h
    · split
      · exact startNext_launched (s := s.modStp fun p => { p with queue := p.queue ++ [q] }) h
      · exact h
  reads _ _ h := h

theorem reportFreeSlot_undue {s : State} (launched : Launched s.stp) : (reportFreeSlot s).stp.departed = false := by
  by_cases due : s.stp.departed = true
  · have start : Flying (s.modStp fun p => { p with departed := false }).stp := ⟨launched due, rfl⟩
    have flying : (reportFreeSlot s).StpHas Flying := by
      rw [reportFreeSlot, if_pos due]
      exact sulFreeSlot_stpHas flying_law _ (ntbFreeSlot_stpHas flying_law (pctFreeSlot_stpHas flying_law _
        (eachLane_stpHas offerAfter (fun i _ h => offerAfter_stpHas flying_law i h) start)))
    exact flying.2
  · rw [reportFreeSlot, if_neg due]
    exact Bool.eq_false_iff.2 due

/-! ### The recovered note (R200) -/

/-- R200: the recovered note. -/
def recoveryBuild (m : Marker) (s : State) : Build where
  image := noteImage (recoveredHead m s.ntb.next s.lif.station) s.sul.lines s.totals stampNone printQueued
  number := s.ntb.next
  pages := pagesOf (noteLength s.sul.lines)
  recovered := true
  permit := m.permit
  endTime := 0
  loaded := (s.sul.lines.filter (·.record.isSome)).length

/-- R200: the recovered note has been handed to the Note Builder; none of its pages is offered yet. -/
def noteBegun (m : Marker) (s : State) : State :=
  { s with ntb := { s.ntb with build := some (recoveryBuild m s) }, sul := { s.sul with recovery := .sealing } }

section
variable {w : State} {m : Marker} (marker : w.sul.marker = some m) (offering : w.sul.recovery = .offering)
include marker offering

theorem recoveryNote_begins (none : w.sul.held = []) : recoveryNote w = offerPages maxPages (noteBegun m w) := by
  rw [recoveryNote, marker]
  dsimp only
  rw [if_pos ⟨offering, none⟩]
  rfl

omit offering in
theorem recoveryNote_waits (held : w.sul.held ≠ []) : recoveryNote w = w := by
  rw [recoveryNote, marker]
  dsimp only
  rw [if_neg fun both => held both.2]

end

theorem recoveryBuild_of_steady {s t : State} (same : t.steady = s.steady) (m : Marker) : recoveryBuild m t = recoveryBuild m s := by
  have next : t.ntb.next = s.ntb.next := by
    have e : t.steady.ntb.next = s.steady.ntb.next := by rw [same]
    exact e
  have station : t.lif.station = s.lif.station := by
    have e : t.steady.lif.station = s.steady.lif.station := by rw [same]
    exact e
  have lines : t.sul.lines = s.sul.lines := by
    have e : t.steady.sul.lines = s.steady.sul.lines := by rw [same]
    exact e
  rw [recoveryBuild, recoveryBuild, next, station, lines, totals_of_steady same]

theorem marker_of_steady {s t : State} (same : t.steady = s.steady) : t.sul.marker = s.sul.marker := by
  have e : t.steady.sul.marker = s.steady.sul.marker := by rw [same]
  exact e

theorem lif_of_offerPages (n : Nat) (s : State) : (offerPages n s).lif = s.lif := lif_of_unstored' (offerPages_unstored n s)

/-- R200: at the end of the event the recovered note is being built just when no offer is held. -/
theorem reports_recovery {w : State} {m : Marker} (marker : w.sul.marker = some m) (offering : w.sul.recovery = .offering)
    (idle : w.ntb.build = none) (launched : Launched w.stp) (room : w.lif.roomFreed = false) :
    ((reports w).sul.held ≠ [] → (reports w).sul.recovery = .offering ∧ (reports w).ntb.build = none) ∧
    ((reports w).sul.held = [] → (reports w).sul.recovery = .sealing ∧
      ∃ b, (reports w).ntb.build = some b ∧ { b with accepted := 0 } = recoveryBuild m w) := by
  have first := reportFreeSlot_noted w
  have steady : (reportFreeSlot w).steady = w.steady := reportFreeSlot_steady w
  have undue := reportFreeSlot_undue launched
  have lif : (reportFreeSlot w).lif = w.lif := lif_of_unstored' (reportFreeSlot_unstored w)
  have build := recoveryBuild_of_steady steady m
  have marker1 := (marker_of_steady steady).trans marker
  rw [reports]
  generalize reportFreeSlot w = u at first steady undue lif build marker1
  have offering1 : u.sul.recovery = .offering := (congrArg Prod.snd first).trans offering
  have idle1 : u.ntb.build = none := noted_none first idle
  by_cases held : u.sul.held = []
  · have begun : (offerPages maxPages (noteBegun m u)).noted = (some (recoveryBuild m w), .sealing) := by
      rw [offerPages_noted, ← build]
      rfl
    have none : (offerPages maxPages (noteBegun m u)).sul.held = [] := by
      rw [offerPages_sul]
      exact held
    have lif2 : (offerPages maxPages (noteBegun m u)).lif = w.lif := (lif_of_offerPages _ _).trans lif
    rw [recoveryNote_begins marker1 offering1 held]
    generalize offerPages maxPages (noteBegun m u) = v at begun none lif2
    have last := (reportFreeSlot_noted v).trans begun
    rw [reportRoom_none (by rw [lif_of_unstored' (reportFreeSlot_unstored v), lif2]; exact room)]
    exact ⟨fun other => absurd (reportFreeSlot_held_none none) other, fun _ => ⟨(noted_some last).2, (noted_some last).1⟩⟩
  · rw [recoveryNote_waits marker1 held, reportFreeSlot_none undue, reportRoom_none (by rw [lif]; exact room)]
    exact ⟨fun _ => ⟨offering1, idle1⟩, fun none => absurd none held⟩

/-! ### The queue at the end of the event -/

theorem settle_stp_reports (w : State) : (settle w).stp.queue = (reports w).stp.queue ∧ (settle w).stp.flight = (reports w).stp.flight := by
  have kept := portKick_queue_flight (refreshLamps (idleTimer (reports w)))
  rwa [refreshLamps_stp, idleTimer_stp] at kept

section
variable {w : State} {m : Marker} (marker : w.sul.marker = some m) (offering : w.sul.recovery = .offering)
  (undue : w.stp.departed = false) (room : w.lif.roomFreed = false)
include marker undue room

/-- R200: with offers held no page follows. -/
theorem reports_waits (held : w.sul.held ≠ []) : reports w = w := by
  rw [reports, reportFreeSlot_none undue, recoveryNote_waits marker held, reportFreeSlot_none undue, reportRoom_none room]

include offering in
/-- R175: with none held, and a request in flight, the pages follow in the queue. -/
theorem reports_begins (none : w.sul.held = []) (flight : w.stp.flight.isSome = true) (pages : (recoveryBuild m w).pages ≤ 4) :
    (reports w).stp = { w.stp with
      queue := w.stp.queue ++ (recoveryBuild m w).requests.take (12 - w.stp.queue.length) } ∧ (reports w).sul.held = [] := by
  have held := congrArg Sul.held (offerPages_sul maxPages (noteBegun m w))
  have after := offerPages_all (s := noteBegun m w) rfl rfl (by exact flight) pages
  have lif := lif_of_offerPages maxPages (noteBegun m w)
  rw [reports, reportFreeSlot_none undue, recoveryNote_begins marker offering none]
  generalize offerPages maxPages (noteBegun m w) = v at after lif held
  rw [reportFreeSlot_none (by rw [after]; exact undue), reportRoom_none (by rw [lif]; exact room), after]
  exact ⟨rfl, held.trans none⟩

end

section
variable {w : State} {m : Marker} (marker : w.sul.marker = some m) (offering : w.sul.recovery = .offering) (unheld : w.Unheld)
  (room : w.lif.roomFreed = false)
include marker offering unheld room

/-- R175, R189: the same where nothing else waits for a free slot, whose report is due. -/
theorem reports_unheld (flight : w.stp.flight.isSome = true) (pages : (recoveryBuild m w).pages ≤ 4) :
    (reports w).stp.queue = w.stp.queue ++ (recoveryBuild m w).requests.take (12 - w.stp.queue.length) ∧
      (reports w).stp.flight = w.stp.flight ∧ (reports w).sul.held = [] := by
  have first := reportFreeSlot_unheld unheld
  have same : reports w = reports (w.modStp fun p => { p with departed := false }) := by
    rw [reports, first, reports, reportFreeSlot_none (s := w.modStp fun p => { p with departed := false }) rfl]
  obtain ⟨after, none⟩ := reports_begins (w := w.modStp fun p => { p with departed := false }) marker offering rfl room unheld.held flight pages
  rw [same, after]
  exact ⟨rfl, rfl, none⟩

/-- R175, R189: with nothing in flight and nothing waiting, the first page is in flight at once. -/
theorem reports_first (free : w.stp.flight = none) (empty : w.stp.queue = []) (undue : w.stp.departed = false)
    (some_page : 1 ≤ (recoveryBuild m w).pages) (pages : (recoveryBuild m w).pages ≤ 4) :
    (reports w).stp.queue = (recoveryBuild m w).requests.drop 1 ∧
      (reports w).stp.flight.map (·.item) = (recoveryBuild m w).requests.head? ∧ (reports w).sul.held = [] := by
  obtain ⟨f, item, after⟩ := offerPages_starts (s := noteBegun m w) rfl rfl free empty some_page pages
  rw [reports, reportFreeSlot_none undue, recoveryNote_begins marker offering unheld.held, after]
  have sated : ({ noteBegun m w with
      stp := { (noteBegun m w).stp with flight := some f, departed := true, queue := (recoveryBuild m w).requests.drop 1 }
      ntb := { (noteBegun m w).ntb with build := some { recoveryBuild m w with accepted := (recoveryBuild m w).pages } } } :
      State).Unheld :=
    ⟨unheld.lanes, unheld.marks, fun b same => by rw [← Option.some.inj same], unheld.list, unheld.held⟩
  rw [reportFreeSlot_unheld sated, reportRoom_none (by exact room)]
  exact ⟨rfl, item, unheld.held⟩

end

end Sys2Proof.Machine
end

section
/-! PROOFS. The two passes of R199 in the terms of the power-lost lines: the totals after them, and the requests they offer. -/

namespace Sys2Proof.Machine

/-! ### The totals after power-lost lines -/

/-- R199: the power-lost lines of a lane. -/
def lostOn (lines : List OrderLine) (lost : List Nat) (i : LaneNo) : List OrderLine :=
  (lost.filterMap fun k => lines[k]?).filter fun l => decide (l.lane = some i)

/-- R199: a lane's totals, advanced by its power-lost lines. -/
def totalsAfter (lines : List OrderLine) (base : LaneNo → Word48 × Word48) (lost : List Nat) (i : LaneNo) : Word48 × Word48 :=
  ((base i).1 + ((lostOn lines lost i).map fun l => (l.record.getD {}).gross).sum,
    (base i).2 + ((lostOn lines lost i).map fun l => (l.record.getD {}).std).sum)

/-- R199: one power-lost line advances its lane's totals. -/
def lineTotals (l : OrderLine) (totals : LaneNo → Word48 × Word48) (i : LaneNo) : Word48 × Word48 :=
  if l.lane = some i then ((totals i).1 + (l.record.getD {}).gross, (totals i).2 + (l.record.getD {}).std) else totals i

theorem totalsAfter_nil (lines : List OrderLine) (base : LaneNo → Word48 × Word48) : totalsAfter lines base [] = base := by
  funext i
  exact Prod.ext (add_zero _) (add_zero _)

theorem lostOn_none {lines : List OrderLine} {k : Nat} (none : lines[k]? = none) (lost : List Nat) (i : LaneNo) :
    lostOn lines (lost ++ [k]) i = lostOn lines lost i := by
  simp [lostOn, none]

theorem lostOn_some {lines : List OrderLine} {k : Nat} {l : OrderLine} (here : lines[k]? = some l) (lost : List Nat) (i : LaneNo) :
    lostOn lines (lost ++ [k]) i = lostOn lines lost i ++ if l.lane = some i then [l] else [] := by
  by_cases own : l.lane = some i <;> simp [lostOn, here, own]

theorem totalsAfter_none {lines : List OrderLine} {k : Nat} (none : lines[k]? = none) (base : LaneNo → Word48 × Word48) (lost : List Nat) :
    totalsAfter lines base (lost ++ [k]) = totalsAfter lines base lost := by
  funext i
  rw [totalsAfter, lostOn_none none, totalsAfter]

theorem totalsAfter_some {lines : List OrderLine} {k : Nat} {l : OrderLine} (here : lines[k]? = some l)
    (base : LaneNo → Word48 × Word48) (lost : List Nat) :
    totalsAfter lines base (lost ++ [k]) = lineTotals l (totalsAfter lines base lost) := by
  funext i
  rw [totalsAfter, lostOn_some here, lineTotals, totalsAfter]
  by_cases own : l.lane = some i
  · rw [if_pos own, if_pos own]
    simp only [List.map_append, List.sum_append, List.map_cons, List.map_nil, List.sum_cons, List.sum_nil, add_zero, add_assoc]
  · rw [if_neg own, if_neg own, List.append_nil]

theorem totalsIn_lineLost (l : OrderLine) (ls : Vector Lane 4) : totalsIn (lineLost l ls) = lineTotals l (totalsIn ls) := by
  funext i
  unfold lineLost lineTotals
  cases lane : l.lane with
  | none => rw [if_neg nofun]
  | some j =>
    dsimp only
    by_cases same : j = i
    · subst same
      rw [if_pos rfl, totalsIn, Fin.getElem_fin, Vector.getElem_set_self]
      exact Prod.ext (advanceTotal_eq _ _) (advanceTotal_eq _ _)
    · rw [if_neg fun e => same (Option.some.inj e), totalsIn, totalsIn, Fin.getElem_fin,
        Vector.getElem_set_ne _ _ fun e => same (Fin.ext e)]
      rfl

theorem totalsIn_lostLanes {lines : List OrderLine} {base : LaneNo → Word48 × Word48} {before lost : List Nat} {ls : Vector Lane 4}
    (start : totalsIn ls = totalsAfter lines base before) :
    totalsIn (lostLanes lines lost ls) = totalsAfter lines base (before ++ lost) := by
  induction lost generalizing before ls with
  | nil => rw [lostLanes, start, List.append_nil]
  | cons k rest ih =>
    have split : before ++ k :: rest = (before ++ [k]) ++ rest := by rw [List.append_assoc, List.singleton_append]
    rw [lostLanes, split]
    cases here : lines[k]? with
    | none => exact ih (by rw [totalsAfter_none here, start])
    | some l => exact ih (by rw [totalsAfter_some here, totalsIn_lineLost, start])

theorem lostLanes_stage (lines : List OrderLine) (lost : List Nat) (ls : Vector Lane 4) (i : LaneNo) :
    ((lostLanes lines lost ls)[i]).stage = ls[i].stage := by
  have one (l : OrderLine) (ls : Vector Lane 4) : ((lineLost l ls)[i]).stage = ls[i].stage := by
    unfold lineLost
    split
    · rfl
    · next j _ =>
      by_cases same : j = i
      · subst same
        rw [Fin.getElem_fin, Vector.getElem_set_self]
      · rw [Fin.getElem_fin, Vector.getElem_set_ne _ _ fun e => same (Fin.ext e)]
        rfl
  induction lost generalizing ls with
  | nil => rfl
  | cons k rest ih =>
    rw [lostLanes]
    cases lines[k]? with
    | none => exact ih ls
    | some l => exact (ih (lineLost l ls)).trans (one l ls)

/-! ### The requests -/

/-- R199: the ENDED checkpoint of a power-lost line, from its place among them. -/
def lostItem (number : Nat) (lines : List OrderLine) (base : LaneNo → Word48 × Word48) (lost : List Nat) (x : Nat × Nat) : Option WriteReq :=
  lines[x.1]?.map fun l => lostReq number x.1 l (totalsAfter lines base (lost.take (x.2 + 1)))

theorem lostReqs_eq {number : Nat} {lines : List OrderLine} {base : LaneNo → Word48 × Word48} {before lost : List Nat}
    {ls : Vector Lane 4} (start : totalsIn ls = totalsAfter lines base before) : lostReqs number lines lost ls =
      (lost.zipIdx before.length).filterMap (lostItem number lines base (before ++ lost)) := by
  induction lost generalizing before ls with
  | nil => rfl
  | cons k rest ih =>
    have split : before ++ k :: rest = (before ++ [k]) ++ rest := by rw [List.append_assoc, List.singleton_append]
    have next : (before ++ [k]).length = before.length + 1 := by rw [List.length_append, List.length_singleton]
    have here' : (before ++ k :: rest).take (before.length + 1) = before ++ [k] := by
      rw [split, ← next, List.take_left]
    rw [lostReqs, List.zipIdx_cons, List.filterMap_cons, lostItem, here']
    cases here : lines[k]? with
    | none =>
      have tail := ih (before := before ++ [k]) (ls := ls) (by rw [totalsAfter_none here, start])
      rw [next, ← split] at tail
      exact tail
    | some l =>
      have after : totalsIn (lineLost l ls) = totalsAfter lines base (before ++ [k]) := by
        rw [totalsAfter_some here, totalsIn_lineLost, start]
      have tail := ih (before := before ++ [k]) (ls := lineLost l ls) after
      rw [next, ← split] at tail
      rw [Option.map_some]
      dsimp only
      rw [after, tail]

theorem mem_lostReqs {number : Nat} {lines : List OrderLine} {lost : List Nat} {ls : Vector Lane 4} {r : WriteReq}
    (mem : r ∈ lostReqs number lines lost ls) : ∃ k ∈ lost, ∃ bytes, r = .checkpoint (k + 1) bytes := by
  induction lost generalizing ls with
  | nil => exact absurd mem List.not_mem_nil
  | cons k rest ih =>
    unfold lostReqs at mem
    split at mem
    · obtain ⟨j, old, is⟩ := ih mem
      exact ⟨j, List.mem_cons_of_mem _ old, is⟩
    · obtain rfl | old := List.mem_cons.1 mem
      · exact ⟨k, List.mem_cons_self .., _, rfl⟩
      · obtain ⟨j, old, is⟩ := ih old
        exact ⟨j, List.mem_cons_of_mem _ old, is⟩

theorem lostReqs_apart {number : Nat} {lines : List OrderLine} {lost : List Nat} (once : lost.Nodup) (ls : Vector Lane 4) :
    LinesApart (lostReqs number lines lost ls) := by
  induction lost generalizing ls with
  | nil => exact .nil
  | cons k rest ih =>
    obtain ⟨new, others⟩ := List.nodup_cons.1 once
    unfold lostReqs
    split
    · exact ih others ls
    · refine .cons (fun r mem _ same => ?_) (ih others _)
      obtain ⟨j, old, bytes, rfl⟩ := mem_lostReqs mem
      have index : j + 1 = k + 1 := Option.some.inj same
      exact new (Nat.succ.inj index ▸ old)

theorem lostReqs_length (number : Nat) (lines : List OrderLine) (lost : List Nat) (ls : Vector Lane 4) :
    (lostReqs number lines lost ls).length ≤ lost.length := by
  induction lost generalizing ls with
  | nil => exact Nat.le_refl _
  | cons k rest ih =>
    unfold lostReqs
    split
    · exact Nat.le_succ_of_le (ih ls)
    · exact Nat.succ_le_succ (ih _)

theorem mem_totalReqs {stored totals : LaneNo → Word48 × Word48} {r : WriteReq} (mem : r ∈ totalReqs stored totals) :
    ∃ i gross std, r = .total i gross std := by
  obtain ⟨i, -, rfl⟩ := List.mem_map.1 mem
  exact ⟨i, _, _, rfl⟩

theorem totalReqs_length (stored totals : LaneNo → Word48 × Word48) : (totalReqs stored totals).length ≤ 4 := by
  rw [totalReqs, List.length_map]
  exact List.length_filter_le _ allLanes

section
variable {s : State} (number : Nat)

theorem recoveryReqs_apart (once : s.sul.lost.Nodup) : LinesApart (recoveryReqs number s) := by
  refine List.pairwise_append.2 ⟨lostReqs_apart once _, ?_, fun a _ b mem line same => ?_⟩
  · refine List.Pairwise.imp_of_mem (fun {a b} mem _ _ line => ?_) (List.pairwise_of_forall (R := fun _ _ => True) fun _ _ => trivial)
    obtain ⟨i, g, x, rfl⟩ := mem_totalReqs mem
    exact absurd rfl line
  · obtain ⟨i, g, x, rfl⟩ := mem_totalReqs mem
    exact line same.symm

theorem recoveryReqs_written {r : WriteReq} (mem : r ∈ recoveryReqs number s) : Written r := by
  obtain lost | total := List.mem_append.1 mem
  · obtain ⟨k, -, bytes, rfl⟩ := mem_lostReqs lost
    exact nofun
  · obtain ⟨i, g, x, rfl⟩ := mem_totalReqs total
    exact nofun

theorem recoveryReqs_length (few : s.sul.lost.length ≤ 8) : (recoveryReqs number s).length ≤ 12 := by
  have lost := lostReqs_length number s.sul.lines s.sul.lost s.lanes
  have totals := totalReqs_length s.storedTotals (totalsIn (lostLanes s.sul.lines s.sul.lost s.lanes))
  rw [recoveryReqs, List.length_append]
  omega

end

end Sys2Proof.Machine
end

section
/-! PROOFS. The event that reads the last page of a recovery: the next checkpoint page, or the rebuilt lines with their offers and the
recovered note (R198 to R200). -/

namespace Sys2Proof.Machine

/-- R198: a page of the recovery has been read: other lanes' totals, order lines and power-lost lines. -/
def State.rebuilding (ls : Vector Lane 4) (lines : List OrderLine) (lost : List Nat) (s : State) : State :=
  { s.pageRead with lanes := ls, sul := { s.sul with lines := lines, lost := lost } }

section
variable {s : State} {m : Marker} {ls : Vector Lane 4} {lines : List OrderLine} {lost : List Nat}

/-! ### The next checkpoint page (R198) -/

theorem recovers_next {start k : Nat} (next : nextWaiting lines start = some k) (calm : s.Calm) (idle : s.ntb.build = none)
    (answer : exec .pageReadComplete s = finish (nextCheck m start (s.rebuilding ls lines lost))) :
    ∃ t, exec .pageReadComplete s = .next t ∧ t.sul.phase = .check (k + 1) ∧ t.sul.lines = lines ∧ t.sul.lost = lost ∧
      t.sul.recovery = s.sul.recovery ∧ (∀ i, t.totals i = totalsIn ls i) ∧ t.ntb.build = none ∧
      (s.stp.reads = [] → s.stp.flight.bind (·.steps.head?) = none → t.stp.port = .reading ⟨.sul, 69 + (k + 1)⟩) := by
  have step : nextCheck m start (s.rebuilding ls lines lost) = askRead .sul (69 + (k + 1))
      ((s.rebuilding ls lines lost).modSul fun u => { u with phase := .check (k + 1), buf := [] }) := by
    rw [nextCheck, show nextWaiting (s.rebuilding ls lines lost).sul.lines start = some k from next]
  rw [step] at answer
  have still : (askRead .sul (69 + (k + 1)) ((s.rebuilding ls lines lost).modSul fun u => { u with
      phase := .check (k + 1), buf := [] })).Calm := calm
  have noted := settle_noted still.2
  have steady := settle_steady (askRead .sul (69 + (k + 1)) ((s.rebuilding ls lines lost).modSul fun u => { u with
    phase := .check (k + 1), buf := [] }))
  refine ⟨_, answer, congrArg (·.sul.phase) steady, congrArg (·.sul.lines) steady, congrArg (·.sul.lost) steady,
    congrArg Prod.snd noted, fun i => congrFun (totals_of_steady steady) i, noted_none noted idle, fun reads free => ?_⟩
  exact (begins_of_answer (r := ⟨.sul, 69 + (k + 1)⟩) (rest := []) answer still rfl (by
    change s.stp.reads ++ _ = _
    rw [reads]
    rfl) free _ answer).1

/-! ### The lines rebuilt (R199, R200) -/

/-- R199: what the rebuilding of the lines offers. -/
def recoveryOffers (m : Marker) (s : State) (lines : List OrderLine) (lost : List Nat) (base : LaneNo → Word48 × Word48) :
    List WriteReq :=
  lost.zipIdx.filterMap (lostItem m.number lines base lost) ++ totalReqs s.storedTotals (totalsAfter lines base lost)

theorem recoveryReqs_eq : recoveryReqs m.number (s.rebuilding ls lines lost) = recoveryOffers m s lines lost (totalsIn ls) := by
  have start : totalsIn ls = totalsAfter lines (totalsIn ls) [] := (totalsAfter_nil _ _).symm
  have reqs := lostReqs_eq (number := m.number) (lost := lost) start
  have totals := totalsIn_lostLanes (lost := lost) start
  change lostReqs m.number lines lost ls ++ totalReqs s.storedTotals (totalsIn (lostLanes lines lost ls)) = _
  rw [reqs, totals]
  rfl

section
variable {p : Stp} {h : List WriteReq}

/-- R199: the state after the rebuilding, given what its offers come to. -/
def State.rebuiltTo (ls : Vector Lane 4) (lines : List OrderLine) (lost : List Nat) (p : Stp) (h : List WriteReq) (s : State) : State :=
  (recovered (s.rebuilding ls lines lost)).offered p h

theorem rebuiltTo_totals : (s.rebuiltTo ls lines lost p h).totals = totalsAfter lines (totalsIn ls) lost := by
  have start : totalsIn ls = totalsAfter lines (totalsIn ls) [] := (totalsAfter_nil _ _).symm
  exact totalsIn_lostLanes (lost := lost) start

theorem rebuiltTo_build : recoveryBuild m (s.rebuiltTo ls lines lost p h) =
    { image := noteImage { number := s.ntb.next, station := s.lif.station, permit := m.permit, driver := m.driver, tanker := m.tanker
                           startTime := m.startTime, endTime := 0, flags := { m.flags with recovered := true, timeUnset := true } }
        lines (totalsAfter lines (totalsIn ls) lost) 4 1
      number := s.ntb.next, pages := pagesOf (noteLength lines), recovered := true, permit := m.permit, endTime := 0
      loaded := (lines.filter (·.record.isSome)).length } := by
  rw [recoveryBuild, rebuiltTo_totals]
  rfl

theorem rebuiltTo_unheld (held : h = []) (marks : s.pct.heldMarks = []) (idle : s.ntb.build = none) (list : s.ntb.statusList = [])
    (stages : ∀ i : LaneNo, ls[i].stage ≠ .ended) : (s.rebuiltTo ls lines lost p h).Unheld where
  lanes i := by
    have same := lostLanes_stage lines lost ls i
    change ((lostLanes lines lost ls)[i]).stage ≠ _
    rw [same]
    exact stages i
  marks := marks
  build b same := by
    have other : s.ntb.build = some b := same
    rw [idle] at other
    exact nomatch other
  list := list
  held := held

end

/-- R199, R200: phase, lines and totals after the event, and the recovered note. -/
theorem rebuilt_note {p : Stp} {h : List WriteReq} (marker : s.sul.marker = some m) (calm : s.Calm) (idle : s.ntb.build = none)
    (launched : Launched p) :
    let t := settle (s.rebuiltTo ls lines lost p h)
    t.sul.phase = .settle ∧ t.sul.lines = lines ∧ t.sul.lost = lost ∧ t.totals = totalsAfter lines (totalsIn ls) lost ∧
    (t.sul.held ≠ [] → t.sul.recovery = .offering ∧ t.ntb.build = none) ∧
    (t.sul.held = [] → t.sul.recovery = .sealing ∧ ∃ b, t.ntb.build = some b ∧
      { b with accepted := 0 } = recoveryBuild m (s.rebuiltTo ls lines lost p h)) := by
  intro t
  have steady := settle_steady (s.rebuiltTo ls lines lost p h)
  have note := reports_recovery (w := s.rebuiltTo ls lines lost p h) marker rfl idle launched calm.1.2
  rw [← settle_sul_reports, ← settle_ntb_reports] at note
  exact ⟨congrArg (·.sul.phase) steady, congrArg (·.sul.lines) steady, congrArg (·.sul.lost) steady,
    (totals_of_steady steady).trans rebuiltTo_totals, note.1, note.2⟩

theorem rebuilt_parts : ∃ p h, rebuilt m (s.rebuilding ls lines lost) = s.rebuiltTo ls lines lost p h ∧
    offerAll (recoveryOffers m s lines lost (totalsIn ls)) (s.rebuilding ls lines lost) = (s.rebuilding ls lines lost).offered p h := by
  obtain ⟨p, h, offers, same⟩ := rebuilt_eq m (s.rebuilding ls lines lost)
  rw [recoveryReqs_eq] at offers
  exact ⟨p, h, same, offers⟩

theorem rebuilt_launched {p : Stp} {h : List WriteReq} (calm : s.Calm)
    (same : rebuilt m (s.rebuilding ls lines lost) = s.rebuiltTo ls lines lost p h) : Launched p := by
  have start : (s.rebuilding ls lines lost).StpHas Launched := by
    intro due
    rw [show (s.rebuilding ls lines lost).stp.departed = false from calm.1.1] at due
    exact nomatch due
  have after := rebuilt_stpHas launched_law m start
  rw [same] at after
  exact after

theorem pages_of_short (short : noteLength lines ≤ 512) : 1 ≤ pagesOf (noteLength lines) ∧ pagesOf (noteLength lines) ≤ 4 := by
  refine ⟨?_, pagesOf_le_four short⟩
  have long : 34 ≤ noteLength lines := by
    unfold noteLength
    omega
  unfold pagesOf
  split <;> omega

/-- The pages of the recovered note, once it is being built. -/
theorem flatMap_requests {t : State} {b c : Build} (build : t.ntb.build = some c) (same : { c with accepted := 0 } = b) :
    t.ntb.build.toList.flatMap (·.requests) = b.requests := by
  rw [build, Option.toList_some, List.flatMap_cons, List.flatMap_nil, List.append_nil, requests_of_bare same]

/-- R175, R189: the offers and then the pages, behind what waits, while a request is in flight. -/
theorem rebuilt_flight {offers : List WriteReq} {p : Stp} {h : List WriteReq} (marker : s.sul.marker = some m) (calm : s.Calm)
    (idle : s.ntb.build = none) (isHeld : s.sul.held = []) (short : noteLength lines ≤ 512)
    (same : offerAll offers (s.rebuilding ls lines lost) = (s.rebuilding ls lines lost).offered p h)
    (flight : s.stp.flight.isSome = true) (fits : s.stp.queue.length ≤ 12) (plain : ∀ q ∈ s.stp.queue, checkLine q.req = none)
    (apart : LinesApart offers) :
    let t := settle (s.rebuiltTo ls lines lost p h)
    t.stp.queue = s.stp.queue ++ (sulItems offers ++ t.ntb.build.toList.flatMap (·.requests)).take (12 - s.stp.queue.length) ∧
      t.stp.flight = s.stp.flight ∧ t.sul.held = offers.drop (12 - s.stp.queue.length) := by
  intro t
  have all := offerAll_flight (rs := offers) (s := s.rebuilding ls lines lost) isHeld flight fits
    (fun r _ x mem line same => line (same.symm.trans (plain x mem))) apart
  rw [same] at all
  have isP : p = { s.pageRead.stp with queue := s.stp.queue ++ (sulItems offers).take (12 - s.stp.queue.length) } :=
    congrArg State.stp all
  have isH : h = offers.drop (12 - s.stp.queue.length) := congrArg (·.sul.held) all
  have flightP : p.flight.isSome = true := by rw [isP]; exact flight
  have undue : p.departed = false := by rw [isP]; exact calm.1.1
  have flightS : p.flight = s.stp.flight := by rw [isP]; rfl
  have queueP : p.queue = s.stp.queue ++ (sulItems offers).take (12 - s.stp.queue.length) := by rw [isP]
  obtain ⟨-, -, -, -, -, begun⟩ := rebuilt_note (ls := ls) (lines := lines) (lost := lost) (h := h) marker calm idle fun _ => flightP
  obtain ⟨queue, isFlight⟩ := settle_stp_reports (s.rebuiltTo ls lines lost p h)
  have sul := settle_sul_reports (s.rebuiltTo ls lines lost p h)
  by_cases none : h = []
  · obtain ⟨stp, held⟩ := reports_begins (w := s.rebuiltTo ls lines lost p h) marker rfl undue calm.1.2 none flightP
      (pages_of_short short).2
    obtain ⟨-, c, build, bare⟩ := begun (by rw [sul]; exact held)
    have few : offers.length ≤ 12 - s.stp.queue.length := List.drop_eq_nil_iff.1 (isH.symm.trans none)
    have all : (sulItems offers).length = offers.length := List.length_map ..
    have whole : (sulItems offers).take (12 - s.stp.queue.length) = sulItems offers := List.take_of_length_le (by rw [all]; exact few)
    rw [whole] at queueP
    have left : 12 - p.queue.length = 12 - s.stp.queue.length - offers.length := by
      rw [queueP, List.length_append, all, Nat.sub_add_eq]
    rw [stp] at queue isFlight
    refine ⟨queue.trans ?_, isFlight.trans flightS, (congrArg Sul.held sul).trans (held.trans (none.symm.trans isH))⟩
    change p.queue ++ (recoveryBuild m (s.rebuiltTo ls lines lost p h)).requests.take (12 - p.queue.length) = _
    rw [flatMap_requests build bare, List.take_append, all, whole, left, queueP, List.append_assoc]
  · have waits := reports_waits (w := s.rebuiltTo ls lines lost p h) marker undue calm.1.2 none
    have build : t.ntb.build = Option.none := by
      rw [show t.ntb = _ from settle_ntb_reports _, waits]
      exact idle
    rw [waits] at queue isFlight sul
    refine ⟨queue.trans ?_, isFlight.trans flightS, (congrArg Sul.held sul).trans isH⟩
    rw [build, Option.toList_none, List.flatMap_nil, List.append_nil]
    exact queueP

/-- R175, R189: with nothing in flight and nothing waiting, the first of them is in flight at once. -/
theorem rebuilt_free {offers : List WriteReq} {p : Stp} {h : List WriteReq} (marker : s.sul.marker = some m) (calm : s.Calm)
    (idle : s.ntb.build = none) (isHeld : s.sul.held = []) (short : noteLength lines ≤ 512)
    (same : offerAll offers (s.rebuilding ls lines lost) = (s.rebuilding ls lines lost).offered p h)
    (free : s.stp.flight = none) (empty : s.stp.queue = []) (few : offers.length ≤ 12) (apart : LinesApart offers)
    (written : ∀ r ∈ offers, Written r) (marks : s.pct.heldMarks = []) (list : s.ntb.statusList = [])
    (stages : ∀ i : LaneNo, ls[i].stage ≠ .ended) :
    let t := settle (s.rebuiltTo ls lines lost p h)
    let requests := sulItems offers ++ t.ntb.build.toList.flatMap (·.requests)
    t.stp.flight.map (·.item) = requests.head? ∧ t.stp.queue = requests.tail.take 12 ∧ t.sul.held = [] := by
  intro t requests
  obtain ⟨some_page, pages⟩ := pages_of_short short
  obtain ⟨queue, isFlight⟩ := settle_stp_reports (s.rebuiltTo ls lines lost p h)
  have sul := congrArg Sul.held (settle_sul_reports (s.rebuiltTo ls lines lost p h))
  cases offers with
  | nil =>
    have isP : s.pageRead.stp = p := congrArg State.stp same
    have isH : s.sul.held = h := congrArg (·.sul.held) same
    have none : h = [] := isH.symm.trans isHeld
    have unheld := rebuiltTo_unheld (s := s) (ls := ls) (lines := lines) (lost := lost) (p := p) none marks idle list stages
    obtain ⟨after, item, held⟩ := reports_first (w := s.rebuiltTo ls lines lost p h) marker rfl unheld calm.1.2
      (by change p.flight = _; rw [← isP]; exact free) (by change p.queue = _; rw [← isP]; exact empty)
      (by change p.departed = _; rw [← isP]; exact calm.1.1) some_page pages
    obtain ⟨-, -, -, -, -, begun⟩ := rebuilt_note (ls := ls) (lines := lines) (lost := lost) (p := p) (h := h) marker calm idle
      (fun due => by rw [← isP, show s.pageRead.stp.departed = false from calm.1.1] at due; exact nomatch due)
    obtain ⟨-, c, build, bare⟩ := begun (by rw [sul]; exact held)
    have isRequests : requests = (recoveryBuild m (s.rebuiltTo ls lines lost p h)).requests := flatMap_requests build bare
    have most : (recoveryBuild m (s.rebuiltTo ls lines lost p h)).requests.length ≤ 4 := by
      rw [Build.requests, List.length_map, List.length_range]
      exact pages
    rw [isRequests]
    refine ⟨(congrArg (Option.map _) isFlight).trans item, queue.trans (after.trans ?_), sul.trans held⟩
    rw [List.take_of_length_le (by rw [List.length_tail]; omega), List.drop_one]
  | cons r rest =>
    have rests : rest.length ≤ 12 := Nat.le_of_succ_le few
    have all := offerAll_starts (r := r) (rs := rest) (s := s.rebuilding ls lines lost) isHeld free empty
      (written r (List.mem_cons_self ..)) rests (List.pairwise_cons.1 apart).2
    rw [same] at all
    have isP : p = { s.pageRead.stp with
        flight := some (flightOf s.stp.copies ⟨r, true⟩), departed := true, queue := sulItems rest } := congrArg State.stp all
    have none : h = [] := congrArg (·.sul.held) all
    have flightP : p.flight.isSome = true := by rw [isP]; rfl
    have unheld := rebuiltTo_unheld (s := s) (ls := ls) (lines := lines) (lost := lost) (p := p) none marks idle list stages
    obtain ⟨after, flying, held⟩ := reports_unheld (w := s.rebuiltTo ls lines lost p h) marker rfl unheld calm.1.2 flightP pages
    obtain ⟨-, -, -, -, -, begun⟩ := rebuilt_note (ls := ls) (lines := lines) (lost := lost) (p := p) (h := h) marker calm idle
      fun _ => flightP
    obtain ⟨-, c, build, bare⟩ := begun (by rw [sul]; exact held)
    have isRequests : requests = ⟨r, true⟩ :: (sulItems rest ++ (recoveryBuild m (s.rebuiltTo ls lines lost p h)).requests) := by
      change (⟨r, true⟩ :: sulItems rest) ++ t.ntb.build.toList.flatMap (·.requests) = _
      rw [flatMap_requests build bare, List.cons_append]
    have length : (sulItems rest).length = rest.length := List.length_map ..
    have isQueue : p.queue = sulItems rest := by rw [isP]
    rw [isRequests]
    refine ⟨?_, queue.trans (after.trans ?_), sul.trans held⟩
    · rw [isFlight, flying]
      change p.flight.map (·.item) = _
      rw [isP]
      exact congrArg some (flightOf_item ..)
    · change p.queue ++ (recoveryBuild m (s.rebuiltTo ls lines lost p h)).requests.take (12 - p.queue.length) = _
      have whole : (sulItems rest).take 12 = sulItems rest := List.take_of_length_le (by rw [length]; exact rests)
      rw [isQueue, List.tail_cons, List.take_append, length, whole]

end

end Sys2Proof.Machine
end

section
/-! PROOFS. The pages of the recovery of an open trip: the sealed note, the checkpoints, and the rebuilt lines (O8). -/

namespace Sys2Proof.Machine

/-! ### The requests as the rules give them (R199) -/

theorem sulItems_lost {number : Nat} {lines : List OrderLine} {lost : List Nat} (base : LaneNo → Word48 × Word48)
    (weighted : ∀ k ∈ lost, ∀ l, lines[k]? = some l → (l.record.bind (·.weighted)).isSome = true) :
    sulItems (lost.zipIdx.filterMap (lostItem number lines base lost)) = lost.zipIdx.filterMap fun (k, n) => lines[k]?.map fun l =>
      ⟨.checkpoint (k + 1) (checkpointBytes number (k + 1) 7 0 9 l.clamped (l.record.getD {}) ((l.record.getD {}).weighted.getD 0)
        (lostTotals (totalsAfter lines base (lost.take (n + 1))) l.lane).1
        (lostTotals (totalsAfter lines base (lost.take (n + 1))) l.lane).2), true⟩ := by
  rw [sulItems, List.map_filterMap]
  refine List.filterMap_congr fun ⟨k, n⟩ mem => ?_
  have old : k ∈ lost := List.fst_mem_of_mem_zipIdx mem
  dsimp only [lostItem]
  have code : endReasonCode .powerLost = 9 := rfl
  cases here : lines[k]? with
  | none => simp only [Option.map_none]
  | some l =>
    have is := weighted k old l here
    obtain ⟨r, record, w, final⟩ : ∃ r, l.record = some r ∧ ∃ w, r.weighted = some w := by
      cases record : l.record with
      | none =>
        rw [record] at is
        exact nomatch is
      | some r =>
        rw [record] at is
        exact ⟨r, rfl, Option.isSome_iff_exists.1 is⟩
    have same : (l.record.getD {}).weighted.getD 1500 = (l.record.getD {}).weighted.getD 0 := by
      rw [record, Option.getD_some, final, Option.getD_some, Option.getD_some]
    simp only [Option.map_some, lostReq, same, code]

theorem sulItems_totals (stored totals : LaneNo → Word48 × Word48) : sulItems (totalReqs stored totals) =
    (allLanes.filter fun i => decide (totals i ≠ stored i)).map fun i => ⟨.total i (totals i).1 (totals i).2, true⟩ := by
  rw [sulItems, totalReqs, List.map_map]
  rfl

theorem sulItems_append (rs qs : List WriteReq) : sulItems (rs ++ qs) = sulItems rs ++ sulItems qs := List.map_append

theorem sulItems_reqs (rs : List WriteReq) (n : Nat) : ((sulItems rs).drop n).map (·.req) = rs.drop n := by
  rw [sulItems, ← List.map_drop, List.map_map]
  exact List.map_id _

/-! ### The sealed note (R197) -/

/-- R197: a lane's totals, raised to at least these. -/
def raisedTo (t : Word48 × Word48) (g x : Word48) : Word48 × Word48 := (larger t.1 g, larger t.2 x)

theorem raiseTotals_totals (i j : LaneNo) (g x : Word48) (s : State) :
    (raiseTotals i g x s).totals j = if i = j then raisedTo (s.totals j) g x else s.totals j := by
  by_cases same : i = j
  · subst same
    rw [if_pos rfl, State.totals, raiseTotals, State.modVen, modLane_lane_self]
    rfl
  · rw [if_neg same, State.totals, raiseTotals, State.modVen, modLane_lane_ne _ _ _ same]
    rfl

theorem raiseTotals_stage (i j : LaneNo) (g x : Word48) (s : State) : (raiseTotals i g x s).stage j = s.stage j :=
  modLane_stage i j rfl

/-- R197: the totals take a sealed note's. -/
def raiseAll (l : List (LaneNo × Word48 × Word48)) (s : State) : State := l.foldl (fun u (i, g, x) => raiseTotals i g x u) s

theorem raiseAll_withLanes (l : List (LaneNo × Word48 × Word48)) (s : State) : ∃ ls, raiseAll l s = s.withLanes ls := by
  induction l generalizing s with
  | nil => exact ⟨s.lanes, rfl⟩
  | cons a rest ih =>
    obtain ⟨i, g, x⟩ := a
    obtain ⟨ls, same⟩ := ih (raiseTotals i g x s)
    exact ⟨ls, same⟩

theorem raiseAll_absent {l : List (LaneNo × Word48 × Word48)} {i : LaneNo} (absent : ∀ g x, (i, g, x) ∉ l) (s : State) :
    (raiseAll l s).totals i = s.totals i := by
  induction l generalizing s with
  | nil => rfl
  | cons a rest ih =>
    obtain ⟨j, g, x⟩ := a
    have ne : j ≠ i := by
      rintro rfl
      exact absent g x (List.mem_cons_self ..)
    have tail := ih (fun g x mem => absent g x (List.mem_cons_of_mem _ mem)) (raiseTotals j g x s)
    rw [raiseTotals_totals, if_neg ne] at tail
    exact tail

theorem raiseAll_present {l : List (LaneNo × Word48 × Word48)} (once : (l.map Prod.fst).Nodup) {i : LaneNo} {g x : Word48}
    (mem : (i, g, x) ∈ l) (s : State) : (raiseAll l s).totals i = raisedTo (s.totals i) g x := by
  induction l generalizing s with
  | nil => exact absurd mem List.not_mem_nil
  | cons a rest ih =>
    obtain ⟨j, g', x'⟩ := a
    obtain ⟨new, others⟩ := List.nodup_cons.1 once
    obtain same | later := List.mem_cons.1 mem
    · cases same
      have tail := raiseAll_absent (l := rest) (i := i) (fun g x mem => new (List.mem_map.2 ⟨_, mem, rfl⟩)) (raiseTotals i g x s)
      rw [raiseTotals_totals, if_pos rfl] at tail
      exact tail
    · have ne : j ≠ i := by
        rintro rfl
        exact new (List.mem_map.2 ⟨_, later, rfl⟩)
      have tail := ih others later (raiseTotals j g' x' s)
      rw [raiseTotals_totals, if_neg ne] at tail
      exact tail

theorem noteTotals_once (bytes : List Byte) : ((noteTotals bytes).map Prod.fst).Nodup := by
  have lanes : (noteTotals bytes).map Prod.fst = noteLanes bytes := by
    rw [noteTotals, List.map_map]
    exact List.zipIdx_map_fst ..
  rw [lanes, noteLanes]
  exact List.Nodup.filter _ (by decide)

section
variable {s : State} {m : Marker} {note : List Byte}

/-- R197: the TOTALs, and TRIP-MARK(closed) last. -/
theorem settleSealed_eq (m : Marker) (note : List Byte) (s : State) : ∃ ls p h, raiseAll (noteTotals note) s = s.withLanes ls ∧
    offerAll (totalReqs s.storedTotals (totalsIn ls) ++ [.markClosed (closeHead m.head)]) s = s.offered p h ∧
    settleSealed m note s = ((s.withLanes ls).offered p h).modSul fun u => { u with phase := .settle, buf := [] } := by
  obtain ⟨ls, raised⟩ := raiseAll_withLanes (noteTotals note) s
  obtain ⟨p, h, offers⟩ := offerAll_offered (totalReqs s.storedTotals (totalsIn ls) ++ [.markClosed (closeHead m.head)]) s
  refine ⟨ls, p, h, raised, offers, ?_⟩
  have step : settleSealed m note s = toSettle (sulOffer (.markClosed (closeHead m.head)) (offerTotals (raiseAll (noteTotals note) s))) := rfl
  rw [offerAll_append] at offers
  change sulOffer _ _ = _ at offers
  rw [step, raised, offerTotals_withLanes, sulOffer_withLanes, offers]
  rfl

theorem settleSealed_answer (calm : s.Calm) (answer : exec .pageReadComplete s = finish (settleSealed m note s.pageRead)) :
    ∃ t, exec .pageReadComplete s = .next t ∧ t.sul.phase = .settle ∧ t.sul.recovery = s.sul.recovery ∧
      (∀ (i : LaneNo) (g x : Word48), (i, g, x) ∈ noteTotals note → t.totals i = raisedTo (s.totals i) g x) ∧
      (∀ i : LaneNo, (∀ g x, (i, g, x) ∉ noteTotals note) → t.totals i = s.totals i) ∧
      (s.sul.held = [] → s.stp.queue = [] → s.stp.flight.isSome = true →
        t.stp.queue = (allLanes.filter fun i => decide (t.totals i ≠ s.storedTotals i)).map (fun i =>
          ⟨.total i (t.totals i).1 (t.totals i).2, true⟩) ++ [⟨.markClosed (closeHead m.head), true⟩]) := by
  obtain ⟨ls, p, h, raised, offers, same⟩ := settleSealed_eq m note s.pageRead
  rw [same] at answer
  have still : (((s.pageRead.withLanes ls).offered p h).modSul fun u => { u with
      phase := .settle, buf := [] }).sul.recovery ≠ .offering := calm.2
  have noted := settle_noted still
  have steady := settle_steady (((s.pageRead.withLanes ls).offered p h).modSul fun u => { u with phase := .settle, buf := [] })
  have totals : (settle (((s.pageRead.withLanes ls).offered p h).modSul fun u => { u with phase := .settle, buf := [] })).totals =
      totalsIn ls := totals_of_steady steady
  have raisedTotals : (raiseAll (noteTotals note) s.pageRead).totals = totalsIn ls := by rw [raised]; rfl
  refine ⟨_, answer, congrArg (·.sul.phase) steady, congrArg Prod.snd noted, fun i g x mem => ?_, fun i absent => ?_,
    fun held empty flight => ?_⟩
  · rw [totals, ← raisedTotals, raiseAll_present (noteTotals_once note) mem]
    rfl
  · rw [totals, ← raisedTotals, raiseAll_absent absent]
    rfl
  · have few := totalReqs_length s.storedTotals (totalsIn ls)
    have apart : LinesApart (totalReqs s.storedTotals (totalsIn ls) ++ [.markClosed (closeHead m.head)]) := by
      refine (List.pairwise_of_forall (R := fun _ _ => True) fun _ _ => trivial).imp_of_mem fun {a b} mem _ _ line => ?_
      obtain total | mark := List.mem_append.1 mem
      · obtain ⟨i, g, x, rfl⟩ := mem_totalReqs total
        exact absurd rfl line
      · obtain rfl := List.mem_singleton.1 mark
        exact absurd rfl line
    have queue : s.pageRead.stp.queue = [] := empty
    have all := offerAll_flight (s := s.pageRead) (by exact held) (by exact flight) (by rw [queue]; decide)
      (fun r _ x mem => by rw [queue] at mem; exact absurd mem List.not_mem_nil) apart
    have five : (sulItems (totalReqs s.storedTotals (totalsIn ls) ++ [.markClosed (closeHead m.head)])).length ≤ 12 := by
      rw [sulItems, List.length_map, List.length_append, List.length_singleton]
      omega
    rw [show s.pageRead.storedTotals = s.storedTotals from rfl] at offers
    rw [offers, queue, List.length_nil, Nat.sub_zero, List.nil_append, List.take_of_length_le five] at all
    have isP : p = { s.pageRead.stp with
        queue := sulItems (totalReqs s.storedTotals (totalsIn ls) ++ [.markClosed (closeHead m.head)]) } := congrArg State.stp all
    have undue : p.departed = false := by rw [isP]; exact calm.1.1
    have kept := (settle_queue_flight (s := ((s.pageRead.withLanes ls).offered p h).modSul fun u => { u with
      phase := .settle, buf := [] }) ⟨⟨undue, calm.1.2⟩, still⟩).1
    rw [totals, kept, ← sulItems_totals]
    change p.queue = _
    rw [isP, sulItems_append]
    rfl

end

/-! ### The order of the checkpoint pages (R198) -/

theorem nextWaiting_set {lines : List OrderLine} {k : Nat} {l : OrderLine} (first : nextWaiting lines 0 = some k)
    (ended : l.status ≠ .waiting) : nextWaiting (lines.set k l) (k + 1) = nextWaiting (lines.set k l) 0 := by
  have before : ∀ j, j < k → ∀ x, lines[j]? = some x → x.status ≠ .waiting := by
    intro j lt x here waiting
    have none := (List.find?_range_eq_some.1 first).2.2 j lt
    simp [here, waiting] at none
  have same (j : Nat) : (decide (k + 1 ≤ j) && (((lines.set k l)[j]?).any fun l => decide (l.status = .waiting))) =
      (decide (0 ≤ j) && (((lines.set k l)[j]?).any fun l => decide (l.status = .waiting))) := by
    by_cases late : k + 1 ≤ j
    · rw [decide_eq_true late, decide_eq_true (Nat.zero_le j)]
    · have none : (((lines.set k l)[j]?).any fun l => decide (l.status = .waiting)) = false := by
        by_cases at' : k = j
        · subst at'
          rw [List.getElem?_set_self']
          cases lines[k]? with
          | none => rfl
          | some x => exact decide_eq_false ended
        · rw [List.getElem?_set_ne at']
          cases here : lines[j]? with
          | none => rfl
          | some x => exact decide_eq_false (before j (by omega) x here)
      rw [none, Bool.and_false, Bool.and_false]
  unfold nextWaiting
  exact congrArg (fun p => (List.range (lines.set k l).length).find? p) (funext same)

/-! ### One line with its checkpoint (R198, R199 pass 1) -/

theorem modify_of_getElem? {lines : List OrderLine} {k : Nat} {l : OrderLine} (here : lines[k]? = some l) (f : OrderLine → OrderLine) :
    lines.modify k f = lines.set k (f l) := by
  rw [List.modify_eq_set_getElem?, here]
  rfl

theorem passOne_lost {x : CheckRec} (isOpen : x.stage ≠ 7) (l : OrderLine) (s : State) : passOne (some x) l s = s := by
  unfold passOne
  cases l.lane with
  | none => rfl
  | some i => exact if_neg isOpen

theorem passOne_ended {x : CheckRec} (ended : x.stage = 7) (l : OrderLine) (s : State) : ∃ ls, passOne (some x) l s = s.withLanes ls ∧
    (∀ i, (s.withLanes ls).stage i = s.stage i) ∧
    ∀ i, totalsIn ls i = if l.lane = some i then raisedTo (s.totals i) x.totGross x.totStd else s.totals i := by
  unfold passOne
  cases l.lane with
  | none => exact ⟨s.lanes, rfl, fun _ => rfl, fun i => (if_neg nofun).symm⟩
  | some j =>
    have raised : (if x.stage = 7 then raiseTotals j x.totGross x.totStd s else s) = raiseTotals j x.totGross x.totStd s := if_pos ended
    refine ⟨(raiseTotals j x.totGross x.totStd s).lanes, raised, fun i => raiseTotals_stage j i _ _ s, fun i => ?_⟩
    rw [← totals_eq, raiseTotals_totals]
    by_cases same : j = i
    · rw [if_pos same, if_pos (congrArg some same)]
    · rw [if_neg same, if_neg fun e => same (Option.some.inj e)]

theorem passOne_withLanes (c : Option CheckRec) (l : OrderLine) (s : State) : ∃ ls, passOne c l s = s.withLanes ls := by
  cases c with
  | none => exact ⟨s.lanes, rfl⟩
  | some x =>
    by_cases ended : x.stage = 7
    · obtain ⟨ls, same, -⟩ := passOne_ended ended l s
      exact ⟨ls, same⟩
    · exact ⟨s.lanes, passOne_lost ended l s⟩

theorem checkPage_eq {m : Marker} {k : Nat} {page : List Byte} {s : State} {l : OrderLine} (here : s.sul.lines[k]? = some l) :
    checkPage m (k + 1) page s = nextCheck m (k + 1) ((passOne (checkpointOf m.number page) l s).modSul fun u => { u with
      lines := s.sul.lines.set k (rebuildLine s (checkpointOf m.number page) l)
      lost := if isLost (checkpointOf m.number page) then s.sul.lost ++ [k] else s.sul.lost }) := by
  obtain ⟨ls, same⟩ := passOne_withLanes (checkpointOf m.number page) l s
  rw [checkPage, Nat.add_sub_cancel, here]
  dsimp only
  rw [same, ← modify_of_getElem? here]
  rfl

end Sys2Proof.Machine
end

section
/-! PROOFS. The recovery of an open trip, page by page (O8). -/

namespace Sys2Proof.Machine

section
variable {s : State} {m : Marker} {page : List Byte}

theorem sulPage_sealed (phase : s.sul.phase = .sealed) : sulPage page s.pageRead = sealedFirst page s.pageRead := by
  rw [sulPage, show s.pageRead.sul.phase = _ from phase]

theorem sulPage_sealedRest {left : Nat} (phase : s.sul.phase = .sealedRest left) :
    sulPage page s.pageRead = sealedNext left page s.pageRead := by
  rw [sulPage, show s.pageRead.sul.phase = _ from phase]

theorem sulPage_check {line : Nat} (phase : s.sul.phase = .check line) (marker : s.sul.marker = some m) :
    sulPage page s.pageRead = checkPage m line page s.pageRead := by
  rw [sulPage, show s.pageRead.sul.phase = _ from phase]
  dsimp only
  rw [show s.pageRead.sul.marker = _ from marker]

/-! ### The slot of the open trip's note (R197) -/

theorem sealedRead_present {bytes : List Byte} (marker : s.sul.marker = some m)
    (present : notePresent m.number bytes = true ∧ fieldWord bytes 8 = m.permit) :
    sealedRead bytes s.pageRead = settleSealed m bytes s.pageRead := by
  rw [sealedRead, show s.pageRead.sul.marker = _ from marker]
  exact if_pos present

theorem sealedRead_absent {bytes : List Byte} (marker : s.sul.marker = some m)
    (absent : ¬(notePresent m.number bytes = true ∧ fieldWord bytes 8 = m.permit)) :
    sealedRead bytes s.pageRead = nextCheck m 0 (s.rebuilding s.lanes s.sul.lines s.sul.lost) := by
  rw [sealedRead, show s.pageRead.sul.marker = _ from marker]
  exact if_neg absent

theorem sealedFirst_short (marker : s.sul.marker = some m) (short : fieldNat page 5 2 ≤ 128 ∨ 498 < fieldNat page 5 2) :
    sealedFirst page s.pageRead = sealedRead page s.pageRead := by
  have none : furtherPages page = 0 := by
    by_cases fits : 34 ≤ fieldNat page 5 2 ∧ fieldNat page 5 2 ≤ 498
    · rw [furtherPages_eq fits.1 fits.2]
      omega
    · rw [furtherPages, if_neg fun ok => fits ((lengthFieldOk_iff page).1 ok)]
  rw [sealedFirst, show s.pageRead.sul.marker = _ from marker]
  exact if_pos none

theorem sealedFirst_long (marker : s.sul.marker = some m) (long : 128 < fieldNat page 5 2) (fits : fieldNat page 5 2 ≤ 498) :
    sealedFirst page s.pageRead = askPages .sul (slotPage (m.number % Config.noteSlots) 2) ((fieldNat page 5 2 + 127) / 128 - 1)
      (s.pageRead.modSul fun u => { u with phase := .sealedRest ((fieldNat page 5 2 + 127) / 128 - 1), buf := page }) := by
  have more := furtherPages_eq (page := page) (by omega) fits
  rw [sealedFirst, show s.pageRead.sul.marker = _ from marker]
  dsimp only
  rw [if_neg (by omega), more]

/-! ### The lines rebuilt, with offers and note -/

/-- R199, R200: the event after whose page no line is WAITING: its last clauses are those of the recovered note. -/
theorem recovers_last {ls : Vector Lane 4} {lines : List OrderLine} {lost : List Nat} {start : Nat}
    (none : nextWaiting lines start = none) (marker : s.sul.marker = some m) (calm : s.Calm) (idle : s.ntb.build = Option.none)
    (stages : ∀ i : LaneNo, ls[i].stage = s.stage i)
    (answer : exec .pageReadComplete s = finish (nextCheck m start (s.rebuilding ls lines lost))) :
    ∃ t, exec .pageReadComplete s = .next t ∧ t.sul.phase = .settle ∧ t.sul.lines = lines ∧ t.sul.lost = lost ∧
      t.totals = totalsAfter lines (totalsIn ls) lost ∧
      (let offers := recoveryOffers m s lines lost (totalsIn ls)
       let requests := sulItems offers ++ t.ntb.build.toList.flatMap (·.requests)
       lost.Nodup → noteLength lines ≤ 512 → s.sul.held = [] →
        (s.stp.flight.isSome = true → s.stp.queue.length ≤ 12 → (∀ q ∈ s.stp.queue, checkLine q.req = Option.none) →
          t.stp.queue = s.stp.queue ++ requests.take (12 - s.stp.queue.length) ∧ t.stp.flight = s.stp.flight ∧
            t.sul.held = offers.drop (12 - s.stp.queue.length)) ∧
        (s.stp.flight = Option.none → s.stp.queue = [] → lost.length ≤ 8 → s.pct.heldMarks = [] → s.ntb.statusList = [] →
          (∀ i : LaneNo, s.stage i ≠ .ended) →
          t.stp.flight.map (·.item) = requests.head? ∧ t.stp.queue = requests.tail.take 12 ∧ t.sul.held = [])) ∧
      (t.sul.held ≠ [] → t.sul.recovery = .offering ∧ t.ntb.build = Option.none) ∧
      (t.sul.held = [] → t.sul.recovery = .sealing ∧ ∃ b, t.ntb.build = some b ∧ b.recovered = true ∧ b.number = s.ntb.next ∧
        b.image = noteImage { number := s.ntb.next, station := s.lif.station, permit := m.permit, driver := m.driver, tanker := m.tanker
                              startTime := m.startTime, endTime := 0
                              flags := { m.flags with recovered := true, timeUnset := true } } lines t.totals 4 1) := by
  have step : nextCheck m start (s.rebuilding ls lines lost) = rebuilt m (s.rebuilding ls lines lost) := by
    rw [nextCheck, show nextWaiting (s.rebuilding ls lines lost).sul.lines start = _ from none]
  obtain ⟨p, h, same, offers⟩ := rebuilt_parts (s := s) (m := m) (ls := ls) (lines := lines) (lost := lost)
  rw [step, same] at answer
  obtain ⟨phase, isLines, isLost, totals, holds, seals⟩ := rebuilt_note (ls := ls) (lines := lines) (lost := lost) (h := h) marker calm
    idle (rebuilt_launched calm same)
  refine ⟨_, answer, phase, isLines, isLost, totals, fun once short held => ⟨fun flight fits plain => ?_,
    fun free empty few marks list ended => ?_⟩, holds, fun empty => ?_⟩
  · have apart : LinesApart (recoveryOffers m s lines lost (totalsIn ls)) := by
      rw [← recoveryReqs_eq]
      exact recoveryReqs_apart m.number once
    exact rebuilt_flight marker calm idle held short offers flight fits plain apart
  · rw [← recoveryReqs_eq] at offers ⊢
    exact rebuilt_free marker calm idle held short offers free empty (recoveryReqs_length m.number few)
      (recoveryReqs_apart m.number once) (fun r mem => recoveryReqs_written m.number mem) marks list
      fun i => by rw [stages]; exact ended i
  · obtain ⟨sealing, b, build, bare⟩ := seals empty
    rw [rebuiltTo_build, ← totals] at bare
    exact ⟨sealing, b, build, congrArg Build.recovered bare, congrArg Build.number bare, congrArg Build.image bare⟩

end

end Sys2Proof.Machine

open Sys2Proof Sys2Proof.Machine

/-- Settles O8, by what each page of the recovery leads to: the rebuilding of the lines is its offers, one after the other, on the
advanced totals, and the end of the event begins the recovered note just when no offer is held. -/
theorem tripRecovery : Obligations.TripRecovery := by
  unfold Obligations.TripRecovery
  intro s n m port low marker calm idle page bigger recovers slotRead
  have answer := exec_pageRead_sul port low
  have rebuilds (ls : Vector Lane 4) (lines : List OrderLine) (lost : List Nat) (base : LaneNo → Word48 × Word48) (start : Nat)
      (isBase : totalsIn ls = base) (stages : ∀ i : LaneNo, ls[i].stage = s.stage i)
      (same : nextWaiting lines start = nextWaiting lines 0)
      (answer : exec .pageReadComplete s = finish (nextCheck m start (s.rebuilding ls lines lost))) : recovers lines lost base := by
    subst isBase
    refine ⟨fun k next => recovers_next (same.trans next) calm idle answer, fun none => ?_⟩
    obtain ⟨t, isNext, phase, isLines, isLost, totals, queues, holds, seals⟩ :=
      recovers_last (same.trans none) marker calm idle stages answer
    refine ⟨t, isNext, phase, isLines, isLost, fun i => congrFun totals i, ?_, holds, seals⟩
    intro after ended offers requests once weighted short held
    have isEnded : sulItems (lost.zipIdx.filterMap (lostItem m.number lines (totalsIn ls) lost)) = ended :=
      sulItems_lost (totalsIn ls) weighted
    have isOffers : sulItems (recoveryOffers m s lines lost (totalsIn ls)) = offers := by
      rw [recoveryOffers, sulItems_append, isEnded, sulItems_totals, ← totals]
    obtain ⟨flying, free⟩ := queues once short held
    rw [isOffers] at flying free
    refine ⟨fun flight fits plain => ?_, free⟩
    obtain ⟨queue, sameFlight, left⟩ := flying flight fits plain
    rw [← sulItems_reqs, isOffers] at left
    exact ⟨queue, sameFlight, left⟩
  have slotReads (bytes : List Byte) (answer : exec .pageReadComplete s = finish (sealedRead bytes s.pageRead)) : slotRead bytes := by
    refine ⟨fun present => ?_, fun absent recovery => ?_⟩
    · rw [sealedRead_present marker present] at answer
      exact settleSealed_answer calm answer
    · rw [sealedRead_absent marker absent] at answer
      exact rebuilds s.lanes s.sul.lines s.sul.lost s.totals 0 rfl (fun _ => rfl) rfl answer
  refine ⟨fun phase => ⟨fun short => ?_, fun long fits => ?_⟩, fun left phase => ⟨fun more => ?_, fun last => ?_⟩,
    fun k l phase here recovery first => ?_⟩
  · rw [sulPage_sealed phase, sealedFirst_short marker short] at answer
    exact slotReads page answer
  · rw [sulPage_sealed phase, sealedFirst_long marker long fits] at answer
    exact (goesOn_askPages (u := { s with
      sul := { s.sul with phase := .sealedRest ((fieldNat page 5 2 + 127) / 128 - 1), buf := page } }) (by omega) answer rfl rfl).1
  · rw [sulPage_sealedRest phase, sealedNext, if_neg (by omega)] at answer
    exact leaves_of_steady answer rfl rfl
  · rw [sulPage_sealedRest phase, sealedNext, if_pos last] at answer
    exact slotReads _ answer
  · intro close
    rw [sulPage_check phase marker, checkPage_eq (s := s.pageRead) here] at answer
    refine ⟨fun none => ?_, fun x found => ⟨fun ended => ?_, fun isOpen => ?_⟩⟩
    · rw [none] at answer
      exact rebuilds s.lanes _ _ s.totals (k + 1) rfl (fun _ => rfl) (nextWaiting_set first nofun) answer
    · rw [found] at answer
      obtain ⟨ls, raised, stages, totals⟩ := passOne_ended ended l s.pageRead
      have line : rebuildLine s.pageRead (some x) l = { l with
          status := .ended x.reason, record := some { x.record with endReason := some x.reason } } := by rw [rebuildLine, if_pos ended]
      have kept : isLost (some x) = false := decide_eq_false fun other => other ended
      rw [raised, line, kept] at answer
      exact rebuilds ls _ _ _ (k + 1) (funext totals) stages (nextWaiting_set first nofun) answer
    · rw [found] at answer
      have line : rebuildLine s.pageRead (some x) l = { l with
          status := .ended .powerLost
          record := some { x.record with
            endReason := some .powerLost, additives := x.record.additives.map close } } := by
        rw [rebuildLine, if_neg isOpen]
        rfl
      have lost : isLost (some x) = true := decide_eq_true isOpen
      rw [passOne_lost isOpen, line, lost] at answer
      exact rebuilds s.lanes _ _ s.totals (k + 1) rfl (fun _ => rfl) (nextWaiting_set first nofun) answer

end
